-- ==== Sys2Proof/Word.lean ====
section
/-! DEFINITION. The word type of the block and its plainest arithmetic: the 32-bit word of R12, and the halves of
a 64-bit value. -/

namespace Sys2Proof

/-- A 32-bit word (R12): the unit of registers, tables, packets, records and flits. -/
abbrev Word := BitVec 32

/-- A 64-bit value, such as Global Count. -/
abbrev Wide := BitVec 64

/-- The word that a natural number spells modulo 2^32. -/
def Word.of (n : Nat) : Word := BitVec.ofNat 32 n

/-- Bits [31:0] of a natural number. -/
def lo32 (n : Nat) : Nat := n % 2 ^ 32

/-- Bits [63:32] of a natural number. -/
def hi32 (n : Nat) : Nat := n / 2 ^ 32 % 2 ^ 32

end Sys2Proof
end

