-- ==== Sys2Proof/Syntax.lean ====
section
/-! DEFINITION. The commands of the block: one constructor for each row of spec/opcode_table.json, with the
row's operands. The table gives no row any bits, so a command has no encoded form. -/

namespace Sys2Proof

/-- The reset domains of R38, one for each clock domain. -/
inductive ResetDom where
  | core | eng | noc | fab | reg
deriving DecidableEq, Repr

/-- A command, event or step of the block, one constructor for each row of the table of operations and events. -/
inductive Instr where
  /-- REGISTER_WRITE (R457). A register-port write to a register that has no row of its own is applied field by field under each field's access type. -/
  | registerWrite (addr : BitVec 21) (data : BitVec 32)
  /-- LATCHED_LOW_READ (R460). A read of the low half of a 64-bit RO value, or of an 8-byte-aligned window word, latches the high half for the next access. -/
  | latchedLowRead (addr : BitVec 21)
  /-- GLB_UNLOCK_WRITE (R463). A write of 0x5EED to GLB_UNLOCK arms or re-arms the unlock; any other value disarms it and sets BAD_KEY. -/
  | glbUnlockWrite (data : BitVec 32)
  /-- UNLOCK_EXPIRED (R464). An armed unlock that has admitted no LK write by the 64th cc disarms and sets UNLOCK_EXPIRED. -/
  | unlockExpired
  /-- GLB_UNIT_EN_WRITE (R467). An LK write to GLB_UNIT_EN applies the masked enables, then the masked disables, each tested under R18, and consumes the unlock. -/
  | glbUnitEnWrite (data : BitVec 32)
  /-- GLB_CRC_REF_WRITE (R465). The unlocked write of GLB_CRC_REF sets the configuration CRC reference and consumes the unlock. -/
  | glbCrcRefWrite (data : BitVec 32)
  /-- UNIT_READY (R467). A unit finishes its initialisation after its EN bit is set, and its READY bit rises. -/
  | unitReady (unit : Nat)
  /-- UNIT_STOPPED (R484). A unit whose EN bit was cleared meets its stop condition, and its STOPPING bit falls. -/
  | unitStopped (unit : Nat)
  /-- TABLE_WINDOW_WRITE (R471). A write through a table window reaches the selected table byte, honoured or ignored by the owning rule. -/
  | tableWindowWrite (addr : BitVec 21) (data : BitVec 32)
  /-- ROUTE_LAYER_WRITE (R217). A window write to a route-layer entry is honoured only while the stream is IDLE or FAULTED, and a write setting VALID checks the entry. -/
  | routeLayerWrite (addr : BitVec 21) (data : BitVec 32)
  /-- ERA_BANK_WRITE (R224). A window write to a bias or seed bank is honoured only on the inactive bank with no swap pending or committed. -/
  | eraBankWrite (addr : BitVec 21) (data : BitVec 32)
  /-- RXQ_ENTRY_WRITE (R273). A window write to a receive queue is honoured while VALID is 0 or when it clears VALID, and setting VALID checks the queue and zeroes its pointers. -/
  | rxqEntryWrite (addr : BitVec 21) (data : BitVec 32)
  /-- ROUTE_ENTRY_WRITE (R286). A window write to a route is honoured while VALID is 0 or when it clears VALID, and setting VALID raises GEN. -/
  | routeEntryWrite (addr : BitVec 21) (data : BitVec 32)
  /-- SHEAF_ENTRY_WRITE (R258). A window write to a sheaf entry is honoured only while the sheaf is IDLE. -/
  | sheafEntryWrite (addr : BitVec 21) (data : BitVec 32)
  /-- STOOK_ENTRY_WRITE (R291). A window write to a Stook entry is honoured only while the Stook is IDLE. -/
  | stookEntryWrite (addr : BitVec 21) (data : BitVec 32)
  /-- SAVE_SET_WRITE (R353). A window write to a save-set entry is checked against the scratchpad size and live claims. -/
  | saveSetWrite (addr : BitVec 21) (data : BitVec 32)
  /-- BG_MODEL_BANK_WRITE (R334). A window write to the energy-model tables is honoured only on the inactive bank while no swap is pending. -/
  | bgModelBankWrite (addr : BitVec 21) (data : BitVec 32)
  /-- DOMAIN_MAP_WRITE (R321). A window write to the domain map is honoured only while MEMBER and BUSY are 0. -/
  | domainMapWrite (addr : BitVec 21) (data : BitVec 32)
  /-- DOORBELL_WRITE (R43). A doorbell write completes on the doorbell port and enters the 64-entry FIFO. -/
  | doorbellWrite (addr : BitVec 22) (data : BitVec 64)
  /-- DOORBELL_PROCESS (R157). The CFE takes a doorbell write from the FIFO and checks it, then updates the queue's write index or drops it. -/
  | doorbellProcess
  /-- MM_READ_DATA (R46). A read answer arrives on mm_rsp and is handed to the requesting unit. -/
  | mmReadData (tag status : Nat) (last : Bool) (data : List (BitVec 32))
  /-- MM_WRITE_COMPLETION (R46). A write completion arrives on mm_rsp, and the write counts as complete. -/
  | mmWriteCompletion (tag status : Nat)
  /-- DL_PRESENT_RISE (R59). dl_present rises on a link, and its presence count starts. -/
  | dlPresentRise (link : Nat)
  /-- DL_PRESENT_FALL (R63). dl_present falls; the link leaves selection and its outstanding tasks are faulted. -/
  | dlPresentFall (link : Nat)
  /-- LINKUP_START (R59). The presence count reaches 256 ec with the DS enabled, and LINKUP_OFFER is sent. -/
  | linkupStart (link : Nat)
  /-- LINKUP_REPLY (R61). LINKUP_REPLY arrives; the agreed protocol is computed, then the credit is returned and the confirm sent, or the link fails. -/
  | linkupReply (slice : Nat)
  /-- LINKUP_TIMEOUT (R62). No LINKUP_REPLY arrives within 10 µs, and ERR_LINK_TIMEOUT is raised. -/
  | linkupTimeout (link : Nat)
  /-- LINKUP_REOFFER (R62). 1 ms after an unanswered offer, the offer is repeated, up to three offers. -/
  | linkupReoffer (link : Nat)
  /-- DL_ISS_CREDIT (R54). A dl_iss_credit pulse returns one issue credit, and acknowledges the oldest interrupting record on a CC link. -/
  | dlIssCredit (link : Nat)
  /-- COMPLETION_ARRIVE (R56). A completion record is accepted at the pin, stamped with Global Count, and queued in the cluster's completion FIFO. -/
  | completionArrive (link : Nat) (w0 w1 : BitVec 32)
  /-- COMPLETION_DONE (R113). A slice takes a DONE record; the node enters WALKING, or a non-zero VALUE is handled as a fault. -/
  | completionDone (slice : Nat)
  /-- COMPLETION_DONE_STAT (R113). A slice takes a DONE_STAT record; the node enters WALKING and VALUE joins step telemetry. -/
  | completionDoneStat (slice : Nat)
  /-- COMPLETION_FAULT (R113). A slice takes a FAULT record; the node is FAULTED and the launch killed with ERR_TASK_FAULT. -/
  | completionFault (slice : Nat)
  /-- COMPLETION_KILLED (R113). A slice takes a KILLED record; the node becomes KILLED or FAULTED, or the record is handled as a fault. -/
  | completionKilled (slice : Nat)
  /-- COMPLETION_SPAWN (R131). A slice takes a SPAWN record; it is checked and its descriptor is read or queued. -/
  | completionSpawn (slice : Nat)
  /-- CTRL_ACK (R139). A CTRL_ACK completes the link's outstanding control record: DRAIN, PING, KILL, confirm or wake. -/
  | ctrlAck (slice : Nat)
  /-- WALK_EDGES (R115). The walker processes up to 32 edges of queued nodes in one cc, then retires or skips the nodes. -/
  | walkEdges
  /-- REMOTE_EDGE_SEND (R313). A remote edge is accepted by the remote send queue and leaves as an EDGE_DEC flit, or fails the launch. -/
  | remoteEdgeSend
  /-- SEM_POST (R246). A semaphore-post edge from the post queue adds AMOUNT to its semaphore, or arrives at a sheaf port. -/
  | semPost
  /-- TASK_ISSUE (R128). The Rachis deals a READY candidate that passes its tests to a link, and the issue record is sent. -/
  | taskIssue
  /-- TASK_TIMEOUT (R140). A task reaches DS_TASK_TIMEOUT at a 1 µs check; KILL is sent and ERR_TASK_TIMEOUT raised. -/
  | taskTimeout (link : Nat) (tag : BitVec 28)
  /-- KILL_TIMEOUT (R141). A control record goes unanswered for DS_KILL_TIMEOUT; ERR_ENGINE_HUNG is raised, the link is lost and link-up offered again. -/
  | killTimeout (link : Nat)
  /-- NO_ENGINE_TIMEOUT (R145). A READY task has had no usable link for DS_TASK_TIMEOUT; it is faulted with ERR_NO_ENGINE. -/
  | noEngineTimeout (node : Nat)
  /-- LINK_CMD_DRAIN (R142). DS_LINK_CMD DRAIN sends DRAIN to an UP link, and the link becomes DRAINING. -/
  | linkCmdDrain (link : Nat)
  /-- LINK_CMD_SLEEP (R142). DS_LINK_CMD SLEEP sends SLEEP to an UP protocol-2 link, and the link becomes SLEEPING. -/
  | linkCmdSleep (link : Nat)
  /-- LINK_CMD_PING (R142). DS_LINK_CMD PING sends PING to an UP link. -/
  | linkCmdPing (link : Nat)
  /-- LINK_CMD_WAKE (R142). DS_LINK_CMD WAKE raises dl_wake on a SLEEPING link. -/
  | linkCmdWake (link : Nat)
  /-- LINK_CMD_RELINK (R142). DS_LINK_CMD RELINK faults an up link, or clears FAILED, and offers link-up. -/
  | linkCmdRelink (link : Nat)
  /-- SPAWN_ACCEPT (R135). A checked descriptor is accepted when the pool holds COUNT nodes; the REMAINDER is applied and the Tillers become READY. -/
  | spawnAccept
  /-- LAUNCH_OP (R167). The LAUNCH_OP packet launches a one-node graph built by the CFE. -/
  | launchOp (ctx q : Nat)
  /-- LAUNCH_GRAPH (R98). The LAUNCH_GRAPH packet goes to the GS, which refuses it or makes it wait at the queue head. -/
  | launchGraph (ctx q : Nat)
  /-- LAUNCH_AT (R179). The LAUNCH_AT packet launches a template whose waits clear no earlier than START_GC. -/
  | launchAt (ctx q : Nat)
  /-- LAUNCH_ACCEPT (R98). A waiting launch is accepted when slot, space, quota, window and pipeline allow, and it enters INSTANTIATING. -/
  | launchAccept
  /-- COPY_FINISH (R99). An instantiation copy finishes, the early-store entries are applied, and the launch becomes GATED or RUNNING. -/
  | copyFinish
  /-- WAITS_CLEAR (R167). A launch's event, SERIAL and START_GC conditions all hold; WAITS_CLEAR is set and the descriptor read is issued. -/
  | waitsClear (slot : Nat)
  /-- LAUNCH_RELEASE (R102). After the status reply, instance nodes return to FREE at 64 per cc, and extents, slot and quota are released. -/
  | launchRelease (slot : Nat)
  /-- LOAD_TEMPLATE (R92). LOAD_TEMPLATE takes a FREE directory index as LOADING, then reads the load image. -/
  | loadTemplate (ctx q : Nat)
  /-- TEMPLATE_CHECK_DONE (R91). The image checks end; the generation is committed, or the load is refused with its first failing check. -/
  | templateCheckDone (ctx q : Nat)
  /-- PATCH_TEMPLATE (R94). PATCH_TEMPLATE reads and checks the patch records, then allocates new extents and queues the copy. -/
  | patchTemplate (ctx q : Nat)
  /-- PATCH_COMMIT (R94). A patched generation passes R91 and becomes current, and the old generation moves to the retire list. -/
  | patchCommit (ctx q : Nat)
  /-- FREE_TEMPLATE (R97). FREE_TEMPLATE invalidates the handle, retires the generation and abandons any pending patch. -/
  | freeTemplate (ctx q : Nat)
  /-- RECORD_EVENT (R172). RECORD_EVENT applies ADD or MAX to an event once it takes effect. -/
  | recordEvent (ctx q : Nat)
  /-- WAIT_EVENT (R173). WAIT_EVENT blocks the head until the event value reaches N. -/
  | waitEvent (ctx q : Nat)
  /-- SEM_OP_ADD (R246). SEM_OP ADD adds VALUE to a semaphore once it takes effect. -/
  | semOpAdd (ctx q : Nat)
  /-- SEM_OP_SUB (R246). SEM_OP SUB subtracts VALUE, or refuses with ERR_SEM_UNDERFLOW. -/
  | semOpSub (ctx q : Nat)
  /-- SEM_OP_WAIT_GE (R246). SEM_OP WAIT_GE blocks the head until VALUE reaches the operand. -/
  | semOpWaitGe (ctx q : Nat)
  /-- SEM_OP_WAIT_GE_SUB (R246). SEM_OP WAIT_GE_SUB blocks the head, then consumes the operand in order among consumers. -/
  | semOpWaitGeSub (ctx q : Nat)
  /-- SIGNAL_REMOTE (R181). SIGNAL_REMOTE sends a SIGNAL flit to another device, or applies it locally for the device's own number. -/
  | signalRemote (ctx q : Nat)
  /-- FENCE (R310). FENCE waits for earlier commands, then for releases at its scope, and completes. -/
  | fence (ctx q : Nat)
  /-- QUERY_TEMPLATE (R97). QUERY KIND 0 returns the current handle of a template index. -/
  | queryTemplate (ctx q : Nat)
  /-- QUERY_EVENT (R169). QUERY KIND 1 returns an event value. -/
  | queryEvent (ctx q : Nat)
  /-- QUERY_LAUNCH (R169). QUERY KIND 2 returns a launch state, or 0xF. -/
  | queryLaunch (ctx q : Nat)
  /-- QUERY_QUEUE (R169). QUERY KIND 3 returns the state of a queue of this context. -/
  | queryQueue (ctx q : Nat)
  /-- QUERY_SEMAPHORE (R169). QUERY KIND 4 returns a semaphore value, or a Husk or ECC error. -/
  | querySemaphore (ctx q : Nat)
  /-- EVENT_CREATE (R171). EVENT_CREATE takes the lowest FREE event within quota and returns its handle. -/
  | eventCreate (ctx q : Nat)
  /-- EVENT_DESTROY (R171). EVENT_DESTROY frees an unreferenced event, or refuses with ERR_EVENT_BUSY. -/
  | eventDestroy (ctx q : Nat)
  /-- CONTEXT_CREATE (R152). CFE_CTX_CMD CREATE reads the context descriptor. -/
  | contextCreate
  /-- DESTROY_DRAIN (R153). CFE_CTX_CMD DESTROY_DRAIN stops consumption and lets consumed commands finish. -/
  | destroyDrain
  /-- DESTROY_KILL (R153). CFE_CTX_CMD DESTROY_KILL kills the context's launches and completes its blocked work with ERR_CTX_DESTROYED. -/
  | destroyKill
  /-- CONTEXT_FREE (R153). A DESTROYING context's last consumed command completes, and the context becomes FREE. -/
  | contextFree (ctx : Nat)
  /-- QUEUE_RESET (R178). CFE_CTX_CMD QUEUE_RESET sets both indices of a FAULTED queue and makes it EMPTY. -/
  | queueReset (q : Nat)
  /-- HEAD_GRANT (R160). A free head is granted to a PENDING queue, evicting a blocked head if needed. -/
  | headGrant
  /-- PACKET_DECODE (R162). A fetched packet is decoded and handed to its unit or the Thresher slow queue once the packet ahead is consumed. -/
  | packetDecode (ctx q : Nat)
  /-- PENDING_TAKE_EFFECT (R164). COMPLETED reaches QSEQ−1 for a pending-list command, and it takes effect. -/
  | pendingTakeEffect (ctx q : Nat)
  /-- SHADOW_RECORD_WRITE (R158). At most once per µs, a changed queue's shadow record is written. -/
  | shadowRecordWrite (ctx q : Nat)
  /-- EVENT_CYCLE_WALK (R175). A wait-cycle walk follows recorders from a blocked head, and faults the queues of a closed chain. -/
  | eventCycleWalk
  /-- HEAD_TIMEOUT (R177). HEAD_TIMEOUT expires; the blocked packet completes with ERR_QUEUE_TIMEOUT and the queue faults. -/
  | headTimeout (ctx q : Nat)
  /-- WAIT_TIMEOUT (R177). WAIT_TIMEOUT expires; the gated launch is killed with ERR_WAIT_TIMEOUT. -/
  | waitTimeout (slot : Nat)
  /-- SIGNAL_TIMEOUT (R181). No reply to a SIGNAL arrives within CFE_SIG_TIMEOUT, and the outcome is ERR_SIGNAL_TIMEOUT. -/
  | signalTimeout (seq : BitVec 32)
  /-- THRESHER_COMMAND_START (R516). The Thresher starts the oldest slow-queue entry whose start condition holds. -/
  | thresherCommandStart
  /-- SEQ_ADMIT (R189). SEQ_ADMIT checks fields and capacity, then admits a sequence as PREFILL. -/
  | seqAdmit (ctx q : Nat)
  /-- SET_CLASS (R190). SEQ_UPDATE SET_CLASS sets the sequence's class. -/
  | setClass (ctx q : Nat)
  /-- HOLD (R190). SEQ_UPDATE HOLD sets HOLD. -/
  | hold (ctx q : Nat)
  /-- UNHOLD (R190). SEQ_UPDATE UNHOLD clears HOLD. -/
  | unhold (ctx q : Nat)
  /-- SET_MAX_LEN (R190). SEQ_UPDATE SET_MAX_LEN sets MAX_LEN, ending the sequence if it is already reached. -/
  | setMaxLen (ctx q : Nat)
  /-- SET_USER (R190). SEQ_UPDATE SET_USER sets USER. -/
  | setUser (ctx q : Nat)
  /-- SEQ_CANCEL_SEQ (R210). SEQ_CANCEL MODE 0 ends one sequence and makes its in-flight rows dead. -/
  | seqCancelSeq (ctx q : Nat)
  /-- SEQ_CANCEL_STEP (R211). SEQ_CANCEL MODE 1 kills the in-flight steps, marks their tags dead and frees their rows. -/
  | seqCancelStep (ctx q : Nat)
  /-- SEQ_CANCEL_ALL (R210). SEQ_CANCEL MODE 2 ends every sequence of the partition in one sweep. -/
  | seqCancelAll (ctx q : Nat)
  /-- WINNOW_DONE (R210). A Winnow sweep's writes or kills complete, the finish records are written, and the cancel completes. -/
  | winnowDone
  /-- STEP_RUN_START (R194). STEP_RUN START reads and checks the stream descriptor and starts the stream. -/
  | stepRunStart (ctx q : Nat)
  /-- STEP_RUN_STOP (R195). STEP_RUN STOP moves the stream to STOPPING until the steps in flight are applied. -/
  | stepRunStop (ctx q : Nat)
  /-- STEP_RUN_KV_ADD (R193). STEP_RUN KV_ADD adds blocks to KV_FREE. -/
  | stepRunKvAdd (ctx q : Nat)
  /-- SYNTHESIS_START (R197). Synthesis of the next step starts; it scans, selects rows and writes the work list. -/
  | synthesisStart (part : Nat)
  /-- STEP_LAUNCH_SUBMIT (R201). The last work-list write is answered, and the step LAUNCH_GRAPH is submitted. -/
  | stepLaunchSubmit (part : Nat)
  /-- BOUNDARY_PASS (R208). A step launch enters RETIRING; its results are read and applied, dead rows marked and finish records written. -/
  | boundaryPass (part : Nat)
  /-- BOUNDARY_PASS_END (R208). The pass's writes are answered; the rows are freed, STEP_EVENT is recorded and telemetry and digests are latched. -/
  | boundaryPassEnd (part : Nat)
  /-- ROUTE_JOB_START (R218). A queued route job reaches the head, checks its regions and reads its input. -/
  | routeJobStart
  /-- ROUTE_JOB_NOTICES (R235). The last write is issued and tiles are marked; a notice is posted per expert and the loads are added. -/
  | routeJobNotices
  /-- ROUTE_JOB_DEAD (R514). A running route job whose tag dies ends in the next cc. -/
  | routeJobDead
  /-- ERA_SWAP_BIAS (R224). ERA_SWAP SWAP_BIAS sets a bias bank swap pending. -/
  | eraSwapBias (part : Nat)
  /-- ERA_SWAP_SEED (R224). ERA_SWAP SWAP_SEED sets a seed bank swap pending. -/
  | eraSwapSeed (part : Nat)
  /-- SEM_CMD_SET (R267). SM_SEM_CMD SET writes a semaphore's value and complement and re-evaluates its waiters. -/
  | semCmdSet
  /-- SEM_CMD_CLEAR_FLAGS (R267). SM_SEM_CMD CLEAR_FLAGS clears SAT and UNDER. -/
  | semCmdClearFlags
  /-- WATCH_ARM (R251). SM_WATCH_CMD ARM checks the target and arms the lowest free watch. -/
  | watchArm
  /-- WATCH_CANCEL (R253). SM_WATCH_CMD CANCEL frees a watch unless it fires in the same cc. -/
  | watchCancel (index : Nat)
  /-- WAKE_BIND (R254). SM_WAKE_CMD BIND checks the link, then stops issue to it. -/
  | wakeBind
  /-- WAKE_BINDING_SLEEP (R254). A bound link's outstanding tasks reach 0; it consumes at once or is sent SLEEP. -/
  | wakeBindingSleep (index : Nat)
  /-- WAKE_CANCEL (R256). SM_WAKE_CMD CANCEL wakes the link without consuming. -/
  | wakeCancel
  /-- WAKE_TIMEOUT (R256). A binding's TMO elapses; the link is woken without consuming and ERR_WAKE_TIMEOUT raised. -/
  | wakeTimeout (index : Nat)
  /-- SHEAF_ARM (R259). SM_SHEAF_CMD ARM checks the sheaf, sets its port and makes it ARMED. -/
  | sheafArm (sheaf : Nat)
  /-- SHEAF_DISARM (R259). SM_SHEAF_CMD DISARM returns the sheaf to IDLE. -/
  | sheafDisarm (sheaf : Nat)
  /-- SHEAF_CLEAR_FAULT (R259). SM_SHEAF_CMD CLEAR_FAULT returns a FAULTED sheaf to IDLE. -/
  | sheafClearFault (sheaf : Nat)
  /-- SHEAF_TIMEOUT (R262). A generation is not released within TIMEOUT, and the sheaf enters FAULTED. -/
  | sheafTimeout (sheaf : Nat)
  /-- RX_POP (R281). A read of RX_POP pops the oldest live message into MB, or sets UNDER. -/
  | rxPop (core : Nat)
  /-- SEND_GO (R284). A write of SEND_GO checks the send buffer and sends the message to its queue, Stook or device. -/
  | sendGo (core : Nat)
  /-- OUT_POP (R288). A read of OUT_POP pops one remote-send outcome. -/
  | outPop (core : Nat)
  /-- GRANARY_REFILL (R277). A spilling queue with four free slots reads whole messages from its ring. -/
  | granaryRefill (queue : Nat)
  /-- STOOK_OPEN (R291). MH_STOOK_CMD OPEN checks the entry and opens the Stook. -/
  | stookOpen (stook : Nat)
  /-- STOOK_CLOSE (R291). MH_STOOK_CMD CLOSE returns the Stook to IDLE. -/
  | stookClose (stook : Nat)
  /-- STOOK_CLEAR_FAULT (R291). MH_STOOK_CMD CLEAR_FAULT returns a FAULTED Stook to IDLE. -/
  | stookClearFault (stook : Nat)
  /-- STOOK_RESULT_RETRY (R294). Once per µs, a refused Stook result is offered to its queue again. -/
  | stookResultRetry (stook : Nat)
  /-- MSG_REMOTE_TIMEOUT (R288). A remote send has no reply within REMOTE_TIMEOUT, and its outcome is TIMEOUT. -/
  | msgRemoteTimeout (seq : BitVec 32)
  /-- FP_PRESENT_RISE (R68). fp_present rises with fab_rst_n released, and Tirac sends its fabric LINKUP flit. -/
  | fpPresentRise
  /-- FP_LINKUP (R69). The fabric LINKUP flit arrives; version 3 is agreed and SELF set, or ERR_FP_VERSION raised. -/
  | fpLinkup (flit : List (BitVec 32))
  /-- FP_CREDIT_RETURN (R65). The fabric interface returns a transmit credit on a channel. -/
  | fpCreditReturn (rep : Bool)
  /-- EDGE_DEC (R316). An arriving EDGE_DEC is resolved by ROUND and applied, held early, discarded or NACKed. -/
  | edgeDec (flit : List (BitVec 32))
  /-- SIGNAL (R180). An arriving SIGNAL flit is applied to a valid REMOTE_OK event and answered ACK, or NACKed. -/
  | signal (flit : List (BitVec 32))
  /-- SHEAF_ARRIVE (R265). An arriving SHEAF_ARRIVE at the home sets its source bit and DEV_ARRIVED, or is NACKed. -/
  | sheafArrive (flit : List (BitVec 32))
  /-- SHEAF_RELEASE (R264). An arriving SHEAF_RELEASE releases a matching SENT sheaf, or is NACKed. -/
  | sheafRelease (flit : List (BitVec 32))
  /-- MSG (R289). An arriving MSG sequence is placed in its queue or Stook and answered ACK or NACK. -/
  | msg (flits : List (List (BitVec 32)))
  /-- DEPART_LEAVE (R324). An arriving DEPART LEAVE clears the sender's map bit and fails traffic to it. -/
  | departLeave (flit : List (BitVec 32))
  /-- DEPART_LOST (R326). An arriving DEPART LOST clears the lost device, kills bound launches and faults the affected sheaves. -/
  | departLost (flit : List (BitVec 32))
  /-- DEPART_JOIN (R325). An arriving DEPART JOIN sets the sender's bit and ACKs, or NACKs with ERR_DOMAIN_JOIN. -/
  | departJoin (flit : List (BitVec 32))
  /-- ACK (R318). An ACK reply flit ends its outstanding EDGE_DEC, SIGNAL, MSG, sheaf or DEPART request. -/
  | ack (flit : List (BitVec 32))
  /-- NACK (R318). A NACK reply flit fails its request, or schedules an EDGE_DEC resend for ERR_REMOTE_EARLY_FULL. -/
  | nack (flit : List (BitVec 32))
  /-- EDGE_DEC_RESEND (R318). 1 µs after an early-full NACK, the EDGE_DEC is sent again with a new SEQ. -/
  | edgeDecResend (seq : BitVec 32)
  /-- REMOTE_EDGE_TIMEOUT (R318). An EDGE_DEC has no reply within EDGE_TIMEOUT, and the producing launch is killed. -/
  | remoteEdgeTimeout (seq : BitVec 32)
  /-- REMOTE_STALL (R319). A bound launch sees no progress for STALL_TIMEOUT and is killed with ERR_REMOTE_STALL. -/
  | remoteStall (slot : Nat)
  /-- DOMAIN_LEAVE (R324). DR_DOMAIN_CMD LEAVE refuses new bound launches and waits for the bound work to drain. -/
  | domainLeave
  /-- DOMAIN_LEAVE_SEND (R324). Bound work has drained; DEPART LEAVE is sent to every member, then the map is cleared. -/
  | domainLeaveSend
  /-- DOMAIN_JOIN (R325). DR_DOMAIN_CMD JOIN sends DEPART JOIN to every device in the map and sets MEMBER when all have answered. -/
  | domainJoin
  /-- PM_BUDGET (R70). A budget transfer on pm_bud sets a partition's budget for the next epoch. -/
  | pmBudget (part : Nat) (nj : BitVec 32)
  /-- PM_MEAS (R70). A measurement transfer on pm_meas records a cluster's energy and temperature. -/
  | pmMeas (cluster : Nat) (nj : BitVec 32) (temp : BitVec 12)
  /-- PM_LEND_ACK (R342). pm_lend_ack acknowledges the head lend or return transfer, and the next one is sent. -/
  | pmLendAck
  /-- BUDGET_EPOCH_BOUNDARY (R336). A budget-epoch boundary closes the epoch, flips the model, ages slots, sets credits and lends. -/
  | budgetEpochBoundary
  /-- REGULATOR_REFILL (R346). Every µs each bandwidth account's LEVEL is refilled by RATE up to BURST. -/
  | regulatorRefill
  /-- BG_MODEL_SWAP (R333). BG_MODEL_CMD SWAP checks the inactive bank, then sets a swap pending or refuses with ERR_BG_MODEL. -/
  | bgModelSwap
  /-- SPILL_START (R360). A PREEMPTING claim reaches its task boundary; it becomes SPILLING and its job descriptor is written. -/
  | spillStart (claim : Nat)
  /-- RESTORE_START (R364). A SPILLED claim without conflict becomes RESTORING and its restore job starts. -/
  | restoreStart (claim : Nat)
  /-- GL_START (R376). The DC is enabled in grain-locked mode; once the block is quiet, epoch 0 begins and a START record is written. -/
  | glStart
  /-- GL_EPOCH_BOUNDARY (R381). At a grain-locked boundary, held inputs are admitted in canonical order. -/
  | glEpochBoundary
  /-- REPLAY_STALL (R390). A replay input is missing for STALL_US, and replay ends with ERR_REPLAY_STALL. -/
  | replayStall
  /-- CKPT_CMD (R391). CKPT_CMD REQ requests a checkpoint at the partition's next boundary pass. -/
  | ckptCmd (part : Nat)
  /-- TAG_WINDOW_CHECK (R393). Once per ms the DC checks tag ages and raises ERR_TAG_WINDOW at 2^31. -/
  | tagWindowCheck
  /-- ENCLAVE_LOCK (R401). PAU_ENCL_CMD LOCK checks the partition, builds and measures its configuration image and locks it. -/
  | enclaveLock (part : Nat)
  /-- ENCLAVE_LOCK_DONE (R401). The configuration extend completes, LOCKED is set and DONE raised. -/
  | enclaveLockDone
  /-- TEARDOWN (R410). PAU_ENCL_CMD TEARDOWN destroys the partition's contexts and waits for its work to drain. -/
  | teardown (part : Nat)
  /-- TEARDOWN_SCRUB (R411). The partition has drained; the final accounting record is written and its rows and Granary are scrubbed. -/
  | teardownScrub
  /-- TEARDOWN_DONE (R410). The scrub writes are answered; measurements reset, lock cleared and DONE set. -/
  | teardownDone
  /-- AT_REQUEST (R409). An attestation request returns the status, digest and count of the selected measurement. -/
  | atRequest (sel : Nat) (nonce : List (BitVec 32))
  /-- LIST_REBUILD_DONE (R424). The ready-list rebuild scan ends and dealing resumes. -/
  | listRebuildDone
  /-- PATROL_PASS_END (R427). A patrol pass not ended within PATROL_MS raises ERR_SCRUB_BEHIND. -/
  | patrolPassEnd
  /-- CRC_PASS_END (R428). A configuration CRC pass ends, its result is compared, and mismatches are confirmed by a second pass. -/
  | crcPassEnd
  /-- SLICE_WATCHDOG (R431). A slice is idle with work ready for 2 µs, and is restarted. -/
  | sliceWatchdog (slice : Nat)
  /-- SLICE_REJOIN (R432). A restarted slice's links finish link-up, or 20 µs pass, and it rejoins the deal. -/
  | sliceRejoin (slice : Nat)
  /-- THRESHER_HEARTBEAT (R434). IFM_HB is unchanged for HB_TIMEOUT, and the Thresher is restarted. -/
  | thresherHeartbeat
  /-- THRESHER_RESTART_DONE (R434). The retained image hash ends; the Thresher restarts, or a block restart follows on a mismatch. -/
  | thresherRestartDone
  /-- GLEANER_INTAKE (R438). Up to 4 reports per cc are taken from the intake FIFO into the on-chip log. -/
  | gleanerIntake
  /-- GLEANER_ENTRY_CLOSE (R440). A log entry's window passes, and it is written to the log ring. -/
  | gleanerEntryClose
  /-- GLEANER_WRITE_RETRY (R440). 1 µs after a failed log write, the entry is written again. -/
  | gleanerWriteRetry
  /-- CAPTURE_CLR_FIRST (R437). IFM_CAPTURE_CLR FIRST clears IFM_FIRST. -/
  | captureClrFirst
  /-- CAPTURE_CLR_LAST (R437). IFM_CAPTURE_CLR LAST clears IFM_LAST. -/
  | captureClrLast
  /-- CAPTURE_CLR_WORST (R437). IFM_CAPTURE_CLR WORST clears IFM_WORST. -/
  | captureClrWorst
  /-- GC_SYNC (R71). A gc_sync edge samples gc, updates RATE, and steps or holds the local count. -/
  | gcSync (gc : BitVec 64)
  /-- TIMEBASE_LOST (R72). No gc_sync arrives for 1 ms; ERR_TIMEBASE_LOST is raised and the count runs free. -/
  | timebaseLost
  /-- SNAP_TRIG_IN (R504). A rising edge of snap_trig_in fires a snapshot trigger. -/
  | snapTrigIn
  /-- SNAP_FIRE (R504). DBG_SNAP_CMD FIRE fires a snapshot trigger. -/
  | snapFire
  /-- SNAP_RELEASE (R505). DBG_SNAP_CMD RELEASE clears HELD. -/
  | snapRelease
  /-- CTR_CLEAR (R502). DBG_CTR_CMD CLEAR zeroes the DBG counters. -/
  | ctrClear
  /-- TRACE_MARK (R508). A write to DBG_TRACE_MARK emits a MARK record. -/
  | traceMark (data : BitVec 32)
  /-- TRACE_BEAT_TIMEOUT (R511). A ring beat waits 1 µs, then is padded and written. -/
  | traceBeatTimeout
  /-- BOOT_START (R478). core_rst_n and reg_rst_n are released with iso_en low, and the boot sequence starts with CLEAR. -/
  | bootStart
  /-- BOOT_CLEAR_DONE (R480). CLEAR ends and COPY of the firmware ROM starts. -/
  | bootClearDone
  /-- BOOT_COPY_DONE (R480). COPY ends and VERIFY starts. -/
  | bootCopyDone
  /-- BOOT_VERIFY_DONE (R481). The image checks end; MEASURE starts, or the boot FAILS with its error. -/
  | bootVerifyDone
  /-- BOOT_MEASURE_DONE (R405). BOOT is extended twice and made final, and the Thresher starts at ENTRY. -/
  | bootMeasureDone
  /-- FIRMWARE_START (R39). The firmware writes GLB_FW_VERSION, and blk_present rises. -/
  | firmwareStart
  /-- RESET_ASSERT (R479). A domain reset is asserted in service, with the effect its row gives. -/
  | resetAssert (dom : ResetDom)
  /-- RESET_RELEASE (R479). A domain reset is released; links or the fabric relink, or a cold bring-up follows. -/
  | resetRelease (dom : ResetDom)
  /-- PWR_REQ_RISE (R486). pwr_req rises and Tirac stops starting new work to quiesce. -/
  | pwrReqRise
  /-- QUIESCE_TIMEOUT (R486). QUIESCE_US elapses; ISSUED tasks are killed with ERR_QUIESCE_KILL. -/
  | quiesceTimeout
  /-- QUIESCE_DONE (R486). The block is quiet, and pwr_ack rises. -/
  | quiesceDone
  /-- PWR_REQ_FALL (R492). pwr_req falls; quiescing is abandoned or pwr_ack falls and work resumes. -/
  | pwrReqFall
  /-- ISO_EN_RISE (R491). iso_en rises and clamps every output, a surprise isolation when pwr_ack is low. -/
  | isoEnRise
  /-- ISO_EN_FALL (R491). iso_en falls; a surprise isolation restarts the block, and a retention exit relinks. -/
  | isoEnFall
  /-- RET_EN_CHANGE (R488). ret_en changes, and is honoured only while pwr_ack and iso_en are high. -/
  | retEnChange (level : Bool)
  /-- TAP_EXTEST (R494). EXTEST drives the boundary register, or acts as BYPASS with ERR_TAP_REFUSED. -/
  | tapExtest (cells : List Bool)
  /-- TAP_SAMPLE_PRELOAD (R494). SAMPLE/PRELOAD captures and loads the boundary register. -/
  | tapSamplePreload (cells : List Bool)
  /-- TAP_IDCODE (R494). IDCODE shifts out the device identification. -/
  | tapIdcode
  /-- TAP_CLAMP (R494). CLAMP holds the boundary outputs with bypass selected, under the EXTEST condition. -/
  | tapClamp
  /-- TAP_REG_ACCESS (R495). REG_ACCESS Update-DR starts one register-window access from the TAP. -/
  | tapRegAccess (we : Bool) (addr : BitVec 21) (data : BitVec 32)
  /-- TAP_SNAP (R504). SNAP at Update-IR fires a snapshot trigger. -/
  | tapSnap
  /-- TAP_MBIST (R496). MBIST Update-DR starts a March test of every SRAM word. -/
  | tapMbist (start : Bool)
  /-- TAP_BYPASS (R494). BYPASS, or an unsupported opcode, selects the one-bit bypass register. -/
  | tapBypass (opcode : BitVec 5)
  /-- TRST (R479). trst_n resets the TAP to Test-Logic-Reset with IDCODE selected. -/
  | trst
  /-- MBIST_DONE (R496). MBIST ends, reports any failing bank, and the boot sequence runs from CLEAR. -/
  | mbistDone (failBank : Option Nat)
  /-- FP_PRESENT_FALL (R69). fp_present falls, ending the fabric link and the no-fabric fallback of ERR_FP_VERSION, so that fabric link-up runs again on the next rise. -/
  | fpPresentFall
  /-- DEPART_TIMEOUT (R325). A DEPART LEAVE or JOIN send gets no reply within EDGE_TIMEOUT and ends; for JOIN the device's bit is cleared and ERR_DOMAIN_JOIN is raised. -/
  | departTimeout (dev : Nat)
  /-- IFM_HB_INCREMENT (R434). The Thresher firmware increments IFM_HB through its own path, restarting the heartbeat check. -/
  | ifmHbIncrement
  /-- PATROL_READ (R427). The patrol reads an SRAM word in an idle bank cycle, corrects a single-bit error, zeroes a bad FREE row, or answers a bad in-use row under R422. -/
  | patrolRead (table word : Nat)
  /-- DR_RESTART_DONE (R425). A DR restart finishes reinitialising its queues, dealing resumes, and the recovery bindings are cancelled. -/
  | drRestartDone
  /-- TMPL_EXTEND_DONE (R408). A queued TMPL measurement extend completes, raising the count and freeing a queue place so that a waiting load or patch can commit. -/
  | tmplExtendDone
deriving DecidableEq, Repr

end Sys2Proof
end

