-- ==== Sys2Proof/Decode.lean ====
section
/-! DEFINITION. The words that spell a command.  The table of operations and events gives none of its rows any bits: a
command is not an encoded instruction, it is an access or an event.  So no word spells a command. -/

namespace Sys2Proof

/-- The command that the word `w` of `nbits` bits spells: none, since no row of the table has bits. -/
def decodeTableWord (_nbits _w : Nat) : Option Instr := none

end Sys2Proof
end

