-- ==== Sys2Proof/Config.lean ====
section
/-! DEFINITION. What one built block fixes and the spec does not state, and the free values: constants without a
body, so that no proof can see what they are. -/

namespace Sys2Proof

/-- A value that the spec leaves open, as a 32-bit word.  The step reads the next one through the counter
State.free (notes/assumptions/3.md). -/
opaque Config.freeWord : Nat → Word

/-- Word k of the 512 KiB firmware ROM that the build fixes (R480, R481). -/
opaque Config.firmwareRom : Nat → Word

/-- The SHA-384 digest of the signer's public key that is wired into the boot sequencer (R481), as 12 words. -/
opaque Config.keyDigest : Nat → Word

/-- The number of boundary-register cells of the build (R494, R497). -/
opaque Config.bsrLength : Nat

/-- The level that boundary-register cell k captures at a capture (R494): the order of the cells, and so which
signal a cell shows, is fixed by the build and not stated.  The first argument is the value of State.free. -/
opaque Config.boundaryCell : Nat → Nat → Bool

/-- What a read of a word of SRAM finds in a cc in which MBIST runs (R496): the spec states no value.  The arguments are the cc and
the key of the word. -/
opaque Config.marchWord : Nat → Nat → Word

end Sys2Proof
end

