-- ==== Sys2Proof/Machine/State.lean ====
section
/-! DEFINITION. The state of the block as plain data: every register word, every SRAM table, and, for what no register or
table window shows, one record for each unit.  Sparse tables list only what differs from a default; the defaults are in
Machine/Regs.lean (registers) and Machine/Tab.lean (SRAM). -/

namespace Sys2Proof.Machine

/-- The sizes that a build chooses (R24); the full configuration is `Build.full`. -/
structure Build where
  nodeLog2 : Nat
  tmplLog2 : Nat
  slotLog2 : Nat
  seqLog2 : Nat
  semLog2 : Nat
  clusters : Nat
  partitions : Nat
  memStacks : Nat
  fabric : Bool
  ctxLog2 : Nat
  ccores : Nat
  rxqLog2 : Nat
  stookLog2 : Nat
  expertLog2 : Nat
deriving DecidableEq, Repr

/-- Whether R24 permits a build: each parameter takes its full value or one of its reduced values. -/
def Build.permitted (b : Build) : Bool :=
  [18, 19, 20].contains b.nodeLog2 && [10, 11, 12].contains b.tmplLog2 && [10, 11, 12].contains b.slotLog2 &&
    [13, 14, 15].contains b.seqLog2 && [14, 15, 16].contains b.semLog2 && [8, 16, 24, 32].contains b.clusters &&
    [4, 8, 16].contains b.partitions && decide (1 ≤ b.memStacks) && decide (b.memStacks ≤ 24) && [8, 9, 10].contains b.ctxLog2 &&
    [16, 32, 64].contains b.ccores && [10, 11, 12].contains b.rxqLog2 && [6, 7, 8].contains b.stookLog2 &&
    [7, 8, 9].contains b.expertLog2

/-- The full configuration of R23. -/
def Build.full : Build :=
  ⟨20, 12, 12, 15, 16, 32, 16, 24, true, 10, 64, 12, 8, 9⟩

/-- Node Table entries. -/
def Build.nodes (b : Build) : Nat := 2 ^ b.nodeLog2
/-- Edge Table entries: always four for each node entry (R24). -/
def Build.edges (b : Build) : Nat := 4 * b.nodes
/-- Template Directory entries. -/
def Build.tmpls (b : Build) : Nat := 2 ^ b.tmplLog2
/-- Launch slots. -/
def Build.slots (b : Build) : Nat := 2 ^ b.slotLog2
/-- Sequence Table entries. -/
def Build.seqs (b : Build) : Nat := 2 ^ b.seqLog2
/-- Semaphores. -/
def Build.sems (b : Build) : Nat := 2 ^ b.semLog2
/-- Dispatch links: 16 for each cluster. -/
def Build.links (b : Build) : Nat := 16 * b.clusters
/-- Dispatch slices: one for two clusters. -/
def Build.slices (b : Build) : Nat := b.clusters / 2
/-- Contexts. -/
def Build.ctxs (b : Build) : Nat := 2 ^ b.ctxLog2
/-- Resident queue heads: one for four contexts. -/
def Build.heads (b : Build) : Nat := b.ctxs / 4
/-- Receive queues. -/
def Build.rxqs (b : Build) : Nat := 2 ^ b.rxqLog2
/-- Stooks. -/
def Build.stooks (b : Build) : Nat := 2 ^ b.stookLog2
/-- Experts of a routed layer. -/
def Build.experts (b : Build) : Nat := 2 ^ b.expertLog2
/-- Whether this is the full configuration (R24); every other build is a reduced build. -/
def Build.isFull (b : Build) : Bool := decide (b = Build.full)

/-- A sparse table: words by key, keys strictly rising, no entry equal to the table's default at its key. -/
abbrev Tab := List (Nat × Word)

/-- The local Global Count of R71: the count as shown and the estimate that follows the last sample, both with 32 fraction
bits, RATE in the same form, the last sample and the cc in which it was taken, the cc from which the wait for the next one is counted (R72), whether
that wait has been reported, and whether the count has just crossed a whole µs (R517). -/
structure TimeBase where
  count : Nat
  est : Nat
  rate : Nat
  syncs : Nat
  lastSample : Nat
  lastCc : Nat
  sinceCc : Nat
  lost : Bool
  check : Bool
deriving DecidableEq, Repr

/-- The level inputs and outputs that hold a value: the power island pins, the five domain resets (true: asserted; trst_n resets the TAP alone and
is a command, not a level), fp_present as it is driven, pwr_ack, and fc_out of R75. -/
structure Pins where
  isoEn : Bool
  pwrReq : Bool
  pwrAck : Bool
  retEn : Bool
  rstCore : Bool
  rstEng : Bool
  rstNoc : Bool
  rstFab : Bool
  rstReg : Bool
  fpPresent : Bool
  fcOut : List Nat
deriving DecidableEq, Repr

/-- Something driven on an output port. -/
inductive Output where
  /-- rp_ack with rp_rdata, for a read, and rp_err (R40, R41). -/
  | rpAck (data : Option Word) (err : Bool)
  /-- The read data that a TAP access captures (R495). -/
  | tapData (data : Word) (err : Bool)
  /-- An MM request (R44): beats are 16 words with byte enables; a read lists no beat. -/
  | mmReq (write : Bool) (tag addr beats part : Nat) (encl : Bool) (scope kind : Nat) (data : List (List Word × Nat))
  /-- An issue record on a link (R49). -/
  | dlIssue (link : Nat) (words : List Word)
  /-- Completion-credit pulses on a link. -/
  | dlCredit (link count : Nat)
  /-- dl_irq of a link takes a level (R57). -/
  | dlIrq (link : Nat) (level : Bool)
  /-- dl_wake of a link is raised for 16 ec (R58). -/
  | dlWake (link : Nat)
  /-- A flit on the request or the reply channel. -/
  | fpFlit (rep : Bool) (flit : List Word)
  /-- Receive credits returned on the request or the reply channel. -/
  | fpCredit (rep : Bool) (count : Nat)
  /-- pm_bud_ack. -/
  | pmBudAck
  /-- pm_meas_ack. -/
  | pmMeasAck
  /-- A lend (false) or return (true) transfer on pm_lend. -/
  | pmLend (part : Nat) (ret : Bool) (nj : Nat)
  /-- pm_epoch pulses. -/
  | pmEpoch
  /-- at_ack with at_status, at_digest and at_count (R73). -/
  | atAnswer (status : Nat) (digest : List Word) (count : Nat)
  /-- A record on the trace port (R76). -/
  | trace (rec : BitVec 64)
  /-- snap_trig_out is raised for 8 cc (R504). -/
  | snapTrig
  /-- Bits that a TAP data register shifts out on tdo, least significant first. -/
  | tdo (bits : List Bool)
  /-- tdo in BYPASS: the 0 that the one-bit register captures, and then tdi, one tck later (R78). -/
  | tdoBypass
  /-- The boundary register drives the outputs (EXTEST or CLAMP). -/
  | boundary (cells : List Bool)
deriving DecidableEq, Repr

/-- Who gets the answer of an MM transfer. -/
inductive MmUse where
  /-- Ring fetch of packets from index `idx` on, for the grant `grant` of a head (R161). -/
  | ring (ctx q idx grant : Nat)
  /-- Context descriptor at CREATE (R152). -/
  | ctxDesc
  /-- Load image, header then whole (R92). -/
  | tmplLoad (ctx q : Nat)
  /-- Patch list (R94). -/
  | tmplPatch (ctx q : Nat)
  /-- Parameter descriptor of a launch (R101). -/
  | param (slot launchId : Nat)
  /-- Spawn descriptor (R132). -/
  | spawn (id : Nat)
  /-- Reply of a command of a queue (R165): the partition whose CMPL bit its IRQ sets. -/
  | reply (ctx q : Nat) (irqPart : Option Nat)
  /-- Shadow record (R158). -/
  | shadow (ctx q : Nat)
  /-- A sequence descriptor or work that the Sower reads or writes; what is meant is in the step record. -/
  | st (part what arg : Nat)
  /-- A read or write of a route job (what, arg). -/
  | era (what arg : Nat)
  /-- A message spilled to, or refilled from, a Granary ring. -/
  | granary (queue what : Nat)
  /-- The descriptor of a spill or restore job, with the job's generation. -/
  | psc (job gen : Nat)
  /-- A replay-log write. -/
  | dcLog
  /-- A replay-log read. -/
  | dcReplay
  /-- A checkpoint write. -/
  | ckpt (part : Nat)
  /-- An accounting record. -/
  | acct (part : Nat) (final : Bool)
  /-- A Granary scrub write. -/
  | scrub (part : Nat)
  /-- A Gleaner log record, of an on-chip entry. -/
  | gleaner (entry : Nat)
  /-- A trace ring beat, with the records it holds. -/
  | traceBeat (count : Nat)
  /-- Nobody: what the transfer was for has ended, and its answer is discarded. -/
  | dropped
deriving DecidableEq, Repr

/-- An MM transfer: requests of 1 to 4 beats are issued one after the other until `left` beats have been done.  `no` and `epoch` are
the order and the epoch of the request that is out (R379, R381); `fail` the status of the first beat that failed, 0 for none. -/
structure MmXfer where
  write : Bool
  tag : Nat
  addr : Nat
  beats : Nat
  part : Nat
  scope : Nat
  kind : Nat
  use : MmUse
  left : Nat
  rest : List (List Word × Nat)
  got : List Word
  fail : Nat
  no : Nat
  epoch : Nat
deriving DecidableEq, Repr

/-- The memory master port: transfers with a request outstanding, and transfers that wait for a tag. -/
structure Mm where
  busy : List MmXfer
  waiting : List MmXfer
deriving DecidableEq, Repr

/-- A 64-byte command packet and what the reply to it needs (R163). -/
structure Rep where
  addr : Nat
  tag : Nat
  opcode : Nat
  irq : Bool
deriving DecidableEq, Repr

/-- Queue states of R159, in code order. -/
inductive QState where
  | disabled | empty | pending | active | blocked | parked | faulted | draining
deriving DecidableEq, Repr

/-- The wait that blocks a head or parks a queue. -/
inductive WaitCond where
  | event (handle n : Nat)
  | semGe (sem n : Nat)
  | semGeSub (sem n : Nat)
deriving DecidableEq, Repr

/-- A command of the pending list (R164). -/
structure PendCmd where
  qseq : Nat
  pkt : List Word
deriving DecidableEq, Repr

/-- A packet at the head of its queue that is not yet consumed: whether it blocks, since when, and on which wait if on one. -/
structure Cur where
  pkt : List Word
  blocked : Bool
  since : Nat
  wait : Option WaitCond
deriving DecidableEq, Repr

/-- A queue of a context. -/
structure Queue where
  ctx : Nat
  q : Nat
  ringBase : Nat
  ringLog2 : Nat
  shadow : Nat
  headTimeout : Nat
  waitTimeout : Nat
  read : Nat
  write : Nat
  state : QState
  fault : Nat
  qseq : Nat
  completed : Nat
  done : List Nat
  pend : List PendCmd
  pendOrder : Nat
  park : Option Cur
  blockGc : Nat
  dirty : Bool
  shadowGc : Nat
deriving DecidableEq, Repr

/-- A context that is not FREE, or one that was created before and keeps its generation. -/
structure Context where
  idx : Nat
  cstate : Nat
  part : Nat
  qmask : Nat
  gen : Nat
deriving DecidableEq, Repr

/-- A resident queue head: the packets prefetched, each with its ring index, and how many are being fetched. -/
structure Head where
  ctx : Nat
  q : Nat
  grant : Nat
  consumed : Nat
  fetched : List (Nat × List Word)
  fetching : Nat
  cur : Option Cur
deriving DecidableEq, Repr

/-- How far a Thresher command is: not yet started, being carried out by the processor, or waiting on other units. -/
inductive SlowPhase where
  | queued | running | waiting
deriving DecidableEq, Repr

/-- An entry of the Thresher slow queue (R162, R516). -/
structure Slow where
  ctx : Nat
  q : Nat
  pkt : List Word
  phase : SlowPhase
  step : Nat
deriving DecidableEq, Repr

/-- An event (R171).  `val` and `valN` are its Husk pair. -/
structure Event where
  idx : Nat
  live : Bool
  gen : Nat
  part : Nat
  remoteOk : Bool
  val : Wide
  valN : Wide
deriving DecidableEq, Repr

/-- Who a SIGNAL was sent for: a launch, or a SIGNAL_REMOTE command. -/
inductive SigFor where
  | launch (slot : Nat)
  | cmd (ctx q qseq : Nat) (rep : Rep)
deriving DecidableEq, Repr

/-- A SIGNAL that awaits its reply (R180, R181), or a local one that takes effect in the next cc. -/
structure Signal where
  seq : Nat
  dev : Nat
  handle : Nat
  max : Bool
  value : Nat
  part : Nat
  who : SigFor
  sentGc : Nat
deriving DecidableEq, Repr

/-- The Command Front End and the Thresher's command queue. -/
structure FrontEnd where
  fifo : List (Nat × Nat)
  ctxs : List Context
  queues : List Queue
  heads : List Head
  slow : List Slow
  events : List Event
  signals : List Signal
  sigSeq : Nat
  grantNext : Nat
  pendNext : Nat
  waitNext : Nat
  walks : List (Nat × Nat × Nat)
  ctxCmd : Nat
  ctxTarget : Nat
deriving DecidableEq, Repr

/-- A template generation: the current one of its index, or one in the retire list (R95). -/
structure Gen where
  tmpl : Nat
  gen : Nat
  part : Nat
  nodeBase : Nat
  nodeCount : Nat
  edgeBase : Nat
  edgeCount : Nat
  sink : Nat
  rootCount : Nat
  readers : Nat
  retired : Bool
  damaged : Bool
deriving DecidableEq, Repr

/-- How far a load or patch is: its header or its words are being read; they are all there; a patch has its new extents and waits
for room in the copy pipeline; it is in the pipeline; its copy has ended. -/
inductive TmplPhase where
  | header | reading | read | alloc | copying | copied
deriving DecidableEq, Repr

/-- A LOAD_TEMPLATE or PATCH_TEMPLATE in progress: the command, the template index and, for a patch, the generation of the handle, the
words of the image or list read so far, and the new extents once `reserved` (R92, R94). -/
structure TmplJob where
  ctx : Nat
  q : Nat
  patch : Bool
  tmpl : Nat
  gen : Nat
  words : List Word
  nodeBase : Nat
  edgeBase : Nat
  nodeCount : Nat
  edgeCount : Nat
  reserved : Bool
  phase : TmplPhase
deriving DecidableEq, Repr

/-- A request of the copy pipeline (R99): a launch slot, or the patch of a queue. -/
inductive PipeReq where
  | launch (slot : Nat)
  | patch (ctx q : Nat)
deriving DecidableEq, Repr

/-- A launch that waits at its queue head, or a step launch of the ST (R98), in arrival order, with the cc in which it arrived. -/
structure Waiting where
  cc : Nat
  ctx : Nat
  q : Nat
  part : Nat
  step : Bool
  stepTag : Nat
  pkt : List Word
deriving DecidableEq, Repr

/-- What the block keeps of a live launch beside its slot row (R100). -/
structure Launch where
  slot : Nat
  launchId : Nat
  qseq : Nat
  rep : Rep
  waits : List (Nat × Nat)
  serial : Bool
  startGc : Option Nat
  reachedCc : Option Nat
  late : Bool
  paramRef : Nat
  doneEvent : Option (Nat × Nat)
  rsig : Option (Nat × Nat × Nat)
  tmpl : Nat
  gen : Nat
  rootCount : Nat
  opNode : Option (List Word)
  step : Bool
  round : Option Nat
  copied : Bool
  descSent : Bool
  acceptGc : Nat
  killCode : Nat
  killCfe : Bool
  replays : Nat
  replayPending : Bool
  posted : Bool
  orphan : Bool
  doneStarted : Bool
  replied : Bool
  sigFail : Nat
  lastProgressGc : Nat
deriving DecidableEq, Repr

/-- The Graph Store beside its tables. -/
structure GraphStore where
  tmplNodes : List (Nat × Nat)
  tmplEdges : List (Nat × Nat)
  instNodes : List (Nat × Nat)
  instEdges : List (Nat × Nat)
  gens : List Gen
  jobs : List TmplJob
  freeWaits : List (Nat × Nat)
  pipe : List PipeReq
  waiting : List Waiting
  launches : List Launch
deriving DecidableEq, Repr

/-- A node in the walk queue (R115), the number of its edges already processed, and whether it was skipped. -/
structure WalkEnt where
  node : Nat
  pos : Nat
  skip : Bool
deriving DecidableEq, Repr

/-- An entry of a ready list (R119): the ready sequence number, the node (or the job of an internal task, which names its
link), level and class, and what R102, R145 and R508 keep of it. -/
structure ReadyEnt where
  seq : Nat
  node : Nat
  job : Option Nat
  level : Nat
  cls : Nat
  gc : Nat
  noEngineSince : Option Nat
  refusedFor : List Nat
deriving DecidableEq, Repr

/-- A SPAWN record in the spawn queue (R136), with its descriptor once it has been read. -/
structure Spawn where
  id : Nat
  node : Nat
  slot : Nat
  launchId : Nat
  desc : Option (List Word)
deriving DecidableEq, Repr

/-- An entry of the remote send queue (R117, R318): a remote edge, and the SEQ of its outstanding flit. -/
structure RemoteSend where
  slot : Nat
  launchId : Nat
  ctx : Nat
  q : Nat
  part : Nat
  dev : Nat
  target : Nat
  amount : Nat
  tag : Nat
  round : Nat
  tmpl : Nat
  seq : Option Nat
  sentGc : Nat
  resendGc : Option Nat
  sender : Nat
deriving DecidableEq, Repr

/-- An early-store entry (R317). -/
structure Early where
  part : Nat
  tmpl : Nat
  round : Nat
  target : Nat
  amount : Nat
  bad : Bool
deriving DecidableEq, Repr

/-- A DEPART LEAVE or JOIN that awaits its reply. -/
structure Depart where
  dev : Nat
  join : Bool
  seq : Nat
  sentGc : Nat
deriving DecidableEq, Repr

/-- An entry of the SM's post queue (R118): the semaphore, the amount, and the launch, the partition and the task tag of the edge's node. -/
structure PostEnt where
  sem : Nat
  amount : Nat
  slot : Nat
  launchId : Nat
  part : Nat
  poster : Nat
deriving DecidableEq, Repr

/-- The Dependency Resolver and the domain state that shares its page. -/
structure Resolver where
  walkQ : List WalkEnt
  ready : List ReadyEnt
  readySeq : Nat
  spawnQ : List Spawn
  spawnNext : Nat
  postQ : List PostEnt
  sendQ : List RemoteSend
  early : List Early
  bp : Bool
  remSeq : Nat
  domCmd : Nat
  departs : List Depart
  insQ : List Nat
  skipQ : List Nat
deriving DecidableEq, Repr

/-- A TASK record without a terminal record: `issueGc` is its real issue time and `issueNow` that of the rules (R377); `no`, `epoch`
and `ecls` are its issue number, issue epoch and energy class (R379, R381). -/
structure OutTask where
  node : Nat
  ngen : Nat
  job : Option Nat
  level : Nat
  part : Nat
  cls : Nat
  slot : Nat
  launchId : Nat
  stepTag : Nat
  spawnEn : Bool
  issueGc : Nat
  issueNow : Nat
  no : Nat
  epoch : Nat
  ecls : Nat
  killSent : Nat
  killGc : Nat
deriving DecidableEq, Repr

/-- A control record: its RECTYPE, the task it names, whether DS_LINK_CMD asked for it, and its DRAIN bookkeeping. -/
structure Ctrl where
  rectype : Nat
  node : Nat
  ngen : Nat
  byCmd : Bool
  gc : Nat
  mustDrain : List (Nat × Nat)
deriving DecidableEq, Repr

/-- What the block keeps of a link (R143, R148 and the rules of link-up): the level at dl_present, and that level as the block sees it, with
the cc from which it counts it (R59); whether what arrives belongs to a time before the link was lost (R63). -/
structure Link where
  id : Nat
  pin : Bool
  present : Bool
  presentCc : Nat
  stale : Bool
  lstate : Nat
  cls : Nat
  proto : Nat
  creditsAdv : Nat
  creditsNow : Nat
  telem : Bool
  spawn : Bool
  engineId : Nat
  tasks : List OutTask
  ctrl : Option Ctrl
  ctrlQ : List Ctrl
  offerOut : Bool
  offers : Nat
  offerGc : Nat
  reoffer : Bool
  agreed : Nat
  adv : Nat
  irqOut : List Nat
  wakeGc : Nat
  wakeCmd : Bool
deriving DecidableEq, Repr

/-- A completion record in a cluster's FIFO, with its stamp (R56) and its place in the order of intake; in grain-locked mode it
is held until its boundary, from the cc in which it entered (R378, R379). -/
structure CmpRec where
  link : Nat
  w0 : Word
  w1 : Word
  gc : Nat
  order : Nat
  held : Bool
  cc : Nat
deriving DecidableEq, Repr

/-- The Dispatch Slices: the links, the completion FIFO of each cluster, the cc of each slice's last issue, the consecutive cc
for which each slice has been idle with work (R431), the slices that are being restarted with the time at which that began (R432),
the number of the cc after the last deal (0: none yet). -/
structure Dispatch where
  links : List Link
  fifos : List (Nat × List CmpRec)
  issued : List (Nat × Nat)
  idle : List (Nat × Nat)
  sliceDown : List (Nat × Nat)
  dealtCc : Nat
deriving DecidableEq, Repr

/-- Who waits on a semaphore: a head or parked queue, a watch, or a wake binding. -/
inductive WaitFor where
  | queue (ctx q : Nat)
  | watch (idx : Nat)
  | bind (idx : Nat)
deriving DecidableEq, Repr

/-- A wait on a semaphore (R249), and, once it is satisfied, VALUE after it. -/
structure SemWait where
  sem : Nat
  thresh : Nat
  consume : Bool
  who : WaitFor
  granted : Option Nat
deriving DecidableEq, Repr

/-- A watch that is armed (R251). -/
structure Watch where
  idx : Nat
  sem : Nat
  thresh : Nat
  slot : Nat
  launchId : Nat
  node : Nat
  amount : Nat
  consume : Bool
deriving DecidableEq, Repr

/-- How far a wake binding is (R254): the link still holds tasks; the link sleeps; it has been woken. -/
inductive BindPhase where
  | draining | sleeping | waking
deriving DecidableEq, Repr

/-- A wake binding (R254); a recovery binding (R433) names no semaphore. -/
structure Bind where
  idx : Nat
  link : Nat
  part : Nat
  sem : Option Nat
  thresh : Nat
  consume : Bool
  tmo : Nat
  gc : Nat
  phase : BindPhase
deriving DecidableEq, Repr

/-- What the SM keeps of a sheaf beside its entry: the first arrival for GEN and for GEN + 1 (R262), and the source map (R265). -/
structure SheafX where
  idx : Nat
  firstGc : Option Nat
  nextGc : Option Nat
  srcs : List Nat
deriving DecidableEq, Repr

/-- A sheaf flit that awaits its reply (R263). -/
structure SheafMsg where
  seq : Nat
  sheaf : Nat
  dev : Nat
  release : Bool
deriving DecidableEq, Repr

/-- A semaphore whose waits are to be evaluated at the end of this cc (R248 to R250): those of an evaluation under way that are left, and whether
another one is due after it. -/
structure SemEval where
  sem : Nat
  todo : List WaitFor
  again : Bool
deriving DecidableEq, Repr

/-- The Semaphore Memory beside its tables and registers: the waits in the order in which they began, the semaphores whose waits are to be
evaluated, the watches and those to be cancelled at the end of this cc (R253), the wake bindings, the sheaves' extra state, the releases decided in
this cc, the sheaf flits that await a reply, and the SM_SEM_CMD (operation, index, value) that waits for the end of the initialisation of R243 or for
its turn under R248. -/
structure SemUnit where
  waits : List SemWait
  evals : List SemEval
  watches : List Watch
  cancels : List Nat
  binds : List Bind
  sheaves : List SheafX
  releases : List Nat
  msgs : List SheafMsg
  semCmd : Option (Nat × Nat × Nat)
deriving DecidableEq, Repr
/-- The SM at reset. -/
def SemUnit.reset : SemUnit := ⟨[], [], [], [], [], [], [], [], none⟩

/-- The telemetry accumulator of a step tag (R296). SUM is a binary32 or an integer, as TELEM_MSE says. -/
structure Telem where
  tag : Nat
  part : Nat
  count : Nat
  sum : Nat
  max : Nat
  bad : Nat
deriving DecidableEq, Repr

/-- A message on chip in a receive queue (R274), 4 words for each unit. -/
structure RxMsg where
  q : Nat
  words : List Word
deriving DecidableEq, Repr

/-- An item of a Granary ring between HEAD and TAIL (R276): its bytes, and the step tag it carries (R290). -/
structure RingItem where
  q : Nat
  bytes : Nat
  tag : Nat
deriving DecidableEq, Repr

/-- A refill read that is out (R277): the bytes asked for from HEAD, and the words of the first beat that lie before it. -/
structure Refill where
  q : Nat
  bytes : Nat
  skip : Nat
deriving DecidableEq, Repr

/-- A remote send without a reply (R288). -/
structure MsgSend where
  seq : Nat
  core : Nat
  cookie : Nat
  dev : Nat
  part : Nat
  route : Option Nat
  sentGc : Nat
deriving DecidableEq, Repr

/-- A remote outcome that its core has not popped (R288). -/
structure MsgEnd where
  core : Nat
  cookie : Nat
  result : Nat
  code : Nat
deriving DecidableEq, Repr

/-- What a Stook keeps beside its entry (R292 to R294): the elements folded so far, the contributions held in the pool by ORD, and,
while its result waits for its queue, the time of the last refusal. -/
structure StookX where
  idx : Nat
  acc : List Nat
  held : List (Nat × List Word)
  pending : Option Nat
deriving DecidableEq, Repr

/-- The Message Hub beside its tables and registers: telemetry, the messages on chip in order of arrival, the ring items and the refills,
the remote sends, the outcomes and the next message number, and the Stooks. -/
structure Hub where
  telem : List Telem
  msgs : List RxMsg
  ring : List RingItem
  refills : List Refill
  sends : List MsgSend
  ends : List MsgEnd
  msgSeq : Nat
  stooks : List StookX
deriving DecidableEq, Repr
/-- The hub at reset. -/
def Hub.reset : Hub := ⟨[], [], [], [], [], [], 0, []⟩

/-- A row of a step in the row store (R205): its sequence and the generation of the handle in it, the position and the
tokens that it takes, the blocks after it, whether it is a prefill row and the prompt's last chunk, and its live bit. -/
structure StepRow where
  seq : Nat
  gen : Nat
  pos : Nat
  ntok : Nat
  kv : Nat
  prefill : Bool
  last : Bool
  live : Bool
deriving DecidableEq, Repr

/-- How far a step in flight is: its writes are out; its launch has been submitted; its launch is in RETIRING and its
results are being read; its results are applied and the writes of the pass are out; it has been cancelled and its launch is
being killed. -/
inductive StepPhase where
  | writing | launched | reading | applied | dead
deriving DecidableEq, Repr

/-- A step in flight (R197, R205): the partition, the step number, the tag, the rows, the launch slot once accepted, the
MM transfers still out, when its synthesis began, and its composition digest (R387). -/
structure Step where
  part : Nat
  n : Nat
  tag : Nat
  rows : List StepRow
  phase : StepPhase
  slot : Option Nat
  out : Nat
  synthGc : Nat
  comp : Nat
deriving DecidableEq, Repr

/-- A step stream (R193 to R197): its context and queue, the 32 words of its descriptor, the number of the next step, the steps
launched, the last step applied, whether a moment of R197 has come, the START and the STOP commands that wait for it, and its
restarts in a row (R448). -/
structure Stream where
  part : Nat
  ctx : Nat
  desc : List Word
  next : Nat
  launched : Nat
  lastApplied : Option Nat
  due : Bool
  startCmd : Option (Nat × Nat)
  stopCmds : List (Nat × Nat)
  restarts : Nat
deriving DecidableEq, Repr

/-- A Winnow sweep (R210, R211): the command it serves, its MODE and partition, the sequences it ends, the rows it made
dead, the tags of the steps it cancelled, and its writes still out. -/
structure Winnow where
  ctx : Nat
  q : Nat
  mode : Nat
  part : Nat
  seqs : List Nat
  rows : Nat
  tags : List Nat
  out : Nat
deriving DecidableEq, Repr

/-- The Sower beside its tables and registers: the streams, the steps in flight, the admission counters, and the running
sweep. -/
structure Sower where
  streams : List Stream
  steps : List Step
  admitNo : List (Nat × Nat)
  winnow : Option Winnow
deriving DecidableEq, Repr
/-- The Sower at reset. -/
def Sower.reset : Sower := ⟨[], [], [], none⟩

/-- What the ERA keeps of a step in flight (R219, R224): its tag, partition and tokens, the banks it is bound to, the layer-skip mask
fixed when its launch entered RUNNING, the rows in order with their tokens and, from then on, their live snapshot, the routers of each layer
that have retired, and the writes of publications and of route jobs that are out. -/
structure EraStep where
  tag : Nat
  part : Nat
  biasBank : Nat
  seedBank : Nat
  mask : Nat
  rows : List (Nat × Bool)
  routers : List (Nat × Nat)
  pubOut : Nat
  writesOut : Nat
deriving DecidableEq, Repr

/-- How far a route job is: waiting in the queue; its reads are out; its lists and outcomes have been issued. -/
inductive EraPhase where
  | queued | reading | written
deriving DecidableEq, Repr

/-- A route job (R218): the reads still out, the candidate records or token IDs and the token-skip bitmap once read, and what its notices
will carry: the count of each expert's list and the CAP_SKIP tokens. -/
structure EraJob where
  tag : Nat
  part : Nat
  slot : Nat
  layer : Nat
  phase : EraPhase
  reads : Nat
  inp : List Word
  tskip : List Word
  counts : List Nat
  capSkips : Nat
deriving DecidableEq, Repr

/-- The Expert Routing Assist beside its tables and registers: the steps in flight, the route jobs in queue order, the skip map (R229), and the
boundary passes of each partition (R225). -/
structure Era where
  steps : List EraStep
  jobs : List EraJob
  marks : List Nat
  passes : List (Nat × Nat)
deriving DecidableEq, Repr
/-- The Expert Routing Assist at reset. -/
def Era.reset : Era := ⟨[], [], [], []⟩

/-- What the BG keeps of a partition (R336, R337): credit and LENT_LEFT in pJ with their complements, whether a mismatch has been found
since the last boundary, the last budget accepted and whether one has been accepted in this epoch, and the pJ used, drawn from others, and
charged but not yet a whole nJ of accounting. -/
structure BgPart where
  part : Nat
  credit : BitVec 48
  creditN : BitVec 48
  lent : BitVec 48
  lentN : BitVec 48
  bad : Bool
  next : Nat
  fresh : Bool
  used : Nat
  borrowed : Nat
  estRem : Nat
deriving DecidableEq, Repr

/-- The Budget Governor beside its tables and registers: the partitions, the estimates admitted in this epoch by partition and cluster
in pJ, the energy measured in it by cluster, OPP_MHZ as latched by cluster, the lend FIFO (partition, return, nJ), the number of
the epoch and of the µs last begun, and the epochs counted for the next accounting record of each partition (R417). -/
structure Budget where
  parts : List BgPart
  est : List (Nat × Nat × Nat)
  meas : List (Nat × Nat)
  opp : List (Nat × Nat)
  lends : List (Nat × Bool × Nat)
  epochNo : Nat
  refillNo : Nat
  acctDue : List (Nat × Nat)
deriving DecidableEq, Repr
/-- The Budget Governor at reset. -/
def Budget.reset : Budget := ⟨[], [], [], [], [], 0, 0, []⟩

/-- An accepted preemption (R358): the claim of the requester, and the victims not yet spilled or free. -/
structure Preempt where
  claim : Nat
  victims : List Nat
deriving DecidableEq, Repr

/-- A spill or restore job (R361): its number and generation, its direction, its claim, its partition and save set, whether its
descriptor write has been answered, its link once chosen, whether its task has been issued, and whether its result is discarded. -/
structure Job where
  k : Nat
  gen : Nat
  restore : Bool
  claim : Nat
  part : Nat
  level : Nat
  saveSet : Nat
  granules : Nat
  written : Bool
  link : Option Nat
  issued : Bool
  discard : Bool
deriving DecidableEq, Repr

/-- The Preemption and Spill Controller beside its tables and registers: the claims in use, oldest first; the preemptions; the jobs;
the generation of each job; and the claims that a restore made RESIDENT and that pass only from the next grain-locked
boundary (R368). -/
structure Spill where
  order : List Nat
  preempts : List Preempt
  jobs : List Job
  gens : List (Nat × Nat)
  held : List Nat
deriving DecidableEq, Repr
/-- The PSC at reset. -/
def Spill.reset : Spill := ⟨[], [], [], [], []⟩

/-- An input that grain-locked mode holds at its crossing: the command that it is, and the cc in which it entered (R378). -/
structure Held where
  input : Instr
  cc : Nat
deriving DecidableEq, Repr

/-- The Determinism Controller beside its tables and registers: the next request number and the next issue number (R381), the
first cc of the current epoch (R376), the inputs held, the issue digest of each step tag under way (R388), the log records
lost since the last one written (R386), the replay records read and not yet used, and whether all have been read (R389), the
real time at which the wait for an input began (R390), the checkpoint writes out by partition (R391), the time of the last
tag check (R393), the log records that wait for room in the ring (R386), and whether replay ends at the next boundary (R390). -/
structure Determ where
  mmNo : Nat
  taskNo : Nat
  startCc : Nat
  held : List Held
  digests : List (Nat × Nat)
  lost : Nat
  replay : List (List Word)
  loaded : Bool
  stallGc : Option Nat
  ckpts : List (Nat × Nat)
  tagGc : Nat
  logQ : List (List Word)
  stop : Bool
deriving DecidableEq, Repr
/-- The Determinism Controller at reset. -/
def Determ.reset : Determ := ⟨0, 0, 0, [], [], 0, [], false, none, [], 0, [], false⟩

/-- A template extend that waits for the hash engine (R408): the partition, the handle, whether a patch made it, its counts, and the
words hashed, in template-relative form. -/
structure TmplExtend where
  part : Nat
  handle : Nat
  patch : Bool
  nodeCount : Nat
  edgeCount : Nat
  words : List Word
deriving DecidableEq, Repr

/-- How far a teardown is (R410): its partition is being emptied; its final accounting record is out; its Granary region is being scrubbed. -/
inductive TearPhase where
  | emptying | record | scrub
deriving DecidableEq, Repr

/-- A teardown that runs: the partition, the phase, and the address and the beats of the Granary still to be scrubbed, with
whether a scrub write is out. -/
structure Tear where
  part : Nat
  phase : TearPhase
  addr : Nat
  left : Nat
  out : Bool
deriving DecidableEq, Repr

/-- The Partition and Attestation Unit beside its tables and registers: the partition whose lock is running, the queue of template
extends, the accounting records whose write is out (R417), the partitions whose next record carries LATE, the teardown
that runs, and the partitions that a block restart has left to be scrubbed after it (R435). -/
structure Pau where
  locking : Option Nat
  tmplQ : List TmplExtend
  acctOut : List (Nat × List Word)
  late : List Nat
  tear : Option Tear
  tearQ : List Nat
deriving DecidableEq, Repr
/-- The PAU at reset. -/
def Pau.reset : Pau := ⟨none, [], [], [], none, []⟩

/-- A report of the Gleaner (R436). -/
structure Report where
  code : Nat
  sev : Nat
  part : Option Nat
  detail : Nat
  detail2 : Nat
  gc : Nat
deriving DecidableEq, Repr

/-- An entry of the on-chip log (R439, R440); `ring` is the value of LOG_TAIL at which its record is being written. -/
structure LogEnt where
  idx : Nat
  code : Nat
  sev : Nat
  part : Option Nat
  count : Nat
  detail : Nat
  detail2 : Nat
  firstGc : Nat
  lastGc : Nat
  ring : Nat
  writing : Bool
  retryGc : Option Nat
deriving DecidableEq, Repr

/-- The Integrity and Fault Manager beside its registers: the intake FIFO, the log, the cc in which FIRST, LAST and WORST
were taken, whether a mismatched pass is being confirmed and an episode is open, the time of the last heartbeat and of the start of
the patrol's pass, whether that pass is late, and whether the Thresher is held in reset (R434). -/
structure Ifm where
  intake : List Report
  log : List LogEnt
  firstCc : Nat
  lastCc : Nat
  worstCc : Nat
  crcConfirm : Bool
  crcEpisode : Bool
  hbGc : Nat
  patrolGc : Nat
  patrolLate : Bool
  thrHold : Bool
deriving DecidableEq, Repr

/-- The Debug unit beside its registers: the trace FIFO (each record with whether the port and the ring have taken it), the
decision number, the base of the last TIME record and the bits of the last SYNC, the records lost since the last LOST, the ring beat under
assembly, the snapshot image, the last firing and the cc of the last latch, and whether the counters are cleared at the end of this cc. -/
structure Dbg where
  fifo : List (BitVec 64)
  dec : Nat
  base : Option Nat
  sync : Option Nat
  lostNow : Nat
  beat : List (BitVec 64)
  beatGc : Nat
  image : Tab
  fireCc : Option Nat
  fireSrc : Nat
  latchCc : Option Nat
  clear : Bool
deriving DecidableEq, Repr

/-- What the Thresher memory holds: zeros, or the image that COPY has taken from the ROM (R480). -/
inductive ThrMem where
  | zero | rom
deriving DecidableEq, Repr

/-- The TAP: the instruction selected, the boundary register and the read data of the last REG_ACCESS (R494, R495). -/
structure Tap where
  ir : Nat
  cells : List Bool
  data : Word
  done : Bool
  err : Bool
deriving DecidableEq, Repr

/-- The boot sequencer and power control beside their registers: what Thresher memory holds; since when the block quiesces and whether
QUIESCE_US has passed (R486); whether a surprise isolation lasts (R491); whether the state is
retained, the block waits for its first gc_sync after that, and the device number it kept (R489); the digest of BOOT's first extend
(R405, R434); whether an MBIST and whether a block restart runs (R496, R435). -/
structure Thr where
  mem : ThrMem
  quiesceGc : Nat
  quiesceKilled : Bool
  surprise : Bool
  retained : Bool
  needSync : Bool
  digest : List Nat
  mbist : Bool
  restart : Bool
  oldSelf : Option Nat
deriving DecidableEq, Repr

/-- The fabric link: fp_present as the block sees it, whether the link is up at version 3, whether a version failure makes the block a domain of
one (R69), the transmit credits of the two channels, the receive credits that the interface holds on each (R65), the flits that
wait for a credit, the request-channel credits that the block withholds and the queues on account of which it does (R138, R266,
R289, R486), and the flits that wait in those queues. -/
structure Fabric where
  present : Bool
  up : Bool
  alone : Bool
  reqCredits : Nat
  repCredits : Nat
  rxReq : Nat
  rxRep : Nat
  reqQ : List (List Word)
  repQ : List (List Word)
  owed : Nat
  holdsReq : List Nat
  waiting : List Held
deriving DecidableEq, Repr

/-- A fabric link that is not up: its interface will hold 32 receive credits on each channel (R65). -/
def Fabric.off (present : Bool) : Fabric := ⟨present, false, false, 0, 0, 32, 32, [], [], 0, [], []⟩

/-- The unlock and the read latch of the register port (R460, R463): the cc in which the unlock was armed, and the address
of the high half that the last access latched, with its value. -/
structure Glb where
  armedCc : Option Nat
  latch : Option (Nat × Word)
deriving DecidableEq, Repr

/-- The reasons for which the machine stops with a fault.  No meaning of a command raises one: every error of the block
is state that it reports (R436). -/
inductive Fault where
  /-- Raised by no command of the table. Kept so that the interface has a reason to name; safe. -/
  | none
deriving DecidableEq, Repr

/-- The reasons for which a command is refused. -/
inductive Refusal where
  /-- Raised by exec alone, for a command that has no meaning yet; safe. -/
  | notModelled (mnemonic : String)
deriving DecidableEq, Repr

/-- What this core cycle has already done, for the rules that bound or order the work of one cc: the slices that have taken a completion
record (R112), whether the walker has run (R115) and the Gleaner has taken its reports (R438), the remote decrements (R316), the nodes put into the ready lists and the last source of R120, the
operations of the Semaphore Memory, the last step of R248 and the place in the order of its step 5, the last step of R173 and the place in the order of its step 2, and the messages that have reached a queue, each with its source of R279. -/
structure Cyc where
  taken : List Nat
  walked : Bool
  gleaned : Bool
  remDecs : Nat
  inserts : Nat
  insertSrc : Nat
  semOps : Nat
  semStep : Nat
  semKey : Nat
  evStep : Nat
  evKey : Nat
  arrived : List (Nat × Nat)
deriving DecidableEq, Repr
/-- A core cycle that has done nothing yet. -/
def Cyc.start : Cyc := ⟨[], false, false, 0, 0, 0, 0, 0, 0, 0, 0, []⟩

/-- The machine. -/
structure State where
  build : Build
  cc : Nat
  tb : TimeBase
  cyc : Cyc
  pins : Pins
  regs : Tab
  shf : Tab
  sram : Tab
  ecc : List (Nat × Nat)
  glb : Glb
  mm : Mm
  fe : FrontEnd
  gs : GraphStore
  dr : Resolver
  ds : Dispatch
  sm : SemUnit
  mh : Hub
  st : Sower
  era : Era
  bg : Budget
  psc : Spill
  dc : Determ
  pau : Pau
  ifm : Ifm
  dbg : Dbg
  thr : Thr
  tap : Tap
  fab : Fabric
  eps : List (Nat × Nat)
  free : Nat
  out : List Output
  pending : List Instr
deriving DecidableEq, Repr

/-- The machine right after reset: every domain reset has just been released with iso_en low and no command has been taken.
Every register word is at its reset value (R462), every SRAM word as CLEAR leaves it (notes/assumptions/2.md), no link or
fabric is present, no context, launch, sequence, message or claim exists, and the queue of commands is empty. -/
def State.reset : State where
  build := Build.full
  cc := 0
  tb := ⟨0, 0, 2603010482, 0, 0, 0, 0, false, false⟩
  cyc := Cyc.start
  pins := ⟨false, false, false, false, false, false, false, false, false, false, []⟩
  regs := []
  shf := []
  sram := []
  ecc := []
  glb := ⟨none, none⟩
  mm := ⟨[], []⟩
  fe := ⟨[], [], [], [], [], [], [], 0, 0, 0, 0, [], 0, 0⟩
  gs := ⟨[], [], [], [], [], [], [], [], [], []⟩
  dr := ⟨[], [], 0, [], 0, [], [], [], false, 0, 0, [], [], []⟩
  ds := ⟨[], [], [], [], [], 0⟩
  sm := SemUnit.reset
  mh := Hub.reset
  st := Sower.reset
  era := Era.reset
  bg := Budget.reset
  psc := Spill.reset
  dc := Determ.reset
  pau := Pau.reset
  ifm := ⟨[], [], 0, 0, 0, false, false, 0, 0, false, false⟩
  dbg := ⟨[], 0, none, none, 0, [], 0, [], none, 0, none, false⟩
  thr := ⟨.zero, 0, false, false, false, false, [], false, false, none⟩
  tap := ⟨2, [], 0#32, false, false⟩
  fab := Fabric.off false
  eps := []
  free := 0
  out := []
  pending := []

/-- The machine right after reset in a build that R24 permits; there is no other build. -/
def State.resetOf (b : Build) : Option State := if b.permitted then some { State.reset with build := b } else none

end Sys2Proof.Machine
end

