-- ==== Sys2Proof/Machine/Errors.lean ====
section
/-! DEFINITION. The error codes of the block, each with the severity of its table (R16, R450).  ERR_HUSK and
ERR_ECC_UNCORRECTED take the severity of the row of R422, which the one who raises them gives. -/

namespace Sys2Proof.Machine

/-- An error as the error tables list it: its 16-bit code and its severity, 0 INFO, 1 CORRECTED, 2 CONTAINED,
3 UNIT, 4 BLOCK (R436). -/
structure Err where
  code : Nat
  sev : Nat
deriving DecidableEq, Repr

/-- ERR_ENABLE_ORDER (R19). -/
def E.ENABLE_ORDER : Err := ⟨0x0001, 0⟩
/-- ERR_TIMEBASE_LOST (R80). -/
def E.TIMEBASE_LOST : Err := ⟨0x0002, 0⟩
/-- ERR_DOORBELL_DROP (R184). -/
def E.DOORBELL_DROP : Err := ⟨0x1001, 0⟩
/-- ERR_DOORBELL_RANGE (R184). -/
def E.DOORBELL_RANGE : Err := ⟨0x1002, 2⟩
/-- ERR_BAD_OPCODE (R184). -/
def E.BAD_OPCODE : Err := ⟨0x1003, 0⟩
/-- ERR_PACKET_FIELD (R184). -/
def E.PACKET_FIELD : Err := ⟨0x1004, 0⟩
/-- ERR_EVENT_HANDLE (R184). -/
def E.EVENT_HANDLE : Err := ⟨0x1005, 0⟩
/-- ERR_EVENT_CYCLE (R184). -/
def E.EVENT_CYCLE : Err := ⟨0x1006, 2⟩
/-- ERR_EVENT_SATURATE (R184). -/
def E.EVENT_SATURATE : Err := ⟨0x1007, 0⟩
/-- ERR_EVENT_BUSY (R184). -/
def E.EVENT_BUSY : Err := ⟨0x1008, 0⟩
/-- ERR_EVENT_QUOTA (R184). -/
def E.EVENT_QUOTA : Err := ⟨0x1009, 0⟩
/-- ERR_QUEUE_TIMEOUT (R184). -/
def E.QUEUE_TIMEOUT : Err := ⟨0x100A, 2⟩
/-- ERR_WAIT_TIMEOUT (R184). -/
def E.WAIT_TIMEOUT : Err := ⟨0x100B, 2⟩
/-- ERR_RING_READ (R184). -/
def E.RING_READ : Err := ⟨0x100C, 2⟩
/-- ERR_CTX_DESC (R184). -/
def E.CTX_DESC : Err := ⟨0x100D, 0⟩
/-- ERR_CTX_NONE (R184). -/
def E.CTX_NONE : Err := ⟨0x100E, 0⟩
/-- ERR_CTX_HANDLE (R184). -/
def E.CTX_HANDLE : Err := ⟨0x100F, 0⟩
/-- ERR_CTX_DESTROYED (R184). -/
def E.CTX_DESTROYED : Err := ⟨0x1010, 0⟩
/-- ERR_QUEUE_FAULTED (R184). -/
def E.QUEUE_FAULTED : Err := ⟨0x1011, 0⟩
/-- ERR_SIGNAL_TIMEOUT (R184). -/
def E.SIGNAL_TIMEOUT : Err := ⟨0x1012, 0⟩
/-- ERR_UNIT_DISABLED (R184). -/
def E.UNIT_DISABLED : Err := ⟨0x1013, 0⟩
/-- ERR_REPLY_WRITE (R184). -/
def E.REPLY_WRITE : Err := ⟨0x1014, 0⟩
/-- ERR_CFE_CFG_WRITE (R184). -/
def E.CFE_CFG_WRITE : Err := ⟨0x1015, 0⟩
/-- ERR_QUEUE_STATE (R184). -/
def E.QUEUE_STATE : Err := ⟨0x1016, 0⟩
/-- ERR_TMPL_INVALID (R111). -/
def E.TMPL_INVALID : Err := ⟨0x2001, 0⟩
/-- ERR_TMPL_NO_SPACE (R111). -/
def E.TMPL_NO_SPACE : Err := ⟨0x2002, 0⟩
/-- ERR_TMPL_HANDLE (R111). -/
def E.TMPL_HANDLE : Err := ⟨0x2003, 0⟩
/-- ERR_TMPL_STALE (R111). -/
def E.TMPL_STALE : Err := ⟨0x2004, 0⟩
/-- ERR_TMPL_READ (R111). -/
def E.TMPL_READ : Err := ⟨0x2005, 0⟩
/-- ERR_PATCH_INVALID (R111). -/
def E.PATCH_INVALID : Err := ⟨0x2006, 0⟩
/-- ERR_QUOTA (R111). -/
def E.QUOTA : Err := ⟨0x2007, 0⟩
/-- ERR_NO_INSTANCE_SPACE (R111). -/
def E.NO_INSTANCE_SPACE : Err := ⟨0x2008, 0⟩
/-- ERR_PARAM_READ (R111). -/
def E.PARAM_READ : Err := ⟨0x2009, 2⟩
/-- ERR_PARAM_DESC (R111). -/
def E.PARAM_DESC : Err := ⟨0x200A, 2⟩
/-- ERR_ARG_RANGE (R111). -/
def E.ARG_RANGE : Err := ⟨0x200B, 2⟩
/-- ERR_LAUNCH_ID_WINDOW (R111). -/
def E.LAUNCH_ID_WINDOW : Err := ⟨0x200C, 2⟩
/-- ERR_GS_CFG_WRITE (R111). -/
def E.GS_CFG_WRITE : Err := ⟨0x200D, 0⟩
/-- ERR_DEP_UNDERFLOW (R149). -/
def E.DEP_UNDERFLOW : Err := ⟨0x3001, 2⟩
/-- ERR_SPAWN_DENIED (R149). -/
def E.SPAWN_DENIED : Err := ⟨0x3002, 2⟩
/-- ERR_SPAWN_DESC (R149). -/
def E.SPAWN_DESC : Err := ⟨0x3003, 2⟩
/-- ERR_SPAWN_READ (R149). -/
def E.SPAWN_READ : Err := ⟨0x3004, 2⟩
/-- ERR_SPAWN_OVERFLOW (R149). -/
def E.SPAWN_OVERFLOW : Err := ⟨0x3005, 2⟩
/-- ERR_TILLER_ORPHAN (R149). -/
def E.TILLER_ORPHAN : Err := ⟨0x3006, 0⟩
/-- ERR_DR_CFG_WRITE (R149). -/
def E.DR_CFG_WRITE : Err := ⟨0x3007, 0⟩
/-- ERR_REMOTE_UNBOUND (R330). -/
def E.REMOTE_UNBOUND : Err := ⟨0x3008, 2⟩
/-- ERR_REMOTE_TARGET (R330). -/
def E.REMOTE_TARGET : Err := ⟨0x3009, 2⟩
/-- ERR_REMOTE_EARLY_FULL (R330). -/
def E.REMOTE_EARLY_FULL : Err := ⟨0x300A, 0⟩
/-- ERR_REMOTE_STALE (R330). -/
def E.REMOTE_STALE : Err := ⟨0x300B, 0⟩
/-- ERR_REMOTE_EDGE_TIMEOUT (R330). -/
def E.REMOTE_EDGE_TIMEOUT : Err := ⟨0x300C, 2⟩
/-- ERR_REMOTE_STALL (R330). -/
def E.REMOTE_STALL : Err := ⟨0x300D, 2⟩
/-- ERR_REMOTE_DEPARTED (R330). -/
def E.REMOTE_DEPARTED : Err := ⟨0x300E, 2⟩
/-- ERR_DOMAIN_JOIN (R330). -/
def E.DOMAIN_JOIN : Err := ⟨0x300F, 0⟩
/-- ERR_TASK_FAULT (R149). -/
def E.TASK_FAULT : Err := ⟨0x4001, 2⟩
/-- ERR_TASK_TIMEOUT (R149). -/
def E.TASK_TIMEOUT : Err := ⟨0x4002, 2⟩
/-- ERR_ENGINE_HUNG (R149). -/
def E.ENGINE_HUNG : Err := ⟨0x4003, 2⟩
/-- ERR_NO_ENGINE (R149). -/
def E.NO_ENGINE : Err := ⟨0x4004, 2⟩
/-- ERR_DS_CFG_WRITE (R149). -/
def E.DS_CFG_WRITE : Err := ⟨0x4005, 0⟩
/-- ERR_LINK_VERSION (R80). -/
def E.LINK_VERSION : Err := ⟨0x4101, 0⟩
/-- ERR_LINK_CLASS (R80). -/
def E.LINK_CLASS : Err := ⟨0x4102, 0⟩
/-- ERR_LINK_TIMEOUT (R80). -/
def E.LINK_TIMEOUT : Err := ⟨0x4103, 0⟩
/-- ERR_LINK_LOST (R80). -/
def E.LINK_LOST : Err := ⟨0x4104, 2⟩
/-- ERR_LINK_PROTOCOL (R80). -/
def E.LINK_PROTOCOL : Err := ⟨0x4105, 2⟩
/-- ERR_SEM_HANDLE (R271). -/
def E.SEM_HANDLE : Err := ⟨0x5001, 0⟩
/-- ERR_SEM_SATURATE (R271). -/
def E.SEM_SATURATE : Err := ⟨0x5002, 0⟩
/-- ERR_SEM_UNDERFLOW (R271). -/
def E.SEM_UNDERFLOW : Err := ⟨0x5003, 0⟩
/-- ERR_SEM_PORT (R271). -/
def E.SEM_PORT : Err := ⟨0x5004, 0⟩
/-- ERR_SEM_POST_RANGE (R271). -/
def E.SEM_POST_RANGE : Err := ⟨0x5005, 2⟩
/-- ERR_WATCH_FULL (R271). -/
def E.WATCH_FULL : Err := ⟨0x5006, 0⟩
/-- ERR_WATCH_TARGET (R271). -/
def E.WATCH_TARGET : Err := ⟨0x5007, 0⟩
/-- ERR_WAKE_BIND (R271). -/
def E.WAKE_BIND : Err := ⟨0x5008, 0⟩
/-- ERR_WAKE_TIMEOUT (R271). -/
def E.WAKE_TIMEOUT : Err := ⟨0x5009, 0⟩
/-- ERR_SHEAF_CONFIG (R271). -/
def E.SHEAF_CONFIG : Err := ⟨0x500A, 0⟩
/-- ERR_SHEAF_ARRIVE (R271). -/
def E.SHEAF_ARRIVE : Err := ⟨0x500B, 0⟩
/-- ERR_SHEAF_TIMEOUT (R271). -/
def E.SHEAF_TIMEOUT : Err := ⟨0x500C, 2⟩
/-- ERR_SHEAF_REMOTE (R271). -/
def E.SHEAF_REMOTE : Err := ⟨0x500D, 0⟩
/-- ERR_SM_CFG_WRITE (R271). -/
def E.SM_CFG_WRITE : Err := ⟨0x500E, 0⟩
/-- ERR_MSG_RXQ (R299). -/
def E.MSG_RXQ : Err := ⟨0x6001, 0⟩
/-- ERR_MSG_PART (R299). -/
def E.MSG_PART : Err := ⟨0x6002, 0⟩
/-- ERR_MSG_FIELD (R299). -/
def E.MSG_FIELD : Err := ⟨0x6003, 0⟩
/-- ERR_MSG_ROUTE (R299). -/
def E.MSG_ROUTE : Err := ⟨0x6004, 0⟩
/-- ERR_MSG_FULL (R299). -/
def E.MSG_FULL : Err := ⟨0x6005, 0⟩
/-- ERR_MSG_TOO_LONG (R299). -/
def E.MSG_TOO_LONG : Err := ⟨0x6006, 0⟩
/-- ERR_MSG_SCALE (R299). -/
def E.MSG_SCALE : Err := ⟨0x6007, 0⟩
/-- ERR_MSG_CORE (R299). -/
def E.MSG_CORE : Err := ⟨0x6008, 0⟩
/-- ERR_MSG_REMOTE_BUSY (R299). -/
def E.MSG_REMOTE_BUSY : Err := ⟨0x6009, 0⟩
/-- ERR_MSG_REMOTE_TIMEOUT (R299). -/
def E.MSG_REMOTE_TIMEOUT : Err := ⟨0x600A, 0⟩
/-- ERR_GRANARY_WRITE (R299). -/
def E.GRANARY_WRITE : Err := ⟨0x600B, 2⟩
/-- ERR_GRANARY_READ (R299). -/
def E.GRANARY_READ : Err := ⟨0x600C, 2⟩
/-- ERR_RXQ_CONFIG (R299). -/
def E.RXQ_CONFIG : Err := ⟨0x600D, 0⟩
/-- ERR_STOOK_CONFIG (R299). -/
def E.STOOK_CONFIG : Err := ⟨0x600E, 0⟩
/-- ERR_STOOK_STATE (R299). -/
def E.STOOK_STATE : Err := ⟨0x600F, 0⟩
/-- ERR_STOOK_ROUND (R299). -/
def E.STOOK_ROUND : Err := ⟨0x6010, 0⟩
/-- ERR_STOOK_ORD (R299). -/
def E.STOOK_ORD : Err := ⟨0x6011, 2⟩
/-- ERR_STOOK_POOL (R299). -/
def E.STOOK_POOL : Err := ⟨0x6012, 0⟩
/-- ERR_MH_CFG_WRITE (R299). -/
def E.MH_CFG_WRITE : Err := ⟨0x6013, 0⟩
/-- ERR_SEQ_FULL (R215). -/
def E.SEQ_FULL : Err := ⟨0x7001, 0⟩
/-- ERR_SEQ_QUOTA (R215). -/
def E.SEQ_QUOTA : Err := ⟨0x7002, 0⟩
/-- ERR_SEQ_DESC (R215). -/
def E.SEQ_DESC : Err := ⟨0x7003, 0⟩
/-- ERR_SEQ_HANDLE (R215). -/
def E.SEQ_HANDLE : Err := ⟨0x7004, 0⟩
/-- ERR_SEQ_STATE (R215). -/
def E.SEQ_STATE : Err := ⟨0x7005, 0⟩
/-- ERR_STREAM_STATE (R215). -/
def E.STREAM_STATE : Err := ⟨0x7006, 0⟩
/-- ERR_STREAM_DESC (R215). -/
def E.STREAM_DESC : Err := ⟨0x7007, 0⟩
/-- ERR_STEP_LAUNCH (R215). -/
def E.STEP_LAUNCH : Err := ⟨0x7008, 2⟩
/-- ERR_STEP_WRITE (R215). -/
def E.STEP_WRITE : Err := ⟨0x7009, 2⟩
/-- ERR_STEP_READ (R215). -/
def E.STEP_READ : Err := ⟨0x700A, 2⟩
/-- ERR_STEP_RESULT (R215). -/
def E.STEP_RESULT : Err := ⟨0x700B, 2⟩
/-- ERR_STEP_TAG_BUSY (R215). -/
def E.STEP_TAG_BUSY : Err := ⟨0x700C, 0⟩
/-- ERR_ROWSTORE_FULL (R215). -/
def E.ROWSTORE_FULL : Err := ⟨0x700D, 0⟩
/-- ERR_ERA_ENTRY (R242). -/
def E.ERA_ENTRY : Err := ⟨0x8001, 0⟩
/-- ERR_ERA_CFG_WRITE (R242). -/
def E.ERA_CFG_WRITE : Err := ⟨0x8002, 0⟩
/-- ERR_ERA_BANK_WRITE (R242). -/
def E.ERA_BANK_WRITE : Err := ⟨0x8003, 0⟩
/-- ERR_ERA_RANGE (R242). -/
def E.ERA_RANGE : Err := ⟨0x8004, 2⟩
/-- ERR_ERA_CAND (R242). -/
def E.ERA_CAND : Err := ⟨0x8005, 2⟩
/-- ERR_ERA_READ (R242). -/
def E.ERA_READ : Err := ⟨0x8006, 2⟩
/-- ERR_ERA_WRITE (R242). -/
def E.ERA_WRITE : Err := ⟨0x8007, 2⟩
/-- ERR_ERA_NOTICE (R242). -/
def E.ERA_NOTICE : Err := ⟨0x8008, 2⟩
/-- ERR_BG_MODEL (R352). -/
def E.BG_MODEL : Err := ⟨0x9001, 0⟩
/-- ERR_BG_BANK_WRITE (R352). -/
def E.BG_BANK_WRITE : Err := ⟨0x9002, 0⟩
/-- ERR_BG_CFG_WRITE (R352). -/
def E.BG_CFG_WRITE : Err := ⟨0x9003, 0⟩
/-- ERR_BG_HOT (R352). -/
def E.BG_HOT : Err := ⟨0x9004, 0⟩
/-- ERR_BG_ALONE (R352). -/
def E.BG_ALONE : Err := ⟨0x9005, 0⟩
/-- ERR_PM_LEND_LOST (R352). -/
def E.PM_LEND_LOST : Err := ⟨0x9006, 0⟩
/-- ERR_PM_BUDGET_STALE (R80). -/
def E.PM_BUDGET_STALE : Err := ⟨0x9101, 0⟩
/-- ERR_PSC_SAVESET (R371). -/
def E.PSC_SAVESET : Err := ⟨0xA001, 2⟩
/-- ERR_PSC_SPILL (R371). -/
def E.PSC_SPILL : Err := ⟨0xA002, 2⟩
/-- ERR_PSC_RESTORE (R371). -/
def E.PSC_RESTORE : Err := ⟨0xA003, 2⟩
/-- ERR_PSC_GRANARY_FULL (R371). -/
def E.PSC_GRANARY_FULL : Err := ⟨0xA004, 0⟩
/-- ERR_PSC_NO_SPILL_LINK (R371). -/
def E.PSC_NO_SPILL_LINK : Err := ⟨0xA005, 0⟩
/-- ERR_PSC_CLAIMS_FULL (R371). -/
def E.PSC_CLAIMS_FULL : Err := ⟨0xA006, 0⟩
/-- ERR_PSC_CFG_WRITE (R371). -/
def E.PSC_CFG_WRITE : Err := ⟨0xA007, 0⟩
/-- ERR_DC_CFG_WRITE (R395). -/
def E.DC_CFG_WRITE : Err := ⟨0xB001, 0⟩
/-- ERR_LOG_GAP (R395). -/
def E.LOG_GAP : Err := ⟨0xB002, 0⟩
/-- ERR_LOG_WRITE (R395). -/
def E.LOG_WRITE : Err := ⟨0xB003, 0⟩
/-- ERR_REPLAY_STALL (R395). -/
def E.REPLAY_STALL : Err := ⟨0xB004, 0⟩
/-- ERR_REPLAY_DIVERGE (R395). -/
def E.REPLAY_DIVERGE : Err := ⟨0xB005, 0⟩
/-- ERR_REPLAY_READ (R395). -/
def E.REPLAY_READ : Err := ⟨0xB006, 0⟩
/-- ERR_CKPT_WRITE (R395). -/
def E.CKPT_WRITE : Err := ⟨0xB007, 0⟩
/-- ERR_TAG_WINDOW (R395). -/
def E.TAG_WINDOW : Err := ⟨0xB008, 2⟩
/-- ERR_ENCLAVE_LOCK (R420). -/
def E.ENCLAVE_LOCK : Err := ⟨0xC001, 0⟩
/-- ERR_ENCLAVE_WRITE (R420). -/
def E.ENCLAVE_WRITE : Err := ⟨0xC002, 0⟩
/-- ERR_GRANARY_RANGE (R420). -/
def E.GRANARY_RANGE : Err := ⟨0xC003, 2⟩
/-- ERR_TEARDOWN (R420). -/
def E.TEARDOWN : Err := ⟨0xC004, 0⟩
/-- ERR_SCRUB_WRITE (R420). -/
def E.SCRUB_WRITE : Err := ⟨0xC005, 2⟩
/-- ERR_ACCT_LATE (R420). -/
def E.ACCT_LATE : Err := ⟨0xC006, 0⟩
/-- ERR_ACCT_WRITE (R420). -/
def E.ACCT_WRITE : Err := ⟨0xC007, 0⟩
/-- ERR_PAU_CFG_WRITE (R420). -/
def E.PAU_CFG_WRITE : Err := ⟨0xC008, 0⟩
/-- ERR_ECC_CORRECTED (R449). -/
def E.ECC_CORRECTED : Err := ⟨0xD001, 1⟩
/-- ERR_ECC_UNCORRECTED (R449). -/
def E.ECC_UNCORRECTED : Err := ⟨0xD002, 2⟩
/-- ERR_HUSK (R449). -/
def E.HUSK : Err := ⟨0xD003, 2⟩
/-- ERR_TMPL_DAMAGED (R449). -/
def E.TMPL_DAMAGED : Err := ⟨0xD004, 2⟩
/-- ERR_CONFIG_CRC (R449). -/
def E.CONFIG_CRC : Err := ⟨0xD005, 0⟩
/-- ERR_SLICE_WATCHDOG (R449). -/
def E.SLICE_WATCHDOG : Err := ⟨0xD006, 3⟩
/-- ERR_THRESHER_HEARTBEAT (R449). -/
def E.THRESHER_HEARTBEAT : Err := ⟨0xD007, 3⟩
/-- ERR_THRESHER_RESTART (R449). -/
def E.THRESHER_RESTART : Err := ⟨0xD008, 0⟩
/-- ERR_BLOCK_RESTART (R449). -/
def E.BLOCK_RESTART : Err := ⟨0xD009, 4⟩
/-- ERR_REPLAY_LIMIT (R449). -/
def E.REPLAY_LIMIT : Err := ⟨0xD00A, 0⟩
/-- ERR_SCRUB_BEHIND (R449). -/
def E.SCRUB_BEHIND : Err := ⟨0xD00B, 0⟩
/-- ERR_GLEANER_WRITE (R449). -/
def E.GLEANER_WRITE : Err := ⟨0xD00C, 0⟩
/-- ERR_IFM_CFG_WRITE (R449). -/
def E.IFM_CFG_WRITE : Err := ⟨0xD00D, 0⟩
/-- ERR_MM_RESPONSE (R80). -/
def E.MM_RESPONSE : Err := ⟨0xD101, 2⟩
/-- ERR_FP_VERSION (R80). -/
def E.FP_VERSION : Err := ⟨0xD102, 0⟩
/-- ERR_FP_PROTOCOL (R80). -/
def E.FP_PROTOCOL : Err := ⟨0xD103, 0⟩
/-- ERR_DBG_CFG_WRITE (R513). -/
def E.DBG_CFG_WRITE : Err := ⟨0xE001, 0⟩
/-- ERR_TRACE_WRITE (R513). -/
def E.TRACE_WRITE : Err := ⟨0xE002, 0⟩
/-- ERR_FW_FORMAT (R500). -/
def E.FW_FORMAT : Err := ⟨0xF001, 3⟩
/-- ERR_FW_VERSION (R500). -/
def E.FW_VERSION : Err := ⟨0xF002, 3⟩
/-- ERR_FW_KEY (R500). -/
def E.FW_KEY : Err := ⟨0xF003, 3⟩
/-- ERR_FW_SIGNATURE (R500). -/
def E.FW_SIGNATURE : Err := ⟨0xF004, 3⟩
/-- ERR_QUIESCE_KILL (R500). -/
def E.QUIESCE_KILL : Err := ⟨0xF005, 2⟩
/-- ERR_SURPRISE_ISOLATION (R500). -/
def E.SURPRISE_ISOLATION : Err := ⟨0xF006, 0⟩
/-- ERR_SELF_CHANGED (R500). -/
def E.SELF_CHANGED : Err := ⟨0xF007, 0⟩
/-- ERR_MBIST_FAIL (R500). -/
def E.MBIST_FAIL : Err := ⟨0xF008, 0⟩
/-- ERR_TAP_REFUSED (R500). -/
def E.TAP_REFUSED : Err := ⟨0xF009, 0⟩
/-- ERR_THR_CFG_WRITE (R500). -/
def E.THR_CFG_WRITE : Err := ⟨0xF00A, 0⟩

/-- An error with the severity of a row of R422. -/
def Err.withSev (e : Err) (s : Nat) : Err := ⟨e.code, s⟩

end Sys2Proof.Machine
end

