-- ==== Sys2Proof/Machine/Tab.lean ====
section
/-! DEFINITION. Sparse tables in one canonical form: keys strictly rising, and no entry equal to what an unlisted key reads
as.  Lookup, update, and the keys of the SRAM tables of R472. -/

namespace Sys2Proof.Machine

/-- The word at key `k`: the listed one, or the default `d k`. -/
def Tab.get (d : Nat → Word) : Tab → Nat → Word
  | [], k => d k
  | (j, v) :: t, k => if k = j then v else if k < j then d k else Tab.get d t k

/-- The table with `v` at key `k`; writing what an unlisted key reads as removes the entry. -/
def Tab.set (d : Nat → Word) : Tab → Nat → Word → Tab
  | [], k, v => if v = d k then [] else [(k, v)]
  | (j, w) :: t, k, v =>
    if k = j then (if v = d k then t else (k, v) :: t)
    else if k < j then (if v = d k then (j, w) :: t else (k, v) :: (j, w) :: t)
    else (j, w) :: Tab.set d t k v

/-- Every key of the table is above `lo`, the keys rise strictly, and no entry equals the default. -/
def Tab.wfFrom (d : Nat → Word) : Option Nat → Tab → Bool
  | _, [] => true
  | lo, (k, v) :: t =>
    (match lo with
     | none => true
     | some l => decide (l < k)) && decide (v ≠ d k) && Tab.wfFrom d (some k) t

/-- The canonical form. -/
def Tab.wf (d : Nat → Word) (t : Tab) : Bool := Tab.wfFrom d none t

/-- The table without the entries whose key satisfies `p`: those keys read as the default again. -/
def Tab.drop (p : Nat → Bool) (t : Tab) : Tab := t.filter fun e => !p e.1

/-- Table identifiers of R472 that have rows in SRAM, shifted to the top of the key of a word. -/
def ramKey (tid word : Nat) : Nat := 2 ^ 24 * tid + word

/-- What a word of SRAM holds after CLEAR (R480), and at reset (notes/assumptions/2.md): zero, with the complement half of
every Husk pair all ones; GL_DUR reads 256 (R394). -/
def ramDefault (k : Nat) : Word :=
  let w := k % 2 ^ 24
  match k / 2 ^ 24 with
  | 0x01 => match w % 8 with
    | 1 => 0x00FFF000#32
    | 3 => 0x003FFFFF#32
    | 4 => 0x00FFF000#32
    | _ => 0#32
  | 0x07 => if w % 16 = 5 then 0x00FFFFFF#32 else 0#32
  | 0x09 => if w % 4 = 1 then 0xFFFFFFFF#32 else 0#32
  | 0x18 => if w % 4 = 3 then 0xFFFFFFFF#32 else 0#32
  | 0x1B => 256#32
  | _ => 0#32

end Sys2Proof.Machine
end

