-- ==== Sys2Proof/Machine/Layouts.lean ====
section
/-! DEFINITION. The fields of records and table entries: the word, the top bit and the bottom bit of each, as the
layout tables of the spec give them. -/

namespace Sys2Proof.Machine

/-- A field of a record or table entry: word, top bit, bottom bit. -/
structure Fld where
  w : Nat
  hi : Nat
  lo : Nat
deriving DecidableEq, Repr

/-- NODE of an issue record (R49). -/
def Iss.NODE : Fld := ⟨0, 19, 0⟩
/-- NGEN of an issue record (R49). -/
def Iss.NGEN : Fld := ⟨0, 27, 20⟩
/-- CLASS of an issue record (R49). -/
def Iss.CLASS : Fld := ⟨0, 31, 28⟩
/-- STEP_TAG of an issue record (R49). -/
def Iss.STEP_TAG : Fld := ⟨1, 15, 0⟩
/-- LEVEL of an issue record (R49). -/
def Iss.LEVEL : Fld := ⟨1, 18, 16⟩
/-- PART of an issue record (R49). -/
def Iss.PART : Fld := ⟨1, 22, 19⟩
/-- ENCL of an issue record (R49). -/
def Iss.ENCL : Fld := ⟨1, 23, 23⟩
/-- ACQ_SCOPE of an issue record (R49). -/
def Iss.ACQ_SCOPE : Fld := ⟨1, 25, 24⟩
/-- SPAWN_EN of an issue record (R49). -/
def Iss.SPAWN_EN : Fld := ⟨1, 26, 26⟩
/-- INTERNAL of an issue record (R49). -/
def Iss.INTERNAL : Fld := ⟨1, 27, 27⟩
/-- RECTYPE of an issue record (R49). -/
def Iss.RECTYPE : Fld := ⟨1, 31, 28⟩
/-- OP_INDEX of an issue record (R49). -/
def Iss.OP_INDEX : Fld := ⟨2, 31, 0⟩
/-- ARG_ADDR of an issue record (R49). -/
def Iss.ARG_ADDR : Fld := ⟨3, 31, 0⟩
/-- LAUNCH_SLOT of an issue record (R49). -/
def Iss.LAUNCH_SLOT : Fld := ⟨4, 31, 20⟩
/-- LAUNCH_ID of an issue record (R49). -/
def Iss.LAUNCH_ID : Fld := ⟨5, 31, 0⟩
/-- ISSUE_GC of an issue record (R49). -/
def Iss.ISSUE_GC : Fld := ⟨6, 31, 0⟩
/-- SAVE_SET of an issue record (R49). -/
def Iss.SAVE_SET : Fld := ⟨7, 7, 0⟩
/-- NODE of a completion record (R51). -/
def Cmp.NODE : Fld := ⟨0, 19, 0⟩
/-- NGEN of a completion record (R51). -/
def Cmp.NGEN : Fld := ⟨0, 27, 20⟩
/-- KIND of a completion record (R51). -/
def Cmp.KIND : Fld := ⟨0, 31, 28⟩
/-- STEP_TAG of a completion record (R51). -/
def Cmp.STEP_TAG : Fld := ⟨1, 15, 0⟩
/-- VALUE of a completion record (R51). -/
def Cmp.VALUE : Fld := ⟨1, 31, 16⟩
/-- TYPE of a flit header (R66). -/
def Fl.TYPE : Fld := ⟨0, 7, 0⟩
/-- DST_DEV of a flit header (R66). -/
def Fl.DST_DEV : Fld := ⟨0, 19, 8⟩
/-- SRC_DEV of a flit header (R66). -/
def Fl.SRC_DEV : Fld := ⟨0, 31, 20⟩
/-- PART of a flit header (R66). -/
def Fl.PART : Fld := ⟨1, 3, 0⟩
/-- ENCL of a flit header (R66). -/
def Fl.ENCL : Fld := ⟨1, 4, 4⟩
/-- LAST of a flit header (R66). -/
def Fl.LAST : Fld := ⟨1, 5, 5⟩
/-- LEN of a flit header (R66). -/
def Fl.LEN : Fld := ⟨1, 15, 8⟩
/-- SEQ of a flit header (R66). -/
def Fl.SEQ : Fld := ⟨2, 31, 0⟩
/-- PAYLOAD of a flit header (R66). -/
def Fl.PAYLOAD : Fld := ⟨3, 31, 0⟩
/-- STATE of a Node Table entry (R81). -/
def Nd.STATE : Fld := ⟨0, 3, 0⟩
/-- CLASS of a Node Table entry (R81). -/
def Nd.CLASS : Fld := ⟨0, 7, 4⟩
/-- LEVEL of a Node Table entry (R81). -/
def Nd.LEVEL : Fld := ⟨0, 10, 8⟩
/-- PART of a Node Table entry (R81). -/
def Nd.PART : Fld := ⟨0, 14, 11⟩
/-- NGEN of a Node Table entry (R81). -/
def Nd.NGEN : Fld := ⟨0, 23, 16⟩
/-- JOIN of a Node Table entry (R81). -/
def Nd.JOIN : Fld := ⟨0, 24, 24⟩
/-- SINK of a Node Table entry (R81). -/
def Nd.SINK : Fld := ⟨0, 25, 25⟩
/-- SPAWN_EN of a Node Table entry (R81). -/
def Nd.SPAWN_EN : Fld := ⟨0, 26, 26⟩
/-- SKIP_OK of a Node Table entry (R81). -/
def Nd.SKIP_OK : Fld := ⟨0, 27, 27⟩
/-- LEVEL_PIN of a Node Table entry (R81). -/
def Nd.LEVEL_PIN : Fld := ⟨0, 28, 28⟩
/-- DEP_COUNT of a Node Table entry (R81). -/
def Nd.DEP_COUNT : Fld := ⟨1, 11, 0⟩
/-- DEP_COUNT_N of a Node Table entry (R81). -/
def Nd.DEP_COUNT_N : Fld := ⟨1, 23, 12⟩
/-- ENERGY_CLASS of a Node Table entry (R81). -/
def Nd.ENERGY_CLASS : Fld := ⟨1, 29, 24⟩
/-- ACQ_SCOPE of a Node Table entry (R81). -/
def Nd.ACQ_SCOPE : Fld := ⟨1, 31, 30⟩
/-- SUCC_BASE of a Node Table entry (R81). -/
def Nd.SUCC_BASE : Fld := ⟨2, 21, 0⟩
/-- SUCC_BASE_N of a Node Table entry (R81). -/
def Nd.SUCC_BASE_N : Fld := ⟨3, 21, 0⟩
/-- SUCC_COUNT of a Node Table entry (R81). -/
def Nd.SUCC_COUNT : Fld := ⟨4, 11, 0⟩
/-- SUCC_COUNT_N of a Node Table entry (R81). -/
def Nd.SUCC_COUNT_N : Fld := ⟨4, 23, 12⟩
/-- SAVE_SET of a Node Table entry (R81). -/
def Nd.SAVE_SET : Fld := ⟨4, 31, 24⟩
/-- OP_INDEX of a Node Table entry (R81). -/
def Nd.OP_INDEX : Fld := ⟨5, 31, 0⟩
/-- LAUNCH_SLOT of a Node Table entry (R81). -/
def Nd.LAUNCH_SLOT : Fld := ⟨6, 11, 0⟩
/-- DEP_INIT of a Node Table entry (R81). -/
def Nd.DEP_INIT : Fld := ⟨6, 23, 12⟩
/-- ARG_OFFSET of a Node Table entry (R81). -/
def Nd.ARG_OFFSET : Fld := ⟨7, 31, 0⟩
/-- TYPE of an Edge Table entry (R85). -/
def Ed.TYPE : Fld := ⟨0, 1, 0⟩
/-- TARGET of an Edge Table entry (R85). -/
def Ed.TARGET : Fld := ⟨0, 21, 2⟩
/-- TARGET_DEV of an Edge Table entry (R85). -/
def Ed.TARGET_DEV : Fld := ⟨1, 11, 0⟩
/-- TAG of an Edge Table entry (R85). -/
def Ed.TAG : Fld := ⟨1, 19, 12⟩
/-- AMOUNT of an Edge Table entry (R85). -/
def Ed.AMOUNT : Fld := ⟨1, 31, 20⟩
/-- STATE of a Template Directory entry (R89). -/
def Dir.STATE : Fld := ⟨0, 3, 0⟩
/-- PART of a Template Directory entry (R89). -/
def Dir.PART : Fld := ⟨0, 7, 4⟩
/-- GEN of a Template Directory entry (R89). -/
def Dir.GEN : Fld := ⟨0, 31, 20⟩
/-- NODE_BASE of a Template Directory entry (R89). -/
def Dir.NODE_BASE : Fld := ⟨1, 19, 0⟩
/-- NODE_COUNT of a Template Directory entry (R89). -/
def Dir.NODE_COUNT : Fld := ⟨2, 18, 0⟩
/-- EDGE_BASE of a Template Directory entry (R89). -/
def Dir.EDGE_BASE : Fld := ⟨3, 21, 0⟩
/-- EDGE_COUNT of a Template Directory entry (R89). -/
def Dir.EDGE_COUNT : Fld := ⟨4, 20, 0⟩
/-- SINK of a Template Directory entry (R89). -/
def Dir.SINK : Fld := ⟨5, 17, 0⟩
/-- ROOT_COUNT of a Template Directory entry (R89). -/
def Dir.ROOT_COUNT : Fld := ⟨6, 18, 0⟩
/-- READERS of a Template Directory entry (R89). -/
def Dir.READERS : Fld := ⟨7, 11, 0⟩
/-- FORMAT of a load-image header (R90). -/
def Img.FORMAT : Fld := ⟨0, 31, 0⟩
/-- NODE_COUNT of a load-image header (R90). -/
def Img.NODE_COUNT : Fld := ⟨1, 31, 0⟩
/-- EDGE_COUNT of a load-image header (R90). -/
def Img.EDGE_COUNT : Fld := ⟨2, 31, 0⟩
/-- ROOT_COUNT of a load-image header (R90). -/
def Img.ROOT_COUNT : Fld := ⟨3, 31, 0⟩
/-- SINK of a load-image header (R90). -/
def Img.SINK : Fld := ⟨4, 31, 0⟩
/-- KIND of a patch record (R93). -/
def Pat.KIND : Fld := ⟨0, 1, 0⟩
/-- INDEX of a patch record (R93). -/
def Pat.INDEX : Fld := ⟨0, 21, 2⟩
/-- WORD of a patch record (R93). -/
def Pat.WORD : Fld := ⟨0, 24, 22⟩
/-- MASK of a patch record (R93). -/
def Pat.MASK : Fld := ⟨1, 31, 0⟩
/-- VALUE of a patch record (R93). -/
def Pat.VALUE : Fld := ⟨2, 31, 0⟩
/-- STATE of a launch slot (R100). -/
def Sl.STATE : Fld := ⟨0, 3, 0⟩
/-- PART of a launch slot (R100). -/
def Sl.PART : Fld := ⟨0, 7, 4⟩
/-- WAITS_CLEAR of a launch slot (R100). -/
def Sl.WAITS_CLEAR : Fld := ⟨0, 8, 8⟩
/-- PARAM_READY of a launch slot (R100). -/
def Sl.PARAM_READY : Fld := ⟨0, 9, 9⟩
/-- TMPL_GEN of a launch slot (R100). -/
def Sl.TMPL_GEN : Fld := ⟨0, 31, 20⟩
/-- LAUNCH_ID of a launch slot (R100). -/
def Sl.LAUNCH_ID : Fld := ⟨1, 31, 0⟩
/-- NODE_BASE of a launch slot (R100). -/
def Sl.NODE_BASE : Fld := ⟨2, 19, 0⟩
/-- NODE_COUNT of a launch slot (R100). -/
def Sl.NODE_COUNT : Fld := ⟨3, 18, 0⟩
/-- EDGE_BASE of a launch slot (R100). -/
def Sl.EDGE_BASE : Fld := ⟨4, 21, 0⟩
/-- EDGE_COUNT of a launch slot (R100). -/
def Sl.EDGE_COUNT : Fld := ⟨5, 20, 0⟩
/-- ARG_BASE of a launch slot (R100). -/
def Sl.ARG_BASE : Fld := ⟨6, 31, 0⟩
/-- TMPL_INDEX of a launch slot (R100). -/
def Sl.TMPL_INDEX : Fld := ⟨7, 31, 20⟩
/-- ARG_LIMIT of a launch slot (R100). -/
def Sl.ARG_LIMIT : Fld := ⟨8, 31, 0⟩
/-- CONTEXT of a launch slot (R100). -/
def Sl.CONTEXT : Fld := ⟨9, 9, 0⟩
/-- QUEUE of a launch slot (R100). -/
def Sl.QUEUE : Fld := ⟨9, 12, 10⟩
/-- SINK of a launch slot (R100). -/
def Sl.SINK : Fld := ⟨10, 19, 0⟩
/-- STEP_TAG of a launch slot (R100). -/
def Sl.STEP_TAG : Fld := ⟨11, 15, 0⟩
/-- CLAIM_GC of a launch slot (R100). -/
def Sl.CLAIM_GC : Fld := ⟨12, 31, 0⟩
/-- CLASS of a spawn descriptor (R133). -/
def Sp.CLASS : Fld := ⟨0, 3, 0⟩
/-- COUNT of a spawn descriptor (R133). -/
def Sp.COUNT : Fld := ⟨0, 8, 4⟩
/-- ENERGY_CLASS of a spawn descriptor (R133). -/
def Sp.ENERGY_CLASS : Fld := ⟨0, 14, 9⟩
/-- ACQ_SCOPE of a spawn descriptor (R133). -/
def Sp.ACQ_SCOPE : Fld := ⟨0, 16, 15⟩
/-- SAVE_SET of a spawn descriptor (R133). -/
def Sp.SAVE_SET : Fld := ⟨0, 24, 17⟩
/-- OP_INDEX of a spawn descriptor (R133). -/
def Sp.OP_INDEX : Fld := ⟨1, 31, 0⟩
/-- ARG_OFFSET of a spawn descriptor (R133). -/
def Sp.ARG_OFFSET : Fld := ⟨2, 31, 0⟩
/-- ARG_STRIDE of a spawn descriptor (R133). -/
def Sp.ARG_STRIDE : Fld := ⟨3, 31, 0⟩
/-- EDGE_TARGET of a spawn descriptor (R133). -/
def Sp.EDGE_TARGET : Fld := ⟨4, 19, 0⟩
/-- AMOUNT of a spawn descriptor (R133). -/
def Sp.AMOUNT : Fld := ⟨4, 31, 20⟩
/-- REMAINDER of a spawn descriptor (R133). -/
def Sp.REMAINDER : Fld := ⟨5, 11, 0⟩
/-- DESC_VER of a spawn descriptor (R133). -/
def Sp.DESC_VER : Fld := ⟨6, 31, 0⟩
/-- LSTATE of a link status entry (R148). -/
def Lk.LSTATE : Fld := ⟨0, 2, 0⟩
/-- DISABLED of a link status entry (R148). -/
def Lk.DISABLED : Fld := ⟨0, 3, 3⟩
/-- CLASS of a link status entry (R148). -/
def Lk.CLASS : Fld := ⟨0, 7, 4⟩
/-- PROTO of a link status entry (R148). -/
def Lk.PROTO : Fld := ⟨0, 9, 8⟩
/-- CREDITS_ADV of a link status entry (R148). -/
def Lk.CREDITS_ADV : Fld := ⟨0, 13, 10⟩
/-- CREDITS_NOW of a link status entry (R148). -/
def Lk.CREDITS_NOW : Fld := ⟨0, 17, 14⟩
/-- OUTSTANDING of a link status entry (R148). -/
def Lk.OUTSTANDING : Fld := ⟨0, 21, 18⟩
/-- TELEM of a link status entry (R148). -/
def Lk.TELEM : Fld := ⟨0, 22, 22⟩
/-- SPAWN of a link status entry (R148). -/
def Lk.SPAWN : Fld := ⟨0, 23, 23⟩
/-- ENGINE_ID of a link status entry (R148). -/
def Lk.ENGINE_ID : Fld := ⟨1, 31, 0⟩
/-- STATE of a Sequence Table entry (R185). -/
def Sq.STATE : Fld := ⟨0, 3, 0⟩
/-- PART of a Sequence Table entry (R185). -/
def Sq.PART : Fld := ⟨0, 7, 4⟩
/-- CLASS of a Sequence Table entry (R185). -/
def Sq.CLASS : Fld := ⟨0, 10, 8⟩
/-- HOLD of a Sequence Table entry (R185). -/
def Sq.HOLD : Fld := ⟨0, 11, 11⟩
/-- KV_DEFER of a Sequence Table entry (R185). -/
def Sq.KV_DEFER : Fld := ⟨0, 12, 12⟩
/-- REASON of a Sequence Table entry (R185). -/
def Sq.REASON : Fld := ⟨0, 15, 13⟩
/-- GEN of a Sequence Table entry (R185). -/
def Sq.GEN : Fld := ⟨0, 31, 20⟩
/-- ADMIT_NO of a Sequence Table entry (R185). -/
def Sq.ADMIT_NO : Fld := ⟨1, 31, 0⟩
/-- PROMPT_LEN of a Sequence Table entry (R185). -/
def Sq.PROMPT_LEN : Fld := ⟨2, 23, 0⟩
/-- MAX_LEN of a Sequence Table entry (R185). -/
def Sq.MAX_LEN : Fld := ⟨3, 23, 0⟩
/-- POS of a Sequence Table entry (R185). -/
def Sq.POS : Fld := ⟨4, 23, 0⟩
/-- POS_N of a Sequence Table entry (R185). -/
def Sq.POS_N : Fld := ⟨5, 23, 0⟩
/-- SEED of a Sequence Table entry (R185). -/
def Sq.SEED : Fld := ⟨6, 31, 0⟩
/-- KV_LIST of a Sequence Table entry (R185). -/
def Sq.KV_LIST : Fld := ⟨8, 31, 0⟩
/-- KV_BLOCKS of a Sequence Table entry (R185). -/
def Sq.KV_BLOCKS : Fld := ⟨10, 19, 0⟩
/-- TOKEN_BUF of a Sequence Table entry (R185). -/
def Sq.TOKEN_BUF : Fld := ⟨11, 31, 0⟩
/-- PEND_TOK of a Sequence Table entry (R185). -/
def Sq.PEND_TOK : Fld := ⟨13, 23, 0⟩
/-- PEND_ROWS of a Sequence Table entry (R185). -/
def Sq.PEND_ROWS : Fld := ⟨13, 25, 24⟩
/-- KV_CONF of a Sequence Table entry (R185). -/
def Sq.KV_CONF : Fld := ⟨14, 19, 0⟩
/-- USER of a Sequence Table entry (R185). -/
def Sq.USER : Fld := ⟨15, 31, 0⟩
/-- CLASS of a SEQ_ADMIT packet (R189). -/
def Adm.CLASS : Fld := ⟨1, 2, 0⟩
/-- HOLD of a SEQ_ADMIT packet (R189). -/
def Adm.HOLD : Fld := ⟨1, 3, 3⟩
/-- PROMPT_LEN of a SEQ_ADMIT packet (R189). -/
def Adm.PROMPT_LEN : Fld := ⟨2, 23, 0⟩
/-- POS of a SEQ_ADMIT packet (R189). -/
def Adm.POS : Fld := ⟨3, 23, 0⟩
/-- MAX_LEN of a SEQ_ADMIT packet (R189). -/
def Adm.MAX_LEN : Fld := ⟨4, 23, 0⟩
/-- SEED of a SEQ_ADMIT packet (R189). -/
def Adm.SEED : Fld := ⟨5, 31, 0⟩
/-- KV_LIST of a SEQ_ADMIT packet (R189). -/
def Adm.KV_LIST : Fld := ⟨7, 31, 0⟩
/-- KV_BLOCKS of a SEQ_ADMIT packet (R189). -/
def Adm.KV_BLOCKS : Fld := ⟨9, 19, 0⟩
/-- TOKEN_BUF of a SEQ_ADMIT packet (R189). -/
def Adm.TOKEN_BUF : Fld := ⟨10, 31, 0⟩
/-- USER of a SEQ_ADMIT packet (R189). -/
def Adm.USER : Fld := ⟨12, 31, 0⟩
/-- DESC_VER of a stream descriptor (R194). -/
def Str.DESC_VER : Fld := ⟨0, 31, 0⟩
/-- TEMPLATE of a stream descriptor (R194). -/
def Str.TEMPLATE : Fld := ⟨1, 31, 0⟩
/-- START_STEP of a stream descriptor (R194). -/
def Str.START_STEP : Fld := ⟨2, 31, 0⟩
/-- STEP_EVENT of a stream descriptor (R194). -/
def Str.STEP_EVENT : Fld := ⟨4, 31, 0⟩
/-- LEVEL of a stream descriptor (R194). -/
def Str.LEVEL : Fld := ⟨5, 2, 0⟩
/-- FINISH_LOG2 of a stream descriptor (R194). -/
def Str.FINISH_LOG2 : Fld := ⟨5, 7, 3⟩
/-- BUF0 of a stream descriptor (R194). -/
def Str.BUF0 : Fld := ⟨6, 31, 0⟩
/-- BUF1 of a stream descriptor (R194). -/
def Str.BUF1 : Fld := ⟨8, 31, 0⟩
/-- ARG_LIMIT of a stream descriptor (R194). -/
def Str.ARG_LIMIT : Fld := ⟨10, 31, 0⟩
/-- WL_OFFSET of a stream descriptor (R194). -/
def Str.WL_OFFSET : Fld := ⟨11, 31, 0⟩
/-- RES_OFFSET of a stream descriptor (R194). -/
def Str.RES_OFFSET : Fld := ⟨12, 31, 0⟩
/-- DESC0 of a stream descriptor (R194). -/
def Str.DESC0 : Fld := ⟨13, 31, 0⟩
/-- FINISH_RING of a stream descriptor (R194). -/
def Str.FINISH_RING : Fld := ⟨15, 31, 0⟩
/-- STEP_COUNT of a stream descriptor (R194). -/
def Str.STEP_COUNT : Fld := ⟨17, 31, 0⟩
/-- KV_FREE of a stream descriptor (R194). -/
def Str.KV_FREE : Fld := ⟨18, 31, 0⟩
/-- VALID of a route-layer entry (R216). -/
def Rl.VALID : Fld := ⟨0, 0, 0⟩
/-- MODE of a route-layer entry (R216). -/
def Rl.MODE : Fld := ⟨0, 1, 1⟩
/-- K of a route-layer entry (R216). -/
def Rl.K : Fld := ⟨0, 5, 2⟩
/-- FMT of a route-layer entry (R216). -/
def Rl.FMT : Fld := ⟨0, 7, 6⟩
/-- CAP_MODE of a route-layer entry (R216). -/
def Rl.CAP_MODE : Fld := ⟨0, 8, 8⟩
/-- PUB of a route-layer entry (R216). -/
def Rl.PUB : Fld := ⟨0, 9, 9⟩
/-- CAND of a route-layer entry (R216). -/
def Rl.CAND : Fld := ⟨0, 20, 16⟩
/-- EXPERTS of a route-layer entry (R216). -/
def Rl.EXPERTS : Fld := ⟨1, 9, 0⟩
/-- ROUTER_COUNT of a route-layer entry (R216). -/
def Rl.ROUTER_COUNT : Fld := ⟨1, 22, 16⟩
/-- ROUTER_BASE of a route-layer entry (R216). -/
def Rl.ROUTER_BASE : Fld := ⟨2, 17, 0⟩
/-- IN_OFFSET of a route-layer entry (R216). -/
def Rl.IN_OFFSET : Fld := ⟨3, 31, 0⟩
/-- LIST_OFFSET of a route-layer entry (R216). -/
def Rl.LIST_OFFSET : Fld := ⟨4, 31, 0⟩
/-- OUT_OFFSET of a route-layer entry (R216). -/
def Rl.OUT_OFFSET : Fld := ⟨5, 31, 0⟩
/-- CAPACITY of a route-layer entry (R216). -/
def Rl.CAPACITY : Fld := ⟨6, 15, 0⟩
/-- LIST_MAX of a route-layer entry (R216). -/
def Rl.LIST_MAX : Fld := ⟨6, 31, 16⟩
/-- BIAS_INDEX of a route-layer entry (R216). -/
def Rl.BIAS_INDEX : Fld := ⟨7, 14, 0⟩
/-- SEED_INDEX of a route-layer entry (R216). -/
def Rl.SEED_INDEX : Fld := ⟨7, 27, 16⟩
/-- PUB_OFFSET of a route-layer entry (R216). -/
def Rl.PUB_OFFSET : Fld := ⟨8, 31, 0⟩
/-- TSKIP_OFFSET of a route-layer entry (R216). -/
def Rl.TSKIP_OFFSET : Fld := ⟨9, 31, 0⟩
/-- RXQ_BASE of a route-layer entry (R216). -/
def Rl.RXQ_BASE : Fld := ⟨10, 11, 0⟩
/-- TILE_BASE of a route-layer entry (R216). -/
def Rl.TILE_BASE : Fld := ⟨11, 17, 0⟩
/-- TILE_COUNT of a route-layer entry (R216). -/
def Rl.TILE_COUNT : Fld := ⟨12, 15, 0⟩
/-- TILE_LOG2 of a route-layer entry (R216). -/
def Rl.TILE_LOG2 : Fld := ⟨12, 19, 16⟩
/-- SKIP_BASE of a route-layer entry (R216). -/
def Rl.SKIP_BASE : Fld := ⟨13, 17, 0⟩
/-- SKIP_COUNT of a route-layer entry (R216). -/
def Rl.SKIP_COUNT : Fld := ⟨14, 18, 0⟩
/-- VALUE of a semaphore (R245). -/
def Sem.VALUE : Fld := ⟨0, 31, 0⟩
/-- VALUE_N of a semaphore (R245). -/
def Sem.VALUE_N : Fld := ⟨1, 31, 0⟩
/-- SAT of a semaphore (R245). -/
def Sem.SAT : Fld := ⟨2, 0, 0⟩
/-- UNDER of a semaphore (R245). -/
def Sem.UNDER : Fld := ⟨2, 1, 1⟩
/-- PORT of a semaphore (R245). -/
def Sem.PORT : Fld := ⟨2, 2, 2⟩
/-- WAITERS of a semaphore (R245). -/
def Sem.WAITERS : Fld := ⟨2, 3, 3⟩
/-- STATE of a sheaf (R258). -/
def Sh.STATE : Fld := ⟨0, 1, 0⟩
/-- PART of a sheaf (R258). -/
def Sh.PART : Fld := ⟨0, 5, 2⟩
/-- HOME_DEV of a sheaf (R258). -/
def Sh.HOME_DEV : Fld := ⟨0, 19, 8⟩
/-- DEVICES of a sheaf (R258). -/
def Sh.DEVICES : Fld := ⟨0, 31, 20⟩
/-- MASK of a sheaf (R258). -/
def Sh.MASK : Fld := ⟨1, 31, 0⟩
/-- ARRIVE_SEM of a sheaf (R258). -/
def Sh.ARRIVE_SEM : Fld := ⟨3, 15, 0⟩
/-- RELEASE_SEM of a sheaf (R258). -/
def Sh.RELEASE_SEM : Fld := ⟨3, 31, 16⟩
/-- TIMEOUT of a sheaf (R258). -/
def Sh.TIMEOUT : Fld := ⟨4, 15, 0⟩
/-- GEN of a sheaf (R258). -/
def Sh.GEN : Fld := ⟨5, 31, 0⟩
/-- ARRIVED of a sheaf (R258). -/
def Sh.ARRIVED : Fld := ⟨6, 31, 0⟩
/-- NEXT of a sheaf (R258). -/
def Sh.NEXT : Fld := ⟨8, 31, 0⟩
/-- DEV_ARRIVED of a sheaf (R258). -/
def Sh.DEV_ARRIVED : Fld := ⟨10, 11, 0⟩
/-- RELEASE_GC of a sheaf (R258). -/
def Sh.RELEASE_GC : Fld := ⟨11, 31, 0⟩
/-- VALID of a receive queue (R272). -/
def Rq.VALID : Fld := ⟨0, 0, 0⟩
/-- PART of a receive queue (R272). -/
def Rq.PART : Fld := ⟨0, 4, 1⟩
/-- CORE of a receive queue (R272). -/
def Rq.CORE : Fld := ⟨0, 10, 5⟩
/-- PRIO of a receive queue (R272). -/
def Rq.PRIO : Fld := ⟨0, 11, 11⟩
/-- GR_LOG2 of a receive queue (R272). -/
def Rq.GR_LOG2 : Fld := ⟨0, 16, 12⟩
/-- GR_BASE of a receive queue (R272). -/
def Rq.GR_BASE : Fld := ⟨1, 31, 0⟩
/-- HEAD of a receive queue (R272). -/
def Rq.HEAD : Fld := ⟨3, 31, 0⟩
/-- TAIL of a receive queue (R272). -/
def Rq.TAIL : Fld := ⟨4, 31, 0⟩
/-- USED of a receive queue (R272). -/
def Rq.USED : Fld := ⟨5, 4, 0⟩
/-- SPILLING of a receive queue (R272). -/
def Rq.SPILLING : Fld := ⟨5, 5, 5⟩
/-- OVR of a receive queue (R272). -/
def Rq.OVR : Fld := ⟨5, 6, 6⟩
/-- UNDER of a receive queue (R272). -/
def Rq.UNDER : Fld := ⟨5, 7, 7⟩
/-- MSGS of a receive queue (R272). -/
def Rq.MSGS : Fld := ⟨6, 31, 0⟩
/-- KIND of a message header (R282). -/
def Ms.KIND : Fld := ⟨0, 3, 0⟩
/-- UNITS of a message header (R282). -/
def Ms.UNITS : Fld := ⟨0, 5, 4⟩
/-- ROUTED of a message header (R282). -/
def Ms.ROUTED : Fld := ⟨0, 6, 6⟩
/-- HANDLER of a message header (R282). -/
def Ms.HANDLER : Fld := ⟨0, 19, 8⟩
/-- DST of a message header (R282). -/
def Ms.DST : Fld := ⟨1, 11, 0⟩
/-- DST_DEV of a message header (R282). -/
def Ms.DST_DEV : Fld := ⟨1, 23, 12⟩
/-- ROUTE of a message header (R282). -/
def Ms.ROUTE : Fld := ⟨1, 31, 0⟩
/-- STEP_TAG of a message header (R282). -/
def Ms.STEP_TAG : Fld := ⟨2, 15, 0⟩
/-- COOKIE of a message header (R282). -/
def Ms.COOKIE : Fld := ⟨2, 31, 16⟩
/-- SRC_DEV of a message header (R282). -/
def Ms.SRC_DEV : Fld := ⟨3, 11, 0⟩
/-- SRC_CORE of a message header (R282). -/
def Ms.SRC_CORE : Fld := ⟨3, 17, 12⟩
/-- SYS of a message header (R282). -/
def Ms.SYS : Fld := ⟨3, 18, 18⟩
/-- DST of a route (R285). -/
def Rt.DST : Fld := ⟨0, 11, 0⟩
/-- DST_DEV of a route (R285). -/
def Rt.DST_DEV : Fld := ⟨0, 23, 12⟩
/-- PART of a route (R285). -/
def Rt.PART : Fld := ⟨0, 27, 24⟩
/-- VALID of a route (R285). -/
def Rt.VALID : Fld := ⟨0, 28, 28⟩
/-- SCALE_EN of a route (R285). -/
def Rt.SCALE_EN : Fld := ⟨0, 29, 29⟩
/-- GEN of a route (R285). -/
def Rt.GEN : Fld := ⟨1, 11, 0⟩
/-- SCALE of a route (R285). -/
def Rt.SCALE : Fld := ⟨2, 31, 0⟩
/-- MSG_COUNT of a route (R285). -/
def Rt.MSG_COUNT : Fld := ⟨4, 31, 0⟩
/-- STALL_COUNT of a route (R285). -/
def Rt.STALL_COUNT : Fld := ⟨5, 31, 0⟩
/-- STATE of a Stook (R291). -/
def Sk.STATE : Fld := ⟨0, 1, 0⟩
/-- PART of a Stook (R291). -/
def Sk.PART : Fld := ⟨0, 5, 2⟩
/-- TYPE of a Stook (R291). -/
def Sk.TYPE : Fld := ⟨0, 7, 6⟩
/-- ELEMS of a Stook (R291). -/
def Sk.ELEMS : Fld := ⟨0, 11, 8⟩
/-- N of a Stook (R291). -/
def Sk.N : Fld := ⟨0, 18, 12⟩
/-- RESULT_RXQ of a Stook (R291). -/
def Sk.RESULT_RXQ : Fld := ⟨0, 31, 20⟩
/-- HANDLER of a Stook (R291). -/
def Sk.HANDLER : Fld := ⟨1, 11, 0⟩
/-- ROUND of a Stook (R291). -/
def Sk.ROUND : Fld := ⟨2, 15, 0⟩
/-- RTAG of a Stook (R291). -/
def Sk.RTAG : Fld := ⟨2, 31, 16⟩
/-- FOLDED of a Stook (R291). -/
def Sk.FOLDED : Fld := ⟨3, 6, 0⟩
/-- ARRIVED of a Stook (R291). -/
def Sk.ARRIVED : Fld := ⟨4, 31, 0⟩
/-- RATE of a regulator account (R351). -/
def Ra.RATE : Fld := ⟨0, 15, 0⟩
/-- BURST of a regulator account (R351). -/
def Ra.BURST : Fld := ⟨1, 23, 0⟩
/-- LEVEL of a regulator account (R351). -/
def Ra.LEVEL : Fld := ⟨2, 31, 0⟩
/-- LEVEL_N of a regulator account (R351). -/
def Ra.LEVEL_N : Fld := ⟨3, 31, 0⟩
/-- FIRST of a save-set entry (R353). -/
def Sv.FIRST : Fld := ⟨0, 11, 0⟩
/-- COUNT_M1 of a save-set entry (R353). -/
def Sv.COUNT_M1 : Fld := ⟨0, 17, 12⟩
/-- VALID of a save-set entry (R353). -/
def Sv.VALID : Fld := ⟨0, 31, 31⟩
/-- STATE of a claim (R355). -/
def Clm.STATE : Fld := ⟨0, 2, 0⟩
/-- PART of a claim (R355). -/
def Clm.PART : Fld := ⟨0, 6, 3⟩
/-- LEVEL of a claim (R355). -/
def Clm.LEVEL : Fld := ⟨0, 9, 7⟩
/-- SAVE_SET of a claim (R355). -/
def Clm.SAVE_SET : Fld := ⟨0, 17, 10⟩
/-- LAUNCH_SLOT of a claim (R355). -/
def Clm.LAUNCH_SLOT : Fld := ⟨0, 29, 18⟩
/-- LAUNCH_ID of a claim (R355). -/
def Clm.LAUNCH_ID : Fld := ⟨1, 31, 0⟩
/-- FIRST of a claim (R355). -/
def Clm.FIRST : Fld := ⟨2, 11, 0⟩
/-- COUNT of a claim (R355). -/
def Clm.COUNT : Fld := ⟨2, 18, 12⟩
/-- GR_SLOT of a claim (R355). -/
def Clm.GR_SLOT : Fld := ⟨3, 11, 0⟩

end Sys2Proof.Machine
end

