-- ==== Sys2Proof/Machine/Regs.lean ====
section
/-! DEFINITION. The register map of the 2 MiB window (R453): every register word that the spec lists, with the
bits, the access type and the reset value of each field, and one name for each field.  The tables are those of
R4, R5, R29-R32, R108-R110, R146, R147, R183, R213, R214, R240, R241, R267, R268, R280, R297, R298, R328, R329,
R349, R350, R369, R370, R394, R418, R419, R451, R452, R466, R497 and R512.  Fields that read 0 and that no
write changes ("reserved") are not listed: bits that no field covers read 0 (R15). -/

namespace Sys2Proof.Machine

/-- The access types of R14 but for the condition on the write. -/
inductive Acc where
  | rw | ro | w1c | wo | wm
deriving DecidableEq, Repr

/-- The condition that R14 joins to an access type: none, CFG, SH or LK. -/
inductive Cls where
  | plain | cfg | sh | lk
deriving DecidableEq, Repr

/-- One field of a register word: its bits, its type, its reset value, and the range outside which a written
value is replaced by the nearest limit (the whole width where the owning chapter states none). -/
structure RegField where
  hi : Nat
  lo : Nat
  acc : Acc
  cls : Cls
  rst : Nat
  mn : Nat
  mx : Nat
deriving DecidableEq, Repr

/-- One row of the register map: `count` words, the first at `base`, each `stride` bytes after the one before. -/
structure RegRow where
  base : Nat
  stride : Nat
  count : Nat
  fields : List RegField
deriving DecidableEq, Repr

/-- A named register field: the alias-free byte address of its word in the window, and its bits. -/
structure RF where
  addr : Nat
  hi : Nat
  lo : Nat
deriving DecidableEq, Repr

/-- Address of GS_TMPL_REGION (R108). -/
def Reg.GS_TMPL_REGION_A : Nat := 0x20000
/-- GS_TMPL_REGION.TMPL_NODES [5:0], RW·CFG (R108). -/
def Reg.GS_TMPL_REGION_TMPL_NODES : RF := ⟨Reg.GS_TMPL_REGION_A, 5, 0⟩
/-- GS_TMPL_REGION.TMPL_EDGES [21:16], RW·CFG (R108). -/
def Reg.GS_TMPL_REGION_TMPL_EDGES : RF := ⟨Reg.GS_TMPL_REGION_A, 21, 16⟩
/-- Address of GS_PIPE (R109). -/
def Reg.GS_PIPE_A : Nat := 0x20004
/-- GS_PIPE.PIPE_BUSY [0:0], RO (R109). -/
def Reg.GS_PIPE_PIPE_BUSY : RF := ⟨Reg.GS_PIPE_A, 0, 0⟩
/-- GS_PIPE.PIPE_DEPTH [7:1], RO (R109). -/
def Reg.GS_PIPE_PIPE_DEPTH : RF := ⟨Reg.GS_PIPE_A, 7, 1⟩
/-- Address of GS_TMPL_FREE_NODES (R109). -/
def Reg.GS_TMPL_FREE_NODES_A : Nat := 0x20008
/-- GS_TMPL_FREE_NODES.TMPL_FREE_NODES [20:0], RO (R109). -/
def Reg.GS_TMPL_FREE_NODES : RF := ⟨Reg.GS_TMPL_FREE_NODES_A, 20, 0⟩
/-- Address of GS_TMPL_FREE_EDGES (R109). -/
def Reg.GS_TMPL_FREE_EDGES_A : Nat := 0x2000C
/-- GS_TMPL_FREE_EDGES.TMPL_FREE_EDGES [22:0], RO (R109). -/
def Reg.GS_TMPL_FREE_EDGES : RF := ⟨Reg.GS_TMPL_FREE_EDGES_A, 22, 0⟩
/-- Address of GS_INST_FREE_NODES (R109). -/
def Reg.GS_INST_FREE_NODES_A : Nat := 0x20010
/-- GS_INST_FREE_NODES.INST_FREE_NODES [20:0], RO (R109). -/
def Reg.GS_INST_FREE_NODES : RF := ⟨Reg.GS_INST_FREE_NODES_A, 20, 0⟩
/-- Address of GS_INST_FREE_EDGES (R109). -/
def Reg.GS_INST_FREE_EDGES_A : Nat := 0x20014
/-- GS_INST_FREE_EDGES.INST_FREE_EDGES [22:0], RO (R109). -/
def Reg.GS_INST_FREE_EDGES : RF := ⟨Reg.GS_INST_FREE_EDGES_A, 22, 0⟩
/-- Address of GS_LARGEST (R109). -/
def Reg.GS_LARGEST_A : Nat := 0x20018
/-- GS_LARGEST.INST_LARGEST [15:0], RO (R109). -/
def Reg.GS_LARGEST_INST_LARGEST : RF := ⟨Reg.GS_LARGEST_A, 15, 0⟩
/-- GS_LARGEST.TMPL_LARGEST [31:16], RO (R109). -/
def Reg.GS_LARGEST_TMPL_LARGEST : RF := ⟨Reg.GS_LARGEST_A, 31, 16⟩
/-- Address of GS_SLOTS_FREE (R109). -/
def Reg.GS_SLOTS_FREE_A : Nat := 0x2001C
/-- GS_SLOTS_FREE.SLOTS_FREE [12:0], RO (R109). -/
def Reg.GS_SLOTS_FREE : RF := ⟨Reg.GS_SLOTS_FREE_A, 12, 0⟩
/-- Address of GS_RETIRE_USED (R109). -/
def Reg.GS_RETIRE_USED_A : Nat := 0x20020
/-- GS_RETIRE_USED.RETIRE_USED [4:0], RO (R109). -/
def Reg.GS_RETIRE_USED : RF := ⟨Reg.GS_RETIRE_USED_A, 4, 0⟩
/-- Address of GS_STICKY (R109). -/
def Reg.GS_STICKY_A : Nat := 0x20040
/-- GS_STICKY.CFG_IGNORED [0:0], W1C (R109). -/
def Reg.GS_STICKY_CFG_IGNORED : RF := ⟨Reg.GS_STICKY_A, 0, 0⟩
/-- Address of GS_QUOTA_SLOTS (R110). -/
def Reg.GS_QUOTA_SLOTS_A (p : Nat) : Nat := 0x20100 + 0x20 * p
/-- GS_QUOTA_SLOTS.QUOTA_SLOTS [12:0], RW (R110). -/
def Reg.GS_QUOTA_SLOTS (p : Nat) : RF := ⟨Reg.GS_QUOTA_SLOTS_A p, 12, 0⟩
/-- Address of GS_QUOTA_NODES (R110). -/
def Reg.GS_QUOTA_NODES_A (p : Nat) : Nat := 0x20104 + 0x20 * p
/-- GS_QUOTA_NODES.QUOTA_NODES [15:0], RW (R110). -/
def Reg.GS_QUOTA_NODES (p : Nat) : RF := ⟨Reg.GS_QUOTA_NODES_A p, 15, 0⟩
/-- Address of GS_QUOTA_TMPL (R110). -/
def Reg.GS_QUOTA_TMPL_A (p : Nat) : Nat := 0x20108 + 0x20 * p
/-- GS_QUOTA_TMPL.QUOTA_TMPL [15:0], RW (R110). -/
def Reg.GS_QUOTA_TMPL (p : Nat) : RF := ⟨Reg.GS_QUOTA_TMPL_A p, 15, 0⟩
/-- Address of GS_USE_SLOTS (R110). -/
def Reg.GS_USE_SLOTS_A (p : Nat) : Nat := 0x2010C + 0x20 * p
/-- GS_USE_SLOTS.USE_SLOTS [12:0], RO (R110). -/
def Reg.GS_USE_SLOTS (p : Nat) : RF := ⟨Reg.GS_USE_SLOTS_A p, 12, 0⟩
/-- Address of GS_USE_NODES (R110). -/
def Reg.GS_USE_NODES_A (p : Nat) : Nat := 0x20110 + 0x20 * p
/-- GS_USE_NODES.USE_NODES [15:0], RO (R110). -/
def Reg.GS_USE_NODES (p : Nat) : RF := ⟨Reg.GS_USE_NODES_A p, 15, 0⟩
/-- Address of GS_USE_TMPL (R110). -/
def Reg.GS_USE_TMPL_A (p : Nat) : Nat := 0x20114 + 0x20 * p
/-- GS_USE_TMPL.USE_TMPL [15:0], RO (R110). -/
def Reg.GS_USE_TMPL (p : Nat) : RF := ⟨Reg.GS_USE_TMPL_A p, 15, 0⟩
/-- Address of GS_LAUNCH_ID_NEXT (R110). -/
def Reg.GS_LAUNCH_ID_NEXT_A (p : Nat) : Nat := 0x20118 + 0x20 * p
/-- GS_LAUNCH_ID_NEXT.LAUNCH_ID_NEXT [31:0], RO (R110). -/
def Reg.GS_LAUNCH_ID_NEXT (p : Nat) : RF := ⟨Reg.GS_LAUNCH_ID_NEXT_A p, 31, 0⟩
/-- Address of GS_LAUNCH_ID_OLDEST (R110). -/
def Reg.GS_LAUNCH_ID_OLDEST_A (p : Nat) : Nat := 0x2011C + 0x20 * p
/-- GS_LAUNCH_ID_OLDEST.LAUNCH_ID_OLDEST [31:0], RO (R110). -/
def Reg.GS_LAUNCH_ID_OLDEST (p : Nat) : RF := ⟨Reg.GS_LAUNCH_ID_OLDEST_A p, 31, 0⟩
/-- Address of DR_WALK_THRESH (R146). -/
def Reg.DR_WALK_THRESH_A : Nat := 0x30000
/-- DR_WALK_THRESH.BP_ON [12:0], RW·CFG (R146). -/
def Reg.DR_WALK_THRESH_BP_ON : RF := ⟨Reg.DR_WALK_THRESH_A, 12, 0⟩
/-- DR_WALK_THRESH.BP_OFF [28:16], RW·CFG (R146). -/
def Reg.DR_WALK_THRESH_BP_OFF : RF := ⟨Reg.DR_WALK_THRESH_A, 28, 16⟩
/-- Address of DR_TILLER_POOL (R146). -/
def Reg.DR_TILLER_POOL_A : Nat := 0x30004
/-- DR_TILLER_POOL.POOL [6:0], RW·CFG (R146). -/
def Reg.DR_TILLER_POOL : RF := ⟨Reg.DR_TILLER_POOL_A, 6, 0⟩
/-- Address of DR_WALK_STATUS (R146). -/
def Reg.DR_WALK_STATUS_A : Nat := 0x30010
/-- DR_WALK_STATUS.WALK_DEPTH [12:0], RO (R146). -/
def Reg.DR_WALK_STATUS_WALK_DEPTH : RF := ⟨Reg.DR_WALK_STATUS_A, 12, 0⟩
/-- DR_WALK_STATUS.BP_ACTIVE [13:13], RO (R146). -/
def Reg.DR_WALK_STATUS_BP_ACTIVE : RF := ⟨Reg.DR_WALK_STATUS_A, 13, 13⟩
/-- DR_WALK_STATUS.REMDEC_DEPTH [26:16], RO (R146). -/
def Reg.DR_WALK_STATUS_REMDEC_DEPTH : RF := ⟨Reg.DR_WALK_STATUS_A, 26, 16⟩
/-- Address of DR_SPAWN_STATUS (R146). -/
def Reg.DR_SPAWN_STATUS_A : Nat := 0x30014
/-- DR_SPAWN_STATUS.SPAWN_DEPTH [10:0], RO (R146). -/
def Reg.DR_SPAWN_STATUS_SPAWN_DEPTH : RF := ⟨Reg.DR_SPAWN_STATUS_A, 10, 0⟩
/-- DR_SPAWN_STATUS.TILLER_FREE [30:12], RO (R146). -/
def Reg.DR_SPAWN_STATUS_TILLER_FREE : RF := ⟨Reg.DR_SPAWN_STATUS_A, 30, 12⟩
/-- Address of DR_READY_COUNT (R146). -/
def Reg.DR_READY_COUNT_A (k : Nat) : Nat := 0x30020 + 0x4 * k
/-- DR_READY_COUNT.READY_COUNT [20:0], RO (R146). -/
def Reg.DR_READY_COUNT (k : Nat) : RF := ⟨Reg.DR_READY_COUNT_A k, 20, 0⟩
/-- Address of DR_STICKY (R146). -/
def Reg.DR_STICKY_A : Nat := 0x30040
/-- DR_STICKY.CFG_IGNORED [0:0], W1C (R146). -/
def Reg.DR_STICKY_CFG_IGNORED : RF := ⟨Reg.DR_STICKY_A, 0, 0⟩
/-- Address of DR_SPAWN_BASE_LO (R146). -/
def Reg.DR_SPAWN_BASE_LO_A (p : Nat) : Nat := 0x30100 + 0x8 * p
/-- DR_SPAWN_BASE_LO.SPAWN_BASE_LO [31:6], RW (R146). -/
def Reg.DR_SPAWN_BASE_LO (p : Nat) : RF := ⟨Reg.DR_SPAWN_BASE_LO_A p, 31, 6⟩
/-- Address of DR_SPAWN_BASE_HI (R146). -/
def Reg.DR_SPAWN_BASE_HI_A (p : Nat) : Nat := 0x30104 + 0x8 * p
/-- DR_SPAWN_BASE_HI.SPAWN_BASE_HI [19:0], RW (R146). -/
def Reg.DR_SPAWN_BASE_HI (p : Nat) : RF := ⟨Reg.DR_SPAWN_BASE_HI_A p, 19, 0⟩
/-- Address of DR_DOMAIN_CTRL (R328). -/
def Reg.DR_DOMAIN_CTRL_A : Nat := 0x30200
/-- DR_DOMAIN_CTRL.EDGE_TIMEOUT [15:0], RW (R328). -/
def Reg.DR_DOMAIN_CTRL_EDGE_TIMEOUT : RF := ⟨Reg.DR_DOMAIN_CTRL_A, 15, 0⟩
/-- DR_DOMAIN_CTRL.STALL_TIMEOUT [31:16], RW (R328). -/
def Reg.DR_DOMAIN_CTRL_STALL_TIMEOUT : RF := ⟨Reg.DR_DOMAIN_CTRL_A, 31, 16⟩
/-- Address of DR_DOMAIN_CFG (R328). -/
def Reg.DR_DOMAIN_CFG_A : Nat := 0x30204
/-- DR_DOMAIN_CFG.ACCEPT_JOIN [0:0], RW (R328). -/
def Reg.DR_DOMAIN_CFG_ACCEPT_JOIN : RF := ⟨Reg.DR_DOMAIN_CFG_A, 0, 0⟩
/-- Address of DR_DOMAIN_CMD (R328). -/
def Reg.DR_DOMAIN_CMD_A : Nat := 0x30208
/-- DR_DOMAIN_CMD.OP [1:0], WO (R328). -/
def Reg.DR_DOMAIN_CMD_OP : RF := ⟨Reg.DR_DOMAIN_CMD_A, 1, 0⟩
/-- Address of DR_DOMAIN_STATUS (R328). -/
def Reg.DR_DOMAIN_STATUS_A : Nat := 0x3020C
/-- DR_DOMAIN_STATUS.SELF [11:0], RO (R328). -/
def Reg.DR_DOMAIN_STATUS_SELF : RF := ⟨Reg.DR_DOMAIN_STATUS_A, 11, 0⟩
/-- DR_DOMAIN_STATUS.MEMBER [12:12], RO (R328). -/
def Reg.DR_DOMAIN_STATUS_MEMBER : RF := ⟨Reg.DR_DOMAIN_STATUS_A, 12, 12⟩
/-- DR_DOMAIN_STATUS.BUSY [13:13], RO (R328). -/
def Reg.DR_DOMAIN_STATUS_BUSY : RF := ⟨Reg.DR_DOMAIN_STATUS_A, 13, 13⟩
/-- DR_DOMAIN_STATUS.DONE [14:14], RO (R328). -/
def Reg.DR_DOMAIN_STATUS_DONE : RF := ⟨Reg.DR_DOMAIN_STATUS_A, 14, 14⟩
/-- DR_DOMAIN_STATUS.REFUSED [15:15], RO (R328). -/
def Reg.DR_DOMAIN_STATUS_REFUSED : RF := ⟨Reg.DR_DOMAIN_STATUS_A, 15, 15⟩
/-- DR_DOMAIN_STATUS.CODE [31:16], RO (R328). -/
def Reg.DR_DOMAIN_STATUS_CODE : RF := ⟨Reg.DR_DOMAIN_STATUS_A, 31, 16⟩
/-- Address of DR_REMOTE_STATUS (R328). -/
def Reg.DR_REMOTE_STATUS_A : Nat := 0x30210
/-- DR_REMOTE_STATUS.EARLY_USED [12:0], RO (R328). -/
def Reg.DR_REMOTE_STATUS_EARLY_USED : RF := ⟨Reg.DR_REMOTE_STATUS_A, 12, 0⟩
/-- DR_REMOTE_STATUS.REMOTE_OUT [26:16], RO (R328). -/
def Reg.DR_REMOTE_STATUS_REMOTE_OUT : RF := ⟨Reg.DR_REMOTE_STATUS_A, 26, 16⟩
/-- Address of DR_BIND (R329). -/
def Reg.DR_BIND_A (p : Nat) : Nat := 0x30300 + 0x10 * p
/-- DR_BIND.BIND_TMPL [11:0], RW (R329). -/
def Reg.DR_BIND_BIND_TMPL (p : Nat) : RF := ⟨Reg.DR_BIND_A p, 11, 0⟩
/-- DR_BIND.BIND_EN [12:12], RW (R329). -/
def Reg.DR_BIND_BIND_EN (p : Nat) : RF := ⟨Reg.DR_BIND_A p, 12, 12⟩
/-- Address of DR_ROUND_NEXT (R329). -/
def Reg.DR_ROUND_NEXT_A (p : Nat) : Nat := 0x30304 + 0x10 * p
/-- DR_ROUND_NEXT.ROUND_NEXT [31:0], RW (R329). -/
def Reg.DR_ROUND_NEXT (p : Nat) : RF := ⟨Reg.DR_ROUND_NEXT_A p, 31, 0⟩
/-- Address of DR_EDGES_OUT (R329). -/
def Reg.DR_EDGES_OUT_A (p : Nat) : Nat := 0x30308 + 0x10 * p
/-- DR_EDGES_OUT.EDGES_OUT [31:0], RO (R329). -/
def Reg.DR_EDGES_OUT (p : Nat) : RF := ⟨Reg.DR_EDGES_OUT_A p, 31, 0⟩
/-- Address of DR_EDGES_DROPPED (R329). -/
def Reg.DR_EDGES_DROPPED_A (p : Nat) : Nat := 0x3030C + 0x10 * p
/-- DR_EDGES_DROPPED.EDGES_DROPPED [31:0], RO (R329). -/
def Reg.DR_EDGES_DROPPED (p : Nat) : RF := ⟨Reg.DR_EDGES_DROPPED_A p, 31, 0⟩
/-- Address of DS_SELECT (R147). -/
def Reg.DS_SELECT_A : Nat := 0x40000
/-- DS_SELECT.TEMP_STEER [0:0], RW·CFG (R147). -/
def Reg.DS_SELECT_TEMP_STEER : RF := ⟨Reg.DS_SELECT_A, 0, 0⟩
/-- DS_SELECT.LOOKAHEAD [3:1], RW·CFG (R147). -/
def Reg.DS_SELECT_LOOKAHEAD : RF := ⟨Reg.DS_SELECT_A, 3, 1⟩
/-- Address of DS_KILL_TIMEOUT (R147). -/
def Reg.DS_KILL_TIMEOUT_A : Nat := 0x40004
/-- DS_KILL_TIMEOUT.KILL_TIMEOUT [15:0], RW (R147). -/
def Reg.DS_KILL_TIMEOUT : RF := ⟨Reg.DS_KILL_TIMEOUT_A, 15, 0⟩
/-- Address of DS_LINK_CMD (R147). -/
def Reg.DS_LINK_CMD_A : Nat := 0x40008
/-- DS_LINK_CMD.LINK [8:0], WO (R147). -/
def Reg.DS_LINK_CMD_LINK : RF := ⟨Reg.DS_LINK_CMD_A, 8, 0⟩
/-- DS_LINK_CMD.CMD [11:9], WO (R147). -/
def Reg.DS_LINK_CMD : RF := ⟨Reg.DS_LINK_CMD_A, 11, 9⟩
/-- Address of DS_LINK_CMD_STATUS (R147). -/
def Reg.DS_LINK_CMD_STATUS_A : Nat := 0x4000C
/-- DS_LINK_CMD_STATUS.LINK [8:0], RO (R147). -/
def Reg.DS_LINK_CMD_STATUS_LINK : RF := ⟨Reg.DS_LINK_CMD_STATUS_A, 8, 0⟩
/-- DS_LINK_CMD_STATUS.CMD [11:9], RO (R147). -/
def Reg.DS_LINK_CMD_STATUS_CMD : RF := ⟨Reg.DS_LINK_CMD_STATUS_A, 11, 9⟩
/-- DS_LINK_CMD_STATUS.BUSY [12:12], RO (R147). -/
def Reg.DS_LINK_CMD_STATUS_BUSY : RF := ⟨Reg.DS_LINK_CMD_STATUS_A, 12, 12⟩
/-- DS_LINK_CMD_STATUS.ACKED [13:13], RO (R147). -/
def Reg.DS_LINK_CMD_STATUS_ACKED : RF := ⟨Reg.DS_LINK_CMD_STATUS_A, 13, 13⟩
/-- DS_LINK_CMD_STATUS.REFUSED [14:14], RO (R147). -/
def Reg.DS_LINK_CMD_STATUS_REFUSED : RF := ⟨Reg.DS_LINK_CMD_STATUS_A, 14, 14⟩
/-- DS_LINK_CMD_STATUS.TIMEOUT [15:15], RO (R147). -/
def Reg.DS_LINK_CMD_STATUS_TIMEOUT : RF := ⟨Reg.DS_LINK_CMD_STATUS_A, 15, 15⟩
/-- DS_LINK_CMD_STATUS.LOST [16:16], RO (R147). -/
def Reg.DS_LINK_CMD_STATUS_LOST : RF := ⟨Reg.DS_LINK_CMD_STATUS_A, 16, 16⟩
/-- Address of DS_STICKY (R147). -/
def Reg.DS_STICKY_A : Nat := 0x40010
/-- DS_STICKY.CFG_IGNORED [0:0], W1C (R147). -/
def Reg.DS_STICKY_CFG_IGNORED : RF := ⟨Reg.DS_STICKY_A, 0, 0⟩
/-- Address of DS_TASK_TIMEOUT (R147). -/
def Reg.DS_TASK_TIMEOUT_A (c : Nat) : Nat := 0x40040 + 0x4 * c
/-- DS_TASK_TIMEOUT.TASK_TIMEOUT [15:0], RW (R147). -/
def Reg.DS_TASK_TIMEOUT (c : Nat) : RF := ⟨Reg.DS_TASK_TIMEOUT_A c, 15, 0⟩
/-- Address of DS_ENGINE_DISABLE (R147). -/
def Reg.DS_ENGINE_DISABLE_A (k : Nat) : Nat := 0x40100 + 0x4 * k
/-- DS_ENGINE_DISABLE.DISABLE [31:0], RW (R147). -/
def Reg.DS_ENGINE_DISABLE (k : Nat) : RF := ⟨Reg.DS_ENGINE_DISABLE_A k, 31, 0⟩
/-- Address of DS_LINK_UP (R147). -/
def Reg.DS_LINK_UP_A (k : Nat) : Nat := 0x40140 + 0x4 * k
/-- DS_LINK_UP.LINK_UP [31:0], RO (R147). -/
def Reg.DS_LINK_UP (k : Nat) : RF := ⟨Reg.DS_LINK_UP_A k, 31, 0⟩
/-- Address of DS_SELECTABLE (R147). -/
def Reg.DS_SELECTABLE_A (k : Nat) : Nat := 0x40180 + 0x4 * k
/-- DS_SELECTABLE.SELECTABLE [31:0], RO (R147). -/
def Reg.DS_SELECTABLE (k : Nat) : RF := ⟨Reg.DS_SELECTABLE_A k, 31, 0⟩
/-- Address of CFE_CTRL (R183). -/
def Reg.CFE_CTRL_A : Nat := 0x10000
/-- CFE_CTRL.PREFETCH [3:0], RW·CFG (R183). -/
def Reg.CFE_CTRL_PREFETCH : RF := ⟨Reg.CFE_CTRL_A, 3, 0⟩
/-- CFE_CTRL.CYCLE_DETECT [4:4], RW·CFG (R183). -/
def Reg.CFE_CTRL_CYCLE_DETECT : RF := ⟨Reg.CFE_CTRL_A, 4, 4⟩
/-- Address of CFE_CTX_DESC_LO (R183). -/
def Reg.CFE_CTX_DESC_LO_A : Nat := 0x10004
/-- CFE_CTX_DESC_LO.DESC_LO [31:8], RW (R183). -/
def Reg.CFE_CTX_DESC_LO : RF := ⟨Reg.CFE_CTX_DESC_LO_A, 31, 8⟩
/-- Address of CFE_CTX_DESC_HI (R183). -/
def Reg.CFE_CTX_DESC_HI_A : Nat := 0x10008
/-- CFE_CTX_DESC_HI.DESC_HI [19:0], RW (R183). -/
def Reg.CFE_CTX_DESC_HI : RF := ⟨Reg.CFE_CTX_DESC_HI_A, 19, 0⟩
/-- Address of CFE_CTX_CMD (R183). -/
def Reg.CFE_CTX_CMD_A : Nat := 0x1000C
/-- CFE_CTX_CMD.OP [2:0], WO (R183). -/
def Reg.CFE_CTX_CMD_OP : RF := ⟨Reg.CFE_CTX_CMD_A, 2, 0⟩
/-- CFE_CTX_CMD.QUEUE [5:3], WO (R183). -/
def Reg.CFE_CTX_CMD_QUEUE : RF := ⟨Reg.CFE_CTX_CMD_A, 5, 3⟩
/-- Address of CFE_CTX_HANDLE (R183). -/
def Reg.CFE_CTX_HANDLE_A : Nat := 0x10010
/-- CFE_CTX_HANDLE.HANDLE [31:0], RW (R183). -/
def Reg.CFE_CTX_HANDLE : RF := ⟨Reg.CFE_CTX_HANDLE_A, 31, 0⟩
/-- Address of CFE_CTX_ARG (R183). -/
def Reg.CFE_CTX_ARG_A : Nat := 0x10014
/-- CFE_CTX_ARG.ARG [31:0], RW (R183). -/
def Reg.CFE_CTX_ARG : RF := ⟨Reg.CFE_CTX_ARG_A, 31, 0⟩
/-- Address of CFE_CTX_STATUS (R183). -/
def Reg.CFE_CTX_STATUS_A : Nat := 0x10018
/-- CFE_CTX_STATUS.BUSY [0:0], RO (R183). -/
def Reg.CFE_CTX_STATUS_BUSY : RF := ⟨Reg.CFE_CTX_STATUS_A, 0, 0⟩
/-- CFE_CTX_STATUS.DONE [1:1], RO (R183). -/
def Reg.CFE_CTX_STATUS_DONE : RF := ⟨Reg.CFE_CTX_STATUS_A, 1, 1⟩
/-- CFE_CTX_STATUS.REFUSED [2:2], RO (R183). -/
def Reg.CFE_CTX_STATUS_REFUSED : RF := ⟨Reg.CFE_CTX_STATUS_A, 2, 2⟩
/-- CFE_CTX_STATUS.CODE [31:16], RO (R183). -/
def Reg.CFE_CTX_STATUS_CODE : RF := ⟨Reg.CFE_CTX_STATUS_A, 31, 16⟩
/-- Address of CFE_DB_DROPPED (R183). -/
def Reg.CFE_DB_DROPPED_A : Nat := 0x10020
/-- CFE_DB_DROPPED.DB_DROPPED [31:0], RO (R183). -/
def Reg.CFE_DB_DROPPED : RF := ⟨Reg.CFE_DB_DROPPED_A, 31, 0⟩
/-- Address of CFE_HEADS (R183). -/
def Reg.CFE_HEADS_A : Nat := 0x10024
/-- CFE_HEADS.HEADS_USED [8:0], RO (R183). -/
def Reg.CFE_HEADS_HEADS_USED : RF := ⟨Reg.CFE_HEADS_A, 8, 0⟩
/-- CFE_HEADS.PENDING [28:16], RO (R183). -/
def Reg.CFE_HEADS_PENDING : RF := ⟨Reg.CFE_HEADS_A, 28, 16⟩
/-- Address of CFE_SLOW (R183). -/
def Reg.CFE_SLOW_A : Nat := 0x10028
/-- CFE_SLOW.SLOW_DEPTH [6:0], RO (R183). -/
def Reg.CFE_SLOW_SLOW_DEPTH : RF := ⟨Reg.CFE_SLOW_A, 6, 0⟩
/-- Address of CFE_REPLY_LOST (R183). -/
def Reg.CFE_REPLY_LOST_A : Nat := 0x1002C
/-- CFE_REPLY_LOST.REPLY_LOST [31:0], RO (R183). -/
def Reg.CFE_REPLY_LOST : RF := ⟨Reg.CFE_REPLY_LOST_A, 31, 0⟩
/-- Address of CFE_IRQ_STATUS (R183). -/
def Reg.CFE_IRQ_STATUS_A : Nat := 0x10030
/-- CFE_IRQ_STATUS.CMPL [15:0], W1C (R183). -/
def Reg.CFE_IRQ_STATUS_CMPL : RF := ⟨Reg.CFE_IRQ_STATUS_A, 15, 0⟩
/-- CFE_IRQ_STATUS.ERR [31:16], W1C (R183). -/
def Reg.CFE_IRQ_STATUS_ERR : RF := ⟨Reg.CFE_IRQ_STATUS_A, 31, 16⟩
/-- Address of CFE_IRQ_MASK (R183). -/
def Reg.CFE_IRQ_MASK_A : Nat := 0x10034
/-- CFE_IRQ_MASK.CMPL_EN [15:0], RW (R183). -/
def Reg.CFE_IRQ_MASK_CMPL_EN : RF := ⟨Reg.CFE_IRQ_MASK_A, 15, 0⟩
/-- CFE_IRQ_MASK.ERR_EN [31:16], RW (R183). -/
def Reg.CFE_IRQ_MASK_ERR_EN : RF := ⟨Reg.CFE_IRQ_MASK_A, 31, 16⟩
/-- Address of CFE_SIG_TIMEOUT (R183). -/
def Reg.CFE_SIG_TIMEOUT_A : Nat := 0x10038
/-- CFE_SIG_TIMEOUT.SIG_TIMEOUT [15:0], RW (R183). -/
def Reg.CFE_SIG_TIMEOUT : RF := ⟨Reg.CFE_SIG_TIMEOUT_A, 15, 0⟩
/-- Address of CFE_STICKY (R183). -/
def Reg.CFE_STICKY_A : Nat := 0x10040
/-- CFE_STICKY.CFG_IGNORED [0:0], W1C (R183). -/
def Reg.CFE_STICKY_CFG_IGNORED : RF := ⟨Reg.CFE_STICKY_A, 0, 0⟩
/-- Address of CFE_EVENT_QUOTA (R183). -/
def Reg.CFE_EVENT_QUOTA_A (p : Nat) : Nat := 0x10100 + 0x4 * p
/-- CFE_EVENT_QUOTA.EVENT_QUOTA [14:0], RW (R183). -/
def Reg.CFE_EVENT_QUOTA (p : Nat) : RF := ⟨Reg.CFE_EVENT_QUOTA_A p, 14, 0⟩
/-- Address of CFE_EVENT_USE (R183). -/
def Reg.CFE_EVENT_USE_A (p : Nat) : Nat := 0x10140 + 0x4 * p
/-- CFE_EVENT_USE.EVENT_USE [14:0], RO (R183). -/
def Reg.CFE_EVENT_USE (p : Nat) : RF := ⟨Reg.CFE_EVENT_USE_A p, 14, 0⟩
/-- Address of ST_ROWSTORE (R213). -/
def Reg.ST_ROWSTORE_A : Nat := 0x70000
/-- ST_ROWSTORE.ROWS_FREE [17:0], RO (R213). -/
def Reg.ST_ROWSTORE_ROWS_FREE : RF := ⟨Reg.ST_ROWSTORE_A, 17, 0⟩
/-- Address of ST_TAG (R213). -/
def Reg.ST_TAG_A : Nat := 0x70004
/-- ST_TAG.TAG_NEXT [15:0], RO (R213). -/
def Reg.ST_TAG_TAG_NEXT : RF := ⟨Reg.ST_TAG_A, 15, 0⟩
/-- Address of ST_WINNOW (R213). -/
def Reg.ST_WINNOW_A : Nat := 0x70008
/-- ST_WINNOW.BUSY [0:0], RO (R213). -/
def Reg.ST_WINNOW_BUSY : RF := ⟨Reg.ST_WINNOW_A, 0, 0⟩
/-- Address of ST_DEC_ROWS (R214). -/
def Reg.ST_DEC_ROWS_A (p : Nat) : Nat := 0x70100 + 0x40 * p
/-- ST_DEC_ROWS.DEC_ROWS [16:0], RW·SH (R214). -/
def Reg.ST_DEC_ROWS (p : Nat) : RF := ⟨Reg.ST_DEC_ROWS_A p, 16, 0⟩
/-- Address of ST_TOKENS_MAX (R214). -/
def Reg.ST_TOKENS_MAX_A (p : Nat) : Nat := 0x70104 + 0x40 * p
/-- ST_TOKENS_MAX.TOKENS_MAX [16:0], RW·SH (R214). -/
def Reg.ST_TOKENS_MAX (p : Nat) : RF := ⟨Reg.ST_TOKENS_MAX_A p, 16, 0⟩
/-- Address of ST_CHUNK (R214). -/
def Reg.ST_CHUNK_A (p : Nat) : Nat := 0x70108 + 0x40 * p
/-- ST_CHUNK.CHUNK [16:0], RW·SH (R214). -/
def Reg.ST_CHUNK (p : Nat) : RF := ⟨Reg.ST_CHUNK_A p, 16, 0⟩
/-- Address of ST_PLAN (R214). -/
def Reg.ST_PLAN_A (p : Nat) : Nat := 0x7010C + 0x40 * p
/-- ST_PLAN.PF_CHUNKS [6:0], RW·SH (R214). -/
def Reg.ST_PLAN_PF_CHUNKS (p : Nat) : RF := ⟨Reg.ST_PLAN_A p, 6, 0⟩
/-- ST_PLAN.PF_MIN [14:8], RW·SH (R214). -/
def Reg.ST_PLAN_PF_MIN (p : Nat) : RF := ⟨Reg.ST_PLAN_A p, 14, 8⟩
/-- ST_PLAN.BLOCK_LOG2 [19:16], RW·SH (R214). -/
def Reg.ST_PLAN_BLOCK_LOG2 (p : Nat) : RF := ⟨Reg.ST_PLAN_A p, 19, 16⟩
/-- Address of ST_SEQ_QUOTA (R214). -/
def Reg.ST_SEQ_QUOTA_A (p : Nat) : Nat := 0x70110 + 0x40 * p
/-- ST_SEQ_QUOTA.SEQ_QUOTA [15:0], RW (R214). -/
def Reg.ST_SEQ_QUOTA (p : Nat) : RF := ⟨Reg.ST_SEQ_QUOTA_A p, 15, 0⟩
/-- Address of ST_SEQ_USE (R214). -/
def Reg.ST_SEQ_USE_A (p : Nat) : Nat := 0x70114 + 0x40 * p
/-- ST_SEQ_USE.SEQ_USE [15:0], RO (R214). -/
def Reg.ST_SEQ_USE (p : Nat) : RF := ⟨Reg.ST_SEQ_USE_A p, 15, 0⟩
/-- Address of ST_STREAM_STATUS (R214). -/
def Reg.ST_STREAM_STATUS_A (p : Nat) : Nat := 0x70118 + 0x40 * p
/-- ST_STREAM_STATUS.SSTATE [1:0], RO (R214). -/
def Reg.ST_STREAM_STATUS_SSTATE (p : Nat) : RF := ⟨Reg.ST_STREAM_STATUS_A p, 1, 0⟩
/-- ST_STREAM_STATUS.FAULT [31:16], RO (R214). -/
def Reg.ST_STREAM_STATUS_FAULT (p : Nat) : RF := ⟨Reg.ST_STREAM_STATUS_A p, 31, 16⟩
/-- Address of ST_STEP_LO (R214). -/
def Reg.ST_STEP_LO_A (p : Nat) : Nat := 0x7011C + 0x40 * p
/-- ST_STEP_LO.STEP_LO [31:0], RO (R214). -/
def Reg.ST_STEP_LO (p : Nat) : RF := ⟨Reg.ST_STEP_LO_A p, 31, 0⟩
/-- Address of ST_STEP_HI (R214). -/
def Reg.ST_STEP_HI_A (p : Nat) : Nat := 0x70120 + 0x40 * p
/-- ST_STEP_HI.STEP_HI [31:0], RO (R214). -/
def Reg.ST_STEP_HI (p : Nat) : RF := ⟨Reg.ST_STEP_HI_A p, 31, 0⟩
/-- Address of ST_KV_FREE (R214). -/
def Reg.ST_KV_FREE_A (p : Nat) : Nat := 0x70124 + 0x40 * p
/-- ST_KV_FREE.KV_FREE [31:0], RO (R214). -/
def Reg.ST_KV_FREE (p : Nat) : RF := ⟨Reg.ST_KV_FREE_A p, 31, 0⟩
/-- Address of ST_FIN_COUNT (R214). -/
def Reg.ST_FIN_COUNT_A (p : Nat) : Nat := 0x70128 + 0x40 * p
/-- ST_FIN_COUNT.FIN_COUNT [31:0], RO (R214). -/
def Reg.ST_FIN_COUNT (p : Nat) : RF := ⟨Reg.ST_FIN_COUNT_A p, 31, 0⟩
/-- Address of ST_DEC_NEXT (R214). -/
def Reg.ST_DEC_NEXT_A (p : Nat) : Nat := 0x7012C + 0x40 * p
/-- ST_DEC_NEXT.DEC_NEXT [14:0], RO (R214). -/
def Reg.ST_DEC_NEXT (p : Nat) : RF := ⟨Reg.ST_DEC_NEXT_A p, 14, 0⟩
/-- Address of ST_DEFER_COUNT (R214). -/
def Reg.ST_DEFER_COUNT_A (p : Nat) : Nat := 0x70130 + 0x40 * p
/-- ST_DEFER_COUNT.DEFER_COUNT [31:0], RO (R214). -/
def Reg.ST_DEFER_COUNT (p : Nat) : RF := ⟨Reg.ST_DEFER_COUNT_A p, 31, 0⟩
/-- Address of ST_DEAD_ROWS (R214). -/
def Reg.ST_DEAD_ROWS_A (p : Nat) : Nat := 0x70134 + 0x40 * p
/-- ST_DEAD_ROWS.DEAD_ROWS [31:0], RO (R214). -/
def Reg.ST_DEAD_ROWS (p : Nat) : RF := ⟨Reg.ST_DEAD_ROWS_A p, 31, 0⟩
/-- Address of ST_SYNTH_NS (R214). -/
def Reg.ST_SYNTH_NS_A (p : Nat) : Nat := 0x70138 + 0x40 * p
/-- ST_SYNTH_NS.SYNTH_NS [15:0], RO (R214). -/
def Reg.ST_SYNTH_NS (p : Nat) : RF := ⟨Reg.ST_SYNTH_NS_A p, 15, 0⟩
/-- Address of ERA_STATUS (R240). -/
def Reg.ERA_STATUS_A : Nat := 0x80000
/-- ERA_STATUS.JOBQ_DEPTH [6:0], RO (R240). -/
def Reg.ERA_STATUS_JOBQ_DEPTH : RF := ⟨Reg.ERA_STATUS_A, 6, 0⟩
/-- ERA_STATUS.JOB_BUSY [7:7], RO (R240). -/
def Reg.ERA_STATUS_JOB_BUSY : RF := ⟨Reg.ERA_STATUS_A, 7, 7⟩
/-- ERA_STATUS.JOB_PART [11:8], RO (R240). -/
def Reg.ERA_STATUS_JOB_PART : RF := ⟨Reg.ERA_STATUS_A, 11, 8⟩
/-- ERA_STATUS.JOB_TAG [31:16], RO (R240). -/
def Reg.ERA_STATUS_JOB_TAG : RF := ⟨Reg.ERA_STATUS_A, 31, 16⟩
/-- Address of ERA_STICKY (R240). -/
def Reg.ERA_STICKY_A : Nat := 0x80040
/-- ERA_STICKY.CFG_IGNORED [0:0], W1C (R240). -/
def Reg.ERA_STICKY_CFG_IGNORED : RF := ⟨Reg.ERA_STICKY_A, 0, 0⟩
/-- ERA_STICKY.BANK_IGNORED [1:1], W1C (R240). -/
def Reg.ERA_STICKY_BANK_IGNORED : RF := ⟨Reg.ERA_STICKY_A, 1, 1⟩
/-- Address of ERA_BIAS (R241). -/
def Reg.ERA_BIAS_A (p : Nat) : Nat := 0x80100 + 0x40 * p
/-- ERA_BIAS.BIAS_BASE [14:0], RW·CFG (R241). -/
def Reg.ERA_BIAS_BIAS_BASE (p : Nat) : RF := ⟨Reg.ERA_BIAS_A p, 14, 0⟩
/-- ERA_BIAS.BIAS_SIZE [31:16], RW·CFG (R241). -/
def Reg.ERA_BIAS_BIAS_SIZE (p : Nat) : RF := ⟨Reg.ERA_BIAS_A p, 31, 16⟩
/-- Address of ERA_SEED (R241). -/
def Reg.ERA_SEED_A (p : Nat) : Nat := 0x80104 + 0x40 * p
/-- ERA_SEED.SEED_BASE [11:0], RW·CFG (R241). -/
def Reg.ERA_SEED_SEED_BASE (p : Nat) : RF := ⟨Reg.ERA_SEED_A p, 11, 0⟩
/-- ERA_SEED.SEED_SIZE [28:16], RW·CFG (R241). -/
def Reg.ERA_SEED_SEED_SIZE (p : Nat) : RF := ⟨Reg.ERA_SEED_A p, 28, 16⟩
/-- Address of ERA_LOOP (R241). -/
def Reg.ERA_LOOP_A (p : Nat) : Nat := 0x80108 + 0x40 * p
/-- ERA_LOOP.BIAS_AUTO [0:0], RW·SH (R241). -/
def Reg.ERA_LOOP_BIAS_AUTO (p : Nat) : RF := ⟨Reg.ERA_LOOP_A p, 0, 0⟩
/-- ERA_LOOP.PERIOD [15:8], RW·SH (R241). -/
def Reg.ERA_LOOP_PERIOD (p : Nat) : RF := ⟨Reg.ERA_LOOP_A p, 15, 8⟩
/-- Address of ERA_GAMMA (R241). -/
def Reg.ERA_GAMMA_A (p : Nat) : Nat := 0x8010C + 0x40 * p
/-- ERA_GAMMA.GAMMA [31:0], RW·SH (R241). -/
def Reg.ERA_GAMMA (p : Nat) : RF := ⟨Reg.ERA_GAMMA_A p, 31, 0⟩
/-- Address of ERA_CLAMP (R241). -/
def Reg.ERA_CLAMP_A (p : Nat) : Nat := 0x80110 + 0x40 * p
/-- ERA_CLAMP.CLAMP [31:0], RW·SH (R241). -/
def Reg.ERA_CLAMP (p : Nat) : RF := ⟨Reg.ERA_CLAMP_A p, 31, 0⟩
/-- Address of ERA_SWAP (R241). -/
def Reg.ERA_SWAP_A (p : Nat) : Nat := 0x80114 + 0x40 * p
/-- ERA_SWAP.SWAP_BIAS [0:0], WO (R241). -/
def Reg.ERA_SWAP_SWAP_BIAS (p : Nat) : RF := ⟨Reg.ERA_SWAP_A p, 0, 0⟩
/-- ERA_SWAP.SWAP_SEED [1:1], WO (R241). -/
def Reg.ERA_SWAP_SWAP_SEED (p : Nat) : RF := ⟨Reg.ERA_SWAP_A p, 1, 1⟩
/-- Address of ERA_BANK (R241). -/
def Reg.ERA_BANK_A (p : Nat) : Nat := 0x80118 + 0x40 * p
/-- ERA_BANK.BIAS_ACTIVE [0:0], RO (R241). -/
def Reg.ERA_BANK_BIAS_ACTIVE (p : Nat) : RF := ⟨Reg.ERA_BANK_A p, 0, 0⟩
/-- ERA_BANK.BIAS_PEND [1:1], RO (R241). -/
def Reg.ERA_BANK_BIAS_PEND (p : Nat) : RF := ⟨Reg.ERA_BANK_A p, 1, 1⟩
/-- ERA_BANK.BIAS_COMMIT [2:2], RO (R241). -/
def Reg.ERA_BANK_BIAS_COMMIT (p : Nat) : RF := ⟨Reg.ERA_BANK_A p, 2, 2⟩
/-- ERA_BANK.SEED_ACTIVE [4:4], RO (R241). -/
def Reg.ERA_BANK_SEED_ACTIVE (p : Nat) : RF := ⟨Reg.ERA_BANK_A p, 4, 4⟩
/-- ERA_BANK.SEED_PEND [5:5], RO (R241). -/
def Reg.ERA_BANK_SEED_PEND (p : Nat) : RF := ⟨Reg.ERA_BANK_A p, 5, 5⟩
/-- ERA_BANK.SEED_COMMIT [6:6], RO (R241). -/
def Reg.ERA_BANK_SEED_COMMIT (p : Nat) : RF := ⟨Reg.ERA_BANK_A p, 6, 6⟩
/-- Address of ERA_LAYER_SKIP (R241). -/
def Reg.ERA_LAYER_SKIP_A (p j : Nat) : Nat := 0x8011C + 0x40 * p + 4 * j
/-- ERA_LAYER_SKIP.LAYER_SKIP [31:0], RW·SH (R241). -/
def Reg.ERA_LAYER_SKIP (p j : Nat) : RF := ⟨Reg.ERA_LAYER_SKIP_A p j, 31, 0⟩
/-- Address of ERA_ADMITTED (R241). -/
def Reg.ERA_ADMITTED_A (p : Nat) : Nat := 0x8012C + 0x40 * p
/-- ERA_ADMITTED.ADMITTED [31:0], RO (R241). -/
def Reg.ERA_ADMITTED (p : Nat) : RF := ⟨Reg.ERA_ADMITTED_A p, 31, 0⟩
/-- Address of ERA_CAP_SKIPS (R241). -/
def Reg.ERA_CAP_SKIPS_A (p : Nat) : Nat := 0x80130 + 0x40 * p
/-- ERA_CAP_SKIPS.CAP_SKIPS [31:0], RO (R241). -/
def Reg.ERA_CAP_SKIPS (p : Nat) : RF := ⟨Reg.ERA_CAP_SKIPS_A p, 31, 0⟩
/-- Address of ERA_TOKEN_SKIPS (R241). -/
def Reg.ERA_TOKEN_SKIPS_A (p : Nat) : Nat := 0x80134 + 0x40 * p
/-- ERA_TOKEN_SKIPS.TOKEN_SKIPS [31:0], RO (R241). -/
def Reg.ERA_TOKEN_SKIPS (p : Nat) : RF := ⟨Reg.ERA_TOKEN_SKIPS_A p, 31, 0⟩
/-- Address of ERA_CHAFF (R241). -/
def Reg.ERA_CHAFF_A (p : Nat) : Nat := 0x80138 + 0x40 * p
/-- ERA_CHAFF.CHAFF [31:0], RO (R241). -/
def Reg.ERA_CHAFF (p : Nat) : RF := ⟨Reg.ERA_CHAFF_A p, 31, 0⟩
/-- Address of ERA_JOBS (R241). -/
def Reg.ERA_JOBS_A (p : Nat) : Nat := 0x8013C + 0x40 * p
/-- ERA_JOBS.JOBS [31:0], RO (R241). -/
def Reg.ERA_JOBS (p : Nat) : RF := ⟨Reg.ERA_JOBS_A p, 31, 0⟩
/-- Address of SM_CTRL (R267). -/
def Reg.SM_CTRL_A : Nat := 0x50000
/-- SM_CTRL.LONG_WAIT [15:0], RW (R267). -/
def Reg.SM_CTRL_LONG_WAIT : RF := ⟨Reg.SM_CTRL_A, 15, 0⟩
/-- Address of SM_STATUS (R267). -/
def Reg.SM_STATUS_A : Nat := 0x50004
/-- SM_STATUS.POSTQ_DEPTH [6:0], RO (R267). -/
def Reg.SM_STATUS_POSTQ_DEPTH : RF := ⟨Reg.SM_STATUS_A, 6, 0⟩
/-- SM_STATUS.INIT_BUSY [7:7], RO (R267). -/
def Reg.SM_STATUS_INIT_BUSY : RF := ⟨Reg.SM_STATUS_A, 7, 7⟩
/-- SM_STATUS.FABQ_DEPTH [13:8], RO (R267). -/
def Reg.SM_STATUS_FABQ_DEPTH : RF := ⟨Reg.SM_STATUS_A, 13, 8⟩
/-- Address of SM_SEM_INDEX (R267). -/
def Reg.SM_SEM_INDEX_A : Nat := 0x50008
/-- SM_SEM_INDEX.INDEX [15:0], RW (R267). -/
def Reg.SM_SEM_INDEX : RF := ⟨Reg.SM_SEM_INDEX_A, 15, 0⟩
/-- Address of SM_SEM_VALUE (R267). -/
def Reg.SM_SEM_VALUE_A : Nat := 0x5000C
/-- SM_SEM_VALUE.VALUE [31:0], RW (R267). -/
def Reg.SM_SEM_VALUE : RF := ⟨Reg.SM_SEM_VALUE_A, 31, 0⟩
/-- Address of SM_SEM_CMD (R267). -/
def Reg.SM_SEM_CMD_A : Nat := 0x50010
/-- SM_SEM_CMD.OP [1:0], WO (R267). -/
def Reg.SM_SEM_CMD_OP : RF := ⟨Reg.SM_SEM_CMD_A, 1, 0⟩
/-- Address of SM_SEM_STATUS (R267). -/
def Reg.SM_SEM_STATUS_A : Nat := 0x50014
/-- SM_SEM_STATUS.CODE [15:0], RO (R267). -/
def Reg.SM_SEM_STATUS_CODE : RF := ⟨Reg.SM_SEM_STATUS_A, 15, 0⟩
/-- Address of SM_WATCH_SEM (R267). -/
def Reg.SM_WATCH_SEM_A : Nat := 0x50020
/-- SM_WATCH_SEM.SEM [15:0], RW (R267). -/
def Reg.SM_WATCH_SEM : RF := ⟨Reg.SM_WATCH_SEM_A, 15, 0⟩
/-- Address of SM_WATCH_THRESH (R267). -/
def Reg.SM_WATCH_THRESH_A : Nat := 0x50024
/-- SM_WATCH_THRESH.THRESH [31:0], RW (R267). -/
def Reg.SM_WATCH_THRESH : RF := ⟨Reg.SM_WATCH_THRESH_A, 31, 0⟩
/-- Address of SM_WATCH_TARGET (R267). -/
def Reg.SM_WATCH_TARGET_A : Nat := 0x50028
/-- SM_WATCH_TARGET.NODE [17:0], RW (R267). -/
def Reg.SM_WATCH_TARGET_NODE : RF := ⟨Reg.SM_WATCH_TARGET_A, 17, 0⟩
/-- SM_WATCH_TARGET.SLOT [31:20], RW (R267). -/
def Reg.SM_WATCH_TARGET_SLOT : RF := ⟨Reg.SM_WATCH_TARGET_A, 31, 20⟩
/-- Address of SM_WATCH_LAUNCH (R267). -/
def Reg.SM_WATCH_LAUNCH_A : Nat := 0x5002C
/-- SM_WATCH_LAUNCH.LAUNCH_ID [31:0], RW (R267). -/
def Reg.SM_WATCH_LAUNCH_LAUNCH_ID : RF := ⟨Reg.SM_WATCH_LAUNCH_A, 31, 0⟩
/-- Address of SM_WATCH_ARGS (R267). -/
def Reg.SM_WATCH_ARGS_A : Nat := 0x50030
/-- SM_WATCH_ARGS.AMOUNT [11:0], RW (R267). -/
def Reg.SM_WATCH_ARGS_AMOUNT : RF := ⟨Reg.SM_WATCH_ARGS_A, 11, 0⟩
/-- SM_WATCH_ARGS.CONSUME [12:12], RW (R267). -/
def Reg.SM_WATCH_ARGS_CONSUME : RF := ⟨Reg.SM_WATCH_ARGS_A, 12, 12⟩
/-- Address of SM_WATCH_CMD (R267). -/
def Reg.SM_WATCH_CMD_A : Nat := 0x50034
/-- SM_WATCH_CMD.OP [1:0], WO (R267). -/
def Reg.SM_WATCH_CMD_OP : RF := ⟨Reg.SM_WATCH_CMD_A, 1, 0⟩
/-- SM_WATCH_CMD.INDEX [13:2], WO (R267). -/
def Reg.SM_WATCH_CMD_INDEX : RF := ⟨Reg.SM_WATCH_CMD_A, 13, 2⟩
/-- Address of SM_WATCH_STATUS (R267). -/
def Reg.SM_WATCH_STATUS_A : Nat := 0x50038
/-- SM_WATCH_STATUS.INDEX [11:0], RO (R267). -/
def Reg.SM_WATCH_STATUS_INDEX : RF := ⟨Reg.SM_WATCH_STATUS_A, 11, 0⟩
/-- SM_WATCH_STATUS.DONE [12:12], RO (R267). -/
def Reg.SM_WATCH_STATUS_DONE : RF := ⟨Reg.SM_WATCH_STATUS_A, 12, 12⟩
/-- SM_WATCH_STATUS.REFUSED [13:13], RO (R267). -/
def Reg.SM_WATCH_STATUS_REFUSED : RF := ⟨Reg.SM_WATCH_STATUS_A, 13, 13⟩
/-- SM_WATCH_STATUS.CODE [31:16], RO (R267). -/
def Reg.SM_WATCH_STATUS_CODE : RF := ⟨Reg.SM_WATCH_STATUS_A, 31, 16⟩
/-- Address of SM_STICKY (R267). -/
def Reg.SM_STICKY_A : Nat := 0x50040
/-- SM_STICKY.CFG_IGNORED [0:0], W1C (R267). -/
def Reg.SM_STICKY_CFG_IGNORED : RF := ⟨Reg.SM_STICKY_A, 0, 0⟩
/-- Address of SM_WAKE_LINK (R267). -/
def Reg.SM_WAKE_LINK_A : Nat := 0x50050
/-- SM_WAKE_LINK.LINK [8:0], RW (R267). -/
def Reg.SM_WAKE_LINK : RF := ⟨Reg.SM_WAKE_LINK_A, 8, 0⟩
/-- SM_WAKE_LINK.PART [12:9], RW (R267). -/
def Reg.SM_WAKE_LINK_PART : RF := ⟨Reg.SM_WAKE_LINK_A, 12, 9⟩
/-- SM_WAKE_LINK.CONSUME [13:13], RW (R267). -/
def Reg.SM_WAKE_LINK_CONSUME : RF := ⟨Reg.SM_WAKE_LINK_A, 13, 13⟩
/-- SM_WAKE_LINK.SEM [31:16], RW (R267). -/
def Reg.SM_WAKE_LINK_SEM : RF := ⟨Reg.SM_WAKE_LINK_A, 31, 16⟩
/-- Address of SM_WAKE_THRESH (R267). -/
def Reg.SM_WAKE_THRESH_A : Nat := 0x50054
/-- SM_WAKE_THRESH.THRESH [31:0], RW (R267). -/
def Reg.SM_WAKE_THRESH : RF := ⟨Reg.SM_WAKE_THRESH_A, 31, 0⟩
/-- Address of SM_WAKE_TMO (R267). -/
def Reg.SM_WAKE_TMO_A : Nat := 0x50058
/-- SM_WAKE_TMO.TMO [15:0], RW (R267). -/
def Reg.SM_WAKE_TMO : RF := ⟨Reg.SM_WAKE_TMO_A, 15, 0⟩
/-- Address of SM_WAKE_CMD (R267). -/
def Reg.SM_WAKE_CMD_A : Nat := 0x5005C
/-- SM_WAKE_CMD.OP [1:0], WO (R267). -/
def Reg.SM_WAKE_CMD_OP : RF := ⟨Reg.SM_WAKE_CMD_A, 1, 0⟩
/-- Address of SM_WAKE_STATUS (R267). -/
def Reg.SM_WAKE_STATUS_A : Nat := 0x50060
/-- SM_WAKE_STATUS.INDEX [5:0], RO (R267). -/
def Reg.SM_WAKE_STATUS_INDEX : RF := ⟨Reg.SM_WAKE_STATUS_A, 5, 0⟩
/-- SM_WAKE_STATUS.DONE [6:6], RO (R267). -/
def Reg.SM_WAKE_STATUS_DONE : RF := ⟨Reg.SM_WAKE_STATUS_A, 6, 6⟩
/-- SM_WAKE_STATUS.REFUSED [7:7], RO (R267). -/
def Reg.SM_WAKE_STATUS_REFUSED : RF := ⟨Reg.SM_WAKE_STATUS_A, 7, 7⟩
/-- SM_WAKE_STATUS.CODE [31:16], RO (R267). -/
def Reg.SM_WAKE_STATUS_CODE : RF := ⟨Reg.SM_WAKE_STATUS_A, 31, 16⟩
/-- Address of SM_SHEAF_CMD (R267). -/
def Reg.SM_SHEAF_CMD_A : Nat := 0x50070
/-- SM_SHEAF_CMD.SHEAF [7:0], WO (R267). -/
def Reg.SM_SHEAF_CMD_SHEAF : RF := ⟨Reg.SM_SHEAF_CMD_A, 7, 0⟩
/-- SM_SHEAF_CMD.OP [9:8], WO (R267). -/
def Reg.SM_SHEAF_CMD_OP : RF := ⟨Reg.SM_SHEAF_CMD_A, 9, 8⟩
/-- Address of SM_SHEAF_STATUS (R267). -/
def Reg.SM_SHEAF_STATUS_A : Nat := 0x50074
/-- SM_SHEAF_STATUS.DONE [0:0], RO (R267). -/
def Reg.SM_SHEAF_STATUS_DONE : RF := ⟨Reg.SM_SHEAF_STATUS_A, 0, 0⟩
/-- SM_SHEAF_STATUS.REFUSED [1:1], RO (R267). -/
def Reg.SM_SHEAF_STATUS_REFUSED : RF := ⟨Reg.SM_SHEAF_STATUS_A, 1, 1⟩
/-- SM_SHEAF_STATUS.CODE [31:16], RO (R267). -/
def Reg.SM_SHEAF_STATUS_CODE : RF := ⟨Reg.SM_SHEAF_STATUS_A, 31, 16⟩
/-- Address of SM_SEM_BASE (R268). -/
def Reg.SM_SEM_BASE_A (p : Nat) : Nat := 0x50100 + 0x10 * p
/-- SM_SEM_BASE.SEM_BASE [15:0], RW·CFG (R268). -/
def Reg.SM_SEM_BASE (p : Nat) : RF := ⟨Reg.SM_SEM_BASE_A p, 15, 0⟩
/-- Address of SM_SEM_COUNT (R268). -/
def Reg.SM_SEM_COUNT_A (p : Nat) : Nat := 0x50104 + 0x10 * p
/-- SM_SEM_COUNT.SEM_COUNT [16:0], RW·CFG (R268). -/
def Reg.SM_SEM_COUNT (p : Nat) : RF := ⟨Reg.SM_SEM_COUNT_A p, 16, 0⟩
/-- Address of SM_WAITS (R268). -/
def Reg.SM_WAITS_A (p : Nat) : Nat := 0x50108 + 0x10 * p
/-- SM_WAITS.LONG_WAITS [12:0], RO (R268). -/
def Reg.SM_WAITS_LONG_WAITS (p : Nat) : RF := ⟨Reg.SM_WAITS_A p, 12, 0⟩
/-- SM_WAITS.SLEEPERS [26:20], RO (R268). -/
def Reg.SM_WAITS_SLEEPERS (p : Nat) : RF := ⟨Reg.SM_WAITS_A p, 26, 20⟩
/-- Address of SM_COUNTS (R268). -/
def Reg.SM_COUNTS_A (p : Nat) : Nat := 0x5010C + 0x10 * p
/-- SM_COUNTS.MISUSE [15:0], RO (R268). -/
def Reg.SM_COUNTS_MISUSE (p : Nat) : RF := ⟨Reg.SM_COUNTS_A p, 15, 0⟩
/-- SM_COUNTS.WATCH_STALE [31:16], RO (R268). -/
def Reg.SM_COUNTS_WATCH_STALE (p : Nat) : RF := ⟨Reg.SM_COUNTS_A p, 31, 16⟩
/-- Address of CW_RX_SEL (R280). -/
def Reg.CW_RX_SEL_A (c : Nat) : Nat := 0x1FC000 + 0x100 * c
/-- CW_RX_SEL.RXQ [11:0], RO (R280). -/
def Reg.CW_RX_SEL_RXQ (c : Nat) : RF := ⟨Reg.CW_RX_SEL_A c, 11, 0⟩
/-- CW_RX_SEL.ANY [12:12], RO (R280). -/
def Reg.CW_RX_SEL_ANY (c : Nat) : RF := ⟨Reg.CW_RX_SEL_A c, 12, 12⟩
/-- Address of CW_RX_Q (R280). -/
def Reg.CW_RX_Q_A (c : Nat) : Nat := 0x1FC004 + 0x100 * c
/-- CW_RX_Q.RX_Q [11:0], RW (R280). -/
def Reg.CW_RX_Q (c : Nat) : RF := ⟨Reg.CW_RX_Q_A c, 11, 0⟩
/-- Address of CW_RX_POP (R280). -/
def Reg.CW_RX_POP_A (c : Nat) : Nat := 0x1FC008 + 0x100 * c
/-- CW_RX_POP.RX_POP [31:0], RO (R280). -/
def Reg.CW_RX_POP (c : Nat) : RF := ⟨Reg.CW_RX_POP_A c, 31, 0⟩
/-- Address of CW_RX_STATUS (R280). -/
def Reg.CW_RX_STATUS_A (c : Nat) : Nat := 0x1FC00C + 0x100 * c
/-- CW_RX_STATUS.USED [4:0], RO (R280). -/
def Reg.CW_RX_STATUS_USED (c : Nat) : RF := ⟨Reg.CW_RX_STATUS_A c, 4, 0⟩
/-- CW_RX_STATUS.SPILLING [5:5], RO (R280). -/
def Reg.CW_RX_STATUS_SPILLING (c : Nat) : RF := ⟨Reg.CW_RX_STATUS_A c, 5, 5⟩
/-- CW_RX_STATUS.OVR [6:6], W1C (R280). -/
def Reg.CW_RX_STATUS_OVR (c : Nat) : RF := ⟨Reg.CW_RX_STATUS_A c, 6, 6⟩
/-- CW_RX_STATUS.UNDER [7:7], W1C (R280). -/
def Reg.CW_RX_STATUS_UNDER (c : Nat) : RF := ⟨Reg.CW_RX_STATUS_A c, 7, 7⟩
/-- Address of CW_MB (R280). -/
def Reg.CW_MB_A (c i : Nat) : Nat := 0x1FC010 + 0x100 * c + 4 * i
/-- CW_MB.MB [31:0], RO (R280). -/
def Reg.CW_MB (c i : Nat) : RF := ⟨Reg.CW_MB_A c i, 31, 0⟩
/-- Address of CW_SB (R280). -/
def Reg.CW_SB_A (c i : Nat) : Nat := 0x1FC050 + 0x100 * c + 4 * i
/-- CW_SB.SB [31:0], RW (R280). -/
def Reg.CW_SB (c i : Nat) : RF := ⟨Reg.CW_SB_A c i, 31, 0⟩
/-- Address of CW_SEND_GO (R280). -/
def Reg.CW_SEND_GO_A (c : Nat) : Nat := 0x1FC090 + 0x100 * c
/-- CW_SEND_GO.SEND_GO [31:0], WO (R280). -/
def Reg.CW_SEND_GO (c : Nat) : RF := ⟨Reg.CW_SEND_GO_A c, 31, 0⟩
/-- Address of CW_SEND_STATUS (R280). -/
def Reg.CW_SEND_STATUS_A (c : Nat) : Nat := 0x1FC094 + 0x100 * c
/-- CW_SEND_STATUS.RESULT [2:0], RO (R280). -/
def Reg.CW_SEND_STATUS_RESULT (c : Nat) : RF := ⟨Reg.CW_SEND_STATUS_A c, 2, 0⟩
/-- CW_SEND_STATUS.CODE [31:16], RO (R280). -/
def Reg.CW_SEND_STATUS_CODE (c : Nat) : RF := ⟨Reg.CW_SEND_STATUS_A c, 31, 16⟩
/-- Address of CW_OUT_POP (R280). -/
def Reg.CW_OUT_POP_A (c : Nat) : Nat := 0x1FC098 + 0x100 * c
/-- CW_OUT_POP.COOKIE [15:0], RO (R280). -/
def Reg.CW_OUT_POP_COOKIE (c : Nat) : RF := ⟨Reg.CW_OUT_POP_A c, 15, 0⟩
/-- CW_OUT_POP.RESULT [18:16], RO (R280). -/
def Reg.CW_OUT_POP_RESULT (c : Nat) : RF := ⟨Reg.CW_OUT_POP_A c, 18, 16⟩
/-- CW_OUT_POP.VALID [19:19], RO (R280). -/
def Reg.CW_OUT_POP_VALID (c : Nat) : RF := ⟨Reg.CW_OUT_POP_A c, 19, 19⟩
/-- Address of CW_OUT_CODE (R280). -/
def Reg.CW_OUT_CODE_A (c : Nat) : Nat := 0x1FC09C + 0x100 * c
/-- CW_OUT_CODE.CODE [15:0], RO (R280). -/
def Reg.CW_OUT_CODE (c : Nat) : RF := ⟨Reg.CW_OUT_CODE_A c, 15, 0⟩
/-- Address of CW_SENT (R280). -/
def Reg.CW_SENT_A (c : Nat) : Nat := 0x1FC0A0 + 0x100 * c
/-- CW_SENT.SENT [31:0], RO (R280). -/
def Reg.CW_SENT (c : Nat) : RF := ⟨Reg.CW_SENT_A c, 31, 0⟩
/-- Address of CW_SPILLED (R280). -/
def Reg.CW_SPILLED_A (c : Nat) : Nat := 0x1FC0A4 + 0x100 * c
/-- CW_SPILLED.SPILLED [31:0], RO (R280). -/
def Reg.CW_SPILLED (c : Nat) : RF := ⟨Reg.CW_SPILLED_A c, 31, 0⟩
/-- Address of CW_REFUSED (R280). -/
def Reg.CW_REFUSED_A (c : Nat) : Nat := 0x1FC0A8 + 0x100 * c
/-- CW_REFUSED.REFUSED [31:0], RO (R280). -/
def Reg.CW_REFUSED (c : Nat) : RF := ⟨Reg.CW_REFUSED_A c, 31, 0⟩
/-- Address of CW_POPPED (R280). -/
def Reg.CW_POPPED_A (c : Nat) : Nat := 0x1FC0AC + 0x100 * c
/-- CW_POPPED.POPPED [31:0], RO (R280). -/
def Reg.CW_POPPED (c : Nat) : RF := ⟨Reg.CW_POPPED_A c, 31, 0⟩
/-- Address of MH_STATUS (R297). -/
def Reg.MH_STATUS_A : Nat := 0x60000
/-- MH_STATUS.FABQ_DEPTH [6:0], RO (R297). -/
def Reg.MH_STATUS_FABQ_DEPTH : RF := ⟨Reg.MH_STATUS_A, 6, 0⟩
/-- MH_STATUS.REMOTE_OUT [16:8], RO (R297). -/
def Reg.MH_STATUS_REMOTE_OUT : RF := ⟨Reg.MH_STATUS_A, 16, 8⟩
/-- MH_STATUS.POOL_FREE [29:17], RO (R297). -/
def Reg.MH_STATUS_POOL_FREE : RF := ⟨Reg.MH_STATUS_A, 29, 17⟩
/-- Address of MH_CTRL (R297). -/
def Reg.MH_CTRL_A : Nat := 0x60004
/-- MH_CTRL.REMOTE_TIMEOUT [15:0], RW (R297). -/
def Reg.MH_CTRL_REMOTE_TIMEOUT : RF := ⟨Reg.MH_CTRL_A, 15, 0⟩
/-- Address of MH_STOOK_CMD (R297). -/
def Reg.MH_STOOK_CMD_A : Nat := 0x60008
/-- MH_STOOK_CMD.STOOK [7:0], WO (R297). -/
def Reg.MH_STOOK_CMD_STOOK : RF := ⟨Reg.MH_STOOK_CMD_A, 7, 0⟩
/-- MH_STOOK_CMD.OP [9:8], WO (R297). -/
def Reg.MH_STOOK_CMD_OP : RF := ⟨Reg.MH_STOOK_CMD_A, 9, 8⟩
/-- Address of MH_STOOK_STATUS (R297). -/
def Reg.MH_STOOK_STATUS_A : Nat := 0x6000C
/-- MH_STOOK_STATUS.DONE [0:0], RO (R297). -/
def Reg.MH_STOOK_STATUS_DONE : RF := ⟨Reg.MH_STOOK_STATUS_A, 0, 0⟩
/-- MH_STOOK_STATUS.REFUSED [1:1], RO (R297). -/
def Reg.MH_STOOK_STATUS_REFUSED : RF := ⟨Reg.MH_STOOK_STATUS_A, 1, 1⟩
/-- MH_STOOK_STATUS.CODE [31:16], RO (R297). -/
def Reg.MH_STOOK_STATUS_CODE : RF := ⟨Reg.MH_STOOK_STATUS_A, 31, 16⟩
/-- Address of MH_STICKY (R297). -/
def Reg.MH_STICKY_A : Nat := 0x60040
/-- MH_STICKY.CFG_IGNORED [0:0], W1C (R297). -/
def Reg.MH_STICKY_CFG_IGNORED : RF := ⟨Reg.MH_STICKY_A, 0, 0⟩
/-- Address of MH_FC_SRC (R297). -/
def Reg.MH_FC_SRC_A (k : Nat) : Nat := 0x60080 + 0x4 * k
/-- MH_FC_SRC.KIND [2:0], RW (R297). -/
def Reg.MH_FC_SRC_KIND (k : Nat) : RF := ⟨Reg.MH_FC_SRC_A k, 2, 0⟩
/-- MH_FC_SRC.INDEX [15:4], RW (R297). -/
def Reg.MH_FC_SRC_INDEX (k : Nat) : RF := ⟨Reg.MH_FC_SRC_A k, 15, 4⟩
/-- Address of MH_FC_THRESH (R297). -/
def Reg.MH_FC_THRESH_A (k : Nat) : Nat := 0x600A0 + 0x4 * k
/-- MH_FC_THRESH.HI [15:0], RW (R297). -/
def Reg.MH_FC_THRESH_HI (k : Nat) : RF := ⟨Reg.MH_FC_THRESH_A k, 15, 0⟩
/-- MH_FC_THRESH.LO [31:16], RW (R297). -/
def Reg.MH_FC_THRESH_LO (k : Nat) : RF := ⟨Reg.MH_FC_THRESH_A k, 31, 16⟩
/-- Address of MH_CORE_CFG (R297). -/
def Reg.MH_CORE_CFG_A (c : Nat) : Nat := 0x60100 + 0x4 * c
/-- MH_CORE_CFG.PART [3:0], RW (R297). -/
def Reg.MH_CORE_CFG_PART (c : Nat) : RF := ⟨Reg.MH_CORE_CFG_A c, 3, 0⟩
/-- MH_CORE_CFG.ENABLE [4:4], RW (R297). -/
def Reg.MH_CORE_CFG_ENABLE (c : Nat) : RF := ⟨Reg.MH_CORE_CFG_A c, 4, 4⟩
/-- Address of MH_TELEM_STEP (R298). -/
def Reg.MH_TELEM_STEP_A (p : Nat) : Nat := 0x60200 + 0x20 * p
/-- MH_TELEM_STEP.TELEM_STEP [31:0], RO (R298). -/
def Reg.MH_TELEM_STEP (p : Nat) : RF := ⟨Reg.MH_TELEM_STEP_A p, 31, 0⟩
/-- Address of MH_TELEM_COUNT (R298). -/
def Reg.MH_TELEM_COUNT_A (p : Nat) : Nat := 0x60204 + 0x20 * p
/-- MH_TELEM_COUNT.TELEM_COUNT [31:0], RO (R298). -/
def Reg.MH_TELEM_COUNT (p : Nat) : RF := ⟨Reg.MH_TELEM_COUNT_A p, 31, 0⟩
/-- Address of MH_TELEM_SUM_LO (R298). -/
def Reg.MH_TELEM_SUM_LO_A (p : Nat) : Nat := 0x60208 + 0x20 * p
/-- MH_TELEM_SUM_LO.TELEM_SUM_LO [31:0], RO (R298). -/
def Reg.MH_TELEM_SUM_LO (p : Nat) : RF := ⟨Reg.MH_TELEM_SUM_LO_A p, 31, 0⟩
/-- Address of MH_TELEM_SUM_HI (R298). -/
def Reg.MH_TELEM_SUM_HI_A (p : Nat) : Nat := 0x6020C + 0x20 * p
/-- MH_TELEM_SUM_HI.TELEM_SUM_HI [31:0], RO (R298). -/
def Reg.MH_TELEM_SUM_HI (p : Nat) : RF := ⟨Reg.MH_TELEM_SUM_HI_A p, 31, 0⟩
/-- Address of MH_TELEM (R298). -/
def Reg.MH_TELEM_A (p : Nat) : Nat := 0x60210 + 0x20 * p
/-- MH_TELEM.TELEM_MAX [15:0], RO (R298). -/
def Reg.MH_TELEM_TELEM_MAX (p : Nat) : RF := ⟨Reg.MH_TELEM_A p, 15, 0⟩
/-- MH_TELEM.TELEM_BAD [31:16], RO (R298). -/
def Reg.MH_TELEM_TELEM_BAD (p : Nat) : RF := ⟨Reg.MH_TELEM_A p, 31, 16⟩
/-- Address of MH_SPILLS (R298). -/
def Reg.MH_SPILLS_A (p : Nat) : Nat := 0x60214 + 0x20 * p
/-- MH_SPILLS.SPILLS [31:0], RO (R298). -/
def Reg.MH_SPILLS (p : Nat) : RF := ⟨Reg.MH_SPILLS_A p, 31, 0⟩
/-- Address of MH_REFUSALS (R298). -/
def Reg.MH_REFUSALS_A (p : Nat) : Nat := 0x60218 + 0x20 * p
/-- MH_REFUSALS.REFUSALS [31:0], RO (R298). -/
def Reg.MH_REFUSALS (p : Nat) : RF := ⟨Reg.MH_REFUSALS_A p, 31, 0⟩
/-- Address of MH_UNDERRUNS (R298). -/
def Reg.MH_UNDERRUNS_A (p : Nat) : Nat := 0x6021C + 0x20 * p
/-- MH_UNDERRUNS.UNDERRUNS [31:0], RO (R298). -/
def Reg.MH_UNDERRUNS (p : Nat) : RF := ⟨Reg.MH_UNDERRUNS_A p, 31, 0⟩
/-- Address of BG_CTRL (R349). -/
def Reg.BG_CTRL_A : Nat := 0x90000
/-- BG_CTRL.EPOCH_US [6:0], RW·CFG (R349). -/
def Reg.BG_CTRL_EPOCH_US : RF := ⟨Reg.BG_CTRL_A, 6, 0⟩
/-- BG_CTRL.ENERGY_EN [7:7], RW·CFG (R349). -/
def Reg.BG_CTRL_ENERGY_EN : RF := ⟨Reg.BG_CTRL_A, 7, 7⟩
/-- Address of BG_TEMP (R349). -/
def Reg.BG_TEMP_A : Nat := 0x90004
/-- BG_TEMP.TEMP_STOP [11:0], RW (R349). -/
def Reg.BG_TEMP_TEMP_STOP : RF := ⟨Reg.BG_TEMP_A, 11, 0⟩
/-- BG_TEMP.STOP_EN [12:12], RW (R349). -/
def Reg.BG_TEMP_STOP_EN : RF := ⟨Reg.BG_TEMP_A, 12, 12⟩
/-- Address of BG_MODEL_CMD (R349). -/
def Reg.BG_MODEL_CMD_A : Nat := 0x90008
/-- BG_MODEL_CMD.SWAP [0:0], WO (R349). -/
def Reg.BG_MODEL_CMD_SWAP : RF := ⟨Reg.BG_MODEL_CMD_A, 0, 0⟩
/-- Address of BG_MODEL_STATUS (R349). -/
def Reg.BG_MODEL_STATUS_A : Nat := 0x9000C
/-- BG_MODEL_STATUS.ACTIVE [0:0], RO (R349). -/
def Reg.BG_MODEL_STATUS_ACTIVE : RF := ⟨Reg.BG_MODEL_STATUS_A, 0, 0⟩
/-- BG_MODEL_STATUS.PEND [1:1], RO (R349). -/
def Reg.BG_MODEL_STATUS_PEND : RF := ⟨Reg.BG_MODEL_STATUS_A, 1, 1⟩
/-- BG_MODEL_STATUS.REFUSED [2:2], RO (R349). -/
def Reg.BG_MODEL_STATUS_REFUSED : RF := ⟨Reg.BG_MODEL_STATUS_A, 2, 2⟩
/-- BG_MODEL_STATUS.BAD_CLASS [11:8], RO (R349). -/
def Reg.BG_MODEL_STATUS_BAD_CLASS : RF := ⟨Reg.BG_MODEL_STATUS_A, 11, 8⟩
/-- BG_MODEL_STATUS.BAD_POINT [15:12], RO (R349). -/
def Reg.BG_MODEL_STATUS_BAD_POINT : RF := ⟨Reg.BG_MODEL_STATUS_A, 15, 12⟩
/-- BG_MODEL_STATUS.CODE [31:16], RO (R349). -/
def Reg.BG_MODEL_STATUS_CODE : RF := ⟨Reg.BG_MODEL_STATUS_A, 31, 16⟩
/-- Address of BG_PM_STATUS (R349). -/
def Reg.BG_PM_STATUS_A : Nat := 0x90010
/-- BG_PM_STATUS.LEND_DEPTH [5:0], RO (R349). -/
def Reg.BG_PM_STATUS_LEND_DEPTH : RF := ⟨Reg.BG_PM_STATUS_A, 5, 0⟩
/-- BG_PM_STATUS.LEND_LOST [31:16], RO (R349). -/
def Reg.BG_PM_STATUS_LEND_LOST : RF := ⟨Reg.BG_PM_STATUS_A, 31, 16⟩
/-- Address of BG_MODEL_DETAIL (R349). -/
def Reg.BG_MODEL_DETAIL_A : Nat := 0x90014
/-- BG_MODEL_DETAIL.PART [1:0], RO (R349). -/
def Reg.BG_MODEL_DETAIL_PART : RF := ⟨Reg.BG_MODEL_DETAIL_A, 1, 0⟩
/-- BG_MODEL_DETAIL.INDEX [7:2], RO (R349). -/
def Reg.BG_MODEL_DETAIL_INDEX : RF := ⟨Reg.BG_MODEL_DETAIL_A, 7, 2⟩
/-- Address of BG_STICKY (R349). -/
def Reg.BG_STICKY_A : Nat := 0x90040
/-- BG_STICKY.CFG_IGNORED [0:0], W1C (R349). -/
def Reg.BG_STICKY_CFG_IGNORED : RF := ⟨Reg.BG_STICKY_A, 0, 0⟩
/-- BG_STICKY.BANK_IGNORED [1:1], W1C (R349). -/
def Reg.BG_STICKY_BANK_IGNORED : RF := ⟨Reg.BG_STICKY_A, 1, 1⟩
/-- Address of BG_CLUSTER (R349). -/
def Reg.BG_CLUSTER_A (c : Nat) : Nat := 0x90080 + 0x4 * c
/-- BG_CLUSTER.OPP_MHZ [12:0], RW (R349). -/
def Reg.BG_CLUSTER_OPP_MHZ (c : Nat) : RF := ⟨Reg.BG_CLUSTER_A c, 12, 0⟩
/-- BG_CLUSTER.HOME_STACK [20:16], RW (R349). -/
def Reg.BG_CLUSTER_HOME_STACK (c : Nat) : RF := ⟨Reg.BG_CLUSTER_A c, 20, 16⟩
/-- Address of BG_TEMP_NOW (R349). -/
def Reg.BG_TEMP_NOW_A (c : Nat) : Nat := 0x90100 + 0x4 * c
/-- BG_TEMP_NOW.TEMP [11:0], RO (R349). -/
def Reg.BG_TEMP_NOW_TEMP (c : Nat) : RF := ⟨Reg.BG_TEMP_NOW_A c, 11, 0⟩
/-- Address of BG_MEAS_NJ (R349). -/
def Reg.BG_MEAS_NJ_A (c : Nat) : Nat := 0x90180 + 0x4 * c
/-- BG_MEAS_NJ.MEAS_NJ [31:0], RO (R349). -/
def Reg.BG_MEAS_NJ (c : Nat) : RF := ⟨Reg.BG_MEAS_NJ_A c, 31, 0⟩
/-- Address of BG_EST_NJ (R349). -/
def Reg.BG_EST_NJ_A (c : Nat) : Nat := 0x90200 + 0x4 * c
/-- BG_EST_NJ.EST_NJ [31:0], RO (R349). -/
def Reg.BG_EST_NJ (c : Nat) : RF := ⟨Reg.BG_EST_NJ_A c, 31, 0⟩
/-- Address of BG_PCFG (R350). -/
def Reg.BG_PCFG_A (p : Nat) : Nat := 0x90300 + 0x40 * p
/-- BG_PCFG.LEND_EN [0:0], RW (R350). -/
def Reg.BG_PCFG_LEND_EN (p : Nat) : RF := ⟨Reg.BG_PCFG_A p, 0, 0⟩
/-- BG_PCFG.BORROW_EN [1:1], RW (R350). -/
def Reg.BG_PCFG_BORROW_EN (p : Nat) : RF := ⟨Reg.BG_PCFG_A p, 1, 1⟩
/-- BG_PCFG.REG_EN [2:2], RW (R350). -/
def Reg.BG_PCFG_REG_EN (p : Nat) : RF := ⟨Reg.BG_PCFG_A p, 2, 2⟩
/-- BG_PCFG.LEND_FRAC [8:4], RW (R350). -/
def Reg.BG_PCFG_LEND_FRAC (p : Nat) : RF := ⟨Reg.BG_PCFG_A p, 8, 4⟩
/-- BG_PCFG.LEND_MIN [28:16], RW (R350). -/
def Reg.BG_PCFG_LEND_MIN (p : Nat) : RF := ⟨Reg.BG_PCFG_A p, 28, 16⟩
/-- Address of BG_BUDGET_NJ (R350). -/
def Reg.BG_BUDGET_NJ_A (p : Nat) : Nat := 0x90304 + 0x40 * p
/-- BG_BUDGET_NJ.BUDGET_NJ [31:0], RO (R350). -/
def Reg.BG_BUDGET_NJ (p : Nat) : RF := ⟨Reg.BG_BUDGET_NJ_A p, 31, 0⟩
/-- Address of BG_CREDIT_NJ (R350). -/
def Reg.BG_CREDIT_NJ_A (p : Nat) : Nat := 0x90308 + 0x40 * p
/-- BG_CREDIT_NJ.CREDIT_NJ [31:0], RO (R350). -/
def Reg.BG_CREDIT_NJ (p : Nat) : RF := ⟨Reg.BG_CREDIT_NJ_A p, 31, 0⟩
/-- Address of BG_LENT_NJ (R350). -/
def Reg.BG_LENT_NJ_A (p : Nat) : Nat := 0x9030C + 0x40 * p
/-- BG_LENT_NJ.LENT_NJ [31:0], RO (R350). -/
def Reg.BG_LENT_NJ (p : Nat) : RF := ⟨Reg.BG_LENT_NJ_A p, 31, 0⟩
/-- Address of BG_LENT_LEFT_NJ (R350). -/
def Reg.BG_LENT_LEFT_NJ_A (p : Nat) : Nat := 0x90310 + 0x40 * p
/-- BG_LENT_LEFT_NJ.LENT_LEFT_NJ [31:0], RO (R350). -/
def Reg.BG_LENT_LEFT_NJ (p : Nat) : RF := ⟨Reg.BG_LENT_LEFT_NJ_A p, 31, 0⟩
/-- Address of BG_BORROWED_NJ (R350). -/
def Reg.BG_BORROWED_NJ_A (p : Nat) : Nat := 0x90314 + 0x40 * p
/-- BG_BORROWED_NJ.BORROWED_NJ [31:0], RO (R350). -/
def Reg.BG_BORROWED_NJ (p : Nat) : RF := ⟨Reg.BG_BORROWED_NJ_A p, 31, 0⟩
/-- Address of BG_USED_NJ (R350). -/
def Reg.BG_USED_NJ_A (p : Nat) : Nat := 0x90318 + 0x40 * p
/-- BG_USED_NJ.USED_NJ [31:0], RO (R350). -/
def Reg.BG_USED_NJ (p : Nat) : RF := ⟨Reg.BG_USED_NJ_A p, 31, 0⟩
/-- Address of BG_REFUSE_E (R350). -/
def Reg.BG_REFUSE_E_A (p : Nat) : Nat := 0x9031C + 0x40 * p
/-- BG_REFUSE_E.REFUSE_E [31:0], RO (R350). -/
def Reg.BG_REFUSE_E (p : Nat) : RF := ⟨Reg.BG_REFUSE_E_A p, 31, 0⟩
/-- Address of BG_REFUSE_BW (R350). -/
def Reg.BG_REFUSE_BW_A (p : Nat) : Nat := 0x90320 + 0x40 * p
/-- BG_REFUSE_BW.REFUSE_BW [31:0], RO (R350). -/
def Reg.BG_REFUSE_BW (p : Nat) : RF := ⟨Reg.BG_REFUSE_BW_A p, 31, 0⟩
/-- Address of BG_REFUSE_HOT (R350). -/
def Reg.BG_REFUSE_HOT_A (p : Nat) : Nat := 0x90324 + 0x40 * p
/-- BG_REFUSE_HOT.REFUSE_HOT [31:0], RO (R350). -/
def Reg.BG_REFUSE_HOT (p : Nat) : RF := ⟨Reg.BG_REFUSE_HOT_A p, 31, 0⟩
/-- Address of BG_AGED (R350). -/
def Reg.BG_AGED_A (p : Nat) : Nat := 0x90328 + 0x40 * p
/-- BG_AGED.AGED [15:0], RO (R350). -/
def Reg.BG_AGED (p : Nat) : RF := ⟨Reg.BG_AGED_A p, 15, 0⟩
/-- BG_AGED.ALONE [31:16], RO (R350). -/
def Reg.BG_AGED_ALONE (p : Nat) : RF := ⟨Reg.BG_AGED_A p, 31, 16⟩
/-- Address of BG_AGE (R350). -/
def Reg.BG_AGE_A (p : Nat) : Nat := 0x9032C + 0x40 * p
/-- BG_AGE.SLOT_FULL [0:0], RO (R350). -/
def Reg.BG_AGE_SLOT_FULL (p : Nat) : RF := ⟨Reg.BG_AGE_A p, 0, 0⟩
/-- BG_AGE.AGE [2:1], RO (R350). -/
def Reg.BG_AGE (p : Nat) : RF := ⟨Reg.BG_AGE_A p, 2, 1⟩
/-- BG_AGE.HOLD [3:3], RO (R350). -/
def Reg.BG_AGE_HOLD (p : Nat) : RF := ⟨Reg.BG_AGE_A p, 3, 3⟩
/-- BG_AGE.NODE [23:4], RO (R350). -/
def Reg.BG_AGE_NODE (p : Nat) : RF := ⟨Reg.BG_AGE_A p, 23, 4⟩
/-- BG_AGE.NGEN [31:24], RO (R350). -/
def Reg.BG_AGE_NGEN (p : Nat) : RF := ⟨Reg.BG_AGE_A p, 31, 24⟩
/-- Address of PSC_CTRL (R369). -/
def Reg.PSC_CTRL_A : Nat := 0xA0000
/-- PSC_CTRL.ECLASS [5:0], RW·CFG (R369). -/
def Reg.PSC_CTRL_ECLASS : RF := ⟨Reg.PSC_CTRL_A, 5, 0⟩
/-- PSC_CTRL.PREEMPT_EN [6:6], RW (R369). -/
def Reg.PSC_CTRL_PREEMPT_EN : RF := ⟨Reg.PSC_CTRL_A, 6, 6⟩
/-- Address of PSC_COPY_OP (R369). -/
def Reg.PSC_COPY_OP_A : Nat := 0xA0004
/-- PSC_COPY_OP.COPY_OP [31:0], RW·CFG (R369). -/
def Reg.PSC_COPY_OP : RF := ⟨Reg.PSC_COPY_OP_A, 31, 0⟩
/-- Address of PSC_SP_BASE_LO (R369). -/
def Reg.PSC_SP_BASE_LO_A : Nat := 0xA0008
/-- PSC_SP_BASE_LO.SP_BASE_LO [31:16], RW·CFG (R369). -/
def Reg.PSC_SP_BASE_LO : RF := ⟨Reg.PSC_SP_BASE_LO_A, 31, 16⟩
/-- Address of PSC_SP_BASE_HI (R369). -/
def Reg.PSC_SP_BASE_HI_A : Nat := 0xA000C
/-- PSC_SP_BASE_HI.SP_BASE_HI [19:0], RW·CFG (R369). -/
def Reg.PSC_SP_BASE_HI : RF := ⟨Reg.PSC_SP_BASE_HI_A, 19, 0⟩
/-- Address of PSC_SP_GRANULES (R369). -/
def Reg.PSC_SP_GRANULES_A : Nat := 0xA0010
/-- PSC_SP_GRANULES.SP_GRANULES [12:0], RW·CFG (R369). -/
def Reg.PSC_SP_GRANULES : RF := ⟨Reg.PSC_SP_GRANULES_A, 12, 0⟩
/-- Address of PSC_STATUS (R369). -/
def Reg.PSC_STATUS_A : Nat := 0xA0014
/-- PSC_STATUS.PREEMPTS [4:0], RO (R369). -/
def Reg.PSC_STATUS_PREEMPTS : RF := ⟨Reg.PSC_STATUS_A, 4, 0⟩
/-- PSC_STATUS.JOBS_BUSY [11:5], RO (R369). -/
def Reg.PSC_STATUS_JOBS_BUSY : RF := ⟨Reg.PSC_STATUS_A, 11, 5⟩
/-- PSC_STATUS.CLAIMS_USED [26:16], RO (R369). -/
def Reg.PSC_STATUS_CLAIMS_USED : RF := ⟨Reg.PSC_STATUS_A, 26, 16⟩
/-- Address of PSC_STICKY (R369). -/
def Reg.PSC_STICKY_A : Nat := 0xA0040
/-- PSC_STICKY.CFG_IGNORED [0:0], W1C (R369). -/
def Reg.PSC_STICKY_CFG_IGNORED : RF := ⟨Reg.PSC_STICKY_A, 0, 0⟩
/-- Address of PSC_SPILL_LINK (R369). -/
def Reg.PSC_SPILL_LINK_A (k : Nat) : Nat := 0xA0080 + 0x4 * k
/-- PSC_SPILL_LINK.LINK [8:0], RW (R369). -/
def Reg.PSC_SPILL_LINK (k : Nat) : RF := ⟨Reg.PSC_SPILL_LINK_A k, 8, 0⟩
/-- PSC_SPILL_LINK.VALID [9:9], RW (R369). -/
def Reg.PSC_SPILL_LINK_VALID (k : Nat) : RF := ⟨Reg.PSC_SPILL_LINK_A k, 9, 9⟩
/-- Address of PSC_GR_BASE_LO (R370). -/
def Reg.PSC_GR_BASE_LO_A (p : Nat) : Nat := 0xA0100 + 0x20 * p
/-- PSC_GR_BASE_LO.GR_BASE_LO [31:16], RW·CFG (R370). -/
def Reg.PSC_GR_BASE_LO (p : Nat) : RF := ⟨Reg.PSC_GR_BASE_LO_A p, 31, 16⟩
/-- Address of PSC_GR_BASE_HI (R370). -/
def Reg.PSC_GR_BASE_HI_A (p : Nat) : Nat := 0xA0104 + 0x20 * p
/-- PSC_GR_BASE_HI.GR_BASE_HI [19:0], RW·CFG (R370). -/
def Reg.PSC_GR_BASE_HI (p : Nat) : RF := ⟨Reg.PSC_GR_BASE_HI_A p, 19, 0⟩
/-- Address of PSC_GR (R370). -/
def Reg.PSC_GR_A (p : Nat) : Nat := 0xA0108 + 0x20 * p
/-- PSC_GR.GR_GRANULES [12:0], RW·CFG (R370). -/
def Reg.PSC_GR_GR_GRANULES (p : Nat) : RF := ⟨Reg.PSC_GR_A p, 12, 0⟩
/-- PSC_GR.VICTIM_OK [16:16], RW (R370). -/
def Reg.PSC_GR_VICTIM_OK (p : Nat) : RF := ⟨Reg.PSC_GR_A p, 16, 16⟩
/-- PSC_GR.PREEMPT_OK [17:17], RW (R370). -/
def Reg.PSC_GR_PREEMPT_OK (p : Nat) : RF := ⟨Reg.PSC_GR_A p, 17, 17⟩
/-- Address of PSC_PREEMPTIONS (R370). -/
def Reg.PSC_PREEMPTIONS_A (p : Nat) : Nat := 0xA010C + 0x20 * p
/-- PSC_PREEMPTIONS.PREEMPTIONS [31:0], RO (R370). -/
def Reg.PSC_PREEMPTIONS (p : Nat) : RF := ⟨Reg.PSC_PREEMPTIONS_A p, 31, 0⟩
/-- Address of PSC_SPILLS (R370). -/
def Reg.PSC_SPILLS_A (p : Nat) : Nat := 0xA0110 + 0x20 * p
/-- PSC_SPILLS.SPILLS [31:0], RO (R370). -/
def Reg.PSC_SPILLS (p : Nat) : RF := ⟨Reg.PSC_SPILLS_A p, 31, 0⟩
/-- Address of PSC_RESTORES (R370). -/
def Reg.PSC_RESTORES_A (p : Nat) : Nat := 0xA0114 + 0x20 * p
/-- PSC_RESTORES.RESTORES [31:0], RO (R370). -/
def Reg.PSC_RESTORES (p : Nat) : RF := ⟨Reg.PSC_RESTORES_A p, 31, 0⟩
/-- Address of PSC_SPILL_GRANULES (R370). -/
def Reg.PSC_SPILL_GRANULES_A (p : Nat) : Nat := 0xA0118 + 0x20 * p
/-- PSC_SPILL_GRANULES.SPILL_GRANULES [31:0], RO (R370). -/
def Reg.PSC_SPILL_GRANULES (p : Nat) : RF := ⟨Reg.PSC_SPILL_GRANULES_A p, 31, 0⟩
/-- Address of DC_CTRL (R394). -/
def Reg.DC_CTRL_A : Nat := 0xB0000
/-- DC_CTRL.GL [0:0], RW·CFG (R394). -/
def Reg.DC_CTRL_GL : RF := ⟨Reg.DC_CTRL_A, 0, 0⟩
/-- DC_CTRL.REPLAY [1:1], RW·CFG (R394). -/
def Reg.DC_CTRL_REPLAY : RF := ⟨Reg.DC_CTRL_A, 1, 1⟩
/-- DC_CTRL.LOG_EN [2:2], RW·CFG (R394). -/
def Reg.DC_CTRL_LOG_EN : RF := ⟨Reg.DC_CTRL_A, 2, 2⟩
/-- DC_CTRL.LOG_STALL [3:3], RW·CFG (R394). -/
def Reg.DC_CTRL_LOG_STALL : RF := ⟨Reg.DC_CTRL_A, 3, 3⟩
/-- DC_CTRL.EPOCH_CC [14:4], RW·CFG (R394). -/
def Reg.DC_CTRL_EPOCH_CC : RF := ⟨Reg.DC_CTRL_A, 14, 4⟩
/-- Address of DC_START_GC_LO (R394). -/
def Reg.DC_START_GC_LO_A : Nat := 0xB0004
/-- DC_START_GC_LO.START_LO [31:0], RW·CFG (R394). -/
def Reg.DC_START_GC_LO_START_LO : RF := ⟨Reg.DC_START_GC_LO_A, 31, 0⟩
/-- Address of DC_START_GC_HI (R394). -/
def Reg.DC_START_GC_HI_A : Nat := 0xB0008
/-- DC_START_GC_HI.START_HI [31:0], RW·CFG (R394). -/
def Reg.DC_START_GC_HI_START_HI : RF := ⟨Reg.DC_START_GC_HI_A, 31, 0⟩
/-- Address of DC_TIMES (R394). -/
def Reg.DC_TIMES_A : Nat := 0xB000C
/-- DC_TIMES.MM_DUR [15:0], RW·CFG (R394). -/
def Reg.DC_TIMES_MM_DUR : RF := ⟨Reg.DC_TIMES_A, 15, 0⟩
/-- DC_TIMES.STALL_US [31:16], RW (R394). -/
def Reg.DC_TIMES_STALL_US : RF := ⟨Reg.DC_TIMES_A, 31, 16⟩
/-- Address of DC_LOG_BASE_LO (R394). -/
def Reg.DC_LOG_BASE_LO_A : Nat := 0xB0010
/-- DC_LOG_BASE_LO.LOG_LO [31:6], RW·CFG (R394). -/
def Reg.DC_LOG_BASE_LO_LOG_LO : RF := ⟨Reg.DC_LOG_BASE_LO_A, 31, 6⟩
/-- Address of DC_LOG_BASE_HI (R394). -/
def Reg.DC_LOG_BASE_HI_A : Nat := 0xB0014
/-- DC_LOG_BASE_HI.LOG_HI [19:0], RW·CFG (R394). -/
def Reg.DC_LOG_BASE_HI_LOG_HI : RF := ⟨Reg.DC_LOG_BASE_HI_A, 19, 0⟩
/-- Address of DC_LOG_CFG (R394). -/
def Reg.DC_LOG_CFG_A : Nat := 0xB0018
/-- DC_LOG_CFG.LOG_PART [3:0], RW·CFG (R394). -/
def Reg.DC_LOG_CFG_LOG_PART : RF := ⟨Reg.DC_LOG_CFG_A, 3, 0⟩
/-- DC_LOG_CFG.LOG_LOG2 [12:8], RW·CFG (R394). -/
def Reg.DC_LOG_CFG_LOG_LOG2 : RF := ⟨Reg.DC_LOG_CFG_A, 12, 8⟩
/-- Address of DC_LOG_HEAD (R394). -/
def Reg.DC_LOG_HEAD_A : Nat := 0xB001C
/-- DC_LOG_HEAD.LOG_HEAD [31:0], RW (R394). -/
def Reg.DC_LOG_HEAD : RF := ⟨Reg.DC_LOG_HEAD_A, 31, 0⟩
/-- Address of DC_LOG_TAIL (R394). -/
def Reg.DC_LOG_TAIL_A : Nat := 0xB0020
/-- DC_LOG_TAIL.LOG_TAIL [31:0], RO (R394). -/
def Reg.DC_LOG_TAIL : RF := ⟨Reg.DC_LOG_TAIL_A, 31, 0⟩
/-- Address of DC_REPLAY_BASE_LO (R394). -/
def Reg.DC_REPLAY_BASE_LO_A : Nat := 0xB0024
/-- DC_REPLAY_BASE_LO.RPL_LO [31:6], RW·CFG (R394). -/
def Reg.DC_REPLAY_BASE_LO_RPL_LO : RF := ⟨Reg.DC_REPLAY_BASE_LO_A, 31, 6⟩
/-- Address of DC_REPLAY_BASE_HI (R394). -/
def Reg.DC_REPLAY_BASE_HI_A : Nat := 0xB0028
/-- DC_REPLAY_BASE_HI.RPL_HI [19:0], RW·CFG (R394). -/
def Reg.DC_REPLAY_BASE_HI_RPL_HI : RF := ⟨Reg.DC_REPLAY_BASE_HI_A, 19, 0⟩
/-- Address of DC_REPLAY_RECORDS (R394). -/
def Reg.DC_REPLAY_RECORDS_A : Nat := 0xB002C
/-- DC_REPLAY_RECORDS.REPLAY_RECORDS [31:0], RW·CFG (R394). -/
def Reg.DC_REPLAY_RECORDS : RF := ⟨Reg.DC_REPLAY_RECORDS_A, 31, 0⟩
/-- Address of DC_STATUS (R394). -/
def Reg.DC_STATUS_A : Nat := 0xB0030
/-- DC_STATUS.RUNNING [0:0], RO (R394). -/
def Reg.DC_STATUS_RUNNING : RF := ⟨Reg.DC_STATUS_A, 0, 0⟩
/-- DC_STATUS.WAITING [1:1], RO (R394). -/
def Reg.DC_STATUS_WAITING : RF := ⟨Reg.DC_STATUS_A, 1, 1⟩
/-- DC_STATUS.REPLAYING [2:2], RO (R394). -/
def Reg.DC_STATUS_REPLAYING : RF := ⟨Reg.DC_STATUS_A, 2, 2⟩
/-- DC_STATUS.STALLED [3:3], RO (R394). -/
def Reg.DC_STATUS_STALLED : RF := ⟨Reg.DC_STATUS_A, 3, 3⟩
/-- DC_STATUS.LOG_GAP [4:4], RO (R394). -/
def Reg.DC_STATUS_LOG_GAP : RF := ⟨Reg.DC_STATUS_A, 4, 4⟩
/-- DC_STATUS.DIVERGED [5:5], RO (R394). -/
def Reg.DC_STATUS_DIVERGED : RF := ⟨Reg.DC_STATUS_A, 5, 5⟩
/-- Address of DC_EPOCH_LO (R394). -/
def Reg.DC_EPOCH_LO_A : Nat := 0xB0034
/-- DC_EPOCH_LO.EPOCH_LO [31:0], RO (R394). -/
def Reg.DC_EPOCH_LO : RF := ⟨Reg.DC_EPOCH_LO_A, 31, 0⟩
/-- Address of DC_EPOCH_HI (R394). -/
def Reg.DC_EPOCH_HI_A : Nat := 0xB0038
/-- DC_EPOCH_HI.EPOCH_HI [31:0], RO (R394). -/
def Reg.DC_EPOCH_HI : RF := ⟨Reg.DC_EPOCH_HI_A, 31, 0⟩
/-- Address of DC_STICKY (R394). -/
def Reg.DC_STICKY_A : Nat := 0xB0040
/-- DC_STICKY.CFG_IGNORED [0:0], W1C (R394). -/
def Reg.DC_STICKY_CFG_IGNORED : RF := ⟨Reg.DC_STICKY_A, 0, 0⟩
/-- Address of DC_LOST (R394). -/
def Reg.DC_LOST_A : Nat := 0xB0044
/-- DC_LOST.LOST [31:0], RO (R394). -/
def Reg.DC_LOST : RF := ⟨Reg.DC_LOST_A, 31, 0⟩
/-- Address of DC_DIVERGE_LO (R394). -/
def Reg.DC_DIVERGE_LO_A : Nat := 0xB0048
/-- DC_DIVERGE_LO.DIV_LO [31:0], RO (R394). -/
def Reg.DC_DIVERGE_LO_DIV_LO : RF := ⟨Reg.DC_DIVERGE_LO_A, 31, 0⟩
/-- Address of DC_DIVERGE_HI (R394). -/
def Reg.DC_DIVERGE_HI_A : Nat := 0xB004C
/-- DC_DIVERGE_HI.DIV_HI [31:0], RO (R394). -/
def Reg.DC_DIVERGE_HI_DIV_HI : RF := ⟨Reg.DC_DIVERGE_HI_A, 31, 0⟩
/-- Address of DC_SLIPS (R394). -/
def Reg.DC_SLIPS_A : Nat := 0xB0050
/-- DC_SLIPS.SLIPS [31:0], RO (R394). -/
def Reg.DC_SLIPS : RF := ⟨Reg.DC_SLIPS_A, 31, 0⟩
/-- Address of DC_GL_SLIP_MAX (R394). -/
def Reg.DC_GL_SLIP_MAX_A (c : Nat) : Nat := 0xB0080 + 0x4 * c
/-- DC_GL_SLIP_MAX.SLIP_MAX [15:0], RO (R394). -/
def Reg.DC_GL_SLIP_MAX (c : Nat) : RF := ⟨Reg.DC_GL_SLIP_MAX_A c, 15, 0⟩
/-- Address of DC_PSLIPS (R394). -/
def Reg.DC_PSLIPS_A (p : Nat) : Nat := 0xB0100 + 0x20 * p
/-- DC_PSLIPS.SLIPS [31:0], RO (R394). -/
def Reg.DC_PSLIPS (p : Nat) : RF := ⟨Reg.DC_PSLIPS_A p, 31, 0⟩
/-- Address of DC_LAST_COMP (R394). -/
def Reg.DC_LAST_COMP_A (p : Nat) : Nat := 0xB0104 + 0x20 * p
/-- DC_LAST_COMP.LAST_COMP [31:0], RO (R394). -/
def Reg.DC_LAST_COMP (p : Nat) : RF := ⟨Reg.DC_LAST_COMP_A p, 31, 0⟩
/-- Address of DC_LAST_ISSUE (R394). -/
def Reg.DC_LAST_ISSUE_A (p : Nat) : Nat := 0xB0108 + 0x20 * p
/-- DC_LAST_ISSUE.LAST_ISSUE [31:0], RO (R394). -/
def Reg.DC_LAST_ISSUE (p : Nat) : RF := ⟨Reg.DC_LAST_ISSUE_A p, 31, 0⟩
/-- Address of DC_LAST_STEP (R394). -/
def Reg.DC_LAST_STEP_A (p : Nat) : Nat := 0xB010C + 0x20 * p
/-- DC_LAST_STEP.LAST_STEP [31:0], RO (R394). -/
def Reg.DC_LAST_STEP (p : Nat) : RF := ⟨Reg.DC_LAST_STEP_A p, 31, 0⟩
/-- Address of DC_CKPT_LO (R394). -/
def Reg.DC_CKPT_LO_A (p : Nat) : Nat := 0xB0110 + 0x20 * p
/-- DC_CKPT_LO.CKPT_LO [31:6], RW (R394). -/
def Reg.DC_CKPT_LO (p : Nat) : RF := ⟨Reg.DC_CKPT_LO_A p, 31, 6⟩
/-- Address of DC_CKPT_HI (R394). -/
def Reg.DC_CKPT_HI_A (p : Nat) : Nat := 0xB0114 + 0x20 * p
/-- DC_CKPT_HI.CKPT_HI [19:0], RW (R394). -/
def Reg.DC_CKPT_HI (p : Nat) : RF := ⟨Reg.DC_CKPT_HI_A p, 19, 0⟩
/-- Address of DC_CKPT_CMD (R394). -/
def Reg.DC_CKPT_CMD_A (p : Nat) : Nat := 0xB0118 + 0x20 * p
/-- DC_CKPT_CMD.REQ [0:0], WO (R394). -/
def Reg.DC_CKPT_CMD_REQ (p : Nat) : RF := ⟨Reg.DC_CKPT_CMD_A p, 0, 0⟩
/-- Address of DC_CKPT_STATUS (R394). -/
def Reg.DC_CKPT_STATUS_A (p : Nat) : Nat := 0xB011C + 0x20 * p
/-- DC_CKPT_STATUS.BUSY [0:0], RO (R394). -/
def Reg.DC_CKPT_STATUS_BUSY (p : Nat) : RF := ⟨Reg.DC_CKPT_STATUS_A p, 0, 0⟩
/-- DC_CKPT_STATUS.DONE [1:1], RO (R394). -/
def Reg.DC_CKPT_STATUS_DONE (p : Nat) : RF := ⟨Reg.DC_CKPT_STATUS_A p, 1, 1⟩
/-- DC_CKPT_STATUS.FAILED [2:2], RO (R394). -/
def Reg.DC_CKPT_STATUS_FAILED (p : Nat) : RF := ⟨Reg.DC_CKPT_STATUS_A p, 2, 2⟩
/-- DC_CKPT_STATUS.CODE [31:16], RO (R394). -/
def Reg.DC_CKPT_STATUS_CODE (p : Nat) : RF := ⟨Reg.DC_CKPT_STATUS_A p, 31, 16⟩
/-- Address of PAU_ENCL_CMD (R418). -/
def Reg.PAU_ENCL_CMD_A : Nat := 0xC0000
/-- PAU_ENCL_CMD.PART [3:0], WO (R418). -/
def Reg.PAU_ENCL_CMD_PART : RF := ⟨Reg.PAU_ENCL_CMD_A, 3, 0⟩
/-- PAU_ENCL_CMD.OP [5:4], WO (R418). -/
def Reg.PAU_ENCL_CMD_OP : RF := ⟨Reg.PAU_ENCL_CMD_A, 5, 4⟩
/-- Address of PAU_ENCL_STATUS (R418). -/
def Reg.PAU_ENCL_STATUS_A : Nat := 0xC0004
/-- PAU_ENCL_STATUS.BUSY [0:0], RO (R418). -/
def Reg.PAU_ENCL_STATUS_BUSY : RF := ⟨Reg.PAU_ENCL_STATUS_A, 0, 0⟩
/-- PAU_ENCL_STATUS.DONE [1:1], RO (R418). -/
def Reg.PAU_ENCL_STATUS_DONE : RF := ⟨Reg.PAU_ENCL_STATUS_A, 1, 1⟩
/-- PAU_ENCL_STATUS.REFUSED [2:2], RO (R418). -/
def Reg.PAU_ENCL_STATUS_REFUSED : RF := ⟨Reg.PAU_ENCL_STATUS_A, 2, 2⟩
/-- PAU_ENCL_STATUS.SCRUB_FAIL [3:3], RO (R418). -/
def Reg.PAU_ENCL_STATUS_SCRUB_FAIL : RF := ⟨Reg.PAU_ENCL_STATUS_A, 3, 3⟩
/-- PAU_ENCL_STATUS.CODE [31:16], RO (R418). -/
def Reg.PAU_ENCL_STATUS_CODE : RF := ⟨Reg.PAU_ENCL_STATUS_A, 31, 16⟩
/-- Address of PAU_LOCKED (R418). -/
def Reg.PAU_LOCKED_A : Nat := 0xC0008
/-- PAU_LOCKED.LOCKED [15:0], RO (R418). -/
def Reg.PAU_LOCKED : RF := ⟨Reg.PAU_LOCKED_A, 15, 0⟩
/-- Address of PAU_UNATTR_LO (R418). -/
def Reg.PAU_UNATTR_LO_A : Nat := 0xC000C
/-- PAU_UNATTR_LO.UNATTR_LO [31:0], RO (R418). -/
def Reg.PAU_UNATTR_LO : RF := ⟨Reg.PAU_UNATTR_LO_A, 31, 0⟩
/-- Address of PAU_UNATTR_HI (R418). -/
def Reg.PAU_UNATTR_HI_A : Nat := 0xC0010
/-- PAU_UNATTR_HI.UNATTR_HI [31:0], RO (R418). -/
def Reg.PAU_UNATTR_HI : RF := ⟨Reg.PAU_UNATTR_HI_A, 31, 0⟩
/-- Address of PAU_STICKY (R418). -/
def Reg.PAU_STICKY_A : Nat := 0xC0040
/-- PAU_STICKY.CFG_IGNORED [0:0], W1C (R418). -/
def Reg.PAU_STICKY_CFG_IGNORED : RF := ⟨Reg.PAU_STICKY_A, 0, 0⟩
/-- PAU_STICKY.ENCL_IGNORED [1:1], W1C (R418). -/
def Reg.PAU_STICKY_ENCL_IGNORED : RF := ⟨Reg.PAU_STICKY_A, 1, 1⟩
/-- Address of PAU_PCFG_CLUSTERS (R419). -/
def Reg.PAU_PCFG_CLUSTERS_A (p : Nat) : Nat := 0xC0100 + 0x40 * p
/-- PAU_PCFG_CLUSTERS.CLUSTERS [31:0], RW (R419). -/
def Reg.PAU_PCFG_CLUSTERS (p : Nat) : RF := ⟨Reg.PAU_PCFG_CLUSTERS_A p, 31, 0⟩
/-- Address of PAU_GR_BASE_LO (R419). -/
def Reg.PAU_GR_BASE_LO_A (p : Nat) : Nat := 0xC0104 + 0x40 * p
/-- PAU_GR_BASE_LO.GR_BASE_LO [31:16], RW (R419). -/
def Reg.PAU_GR_BASE_LO (p : Nat) : RF := ⟨Reg.PAU_GR_BASE_LO_A p, 31, 16⟩
/-- Address of PAU_GR_BASE_HI (R419). -/
def Reg.PAU_GR_BASE_HI_A (p : Nat) : Nat := 0xC0108 + 0x40 * p
/-- PAU_GR_BASE_HI.GR_BASE_HI [19:0], RW (R419). -/
def Reg.PAU_GR_BASE_HI (p : Nat) : RF := ⟨Reg.PAU_GR_BASE_HI_A p, 19, 0⟩
/-- Address of PAU_GR (R419). -/
def Reg.PAU_GR_A (p : Nat) : Nat := 0xC010C + 0x40 * p
/-- PAU_GR.GR_UNITS [16:0], RW (R419). -/
def Reg.PAU_GR_GR_UNITS (p : Nat) : RF := ⟨Reg.PAU_GR_A p, 16, 0⟩
/-- PAU_GR.SCRUB_GR [17:17], RW (R419). -/
def Reg.PAU_GR_SCRUB_GR (p : Nat) : RF := ⟨Reg.PAU_GR_A p, 17, 17⟩
/-- Address of PAU_ACCT_BASE_LO (R419). -/
def Reg.PAU_ACCT_BASE_LO_A (p : Nat) : Nat := 0xC0110 + 0x40 * p
/-- PAU_ACCT_BASE_LO.ACCT_BASE_LO [31:8], RW (R419). -/
def Reg.PAU_ACCT_BASE_LO (p : Nat) : RF := ⟨Reg.PAU_ACCT_BASE_LO_A p, 31, 8⟩
/-- Address of PAU_ACCT_BASE_HI (R419). -/
def Reg.PAU_ACCT_BASE_HI_A (p : Nat) : Nat := 0xC0114 + 0x40 * p
/-- PAU_ACCT_BASE_HI.ACCT_BASE_HI [19:0], RW (R419). -/
def Reg.PAU_ACCT_BASE_HI (p : Nat) : RF := ⟨Reg.PAU_ACCT_BASE_HI_A p, 19, 0⟩
/-- PAU_ACCT_BASE_HI.ACCT_LOG2 [24:20], RW (R419). -/
def Reg.PAU_ACCT_BASE_HI_ACCT_LOG2 (p : Nat) : RF := ⟨Reg.PAU_ACCT_BASE_HI_A p, 24, 20⟩
/-- Address of PAU_ACCT_EPOCHS (R419). -/
def Reg.PAU_ACCT_EPOCHS_A (p : Nat) : Nat := 0xC0118 + 0x40 * p
/-- PAU_ACCT_EPOCHS.ACCT_EPOCHS [15:0], RW (R419). -/
def Reg.PAU_ACCT_EPOCHS (p : Nat) : RF := ⟨Reg.PAU_ACCT_EPOCHS_A p, 15, 0⟩
/-- Address of PAU_ACCT_HEAD (R419). -/
def Reg.PAU_ACCT_HEAD_A (p : Nat) : Nat := 0xC011C + 0x40 * p
/-- PAU_ACCT_HEAD.ACCT_HEAD [31:0], RW (R419). -/
def Reg.PAU_ACCT_HEAD (p : Nat) : RF := ⟨Reg.PAU_ACCT_HEAD_A p, 31, 0⟩
/-- Address of PAU_ACCT_TAIL (R419). -/
def Reg.PAU_ACCT_TAIL_A (p : Nat) : Nat := 0xC0120 + 0x40 * p
/-- PAU_ACCT_TAIL.ACCT_TAIL [31:0], RO (R419). -/
def Reg.PAU_ACCT_TAIL (p : Nat) : RF := ⟨Reg.PAU_ACCT_TAIL_A p, 31, 0⟩
/-- Address of PAU_ACCT_STAT (R419). -/
def Reg.PAU_ACCT_STAT_A (p : Nat) : Nat := 0xC0124 + 0x40 * p
/-- PAU_ACCT_STAT.LATE [15:0], RO (R419). -/
def Reg.PAU_ACCT_STAT_LATE (p : Nat) : RF := ⟨Reg.PAU_ACCT_STAT_A p, 15, 0⟩
/-- PAU_ACCT_STAT.CODE [31:16], RO (R419). -/
def Reg.PAU_ACCT_STAT_CODE (p : Nat) : RF := ⟨Reg.PAU_ACCT_STAT_A p, 31, 16⟩
/-- Address of PAU_PSTATUS (R419). -/
def Reg.PAU_PSTATUS_A (p : Nat) : Nat := 0xC0128 + 0x40 * p
/-- PAU_PSTATUS.LOCKED [0:0], RO (R419). -/
def Reg.PAU_PSTATUS_LOCKED (p : Nat) : RF := ⟨Reg.PAU_PSTATUS_A p, 0, 0⟩
/-- PAU_PSTATUS.TEARING [1:1], RO (R419). -/
def Reg.PAU_PSTATUS_TEARING (p : Nat) : RF := ⟨Reg.PAU_PSTATUS_A p, 1, 1⟩
/-- PAU_PSTATUS.SCRUB_FAIL [2:2], RO (R419). -/
def Reg.PAU_PSTATUS_SCRUB_FAIL (p : Nat) : RF := ⟨Reg.PAU_PSTATUS_A p, 2, 2⟩
/-- Address of IFM_CTRL (R451). -/
def Reg.IFM_CTRL_A : Nat := 0xD0000
/-- IFM_CTRL.CRC_EN [0:0], RW (R451). -/
def Reg.IFM_CTRL_CRC_EN : RF := ⟨Reg.IFM_CTRL_A, 0, 0⟩
/-- IFM_CTRL.WDOG_EN [1:1], RW (R451). -/
def Reg.IFM_CTRL_WDOG_EN : RF := ⟨Reg.IFM_CTRL_A, 1, 1⟩
/-- IFM_CTRL.HB_EN [2:2], RW (R451). -/
def Reg.IFM_CTRL_HB_EN : RF := ⟨Reg.IFM_CTRL_A, 2, 2⟩
/-- IFM_CTRL.PATROL_EN [3:3], RW (R451). -/
def Reg.IFM_CTRL_PATROL_EN : RF := ⟨Reg.IFM_CTRL_A, 3, 3⟩
/-- Address of IFM_TIMES (R451). -/
def Reg.IFM_TIMES_A : Nat := 0xD0004
/-- IFM_TIMES.HB_TIMEOUT [15:0], RW (R451). -/
def Reg.IFM_TIMES_HB_TIMEOUT : RF := ⟨Reg.IFM_TIMES_A, 15, 0⟩
/-- IFM_TIMES.WINDOW [31:16], RW (R451). -/
def Reg.IFM_TIMES_WINDOW : RF := ⟨Reg.IFM_TIMES_A, 31, 16⟩
/-- Address of IFM_PATROL (R451). -/
def Reg.IFM_PATROL_A : Nat := 0xD0008
/-- IFM_PATROL.PATROL_MS [15:0], RW (R451). -/
def Reg.IFM_PATROL_PATROL_MS : RF := ⟨Reg.IFM_PATROL_A, 15, 0⟩
/-- Address of IFM_CRC_RESULT (R451). -/
def Reg.IFM_CRC_RESULT_A : Nat := 0xD000C
/-- IFM_CRC_RESULT.CRC_RESULT [31:0], RO (R451). -/
def Reg.IFM_CRC_RESULT : RF := ⟨Reg.IFM_CRC_RESULT_A, 31, 0⟩
/-- Address of IFM_CRC_STATUS (R451). -/
def Reg.IFM_CRC_STATUS_A : Nat := 0xD0010
/-- IFM_CRC_STATUS.DONE [0:0], RO (R451). -/
def Reg.IFM_CRC_STATUS_DONE : RF := ⟨Reg.IFM_CRC_STATUS_A, 0, 0⟩
/-- IFM_CRC_STATUS.MISMATCH [1:1], RO (R451). -/
def Reg.IFM_CRC_STATUS_MISMATCH : RF := ⟨Reg.IFM_CRC_STATUS_A, 1, 1⟩
/-- IFM_CRC_STATUS.MISMATCHES [31:16], RO (R451). -/
def Reg.IFM_CRC_STATUS_MISMATCHES : RF := ⟨Reg.IFM_CRC_STATUS_A, 31, 16⟩
/-- Address of IFM_HB (R451). -/
def Reg.IFM_HB_A : Nat := 0xD0014
/-- IFM_HB.HB_COUNT [31:0], RO (R451). -/
def Reg.IFM_HB_HB_COUNT : RF := ⟨Reg.IFM_HB_A, 31, 0⟩
/-- Address of IFM_STATUS (R451). -/
def Reg.IFM_STATUS_A : Nat := 0xD0018
/-- IFM_STATUS.REBUILD [0:0], RO (R451). -/
def Reg.IFM_STATUS_REBUILD : RF := ⟨Reg.IFM_STATUS_A, 0, 0⟩
/-- IFM_STATUS.DR_RESTART [1:1], RO (R451). -/
def Reg.IFM_STATUS_DR_RESTART : RF := ⟨Reg.IFM_STATUS_A, 1, 1⟩
/-- IFM_STATUS.THR_RESTART [2:2], RO (R451). -/
def Reg.IFM_STATUS_THR_RESTART : RF := ⟨Reg.IFM_STATUS_A, 2, 2⟩
/-- IFM_STATUS.SLICE_DOWN [31:16], RO (R451). -/
def Reg.IFM_STATUS_SLICE_DOWN : RF := ⟨Reg.IFM_STATUS_A, 31, 16⟩
/-- Address of IFM_IRQ_STATUS (R451). -/
def Reg.IFM_IRQ_STATUS_A : Nat := 0xD0020
/-- IFM_IRQ_STATUS.PART_ERR [15:0], W1C (R451). -/
def Reg.IFM_IRQ_STATUS_PART_ERR : RF := ⟨Reg.IFM_IRQ_STATUS_A, 15, 0⟩
/-- IFM_IRQ_STATUS.ADMIN [16:16], W1C (R451). -/
def Reg.IFM_IRQ_STATUS_ADMIN : RF := ⟨Reg.IFM_IRQ_STATUS_A, 16, 16⟩
/-- Address of IFM_IRQ_MASK (R451). -/
def Reg.IFM_IRQ_MASK_A : Nat := 0xD0024
/-- IFM_IRQ_MASK.PART_EN [15:0], RW (R451). -/
def Reg.IFM_IRQ_MASK_PART_EN : RF := ⟨Reg.IFM_IRQ_MASK_A, 15, 0⟩
/-- IFM_IRQ_MASK.ADMIN_EN [16:16], RW (R451). -/
def Reg.IFM_IRQ_MASK_ADMIN_EN : RF := ⟨Reg.IFM_IRQ_MASK_A, 16, 16⟩
/-- Address of IFM_STICKY (R451). -/
def Reg.IFM_STICKY_A : Nat := 0xD0040
/-- IFM_STICKY.CFG_IGNORED [0:0], W1C (R451). -/
def Reg.IFM_STICKY_CFG_IGNORED : RF := ⟨Reg.IFM_STICKY_A, 0, 0⟩
/-- IFM_STICKY.OVF [1:1], W1C (R451). -/
def Reg.IFM_STICKY_OVF : RF := ⟨Reg.IFM_STICKY_A, 1, 1⟩
/-- Address of IFM_OVERFLOW (R451). -/
def Reg.IFM_OVERFLOW_A : Nat := 0xD0044
/-- IFM_OVERFLOW.OVERFLOW [31:0], RO (R451). -/
def Reg.IFM_OVERFLOW : RF := ⟨Reg.IFM_OVERFLOW_A, 31, 0⟩
/-- Address of IFM_LOST (R451). -/
def Reg.IFM_LOST_A : Nat := 0xD0048
/-- IFM_LOST.LOST [31:0], RO (R451). -/
def Reg.IFM_LOST : RF := ⟨Reg.IFM_LOST_A, 31, 0⟩
/-- Address of IFM_LOG_USED (R451). -/
def Reg.IFM_LOG_USED_A : Nat := 0xD004C
/-- IFM_LOG_USED.LOG_USED [6:0], RO (R451). -/
def Reg.IFM_LOG_USED : RF := ⟨Reg.IFM_LOG_USED_A, 6, 0⟩
/-- Address of IFM_FIRST (R451). -/
def Reg.IFM_FIRST_A : Nat := 0xD0080
/-- IFM_FIRST.CODE [15:0], RO (R451). -/
def Reg.IFM_FIRST_CODE : RF := ⟨Reg.IFM_FIRST_A, 15, 0⟩
/-- IFM_FIRST.SEV [18:16], RO (R451). -/
def Reg.IFM_FIRST_SEV : RF := ⟨Reg.IFM_FIRST_A, 18, 16⟩
/-- IFM_FIRST.PART [23:20], RO (R451). -/
def Reg.IFM_FIRST_PART : RF := ⟨Reg.IFM_FIRST_A, 23, 20⟩
/-- IFM_FIRST.PVALID [24:24], RO (R451). -/
def Reg.IFM_FIRST_PVALID : RF := ⟨Reg.IFM_FIRST_A, 24, 24⟩
/-- IFM_FIRST.VALID [31:31], RO (R451). -/
def Reg.IFM_FIRST_VALID : RF := ⟨Reg.IFM_FIRST_A, 31, 31⟩
/-- Address of IFM_FIRST_DETAIL (R451). -/
def Reg.IFM_FIRST_DETAIL_A : Nat := 0xD0084
/-- IFM_FIRST_DETAIL.DETAIL [31:0], RO (R451). -/
def Reg.IFM_FIRST_DETAIL : RF := ⟨Reg.IFM_FIRST_DETAIL_A, 31, 0⟩
/-- Address of IFM_FIRST_GC_LO (R451). -/
def Reg.IFM_FIRST_GC_LO_A : Nat := 0xD0088
/-- IFM_FIRST_GC_LO.GC_LO [31:0], RO (R451). -/
def Reg.IFM_FIRST_GC_LO : RF := ⟨Reg.IFM_FIRST_GC_LO_A, 31, 0⟩
/-- Address of IFM_FIRST_GC_HI (R451). -/
def Reg.IFM_FIRST_GC_HI_A : Nat := 0xD008C
/-- IFM_FIRST_GC_HI.GC_HI [31:0], RO (R451). -/
def Reg.IFM_FIRST_GC_HI : RF := ⟨Reg.IFM_FIRST_GC_HI_A, 31, 0⟩
/-- Address of IFM_CAPTURE_CLR (R451). -/
def Reg.IFM_CAPTURE_CLR_A : Nat := 0xD00B0
/-- IFM_CAPTURE_CLR.FIRST [0:0], WO (R451). -/
def Reg.IFM_CAPTURE_CLR_FIRST : RF := ⟨Reg.IFM_CAPTURE_CLR_A, 0, 0⟩
/-- IFM_CAPTURE_CLR.LAST [1:1], WO (R451). -/
def Reg.IFM_CAPTURE_CLR_LAST : RF := ⟨Reg.IFM_CAPTURE_CLR_A, 1, 1⟩
/-- IFM_CAPTURE_CLR.WORST [2:2], WO (R451). -/
def Reg.IFM_CAPTURE_CLR_WORST : RF := ⟨Reg.IFM_CAPTURE_CLR_A, 2, 2⟩
/-- Address of IFM_LOG_BASE_LO (R451). -/
def Reg.IFM_LOG_BASE_LO_A : Nat := 0xD00C0
/-- IFM_LOG_BASE_LO.LOG_LO [31:5], RW·CFG (R451). -/
def Reg.IFM_LOG_BASE_LO_LOG_LO : RF := ⟨Reg.IFM_LOG_BASE_LO_A, 31, 5⟩
/-- Address of IFM_LOG_BASE_HI (R451). -/
def Reg.IFM_LOG_BASE_HI_A : Nat := 0xD00C4
/-- IFM_LOG_BASE_HI.LOG_HI [19:0], RW·CFG (R451). -/
def Reg.IFM_LOG_BASE_HI_LOG_HI : RF := ⟨Reg.IFM_LOG_BASE_HI_A, 19, 0⟩
/-- IFM_LOG_BASE_HI.LOG_LOG2 [24:20], RW·CFG (R451). -/
def Reg.IFM_LOG_BASE_HI_LOG_LOG2 : RF := ⟨Reg.IFM_LOG_BASE_HI_A, 24, 20⟩
/-- IFM_LOG_BASE_HI.LOG_PART [28:25], RW·CFG (R451). -/
def Reg.IFM_LOG_BASE_HI_LOG_PART : RF := ⟨Reg.IFM_LOG_BASE_HI_A, 28, 25⟩
/-- IFM_LOG_BASE_HI.LOG_EN [29:29], RW·CFG (R451). -/
def Reg.IFM_LOG_BASE_HI_LOG_EN : RF := ⟨Reg.IFM_LOG_BASE_HI_A, 29, 29⟩
/-- Address of IFM_LOG_HEAD (R451). -/
def Reg.IFM_LOG_HEAD_A : Nat := 0xD00C8
/-- IFM_LOG_HEAD.LOG_HEAD [31:0], RW (R451). -/
def Reg.IFM_LOG_HEAD : RF := ⟨Reg.IFM_LOG_HEAD_A, 31, 0⟩
/-- Address of IFM_LOG_TAIL (R451). -/
def Reg.IFM_LOG_TAIL_A : Nat := 0xD00CC
/-- IFM_LOG_TAIL.LOG_TAIL [31:0], RO (R451). -/
def Reg.IFM_LOG_TAIL : RF := ⟨Reg.IFM_LOG_TAIL_A, 31, 0⟩
/-- Address of IFM_REPLAY (R452). -/
def Reg.IFM_REPLAY_A (p : Nat) : Nat := 0xD0100 + 0x4 * p
/-- IFM_REPLAY.REPLAY_MAX [3:0], RW (R452). -/
def Reg.IFM_REPLAY_REPLAY_MAX (p : Nat) : RF := ⟨Reg.IFM_REPLAY_A p, 3, 0⟩
/-- IFM_REPLAY.STREAM_RESTART [4:4], RW (R452). -/
def Reg.IFM_REPLAY_STREAM_RESTART (p : Nat) : RF := ⟨Reg.IFM_REPLAY_A p, 4, 4⟩
/-- IFM_REPLAY.REPLAYS [31:16], RO (R452). -/
def Reg.IFM_REPLAY_REPLAYS (p : Nat) : RF := ⟨Reg.IFM_REPLAY_A p, 31, 16⟩
/-- Address of IFM_LAST (R451). -/
def Reg.IFM_LAST_A : Nat := 0xD0090
/-- IFM_LAST.CODE [15:0], RO (R451). -/
def Reg.IFM_LAST_CODE : RF := ⟨Reg.IFM_LAST_A, 15, 0⟩
/-- IFM_LAST.SEV [18:16], RO (R451). -/
def Reg.IFM_LAST_SEV : RF := ⟨Reg.IFM_LAST_A, 18, 16⟩
/-- IFM_LAST.PART [23:20], RO (R451). -/
def Reg.IFM_LAST_PART : RF := ⟨Reg.IFM_LAST_A, 23, 20⟩
/-- IFM_LAST.PVALID [24:24], RO (R451). -/
def Reg.IFM_LAST_PVALID : RF := ⟨Reg.IFM_LAST_A, 24, 24⟩
/-- IFM_LAST.VALID [31:31], RO (R451). -/
def Reg.IFM_LAST_VALID : RF := ⟨Reg.IFM_LAST_A, 31, 31⟩
/-- Address of IFM_LAST_DETAIL (R451). -/
def Reg.IFM_LAST_DETAIL_A : Nat := 0xD0094
/-- IFM_LAST_DETAIL.DETAIL [31:0], RO (R451). -/
def Reg.IFM_LAST_DETAIL : RF := ⟨Reg.IFM_LAST_DETAIL_A, 31, 0⟩
/-- Address of IFM_LAST_GC_LO (R451). -/
def Reg.IFM_LAST_GC_LO_A : Nat := 0xD0098
/-- IFM_LAST_GC_LO.GC_LO [31:0], RO (R451). -/
def Reg.IFM_LAST_GC_LO : RF := ⟨Reg.IFM_LAST_GC_LO_A, 31, 0⟩
/-- Address of IFM_LAST_GC_HI (R451). -/
def Reg.IFM_LAST_GC_HI_A : Nat := 0xD009C
/-- IFM_LAST_GC_HI.GC_HI [31:0], RO (R451). -/
def Reg.IFM_LAST_GC_HI : RF := ⟨Reg.IFM_LAST_GC_HI_A, 31, 0⟩
/-- Address of IFM_WORST (R451). -/
def Reg.IFM_WORST_A : Nat := 0xD00A0
/-- IFM_WORST.CODE [15:0], RO (R451). -/
def Reg.IFM_WORST_CODE : RF := ⟨Reg.IFM_WORST_A, 15, 0⟩
/-- IFM_WORST.SEV [18:16], RO (R451). -/
def Reg.IFM_WORST_SEV : RF := ⟨Reg.IFM_WORST_A, 18, 16⟩
/-- IFM_WORST.PART [23:20], RO (R451). -/
def Reg.IFM_WORST_PART : RF := ⟨Reg.IFM_WORST_A, 23, 20⟩
/-- IFM_WORST.PVALID [24:24], RO (R451). -/
def Reg.IFM_WORST_PVALID : RF := ⟨Reg.IFM_WORST_A, 24, 24⟩
/-- IFM_WORST.VALID [31:31], RO (R451). -/
def Reg.IFM_WORST_VALID : RF := ⟨Reg.IFM_WORST_A, 31, 31⟩
/-- Address of IFM_WORST_DETAIL (R451). -/
def Reg.IFM_WORST_DETAIL_A : Nat := 0xD00A4
/-- IFM_WORST_DETAIL.DETAIL [31:0], RO (R451). -/
def Reg.IFM_WORST_DETAIL : RF := ⟨Reg.IFM_WORST_DETAIL_A, 31, 0⟩
/-- Address of IFM_WORST_GC_LO (R451). -/
def Reg.IFM_WORST_GC_LO_A : Nat := 0xD00A8
/-- IFM_WORST_GC_LO.GC_LO [31:0], RO (R451). -/
def Reg.IFM_WORST_GC_LO : RF := ⟨Reg.IFM_WORST_GC_LO_A, 31, 0⟩
/-- Address of IFM_WORST_GC_HI (R451). -/
def Reg.IFM_WORST_GC_HI_A : Nat := 0xD00AC
/-- IFM_WORST_GC_HI.GC_HI [31:0], RO (R451). -/
def Reg.IFM_WORST_GC_HI : RF := ⟨Reg.IFM_WORST_GC_HI_A, 31, 0⟩
/-- Address of GLB_BLOCK_VERSION (R466). -/
def Reg.GLB_BLOCK_VERSION_A : Nat := 0x00000
/-- GLB_BLOCK_VERSION.BLOCK_VERSION [31:0], RO (R466). -/
def Reg.GLB_BLOCK_VERSION : RF := ⟨Reg.GLB_BLOCK_VERSION_A, 31, 0⟩
/-- Address of GLB_FW_VERSION (R466). -/
def Reg.GLB_FW_VERSION_A : Nat := 0x00004
/-- GLB_FW_VERSION.FW_VERSION [31:0], RO (R466). -/
def Reg.GLB_FW_VERSION : RF := ⟨Reg.GLB_FW_VERSION_A, 31, 0⟩
/-- Address of GLB_UNIT_EN (R466). -/
def Reg.GLB_UNIT_EN_A : Nat := 0x00008
/-- GLB_UNIT_EN.EN [15:0], WM·LK (R466). -/
def Reg.GLB_UNIT_EN : RF := ⟨Reg.GLB_UNIT_EN_A, 15, 0⟩
/-- GLB_UNIT_EN.MASK [31:16], WM·LK (R466). -/
def Reg.GLB_UNIT_EN_MASK : RF := ⟨Reg.GLB_UNIT_EN_A, 31, 16⟩
/-- Address of GLB_UNIT_STATUS (R466). -/
def Reg.GLB_UNIT_STATUS_A : Nat := 0x0000C
/-- GLB_UNIT_STATUS.READY [15:0], RO (R466). -/
def Reg.GLB_UNIT_STATUS_READY : RF := ⟨Reg.GLB_UNIT_STATUS_A, 15, 0⟩
/-- GLB_UNIT_STATUS.STOPPING [31:16], RO (R466). -/
def Reg.GLB_UNIT_STATUS_STOPPING : RF := ⟨Reg.GLB_UNIT_STATUS_A, 31, 16⟩
/-- Address of GLB_UNLOCK (R466). -/
def Reg.GLB_UNLOCK_A : Nat := 0x00010
/-- GLB_UNLOCK.KEY [15:0], WO (R466). -/
def Reg.GLB_UNLOCK_KEY : RF := ⟨Reg.GLB_UNLOCK_A, 15, 0⟩
/-- GLB_UNLOCK.ARMED [16:16], RO (R466). -/
def Reg.GLB_UNLOCK_ARMED : RF := ⟨Reg.GLB_UNLOCK_A, 16, 16⟩
/-- Address of GLB_CRC_REF (R466). -/
def Reg.GLB_CRC_REF_A : Nat := 0x00014
/-- GLB_CRC_REF.CRC_REF [31:0], RW·LK (R466). -/
def Reg.GLB_CRC_REF : RF := ⟨Reg.GLB_CRC_REF_A, 31, 0⟩
/-- Address of GLB_GC_LO (R466). -/
def Reg.GLB_GC_LO_A : Nat := 0x00018
/-- GLB_GC_LO.GC_LO [31:0], RO (R466). -/
def Reg.GLB_GC_LO : RF := ⟨Reg.GLB_GC_LO_A, 31, 0⟩
/-- Address of GLB_GC_HI (R466). -/
def Reg.GLB_GC_HI_A : Nat := 0x0001C
/-- GLB_GC_HI.GC_HI [31:0], RO (R466). -/
def Reg.GLB_GC_HI : RF := ⟨Reg.GLB_GC_HI_A, 31, 0⟩
/-- Address of GLB_CAP_GRAPH (R466). -/
def Reg.GLB_CAP_GRAPH_A : Nat := 0x00020
/-- GLB_CAP_GRAPH [31:0], RO (R466). -/
def Reg.GLB_CAP_GRAPH : RF := ⟨Reg.GLB_CAP_GRAPH_A, 31, 0⟩
/-- Address of GLB_CAP_DISPATCH (R466). -/
def Reg.GLB_CAP_DISPATCH_A : Nat := 0x00024
/-- GLB_CAP_DISPATCH [31:0], RO (R466). -/
def Reg.GLB_CAP_DISPATCH : RF := ⟨Reg.GLB_CAP_DISPATCH_A, 31, 0⟩
/-- Address of GLB_CAP_CTRL (R466). -/
def Reg.GLB_CAP_CTRL_A : Nat := 0x00028
/-- GLB_CAP_CTRL [31:0], RO (R466). -/
def Reg.GLB_CAP_CTRL : RF := ⟨Reg.GLB_CAP_CTRL_A, 31, 0⟩
/-- Address of GLB_CAP_EXT (R466). -/
def Reg.GLB_CAP_EXT_A : Nat := 0x0002C
/-- GLB_CAP_EXT [31:0], RO (R466). -/
def Reg.GLB_CAP_EXT : RF := ⟨Reg.GLB_CAP_EXT_A, 31, 0⟩
/-- Address of GLB_STICKY (R466). -/
def Reg.GLB_STICKY_A : Nat := 0x00040
/-- GLB_STICKY.LK_IGNORED [0:0], W1C (R466). -/
def Reg.GLB_STICKY_LK_IGNORED : RF := ⟨Reg.GLB_STICKY_A, 0, 0⟩
/-- GLB_STICKY.BAD_KEY [1:1], W1C (R466). -/
def Reg.GLB_STICKY_BAD_KEY : RF := ⟨Reg.GLB_STICKY_A, 1, 1⟩
/-- GLB_STICKY.UNLOCK_EXPIRED [2:2], W1C (R466). -/
def Reg.GLB_STICKY_UNLOCK_EXPIRED : RF := ⟨Reg.GLB_STICKY_A, 2, 2⟩
/-- GLB_STICKY.ORDER_REFUSED [3:3], W1C (R466). -/
def Reg.GLB_STICKY_ORDER_REFUSED : RF := ⟨Reg.GLB_STICKY_A, 3, 3⟩
/-- Address of GLB_TW_SEL (R466). -/
def Reg.GLB_TW_SEL_A (w : Nat) : Nat := 0x00100 + 0x4 * w
/-- GLB_TW_SEL.TABLE [7:0], RW (R466). -/
def Reg.GLB_TW_SEL_TABLE (w : Nat) : RF := ⟨Reg.GLB_TW_SEL_A w, 7, 0⟩
/-- GLB_TW_SEL.BASE [27:16], RW (R466). -/
def Reg.GLB_TW_SEL_BASE (w : Nat) : RF := ⟨Reg.GLB_TW_SEL_A w, 27, 16⟩
/-- Address of THR_BOOT_STATUS (R497). -/
def Reg.THR_BOOT_STATUS_A : Nat := 0xF0000
/-- THR_BOOT_STATUS.PHASE [2:0], RO (R497). -/
def Reg.THR_BOOT_STATUS_PHASE : RF := ⟨Reg.THR_BOOT_STATUS_A, 2, 0⟩
/-- THR_BOOT_STATUS.CODE [31:16], RO (R497). -/
def Reg.THR_BOOT_STATUS_CODE : RF := ⟨Reg.THR_BOOT_STATUS_A, 31, 16⟩
/-- Address of THR_FW_BYTES (R497). -/
def Reg.THR_FW_BYTES_A : Nat := 0xF0004
/-- THR_FW_BYTES.FW_BYTES [19:0], RO (R497). -/
def Reg.THR_FW_BYTES : RF := ⟨Reg.THR_FW_BYTES_A, 19, 0⟩
/-- Address of THR_CTRL (R497). -/
def Reg.THR_CTRL_A : Nat := 0xF0008
/-- THR_CTRL.QUIESCE_US [15:0], RW (R497). -/
def Reg.THR_CTRL_QUIESCE_US : RF := ⟨Reg.THR_CTRL_A, 15, 0⟩
/-- Address of THR_PWR_STATUS (R497). -/
def Reg.THR_PWR_STATUS_A : Nat := 0xF000C
/-- THR_PWR_STATUS.PSTATE [1:0], RO (R497). -/
def Reg.THR_PWR_STATUS_PSTATE : RF := ⟨Reg.THR_PWR_STATUS_A, 1, 0⟩
/-- THR_PWR_STATUS.SURPRISE [2:2], W1C (R497). -/
def Reg.THR_PWR_STATUS_SURPRISE : RF := ⟨Reg.THR_PWR_STATUS_A, 2, 2⟩
/-- Address of THR_ID_MFR (R497). -/
def Reg.THR_ID_MFR_A : Nat := 0xF0010
/-- THR_ID_MFR.ID_MFR [10:0], RW·CFG (R497). -/
def Reg.THR_ID_MFR : RF := ⟨Reg.THR_ID_MFR_A, 10, 0⟩
/-- Address of THR_BSR_LENGTH (R497). -/
def Reg.THR_BSR_LENGTH_A : Nat := 0xF0014
/-- THR_BSR_LENGTH.BSR_LENGTH [31:0], RO (R497). -/
def Reg.THR_BSR_LENGTH : RF := ⟨Reg.THR_BSR_LENGTH_A, 31, 0⟩
/-- Address of THR_MBIST_STATUS (R497). -/
def Reg.THR_MBIST_STATUS_A : Nat := 0xF0018
/-- THR_MBIST_STATUS.RUNNING [0:0], RO (R497). -/
def Reg.THR_MBIST_STATUS_RUNNING : RF := ⟨Reg.THR_MBIST_STATUS_A, 0, 0⟩
/-- THR_MBIST_STATUS.DONE [1:1], RO (R497). -/
def Reg.THR_MBIST_STATUS_DONE : RF := ⟨Reg.THR_MBIST_STATUS_A, 1, 1⟩
/-- THR_MBIST_STATUS.FAIL [2:2], RO (R497). -/
def Reg.THR_MBIST_STATUS_FAIL : RF := ⟨Reg.THR_MBIST_STATUS_A, 2, 2⟩
/-- THR_MBIST_STATUS.FAIL_BANK [13:8], RO (R497). -/
def Reg.THR_MBIST_STATUS_FAIL_BANK : RF := ⟨Reg.THR_MBIST_STATUS_A, 13, 8⟩
/-- Address of THR_STICKY (R497). -/
def Reg.THR_STICKY_A : Nat := 0xF0040
/-- THR_STICKY.CFG_IGNORED [0:0], W1C (R497). -/
def Reg.THR_STICKY_CFG_IGNORED : RF := ⟨Reg.THR_STICKY_A, 0, 0⟩
/-- THR_STICKY.TAP_REFUSED [1:1], W1C (R497). -/
def Reg.THR_STICKY_TAP_REFUSED : RF := ⟨Reg.THR_STICKY_A, 1, 1⟩
/-- Address of DBG_TRACE_CTRL (R512). -/
def Reg.DBG_TRACE_CTRL_A : Nat := 0xE0000
/-- DBG_TRACE_CTRL.ON [0:0], RW (R512). -/
def Reg.DBG_TRACE_CTRL_ON : RF := ⟨Reg.DBG_TRACE_CTRL_A, 0, 0⟩
/-- DBG_TRACE_CTRL.DEST [2:1], RW·CFG (R512). -/
def Reg.DBG_TRACE_CTRL_DEST : RF := ⟨Reg.DBG_TRACE_CTRL_A, 2, 1⟩
/-- DBG_TRACE_CTRL.RING_PART [6:3], RW·CFG (R512). -/
def Reg.DBG_TRACE_CTRL_RING_PART : RF := ⟨Reg.DBG_TRACE_CTRL_A, 6, 3⟩
/-- DBG_TRACE_CTRL.RING_LOG2 [11:7], RW·CFG (R512). -/
def Reg.DBG_TRACE_CTRL_RING_LOG2 : RF := ⟨Reg.DBG_TRACE_CTRL_A, 11, 7⟩
/-- Address of DBG_TRACE_KINDS (R512). -/
def Reg.DBG_TRACE_KINDS_A : Nat := 0xE0004
/-- DBG_TRACE_KINDS.KINDS [15:0], RW (R512). -/
def Reg.DBG_TRACE_KINDS : RF := ⟨Reg.DBG_TRACE_KINDS_A, 15, 0⟩
/-- Address of DBG_TRACE_PARTS (R512). -/
def Reg.DBG_TRACE_PARTS_A : Nat := 0xE0008
/-- DBG_TRACE_PARTS.PARTS [15:0], RW (R512). -/
def Reg.DBG_TRACE_PARTS : RF := ⟨Reg.DBG_TRACE_PARTS_A, 15, 0⟩
/-- Address of DBG_TRACE_MARK (R512). -/
def Reg.DBG_TRACE_MARK_A : Nat := 0xE000C
/-- DBG_TRACE_MARK.MARK [31:0], WO (R512). -/
def Reg.DBG_TRACE_MARK : RF := ⟨Reg.DBG_TRACE_MARK_A, 31, 0⟩
/-- Address of DBG_TRACE_LOST (R512). -/
def Reg.DBG_TRACE_LOST_A : Nat := 0xE0010
/-- DBG_TRACE_LOST.LOST [31:0], RO (R512). -/
def Reg.DBG_TRACE_LOST : RF := ⟨Reg.DBG_TRACE_LOST_A, 31, 0⟩
/-- Address of DBG_TRACE_RING_LO (R512). -/
def Reg.DBG_TRACE_RING_LO_A : Nat := 0xE0014
/-- DBG_TRACE_RING_LO.RING_LO [31:6], RW·CFG (R512). -/
def Reg.DBG_TRACE_RING_LO : RF := ⟨Reg.DBG_TRACE_RING_LO_A, 31, 6⟩
/-- Address of DBG_TRACE_RING_HI (R512). -/
def Reg.DBG_TRACE_RING_HI_A : Nat := 0xE0018
/-- DBG_TRACE_RING_HI.RING_HI [19:0], RW·CFG (R512). -/
def Reg.DBG_TRACE_RING_HI : RF := ⟨Reg.DBG_TRACE_RING_HI_A, 19, 0⟩
/-- Address of DBG_TRACE_HEAD (R512). -/
def Reg.DBG_TRACE_HEAD_A : Nat := 0xE001C
/-- DBG_TRACE_HEAD.HEAD [31:0], RW (R512). -/
def Reg.DBG_TRACE_HEAD : RF := ⟨Reg.DBG_TRACE_HEAD_A, 31, 0⟩
/-- Address of DBG_TRACE_TAIL (R512). -/
def Reg.DBG_TRACE_TAIL_A : Nat := 0xE0020
/-- DBG_TRACE_TAIL.TAIL [31:0], RO (R512). -/
def Reg.DBG_TRACE_TAIL : RF := ⟨Reg.DBG_TRACE_TAIL_A, 31, 0⟩
/-- Address of DBG_SNAP_CMD (R512). -/
def Reg.DBG_SNAP_CMD_A : Nat := 0xE0024
/-- DBG_SNAP_CMD.OP [1:0], WO (R512). -/
def Reg.DBG_SNAP_CMD_OP : RF := ⟨Reg.DBG_SNAP_CMD_A, 1, 0⟩
/-- Address of DBG_SNAP_STATUS (R512). -/
def Reg.DBG_SNAP_STATUS_A : Nat := 0xE0028
/-- DBG_SNAP_STATUS.HELD [0:0], RO (R512). -/
def Reg.DBG_SNAP_STATUS_HELD : RF := ⟨Reg.DBG_SNAP_STATUS_A, 0, 0⟩
/-- DBG_SNAP_STATUS.SOURCE [2:1], RO (R512). -/
def Reg.DBG_SNAP_STATUS_SOURCE : RF := ⟨Reg.DBG_SNAP_STATUS_A, 2, 1⟩
/-- DBG_SNAP_STATUS.MISSED [31:16], RO (R512). -/
def Reg.DBG_SNAP_STATUS_MISSED : RF := ⟨Reg.DBG_SNAP_STATUS_A, 31, 16⟩
/-- Address of DBG_SNAP_CFG (R512). -/
def Reg.DBG_SNAP_CFG_A : Nat := 0xE002C
/-- DBG_SNAP_CFG.ON_ERR [0:0], RW (R512). -/
def Reg.DBG_SNAP_CFG_ON_ERR : RF := ⟨Reg.DBG_SNAP_CFG_A, 0, 0⟩
/-- DBG_SNAP_CFG.SEV [3:1], RW (R512). -/
def Reg.DBG_SNAP_CFG_SEV : RF := ⟨Reg.DBG_SNAP_CFG_A, 3, 1⟩
/-- Address of DBG_SNAP_GC_LO (R512). -/
def Reg.DBG_SNAP_GC_LO_A : Nat := 0xE0030
/-- DBG_SNAP_GC_LO.GC_LO [31:0], RO (R512). -/
def Reg.DBG_SNAP_GC_LO : RF := ⟨Reg.DBG_SNAP_GC_LO_A, 31, 0⟩
/-- Address of DBG_SNAP_GC_HI (R512). -/
def Reg.DBG_SNAP_GC_HI_A : Nat := 0xE0034
/-- DBG_SNAP_GC_HI.GC_HI [31:0], RO (R512). -/
def Reg.DBG_SNAP_GC_HI : RF := ⟨Reg.DBG_SNAP_GC_HI_A, 31, 0⟩
/-- Address of DBG_CTR_CMD (R512). -/
def Reg.DBG_CTR_CMD_A : Nat := 0xE0038
/-- DBG_CTR_CMD.CLEAR [0:0], WO (R512). -/
def Reg.DBG_CTR_CMD_CLEAR : RF := ⟨Reg.DBG_CTR_CMD_A, 0, 0⟩
/-- Address of DBG_STICKY (R512). -/
def Reg.DBG_STICKY_A : Nat := 0xE0040
/-- DBG_STICKY.CFG_IGNORED [0:0], W1C (R512). -/
def Reg.DBG_STICKY_CFG_IGNORED : RF := ⟨Reg.DBG_STICKY_A, 0, 0⟩
/-- Address of DBG_WAIT_LO (R512). -/
def Reg.DBG_WAIT_LO_A (k : Nat) : Nat := 0xE0080 + 0x10 * k
/-- DBG_WAIT_LO.WAIT_LO [31:0], RO (R512). -/
def Reg.DBG_WAIT_LO (k : Nat) : RF := ⟨Reg.DBG_WAIT_LO_A k, 31, 0⟩
/-- Address of DBG_WAIT_HI (R512). -/
def Reg.DBG_WAIT_HI_A (k : Nat) : Nat := 0xE0084 + 0x10 * k
/-- DBG_WAIT_HI.WAIT_HI [31:0], RO (R512). -/
def Reg.DBG_WAIT_HI (k : Nat) : RF := ⟨Reg.DBG_WAIT_HI_A k, 31, 0⟩
/-- Address of DBG_ISSUED (R512). -/
def Reg.DBG_ISSUED_A (k : Nat) : Nat := 0xE0088 + 0x10 * k
/-- DBG_ISSUED.ISSUED [31:0], RO (R512). -/
def Reg.DBG_ISSUED (k : Nat) : RF := ⟨Reg.DBG_ISSUED_A k, 31, 0⟩
/-- Address of DBG_WAIT_MAX (R512). -/
def Reg.DBG_WAIT_MAX_A (k : Nat) : Nat := 0xE008C + 0x10 * k
/-- DBG_WAIT_MAX.WAIT_MAX [31:0], RO (R512). -/
def Reg.DBG_WAIT_MAX (k : Nat) : RF := ⟨Reg.DBG_WAIT_MAX_A k, 31, 0⟩

/-- Register words of unit page 0x2, part 1. -/
def regRows2_1 (b : Build) : List RegRow :=
  [⟨0x20000, 0x0, 1, [⟨5, 0, .rw, .cfg, (b.nodes / 65536), 1, b.nodes / 32768⟩, ⟨21, 16, .rw, .cfg, (b.edges / 262144), 1, b.edges / 131072⟩]⟩,
   ⟨0x20004, 0x0, 1, [⟨0, 0, .ro, .plain, 0, 0, 1⟩, ⟨7, 1, .ro, .plain, 0, 0, 127⟩]⟩,
   ⟨0x20008, 0x0, 1, [⟨20, 0, .ro, .plain, 0, 0, 2097151⟩]⟩,
   ⟨0x2000C, 0x0, 1, [⟨22, 0, .ro, .plain, 0, 0, 8388607⟩]⟩,
   ⟨0x20010, 0x0, 1, [⟨20, 0, .ro, .plain, 0, 0, 2097151⟩]⟩,
   ⟨0x20014, 0x0, 1, [⟨22, 0, .ro, .plain, 0, 0, 8388607⟩]⟩,
   ⟨0x20018, 0x0, 1, [⟨15, 0, .ro, .plain, 0, 0, 65535⟩, ⟨31, 16, .ro, .plain, 0, 0, 65535⟩]⟩,
   ⟨0x2001C, 0x0, 1, [⟨12, 0, .ro, .plain, b.slots, 0, 8191⟩]⟩,
   ⟨0x20020, 0x0, 1, [⟨4, 0, .ro, .plain, 0, 0, 31⟩]⟩,
   ⟨0x20040, 0x0, 1, [⟨0, 0, .w1c, .plain, 0, 0, 1⟩]⟩,
   ⟨0x20100, 0x20, b.partitions, [⟨12, 0, .rw, .plain, b.slots, 0, 8191⟩]⟩,
   ⟨0x20104, 0x20, b.partitions, [⟨15, 0, .rw, .plain, (b.nodes / 64), 0, 65535⟩]⟩,
   ⟨0x20108, 0x20, b.partitions, [⟨15, 0, .rw, .plain, (b.nodes / 64), 0, 65535⟩]⟩,
   ⟨0x2010C, 0x20, b.partitions, [⟨12, 0, .ro, .plain, 0, 0, 8191⟩]⟩,
   ⟨0x20110, 0x20, b.partitions, [⟨15, 0, .ro, .plain, 0, 0, 65535⟩]⟩,
   ⟨0x20114, 0x20, b.partitions, [⟨15, 0, .ro, .plain, 0, 0, 65535⟩]⟩]
/-- Register words of unit page 0x2, part 2. -/
def regRows2_2 (b : Build) : List RegRow :=
  [⟨0x20118, 0x20, b.partitions, [⟨31, 0, .ro, .plain, 1, 0, 4294967295⟩]⟩,
   ⟨0x2011C, 0x20, b.partitions, [⟨31, 0, .ro, .plain, 1, 0, 4294967295⟩]⟩]
/-- Register words of unit page 0x2. -/
def regRows2 (b : Build) : List RegRow := regRows2_1 b ++ regRows2_2 b
/-- Register words of unit page 0x3, part 1. -/
def regRows3_1 (b : Build) : List RegRow :=
  [⟨0x30000, 0x0, 1, [⟨12, 0, .rw, .cfg, 3584, 1, 4095⟩, ⟨28, 16, .rw, .cfg, 2048, 0, 4094⟩]⟩,
   ⟨0x30004, 0x0, 1, [⟨6, 0, .rw, .cfg, 0, 0, 64⟩]⟩,
   ⟨0x30010, 0x0, 1, [⟨12, 0, .ro, .plain, 0, 0, 8191⟩, ⟨13, 13, .ro, .plain, 0, 0, 1⟩, ⟨26, 16, .ro, .plain, 0, 0, 2047⟩]⟩,
   ⟨0x30014, 0x0, 1, [⟨10, 0, .ro, .plain, 0, 0, 2047⟩, ⟨30, 12, .ro, .plain, 0, 0, 524287⟩]⟩,
   ⟨0x30020, 0x4, 8, [⟨20, 0, .ro, .plain, 0, 0, 2097151⟩]⟩,
   ⟨0x30040, 0x0, 1, [⟨0, 0, .w1c, .plain, 0, 0, 1⟩]⟩,
   ⟨0x30100, 0x8, b.partitions, [⟨31, 6, .rw, .plain, 0, 0, 67108863⟩]⟩,
   ⟨0x30104, 0x8, b.partitions, [⟨19, 0, .rw, .plain, 0, 0, 1048575⟩]⟩,
   ⟨0x30200, 0x0, 1, [⟨15, 0, .rw, .plain, 200, 1, 65535⟩, ⟨31, 16, .rw, .plain, 200, 0, 65535⟩]⟩,
   ⟨0x30204, 0x0, 1, [⟨0, 0, .rw, .plain, 0, 0, 1⟩]⟩,
   ⟨0x30208, 0x0, 1, [⟨1, 0, .wo, .plain, 0, 0, 3⟩]⟩,
   ⟨0x3020C, 0x0, 1, [⟨11, 0, .ro, .plain, 0, 0, 4095⟩, ⟨12, 12, .ro, .plain, 0, 0, 1⟩, ⟨13, 13, .ro, .plain, 0, 0, 1⟩, ⟨14, 14, .ro, .plain, 0, 0, 1⟩, ⟨15, 15, .ro, .plain, 0, 0, 1⟩, ⟨31, 16, .ro, .plain, 0, 0, 65535⟩]⟩,
   ⟨0x30210, 0x0, 1, [⟨12, 0, .ro, .plain, 0, 0, 8191⟩, ⟨26, 16, .ro, .plain, 0, 0, 2047⟩]⟩,
   ⟨0x30300, 0x10, b.partitions, [⟨11, 0, .rw, .plain, 0, 0, 4095⟩, ⟨12, 12, .rw, .plain, 0, 0, 1⟩]⟩,
   ⟨0x30304, 0x10, b.partitions, [⟨31, 0, .rw, .plain, 1, 0, 4294967295⟩]⟩,
   ⟨0x30308, 0x10, b.partitions, [⟨31, 0, .ro, .plain, 0, 0, 4294967295⟩]⟩]
/-- Register words of unit page 0x3, part 2. -/
def regRows3_2 (b : Build) : List RegRow :=
  [⟨0x3030C, 0x10, b.partitions, [⟨31, 0, .ro, .plain, 0, 0, 4294967295⟩]⟩]
/-- Register words of unit page 0x3. -/
def regRows3 (b : Build) : List RegRow := regRows3_1 b ++ regRows3_2 b
/-- Register words of unit page 0x4, part 1. -/
def regRows4_1 (b : Build) : List RegRow :=
  [⟨0x40000, 0x0, 1, [⟨0, 0, .rw, .cfg, 1, 0, 1⟩, ⟨3, 1, .rw, .cfg, 7, 0, 7⟩]⟩,
   ⟨0x40004, 0x0, 1, [⟨15, 0, .rw, .plain, 16, 1, 65535⟩]⟩,
   ⟨0x40008, 0x0, 1, [⟨8, 0, .wo, .plain, 0, 0, 511⟩, ⟨11, 9, .wo, .plain, 0, 0, 7⟩]⟩,
   ⟨0x4000C, 0x0, 1, [⟨8, 0, .ro, .plain, 0, 0, 511⟩, ⟨11, 9, .ro, .plain, 0, 0, 7⟩, ⟨12, 12, .ro, .plain, 0, 0, 1⟩, ⟨13, 13, .ro, .plain, 0, 0, 1⟩, ⟨14, 14, .ro, .plain, 0, 0, 1⟩, ⟨15, 15, .ro, .plain, 0, 0, 1⟩, ⟨16, 16, .ro, .plain, 0, 0, 1⟩]⟩,
   ⟨0x40010, 0x0, 1, [⟨0, 0, .w1c, .plain, 0, 0, 1⟩]⟩,
   ⟨0x40040, 0x4, 16, [⟨15, 0, .rw, .plain, 200, 0, 65535⟩]⟩,
   ⟨0x40100, 0x4, (b.clusters / 2), [⟨31, 0, .rw, .plain, 0, 0, 4294967295⟩]⟩,
   ⟨0x40140, 0x4, (b.clusters / 2), [⟨31, 0, .ro, .plain, 0, 0, 4294967295⟩]⟩,
   ⟨0x40180, 0x4, (b.clusters / 2), [⟨31, 0, .ro, .plain, 0, 0, 4294967295⟩]⟩]
/-- Register words of unit page 0x4. -/
def regRows4 (b : Build) : List RegRow := regRows4_1 b
/-- Register words of unit page 0x1, part 1. -/
def regRows1_1 (b : Build) : List RegRow :=
  [⟨0x10000, 0x0, 1, [⟨3, 0, .rw, .cfg, 8, 2, 8⟩, ⟨4, 4, .rw, .cfg, 1, 0, 1⟩]⟩,
   ⟨0x10004, 0x0, 1, [⟨31, 8, .rw, .plain, 0, 0, 16777215⟩]⟩,
   ⟨0x10008, 0x0, 1, [⟨19, 0, .rw, .plain, 0, 0, 1048575⟩]⟩,
   ⟨0x1000C, 0x0, 1, [⟨2, 0, .wo, .plain, 0, 0, 7⟩, ⟨5, 3, .wo, .plain, 0, 0, 7⟩]⟩,
   ⟨0x10010, 0x0, 1, [⟨31, 0, .rw, .plain, 0, 0, 4294967295⟩]⟩,
   ⟨0x10014, 0x0, 1, [⟨31, 0, .rw, .plain, 0, 0, 4294967295⟩]⟩,
   ⟨0x10018, 0x0, 1, [⟨0, 0, .ro, .plain, 0, 0, 1⟩, ⟨1, 1, .ro, .plain, 0, 0, 1⟩, ⟨2, 2, .ro, .plain, 0, 0, 1⟩, ⟨31, 16, .ro, .plain, 0, 0, 65535⟩]⟩,
   ⟨0x10020, 0x0, 1, [⟨31, 0, .ro, .plain, 0, 0, 4294967295⟩]⟩,
   ⟨0x10024, 0x0, 1, [⟨8, 0, .ro, .plain, 0, 0, 511⟩, ⟨28, 16, .ro, .plain, 0, 0, 8191⟩]⟩,
   ⟨0x10028, 0x0, 1, [⟨6, 0, .ro, .plain, 0, 0, 127⟩]⟩,
   ⟨0x1002C, 0x0, 1, [⟨31, 0, .ro, .plain, 0, 0, 4294967295⟩]⟩,
   ⟨0x10030, 0x0, 1, [⟨15, 0, .w1c, .plain, 0, 0, 65535⟩, ⟨31, 16, .w1c, .plain, 0, 0, 65535⟩]⟩,
   ⟨0x10034, 0x0, 1, [⟨15, 0, .rw, .plain, 0, 0, 65535⟩, ⟨31, 16, .rw, .plain, 0, 0, 65535⟩]⟩,
   ⟨0x10038, 0x0, 1, [⟨15, 0, .rw, .plain, 100, 1, 65535⟩]⟩,
   ⟨0x10040, 0x0, 1, [⟨0, 0, .w1c, .plain, 0, 0, 1⟩]⟩,
   ⟨0x10100, 0x4, b.partitions, [⟨14, 0, .rw, .plain, 16384, 0, 32767⟩]⟩]
/-- Register words of unit page 0x1, part 2. -/
def regRows1_2 (b : Build) : List RegRow :=
  [⟨0x10140, 0x4, b.partitions, [⟨14, 0, .ro, .plain, 0, 0, 32767⟩]⟩]
/-- Register words of unit page 0x1. -/
def regRows1 (b : Build) : List RegRow := regRows1_1 b ++ regRows1_2 b
/-- Register words of unit page 0x7, part 1. -/
def regRows7_1 (b : Build) : List RegRow :=
  [⟨0x70000, 0x0, 1, [⟨17, 0, .ro, .plain, 131072, 0, 262143⟩]⟩,
   ⟨0x70004, 0x0, 1, [⟨15, 0, .ro, .plain, 1, 0, 65535⟩]⟩,
   ⟨0x70008, 0x0, 1, [⟨0, 0, .ro, .plain, 0, 0, 1⟩]⟩,
   ⟨0x70100, 0x40, b.partitions, [⟨16, 0, .rw, .sh, 4096, 0, 65536⟩]⟩,
   ⟨0x70104, 0x40, b.partitions, [⟨16, 0, .rw, .sh, 8192, 1, 65536⟩]⟩,
   ⟨0x70108, 0x40, b.partitions, [⟨16, 0, .rw, .sh, 2048, 1, 65536⟩]⟩,
   ⟨0x7010C, 0x40, b.partitions, [⟨6, 0, .rw, .sh, 2, 0, 64⟩, ⟨14, 8, .rw, .sh, 1, 0, 64⟩, ⟨19, 16, .rw, .sh, 4, 0, 10⟩]⟩,
   ⟨0x70110, 0x40, b.partitions, [⟨15, 0, .rw, .plain, b.seqs, 0, 65535⟩]⟩,
   ⟨0x70114, 0x40, b.partitions, [⟨15, 0, .ro, .plain, 0, 0, 65535⟩]⟩,
   ⟨0x70118, 0x40, b.partitions, [⟨1, 0, .ro, .plain, 0, 0, 3⟩, ⟨31, 16, .ro, .plain, 0, 0, 65535⟩]⟩,
   ⟨0x7011C, 0x40, b.partitions, [⟨31, 0, .ro, .plain, 0, 0, 4294967295⟩]⟩,
   ⟨0x70120, 0x40, b.partitions, [⟨31, 0, .ro, .plain, 0, 0, 4294967295⟩]⟩,
   ⟨0x70124, 0x40, b.partitions, [⟨31, 0, .ro, .plain, 0, 0, 4294967295⟩]⟩,
   ⟨0x70128, 0x40, b.partitions, [⟨31, 0, .ro, .plain, 0, 0, 4294967295⟩]⟩,
   ⟨0x7012C, 0x40, b.partitions, [⟨14, 0, .ro, .plain, 0, 0, 32767⟩]⟩,
   ⟨0x70130, 0x40, b.partitions, [⟨31, 0, .ro, .plain, 0, 0, 4294967295⟩]⟩]
/-- Register words of unit page 0x7, part 2. -/
def regRows7_2 (b : Build) : List RegRow :=
  [⟨0x70134, 0x40, b.partitions, [⟨31, 0, .ro, .plain, 0, 0, 4294967295⟩]⟩,
   ⟨0x70138, 0x40, b.partitions, [⟨15, 0, .ro, .plain, 0, 0, 65535⟩]⟩]
/-- Register words of unit page 0x7. -/
def regRows7 (b : Build) : List RegRow := regRows7_1 b ++ regRows7_2 b
/-- Register words of unit page 0x8, part 1. -/
def regRows8_1 (b : Build) : List RegRow :=
  [⟨0x80000, 0x0, 1, [⟨6, 0, .ro, .plain, 0, 0, 127⟩, ⟨7, 7, .ro, .plain, 0, 0, 1⟩, ⟨11, 8, .ro, .plain, 0, 0, 15⟩, ⟨31, 16, .ro, .plain, 0, 0, 65535⟩]⟩,
   ⟨0x80040, 0x0, 1, [⟨0, 0, .w1c, .plain, 0, 0, 1⟩, ⟨1, 1, .w1c, .plain, 0, 0, 1⟩]⟩,
   ⟨0x80100, 0x40, b.partitions, [⟨14, 0, .rw, .cfg, 0, 0, 32767⟩, ⟨31, 16, .rw, .cfg, 0, 0, 65535⟩]⟩,
   ⟨0x80104, 0x40, b.partitions, [⟨11, 0, .rw, .cfg, 0, 0, 4095⟩, ⟨28, 16, .rw, .cfg, 0, 0, 8191⟩]⟩,
   ⟨0x80108, 0x40, b.partitions, [⟨0, 0, .rw, .sh, 0, 0, 1⟩, ⟨15, 8, .rw, .sh, 1, 1, 255⟩]⟩,
   ⟨0x8010C, 0x40, b.partitions, [⟨31, 0, .rw, .sh, 981467136, 0, 4294967295⟩]⟩,
   ⟨0x80110, 0x40, b.partitions, [⟨31, 0, .rw, .sh, 1065353216, 0, 4294967295⟩]⟩,
   ⟨0x80114, 0x40, b.partitions, [⟨0, 0, .wo, .plain, 0, 0, 1⟩, ⟨1, 1, .wo, .plain, 0, 0, 1⟩]⟩,
   ⟨0x80118, 0x40, b.partitions, [⟨0, 0, .ro, .plain, 0, 0, 1⟩, ⟨1, 1, .ro, .plain, 0, 0, 1⟩, ⟨2, 2, .ro, .plain, 0, 0, 1⟩, ⟨4, 4, .ro, .plain, 0, 0, 1⟩, ⟨5, 5, .ro, .plain, 0, 0, 1⟩, ⟨6, 6, .ro, .plain, 0, 0, 1⟩]⟩,
   ⟨0x8011C, 0x40, b.partitions, [⟨31, 0, .rw, .sh, 0, 0, 4294967295⟩]⟩,
   ⟨0x80120, 0x40, b.partitions, [⟨31, 0, .rw, .sh, 0, 0, 4294967295⟩]⟩,
   ⟨0x80124, 0x40, b.partitions, [⟨31, 0, .rw, .sh, 0, 0, 4294967295⟩]⟩,
   ⟨0x80128, 0x40, b.partitions, [⟨31, 0, .rw, .sh, 0, 0, 4294967295⟩]⟩,
   ⟨0x8012C, 0x40, b.partitions, [⟨31, 0, .ro, .plain, 0, 0, 4294967295⟩]⟩,
   ⟨0x80130, 0x40, b.partitions, [⟨31, 0, .ro, .plain, 0, 0, 4294967295⟩]⟩,
   ⟨0x80134, 0x40, b.partitions, [⟨31, 0, .ro, .plain, 0, 0, 4294967295⟩]⟩,
   ⟨0x80138, 0x40, b.partitions, [⟨31, 0, .ro, .plain, 0, 0, 4294967295⟩]⟩,
   ⟨0x8013C, 0x40, b.partitions, [⟨31, 0, .ro, .plain, 0, 0, 4294967295⟩]⟩]
/-- Register words of unit page 0x8. -/
def regRows8 (b : Build) : List RegRow := regRows8_1 b
/-- Register words of unit page 0x5, part 1. -/
def regRows5_1 (_b : Build) : List RegRow :=
  [⟨0x50000, 0x0, 1, [⟨15, 0, .rw, .plain, 10, 0, 65535⟩]⟩,
   ⟨0x50004, 0x0, 1, [⟨6, 0, .ro, .plain, 0, 0, 127⟩, ⟨7, 7, .ro, .plain, 0, 0, 1⟩, ⟨13, 8, .ro, .plain, 0, 0, 63⟩]⟩,
   ⟨0x50008, 0x0, 1, [⟨15, 0, .rw, .plain, 0, 0, 65535⟩]⟩,
   ⟨0x5000C, 0x0, 1, [⟨31, 0, .rw, .plain, 0, 0, 4294967295⟩]⟩,
   ⟨0x50010, 0x0, 1, [⟨1, 0, .wo, .plain, 0, 0, 3⟩]⟩,
   ⟨0x50014, 0x0, 1, [⟨15, 0, .ro, .plain, 0, 0, 65535⟩]⟩,
   ⟨0x50020, 0x0, 1, [⟨15, 0, .rw, .plain, 0, 0, 65535⟩]⟩,
   ⟨0x50024, 0x0, 1, [⟨31, 0, .rw, .plain, 0, 0, 4294967295⟩]⟩,
   ⟨0x50028, 0x0, 1, [⟨17, 0, .rw, .plain, 0, 0, 262143⟩, ⟨31, 20, .rw, .plain, 0, 0, 4095⟩]⟩,
   ⟨0x5002C, 0x0, 1, [⟨31, 0, .rw, .plain, 0, 0, 4294967295⟩]⟩,
   ⟨0x50030, 0x0, 1, [⟨11, 0, .rw, .plain, 0, 0, 4095⟩, ⟨12, 12, .rw, .plain, 0, 0, 1⟩]⟩,
   ⟨0x50034, 0x0, 1, [⟨1, 0, .wo, .plain, 0, 0, 3⟩, ⟨13, 2, .wo, .plain, 0, 0, 4095⟩]⟩,
   ⟨0x50038, 0x0, 1, [⟨11, 0, .ro, .plain, 0, 0, 4095⟩, ⟨12, 12, .ro, .plain, 0, 0, 1⟩, ⟨13, 13, .ro, .plain, 0, 0, 1⟩, ⟨31, 16, .ro, .plain, 0, 0, 65535⟩]⟩,
   ⟨0x50040, 0x0, 1, [⟨0, 0, .w1c, .plain, 0, 0, 1⟩]⟩,
   ⟨0x50050, 0x0, 1, [⟨8, 0, .rw, .plain, 0, 0, 511⟩, ⟨12, 9, .rw, .plain, 0, 0, 15⟩, ⟨13, 13, .rw, .plain, 0, 0, 1⟩, ⟨31, 16, .rw, .plain, 0, 0, 65535⟩]⟩,
   ⟨0x50054, 0x0, 1, [⟨31, 0, .rw, .plain, 0, 0, 4294967295⟩]⟩]
/-- Register words of unit page 0x5, part 2. -/
def regRows5_2 (b : Build) : List RegRow :=
  [⟨0x50058, 0x0, 1, [⟨15, 0, .rw, .plain, 0, 0, 65535⟩]⟩,
   ⟨0x5005C, 0x0, 1, [⟨1, 0, .wo, .plain, 0, 0, 3⟩]⟩,
   ⟨0x50060, 0x0, 1, [⟨5, 0, .ro, .plain, 0, 0, 63⟩, ⟨6, 6, .ro, .plain, 0, 0, 1⟩, ⟨7, 7, .ro, .plain, 0, 0, 1⟩, ⟨31, 16, .ro, .plain, 0, 0, 65535⟩]⟩,
   ⟨0x50070, 0x0, 1, [⟨7, 0, .wo, .plain, 0, 0, 255⟩, ⟨9, 8, .wo, .plain, 0, 0, 3⟩]⟩,
   ⟨0x50074, 0x0, 1, [⟨0, 0, .ro, .plain, 0, 0, 1⟩, ⟨1, 1, .ro, .plain, 0, 0, 1⟩, ⟨31, 16, .ro, .plain, 0, 0, 65535⟩]⟩,
   ⟨0x50100, 0x10, b.partitions, [⟨15, 0, .rw, .cfg, 0, 0, 65535⟩]⟩,
   ⟨0x50104, 0x10, b.partitions, [⟨16, 0, .rw, .cfg, 0, 0, 131071⟩]⟩,
   ⟨0x50108, 0x10, b.partitions, [⟨12, 0, .ro, .plain, 0, 0, 8191⟩, ⟨26, 20, .ro, .plain, 0, 0, 127⟩]⟩,
   ⟨0x5010C, 0x10, b.partitions, [⟨15, 0, .ro, .plain, 0, 0, 65535⟩, ⟨31, 16, .ro, .plain, 0, 0, 65535⟩]⟩]
/-- Register words of unit page 0x5. -/
def regRows5 (b : Build) : List RegRow := regRows5_1 b ++ regRows5_2 b
/-- Register words of the core windows (R280), part 1. -/
def regRowsCore_1 (b : Build) : List RegRow :=
  [⟨0x1FC000, 0x100, b.ccores, [⟨11, 0, .ro, .plain, 0, 0, 4095⟩, ⟨12, 12, .ro, .plain, 0, 0, 1⟩]⟩,
   ⟨0x1FC004, 0x100, b.ccores, [⟨11, 0, .rw, .plain, 0, 0, 4095⟩]⟩,
   ⟨0x1FC008, 0x100, b.ccores, [⟨31, 0, .ro, .plain, 0, 0, 4294967295⟩]⟩,
   ⟨0x1FC00C, 0x100, b.ccores, [⟨4, 0, .ro, .plain, 0, 0, 31⟩, ⟨5, 5, .ro, .plain, 0, 0, 1⟩, ⟨6, 6, .w1c, .plain, 0, 0, 1⟩, ⟨7, 7, .w1c, .plain, 0, 0, 1⟩]⟩,
   ⟨0x1FC010, 0x100, b.ccores, [⟨31, 0, .ro, .plain, 0, 0, 4294967295⟩]⟩,
   ⟨0x1FC014, 0x100, b.ccores, [⟨31, 0, .ro, .plain, 0, 0, 4294967295⟩]⟩,
   ⟨0x1FC018, 0x100, b.ccores, [⟨31, 0, .ro, .plain, 0, 0, 4294967295⟩]⟩,
   ⟨0x1FC01C, 0x100, b.ccores, [⟨31, 0, .ro, .plain, 0, 0, 4294967295⟩]⟩,
   ⟨0x1FC020, 0x100, b.ccores, [⟨31, 0, .ro, .plain, 0, 0, 4294967295⟩]⟩,
   ⟨0x1FC024, 0x100, b.ccores, [⟨31, 0, .ro, .plain, 0, 0, 4294967295⟩]⟩,
   ⟨0x1FC028, 0x100, b.ccores, [⟨31, 0, .ro, .plain, 0, 0, 4294967295⟩]⟩,
   ⟨0x1FC02C, 0x100, b.ccores, [⟨31, 0, .ro, .plain, 0, 0, 4294967295⟩]⟩,
   ⟨0x1FC030, 0x100, b.ccores, [⟨31, 0, .ro, .plain, 0, 0, 4294967295⟩]⟩,
   ⟨0x1FC034, 0x100, b.ccores, [⟨31, 0, .ro, .plain, 0, 0, 4294967295⟩]⟩,
   ⟨0x1FC038, 0x100, b.ccores, [⟨31, 0, .ro, .plain, 0, 0, 4294967295⟩]⟩,
   ⟨0x1FC03C, 0x100, b.ccores, [⟨31, 0, .ro, .plain, 0, 0, 4294967295⟩]⟩,
   ⟨0x1FC040, 0x100, b.ccores, [⟨31, 0, .ro, .plain, 0, 0, 4294967295⟩]⟩,
   ⟨0x1FC044, 0x100, b.ccores, [⟨31, 0, .ro, .plain, 0, 0, 4294967295⟩]⟩,
   ⟨0x1FC048, 0x100, b.ccores, [⟨31, 0, .ro, .plain, 0, 0, 4294967295⟩]⟩,
   ⟨0x1FC04C, 0x100, b.ccores, [⟨31, 0, .ro, .plain, 0, 0, 4294967295⟩]⟩,
   ⟨0x1FC050, 0x100, b.ccores, [⟨31, 0, .rw, .plain, 0, 0, 4294967295⟩]⟩,
   ⟨0x1FC054, 0x100, b.ccores, [⟨31, 0, .rw, .plain, 0, 0, 4294967295⟩]⟩,
   ⟨0x1FC058, 0x100, b.ccores, [⟨31, 0, .rw, .plain, 0, 0, 4294967295⟩]⟩,
   ⟨0x1FC05C, 0x100, b.ccores, [⟨31, 0, .rw, .plain, 0, 0, 4294967295⟩]⟩,
   ⟨0x1FC060, 0x100, b.ccores, [⟨31, 0, .rw, .plain, 0, 0, 4294967295⟩]⟩,
   ⟨0x1FC064, 0x100, b.ccores, [⟨31, 0, .rw, .plain, 0, 0, 4294967295⟩]⟩,
   ⟨0x1FC068, 0x100, b.ccores, [⟨31, 0, .rw, .plain, 0, 0, 4294967295⟩]⟩,
   ⟨0x1FC06C, 0x100, b.ccores, [⟨31, 0, .rw, .plain, 0, 0, 4294967295⟩]⟩,
   ⟨0x1FC070, 0x100, b.ccores, [⟨31, 0, .rw, .plain, 0, 0, 4294967295⟩]⟩,
   ⟨0x1FC074, 0x100, b.ccores, [⟨31, 0, .rw, .plain, 0, 0, 4294967295⟩]⟩,
   ⟨0x1FC078, 0x100, b.ccores, [⟨31, 0, .rw, .plain, 0, 0, 4294967295⟩]⟩,
   ⟨0x1FC07C, 0x100, b.ccores, [⟨31, 0, .rw, .plain, 0, 0, 4294967295⟩]⟩,
   ⟨0x1FC080, 0x100, b.ccores, [⟨31, 0, .rw, .plain, 0, 0, 4294967295⟩]⟩,
   ⟨0x1FC084, 0x100, b.ccores, [⟨31, 0, .rw, .plain, 0, 0, 4294967295⟩]⟩,
   ⟨0x1FC088, 0x100, b.ccores, [⟨31, 0, .rw, .plain, 0, 0, 4294967295⟩]⟩,
   ⟨0x1FC08C, 0x100, b.ccores, [⟨31, 0, .rw, .plain, 0, 0, 4294967295⟩]⟩,
   ⟨0x1FC090, 0x100, b.ccores, [⟨31, 0, .wo, .plain, 0, 0, 4294967295⟩]⟩,
   ⟨0x1FC094, 0x100, b.ccores, [⟨2, 0, .ro, .plain, 0, 0, 7⟩, ⟨31, 16, .ro, .plain, 0, 0, 65535⟩]⟩,
   ⟨0x1FC098, 0x100, b.ccores, [⟨15, 0, .ro, .plain, 0, 0, 65535⟩, ⟨18, 16, .ro, .plain, 0, 0, 7⟩, ⟨19, 19, .ro, .plain, 0, 0, 1⟩]⟩,
   ⟨0x1FC09C, 0x100, b.ccores, [⟨15, 0, .ro, .plain, 0, 0, 65535⟩]⟩,
   ⟨0x1FC0A0, 0x100, b.ccores, [⟨31, 0, .ro, .plain, 0, 0, 4294967295⟩]⟩,
   ⟨0x1FC0A4, 0x100, b.ccores, [⟨31, 0, .ro, .plain, 0, 0, 4294967295⟩]⟩,
   ⟨0x1FC0A8, 0x100, b.ccores, [⟨31, 0, .ro, .plain, 0, 0, 4294967295⟩]⟩,
   ⟨0x1FC0AC, 0x100, b.ccores, [⟨31, 0, .ro, .plain, 0, 0, 4294967295⟩]⟩]
/-- Register words of the core windows. -/
def regRowsCore (b : Build) : List RegRow := regRowsCore_1 b
/-- Register words of unit page 0x6, part 1. -/
def regRows6_1 (b : Build) : List RegRow :=
  [⟨0x60000, 0x0, 1, [⟨6, 0, .ro, .plain, 0, 0, 127⟩, ⟨16, 8, .ro, .plain, 0, 0, 511⟩, ⟨29, 17, .ro, .plain, 4096, 0, 8191⟩]⟩,
   ⟨0x60004, 0x0, 1, [⟨15, 0, .rw, .plain, 100, 1, 65535⟩]⟩,
   ⟨0x60008, 0x0, 1, [⟨7, 0, .wo, .plain, 0, 0, 255⟩, ⟨9, 8, .wo, .plain, 0, 0, 3⟩]⟩,
   ⟨0x6000C, 0x0, 1, [⟨0, 0, .ro, .plain, 0, 0, 1⟩, ⟨1, 1, .ro, .plain, 0, 0, 1⟩, ⟨31, 16, .ro, .plain, 0, 0, 65535⟩]⟩,
   ⟨0x60040, 0x0, 1, [⟨0, 0, .w1c, .plain, 0, 0, 1⟩]⟩,
   ⟨0x60080, 0x4, 8, [⟨2, 0, .rw, .plain, 0, 0, 7⟩, ⟨15, 4, .rw, .plain, 0, 0, 4095⟩]⟩,
   ⟨0x600A0, 0x4, 8, [⟨15, 0, .rw, .plain, 1, 0, 65535⟩, ⟨31, 16, .rw, .plain, 0, 0, 65535⟩]⟩,
   ⟨0x60100, 0x4, b.ccores, [⟨3, 0, .rw, .plain, 0, 0, 15⟩, ⟨4, 4, .rw, .plain, 0, 0, 1⟩]⟩,
   ⟨0x60200, 0x20, b.partitions, [⟨31, 0, .ro, .plain, 0, 0, 4294967295⟩]⟩,
   ⟨0x60204, 0x20, b.partitions, [⟨31, 0, .ro, .plain, 0, 0, 4294967295⟩]⟩,
   ⟨0x60208, 0x20, b.partitions, [⟨31, 0, .ro, .plain, 0, 0, 4294967295⟩]⟩,
   ⟨0x6020C, 0x20, b.partitions, [⟨31, 0, .ro, .plain, 0, 0, 4294967295⟩]⟩,
   ⟨0x60210, 0x20, b.partitions, [⟨15, 0, .ro, .plain, 0, 0, 65535⟩, ⟨31, 16, .ro, .plain, 0, 0, 65535⟩]⟩,
   ⟨0x60214, 0x20, b.partitions, [⟨31, 0, .ro, .plain, 0, 0, 4294967295⟩]⟩,
   ⟨0x60218, 0x20, b.partitions, [⟨31, 0, .ro, .plain, 0, 0, 4294967295⟩]⟩,
   ⟨0x6021C, 0x20, b.partitions, [⟨31, 0, .ro, .plain, 0, 0, 4294967295⟩]⟩]
/-- Register words of unit page 0x6. -/
def regRows6 (b : Build) : List RegRow := regRows6_1 b
/-- Register words of unit page 0x9, part 1. -/
def regRows9_1 (b : Build) : List RegRow :=
  [⟨0x90000, 0x0, 1, [⟨6, 0, .rw, .cfg, 10, 1, 100⟩, ⟨7, 7, .rw, .cfg, 1, 0, 1⟩]⟩,
   ⟨0x90004, 0x0, 1, [⟨11, 0, .rw, .plain, 1600, 0, 4095⟩, ⟨12, 12, .rw, .plain, 1, 0, 1⟩]⟩,
   ⟨0x90008, 0x0, 1, [⟨0, 0, .wo, .plain, 0, 0, 1⟩]⟩,
   ⟨0x9000C, 0x0, 1, [⟨0, 0, .ro, .plain, 0, 0, 1⟩, ⟨1, 1, .ro, .plain, 0, 0, 1⟩, ⟨2, 2, .ro, .plain, 0, 0, 1⟩, ⟨11, 8, .ro, .plain, 0, 0, 15⟩, ⟨15, 12, .ro, .plain, 0, 0, 15⟩, ⟨31, 16, .ro, .plain, 0, 0, 65535⟩]⟩,
   ⟨0x90010, 0x0, 1, [⟨5, 0, .ro, .plain, 0, 0, 63⟩, ⟨31, 16, .ro, .plain, 0, 0, 65535⟩]⟩,
   ⟨0x90014, 0x0, 1, [⟨1, 0, .ro, .plain, 0, 0, 3⟩, ⟨7, 2, .ro, .plain, 0, 0, 63⟩]⟩,
   ⟨0x90040, 0x0, 1, [⟨0, 0, .w1c, .plain, 0, 0, 1⟩, ⟨1, 1, .w1c, .plain, 0, 0, 1⟩]⟩,
   ⟨0x90080, 0x4, b.clusters, [⟨12, 0, .rw, .plain, 3300, 0, 8191⟩, ⟨20, 16, .rw, .plain, 31, 0, 31⟩]⟩,
   ⟨0x90100, 0x4, b.clusters, [⟨11, 0, .ro, .plain, 0, 0, 4095⟩]⟩,
   ⟨0x90180, 0x4, b.clusters, [⟨31, 0, .ro, .plain, 0, 0, 4294967295⟩]⟩,
   ⟨0x90200, 0x4, b.clusters, [⟨31, 0, .ro, .plain, 0, 0, 4294967295⟩]⟩,
   ⟨0x90300, 0x40, b.partitions, [⟨0, 0, .rw, .plain, 0, 0, 1⟩, ⟨1, 1, .rw, .plain, 0, 0, 1⟩, ⟨2, 2, .rw, .plain, 0, 0, 1⟩, ⟨8, 4, .rw, .plain, 8, 0, 16⟩, ⟨28, 16, .rw, .plain, 1, 1, 8191⟩]⟩,
   ⟨0x90304, 0x40, b.partitions, [⟨31, 0, .ro, .plain, 0, 0, 4294967295⟩]⟩,
   ⟨0x90308, 0x40, b.partitions, [⟨31, 0, .ro, .plain, 0, 0, 4294967295⟩]⟩,
   ⟨0x9030C, 0x40, b.partitions, [⟨31, 0, .ro, .plain, 0, 0, 4294967295⟩]⟩,
   ⟨0x90310, 0x40, b.partitions, [⟨31, 0, .ro, .plain, 0, 0, 4294967295⟩]⟩]
/-- Register words of unit page 0x9, part 2. -/
def regRows9_2 (b : Build) : List RegRow :=
  [⟨0x90314, 0x40, b.partitions, [⟨31, 0, .ro, .plain, 0, 0, 4294967295⟩]⟩,
   ⟨0x90318, 0x40, b.partitions, [⟨31, 0, .ro, .plain, 0, 0, 4294967295⟩]⟩,
   ⟨0x9031C, 0x40, b.partitions, [⟨31, 0, .ro, .plain, 0, 0, 4294967295⟩]⟩,
   ⟨0x90320, 0x40, b.partitions, [⟨31, 0, .ro, .plain, 0, 0, 4294967295⟩]⟩,
   ⟨0x90324, 0x40, b.partitions, [⟨31, 0, .ro, .plain, 0, 0, 4294967295⟩]⟩,
   ⟨0x90328, 0x40, b.partitions, [⟨15, 0, .ro, .plain, 0, 0, 65535⟩, ⟨31, 16, .ro, .plain, 0, 0, 65535⟩]⟩,
   ⟨0x9032C, 0x40, b.partitions, [⟨0, 0, .ro, .plain, 0, 0, 1⟩, ⟨2, 1, .ro, .plain, 0, 0, 3⟩, ⟨3, 3, .ro, .plain, 0, 0, 1⟩, ⟨23, 4, .ro, .plain, 0, 0, 1048575⟩, ⟨31, 24, .ro, .plain, 0, 0, 255⟩]⟩]
/-- Register words of unit page 0x9. -/
def regRows9 (b : Build) : List RegRow := regRows9_1 b ++ regRows9_2 b
/-- Register words of unit page 0xA, part 1. -/
def regRowsA_1 (b : Build) : List RegRow :=
  [⟨0xA0000, 0x0, 1, [⟨5, 0, .rw, .cfg, 0, 0, 63⟩, ⟨6, 6, .rw, .plain, 1, 0, 1⟩]⟩,
   ⟨0xA0004, 0x0, 1, [⟨31, 0, .rw, .cfg, 0, 0, 4294967295⟩]⟩,
   ⟨0xA0008, 0x0, 1, [⟨31, 16, .rw, .cfg, 0, 0, 65535⟩]⟩,
   ⟨0xA000C, 0x0, 1, [⟨19, 0, .rw, .cfg, 0, 0, 1048575⟩]⟩,
   ⟨0xA0010, 0x0, 1, [⟨12, 0, .rw, .cfg, 0, 0, 4096⟩]⟩,
   ⟨0xA0014, 0x0, 1, [⟨4, 0, .ro, .plain, 0, 0, 31⟩, ⟨11, 5, .ro, .plain, 0, 0, 127⟩, ⟨26, 16, .ro, .plain, 0, 0, 2047⟩]⟩,
   ⟨0xA0040, 0x0, 1, [⟨0, 0, .w1c, .plain, 0, 0, 1⟩]⟩,
   ⟨0xA0080, 0x4, 16, [⟨8, 0, .rw, .plain, 0, 0, 511⟩, ⟨9, 9, .rw, .plain, 0, 0, 1⟩]⟩,
   ⟨0xA0100, 0x20, b.partitions, [⟨31, 16, .rw, .cfg, 0, 0, 65535⟩]⟩,
   ⟨0xA0104, 0x20, b.partitions, [⟨19, 0, .rw, .cfg, 0, 0, 1048575⟩]⟩,
   ⟨0xA0108, 0x20, b.partitions, [⟨12, 0, .rw, .cfg, 0, 0, 4096⟩, ⟨16, 16, .rw, .plain, 1, 0, 1⟩, ⟨17, 17, .rw, .plain, 1, 0, 1⟩]⟩,
   ⟨0xA010C, 0x20, b.partitions, [⟨31, 0, .ro, .plain, 0, 0, 4294967295⟩]⟩,
   ⟨0xA0110, 0x20, b.partitions, [⟨31, 0, .ro, .plain, 0, 0, 4294967295⟩]⟩,
   ⟨0xA0114, 0x20, b.partitions, [⟨31, 0, .ro, .plain, 0, 0, 4294967295⟩]⟩,
   ⟨0xA0118, 0x20, b.partitions, [⟨31, 0, .ro, .plain, 0, 0, 4294967295⟩]⟩]
/-- Register words of unit page 0xA. -/
def regRowsA (b : Build) : List RegRow := regRowsA_1 b
/-- Register words of unit page 0xB, part 1. -/
def regRowsB_1 (_b : Build) : List RegRow :=
  [⟨0xB0000, 0x0, 1, [⟨0, 0, .rw, .cfg, 0, 0, 1⟩, ⟨1, 1, .rw, .cfg, 0, 0, 1⟩, ⟨2, 2, .rw, .cfg, 0, 0, 1⟩, ⟨3, 3, .rw, .cfg, 1, 0, 1⟩, ⟨14, 4, .rw, .cfg, 64, 32, 1024⟩]⟩,
   ⟨0xB0004, 0x0, 1, [⟨31, 0, .rw, .cfg, 0, 0, 4294967295⟩]⟩,
   ⟨0xB0008, 0x0, 1, [⟨31, 0, .rw, .cfg, 0, 0, 4294967295⟩]⟩,
   ⟨0xB000C, 0x0, 1, [⟨15, 0, .rw, .cfg, 32, 1, 65535⟩, ⟨31, 16, .rw, .plain, 1000, 1, 65535⟩]⟩,
   ⟨0xB0010, 0x0, 1, [⟨31, 6, .rw, .cfg, 0, 0, 67108863⟩]⟩,
   ⟨0xB0014, 0x0, 1, [⟨19, 0, .rw, .cfg, 0, 0, 1048575⟩]⟩,
   ⟨0xB0018, 0x0, 1, [⟨3, 0, .rw, .cfg, 0, 0, 15⟩, ⟨12, 8, .rw, .cfg, 20, 12, 28⟩]⟩,
   ⟨0xB001C, 0x0, 1, [⟨31, 0, .rw, .plain, 0, 0, 4294967295⟩]⟩,
   ⟨0xB0020, 0x0, 1, [⟨31, 0, .ro, .plain, 0, 0, 4294967295⟩]⟩,
   ⟨0xB0024, 0x0, 1, [⟨31, 6, .rw, .cfg, 0, 0, 67108863⟩]⟩,
   ⟨0xB0028, 0x0, 1, [⟨19, 0, .rw, .cfg, 0, 0, 1048575⟩]⟩,
   ⟨0xB002C, 0x0, 1, [⟨31, 0, .rw, .cfg, 0, 0, 4294967295⟩]⟩,
   ⟨0xB0030, 0x0, 1, [⟨0, 0, .ro, .plain, 0, 0, 1⟩, ⟨1, 1, .ro, .plain, 0, 0, 1⟩, ⟨2, 2, .ro, .plain, 0, 0, 1⟩, ⟨3, 3, .ro, .plain, 0, 0, 1⟩, ⟨4, 4, .ro, .plain, 0, 0, 1⟩, ⟨5, 5, .ro, .plain, 0, 0, 1⟩]⟩,
   ⟨0xB0034, 0x0, 1, [⟨31, 0, .ro, .plain, 0, 0, 4294967295⟩]⟩,
   ⟨0xB0038, 0x0, 1, [⟨31, 0, .ro, .plain, 0, 0, 4294967295⟩]⟩,
   ⟨0xB0040, 0x0, 1, [⟨0, 0, .w1c, .plain, 0, 0, 1⟩]⟩]
/-- Register words of unit page 0xB, part 2. -/
def regRowsB_2 (b : Build) : List RegRow :=
  [⟨0xB0044, 0x0, 1, [⟨31, 0, .ro, .plain, 0, 0, 4294967295⟩]⟩,
   ⟨0xB0048, 0x0, 1, [⟨31, 0, .ro, .plain, 0, 0, 4294967295⟩]⟩,
   ⟨0xB004C, 0x0, 1, [⟨31, 0, .ro, .plain, 0, 0, 4294967295⟩]⟩,
   ⟨0xB0050, 0x0, 1, [⟨31, 0, .ro, .plain, 0, 0, 4294967295⟩]⟩,
   ⟨0xB0080, 0x4, 16, [⟨15, 0, .ro, .plain, 0, 0, 65535⟩]⟩,
   ⟨0xB0100, 0x20, b.partitions, [⟨31, 0, .ro, .plain, 0, 0, 4294967295⟩]⟩,
   ⟨0xB0104, 0x20, b.partitions, [⟨31, 0, .ro, .plain, 0, 0, 4294967295⟩]⟩,
   ⟨0xB0108, 0x20, b.partitions, [⟨31, 0, .ro, .plain, 0, 0, 4294967295⟩]⟩,
   ⟨0xB010C, 0x20, b.partitions, [⟨31, 0, .ro, .plain, 0, 0, 4294967295⟩]⟩,
   ⟨0xB0110, 0x20, b.partitions, [⟨31, 6, .rw, .plain, 0, 0, 67108863⟩]⟩,
   ⟨0xB0114, 0x20, b.partitions, [⟨19, 0, .rw, .plain, 0, 0, 1048575⟩]⟩,
   ⟨0xB0118, 0x20, b.partitions, [⟨0, 0, .wo, .plain, 0, 0, 1⟩]⟩,
   ⟨0xB011C, 0x20, b.partitions, [⟨0, 0, .ro, .plain, 0, 0, 1⟩, ⟨1, 1, .ro, .plain, 0, 0, 1⟩, ⟨2, 2, .ro, .plain, 0, 0, 1⟩, ⟨31, 16, .ro, .plain, 0, 0, 65535⟩]⟩]
/-- Register words of unit page 0xB. -/
def regRowsB (b : Build) : List RegRow := regRowsB_1 b ++ regRowsB_2 b
/-- Register words of unit page 0xC, part 1. -/
def regRowsC_1 (b : Build) : List RegRow :=
  [⟨0xC0000, 0x0, 1, [⟨3, 0, .wo, .plain, 0, 0, 15⟩, ⟨5, 4, .wo, .plain, 0, 0, 3⟩]⟩,
   ⟨0xC0004, 0x0, 1, [⟨0, 0, .ro, .plain, 0, 0, 1⟩, ⟨1, 1, .ro, .plain, 0, 0, 1⟩, ⟨2, 2, .ro, .plain, 0, 0, 1⟩, ⟨3, 3, .ro, .plain, 0, 0, 1⟩, ⟨31, 16, .ro, .plain, 0, 0, 65535⟩]⟩,
   ⟨0xC0008, 0x0, 1, [⟨15, 0, .ro, .plain, 0, 0, 65535⟩]⟩,
   ⟨0xC000C, 0x0, 1, [⟨31, 0, .ro, .plain, 0, 0, 4294967295⟩]⟩,
   ⟨0xC0010, 0x0, 1, [⟨31, 0, .ro, .plain, 0, 0, 4294967295⟩]⟩,
   ⟨0xC0040, 0x0, 1, [⟨0, 0, .w1c, .plain, 0, 0, 1⟩, ⟨1, 1, .w1c, .plain, 0, 0, 1⟩]⟩,
   ⟨0xC0100, 0x40, b.partitions, [⟨31, 0, .rw, .plain, (2 ^ b.clusters - 1), 0, 4294967295⟩]⟩,
   ⟨0xC0104, 0x40, b.partitions, [⟨31, 16, .rw, .plain, 0, 0, 65535⟩]⟩,
   ⟨0xC0108, 0x40, b.partitions, [⟨19, 0, .rw, .plain, 0, 0, 1048575⟩]⟩,
   ⟨0xC010C, 0x40, b.partitions, [⟨16, 0, .rw, .plain, 0, 0, 65536⟩, ⟨17, 17, .rw, .plain, 0, 0, 1⟩]⟩,
   ⟨0xC0110, 0x40, b.partitions, [⟨31, 8, .rw, .plain, 0, 0, 16777215⟩]⟩,
   ⟨0xC0114, 0x40, b.partitions, [⟨19, 0, .rw, .plain, 0, 0, 1048575⟩, ⟨24, 20, .rw, .plain, 4, 4, 16⟩]⟩,
   ⟨0xC0118, 0x40, b.partitions, [⟨15, 0, .rw, .plain, 100, 0, 65535⟩]⟩,
   ⟨0xC011C, 0x40, b.partitions, [⟨31, 0, .rw, .plain, 0, 0, 4294967295⟩]⟩,
   ⟨0xC0120, 0x40, b.partitions, [⟨31, 0, .ro, .plain, 0, 0, 4294967295⟩]⟩,
   ⟨0xC0124, 0x40, b.partitions, [⟨15, 0, .ro, .plain, 0, 0, 65535⟩, ⟨31, 16, .ro, .plain, 0, 0, 65535⟩]⟩]
/-- Register words of unit page 0xC, part 2. -/
def regRowsC_2 (b : Build) : List RegRow :=
  [⟨0xC0128, 0x40, b.partitions, [⟨0, 0, .ro, .plain, 0, 0, 1⟩, ⟨1, 1, .ro, .plain, 0, 0, 1⟩, ⟨2, 2, .ro, .plain, 0, 0, 1⟩]⟩]
/-- Register words of unit page 0xC. -/
def regRowsC (b : Build) : List RegRow := regRowsC_1 b ++ regRowsC_2 b
/-- Register words of unit page 0xD, part 1. -/
def regRowsD_1 (_b : Build) : List RegRow :=
  [⟨0xD0000, 0x0, 1, [⟨0, 0, .rw, .plain, 0, 0, 1⟩, ⟨1, 1, .rw, .plain, 1, 0, 1⟩, ⟨2, 2, .rw, .plain, 1, 0, 1⟩, ⟨3, 3, .rw, .plain, 1, 0, 1⟩]⟩,
   ⟨0xD0004, 0x0, 1, [⟨15, 0, .rw, .plain, 200, 1, 65535⟩, ⟨31, 16, .rw, .plain, 10, 1, 65535⟩]⟩,
   ⟨0xD0008, 0x0, 1, [⟨15, 0, .rw, .plain, 1000, 10, 60000⟩]⟩,
   ⟨0xD000C, 0x0, 1, [⟨31, 0, .ro, .plain, 0, 0, 4294967295⟩]⟩,
   ⟨0xD0010, 0x0, 1, [⟨0, 0, .ro, .plain, 0, 0, 1⟩, ⟨1, 1, .ro, .plain, 0, 0, 1⟩, ⟨31, 16, .ro, .plain, 0, 0, 65535⟩]⟩,
   ⟨0xD0014, 0x0, 1, [⟨31, 0, .ro, .plain, 0, 0, 4294967295⟩]⟩,
   ⟨0xD0018, 0x0, 1, [⟨0, 0, .ro, .plain, 0, 0, 1⟩, ⟨1, 1, .ro, .plain, 0, 0, 1⟩, ⟨2, 2, .ro, .plain, 0, 0, 1⟩, ⟨31, 16, .ro, .plain, 0, 0, 65535⟩]⟩,
   ⟨0xD0020, 0x0, 1, [⟨15, 0, .w1c, .plain, 0, 0, 65535⟩, ⟨16, 16, .w1c, .plain, 0, 0, 1⟩]⟩,
   ⟨0xD0024, 0x0, 1, [⟨15, 0, .rw, .plain, 0, 0, 65535⟩, ⟨16, 16, .rw, .plain, 0, 0, 1⟩]⟩,
   ⟨0xD0040, 0x0, 1, [⟨0, 0, .w1c, .plain, 0, 0, 1⟩, ⟨1, 1, .w1c, .plain, 0, 0, 1⟩]⟩,
   ⟨0xD0044, 0x0, 1, [⟨31, 0, .ro, .plain, 0, 0, 4294967295⟩]⟩,
   ⟨0xD0048, 0x0, 1, [⟨31, 0, .ro, .plain, 0, 0, 4294967295⟩]⟩,
   ⟨0xD004C, 0x0, 1, [⟨6, 0, .ro, .plain, 0, 0, 127⟩]⟩,
   ⟨0xD0080, 0x0, 1, [⟨15, 0, .ro, .plain, 0, 0, 65535⟩, ⟨18, 16, .ro, .plain, 0, 0, 7⟩, ⟨23, 20, .ro, .plain, 0, 0, 15⟩, ⟨24, 24, .ro, .plain, 0, 0, 1⟩, ⟨31, 31, .ro, .plain, 0, 0, 1⟩]⟩,
   ⟨0xD0084, 0x0, 1, [⟨31, 0, .ro, .plain, 0, 0, 4294967295⟩]⟩,
   ⟨0xD0088, 0x0, 1, [⟨31, 0, .ro, .plain, 0, 0, 4294967295⟩]⟩]
/-- Register words of unit page 0xD, part 2. -/
def regRowsD_2 (b : Build) : List RegRow :=
  [⟨0xD008C, 0x0, 1, [⟨31, 0, .ro, .plain, 0, 0, 4294967295⟩]⟩,
   ⟨0xD00B0, 0x0, 1, [⟨0, 0, .wo, .plain, 0, 0, 1⟩, ⟨1, 1, .wo, .plain, 0, 0, 1⟩, ⟨2, 2, .wo, .plain, 0, 0, 1⟩]⟩,
   ⟨0xD00C0, 0x0, 1, [⟨31, 5, .rw, .cfg, 0, 0, 134217727⟩]⟩,
   ⟨0xD00C4, 0x0, 1, [⟨19, 0, .rw, .cfg, 0, 0, 1048575⟩, ⟨24, 20, .rw, .cfg, 16, 12, 24⟩, ⟨28, 25, .rw, .cfg, 0, 0, 15⟩, ⟨29, 29, .rw, .cfg, 0, 0, 1⟩]⟩,
   ⟨0xD00C8, 0x0, 1, [⟨31, 0, .rw, .plain, 0, 0, 4294967295⟩]⟩,
   ⟨0xD00CC, 0x0, 1, [⟨31, 0, .ro, .plain, 0, 0, 4294967295⟩]⟩,
   ⟨0xD0100, 0x4, b.partitions, [⟨3, 0, .rw, .plain, 0, 0, 15⟩, ⟨4, 4, .rw, .plain, 0, 0, 1⟩, ⟨31, 16, .ro, .plain, 0, 0, 65535⟩]⟩,
   ⟨0xD0090, 0x0, 1, [⟨15, 0, .ro, .plain, 0, 0, 65535⟩, ⟨18, 16, .ro, .plain, 0, 0, 7⟩, ⟨23, 20, .ro, .plain, 0, 0, 15⟩, ⟨24, 24, .ro, .plain, 0, 0, 1⟩, ⟨31, 31, .ro, .plain, 0, 0, 1⟩]⟩,
   ⟨0xD0094, 0x0, 1, [⟨31, 0, .ro, .plain, 0, 0, 4294967295⟩]⟩,
   ⟨0xD0098, 0x0, 1, [⟨31, 0, .ro, .plain, 0, 0, 4294967295⟩]⟩,
   ⟨0xD009C, 0x0, 1, [⟨31, 0, .ro, .plain, 0, 0, 4294967295⟩]⟩,
   ⟨0xD00A0, 0x0, 1, [⟨15, 0, .ro, .plain, 0, 0, 65535⟩, ⟨18, 16, .ro, .plain, 0, 0, 7⟩, ⟨23, 20, .ro, .plain, 0, 0, 15⟩, ⟨24, 24, .ro, .plain, 0, 0, 1⟩, ⟨31, 31, .ro, .plain, 0, 0, 1⟩]⟩,
   ⟨0xD00A4, 0x0, 1, [⟨31, 0, .ro, .plain, 0, 0, 4294967295⟩]⟩,
   ⟨0xD00A8, 0x0, 1, [⟨31, 0, .ro, .plain, 0, 0, 4294967295⟩]⟩,
   ⟨0xD00AC, 0x0, 1, [⟨31, 0, .ro, .plain, 0, 0, 4294967295⟩]⟩]
/-- Register words of unit page 0xD. -/
def regRowsD (b : Build) : List RegRow := regRowsD_1 b ++ regRowsD_2 b
/-- Register words of unit page 0x0, part 1. -/
def regRows0_1 (_b : Build) : List RegRow :=
  [⟨0x00000, 0x0, 1, [⟨31, 0, .ro, .plain, 67108864, 0, 4294967295⟩]⟩,
   ⟨0x00004, 0x0, 1, [⟨31, 0, .ro, .plain, 0, 0, 4294967295⟩]⟩,
   ⟨0x00008, 0x0, 1, [⟨15, 0, .wm, .lk, 1, 0, 65535⟩, ⟨31, 16, .wm, .lk, 0, 0, 65535⟩]⟩,
   ⟨0x0000C, 0x0, 1, [⟨15, 0, .ro, .plain, 1, 0, 65535⟩, ⟨31, 16, .ro, .plain, 0, 0, 65535⟩]⟩,
   ⟨0x00010, 0x0, 1, [⟨15, 0, .wo, .plain, 0, 0, 65535⟩, ⟨16, 16, .ro, .plain, 0, 0, 1⟩]⟩,
   ⟨0x00014, 0x0, 1, [⟨31, 0, .rw, .lk, 0, 0, 4294967295⟩]⟩,
   ⟨0x00018, 0x0, 1, [⟨31, 0, .ro, .plain, 0, 0, 4294967295⟩]⟩,
   ⟨0x0001C, 0x0, 1, [⟨31, 0, .ro, .plain, 0, 0, 4294967295⟩]⟩,
   ⟨0x00020, 0x0, 1, [⟨31, 0, .ro, .plain, 0, 0, 4294967295⟩]⟩,
   ⟨0x00024, 0x0, 1, [⟨31, 0, .ro, .plain, 0, 0, 4294967295⟩]⟩,
   ⟨0x00028, 0x0, 1, [⟨31, 0, .ro, .plain, 0, 0, 4294967295⟩]⟩,
   ⟨0x0002C, 0x0, 1, [⟨31, 0, .ro, .plain, 0, 0, 4294967295⟩]⟩,
   ⟨0x00040, 0x0, 1, [⟨0, 0, .w1c, .plain, 0, 0, 1⟩, ⟨1, 1, .w1c, .plain, 0, 0, 1⟩, ⟨2, 2, .w1c, .plain, 0, 0, 1⟩, ⟨3, 3, .w1c, .plain, 0, 0, 1⟩]⟩,
   ⟨0x00100, 0x4, 8, [⟨7, 0, .rw, .plain, 0, 0, 255⟩, ⟨27, 16, .rw, .plain, 0, 0, 4095⟩]⟩]
/-- Register words of unit page 0x0. -/
def regRows0 (b : Build) : List RegRow := regRows0_1 b
/-- Register words of unit page 0xF, part 1. -/
def regRowsF_1 (_b : Build) : List RegRow :=
  [⟨0xF0000, 0x0, 1, [⟨2, 0, .ro, .plain, 0, 0, 7⟩, ⟨31, 16, .ro, .plain, 0, 0, 65535⟩]⟩,
   ⟨0xF0004, 0x0, 1, [⟨19, 0, .ro, .plain, 0, 0, 1048575⟩]⟩,
   ⟨0xF0008, 0x0, 1, [⟨15, 0, .rw, .plain, 500, 0, 65535⟩]⟩,
   ⟨0xF000C, 0x0, 1, [⟨1, 0, .ro, .plain, 0, 0, 3⟩, ⟨2, 2, .w1c, .plain, 0, 0, 1⟩]⟩,
   ⟨0xF0010, 0x0, 1, [⟨10, 0, .rw, .cfg, 0, 0, 2047⟩]⟩,
   ⟨0xF0014, 0x0, 1, [⟨31, 0, .ro, .plain, 0, 0, 4294967295⟩]⟩,
   ⟨0xF0018, 0x0, 1, [⟨0, 0, .ro, .plain, 0, 0, 1⟩, ⟨1, 1, .ro, .plain, 0, 0, 1⟩, ⟨2, 2, .ro, .plain, 0, 0, 1⟩, ⟨13, 8, .ro, .plain, 0, 0, 63⟩]⟩,
   ⟨0xF0040, 0x0, 1, [⟨0, 0, .w1c, .plain, 0, 0, 1⟩, ⟨1, 1, .w1c, .plain, 0, 0, 1⟩]⟩]
/-- Register words of unit page 0xF. -/
def regRowsF (b : Build) : List RegRow := regRowsF_1 b
/-- Register words of unit page 0xE, part 1. -/
def regRowsE_1 (_b : Build) : List RegRow :=
  [⟨0xE0000, 0x0, 1, [⟨0, 0, .rw, .plain, 0, 0, 1⟩, ⟨2, 1, .rw, .cfg, 0, 0, 2⟩, ⟨6, 3, .rw, .cfg, 0, 0, 15⟩, ⟨11, 7, .rw, .cfg, 20, 12, 28⟩]⟩,
   ⟨0xE0004, 0x0, 1, [⟨15, 0, .rw, .plain, 4099, 0, 65535⟩]⟩,
   ⟨0xE0008, 0x0, 1, [⟨15, 0, .rw, .plain, 65535, 0, 65535⟩]⟩,
   ⟨0xE000C, 0x0, 1, [⟨31, 0, .wo, .plain, 0, 0, 4294967295⟩]⟩,
   ⟨0xE0010, 0x0, 1, [⟨31, 0, .ro, .plain, 0, 0, 4294967295⟩]⟩,
   ⟨0xE0014, 0x0, 1, [⟨31, 6, .rw, .cfg, 0, 0, 67108863⟩]⟩,
   ⟨0xE0018, 0x0, 1, [⟨19, 0, .rw, .cfg, 0, 0, 1048575⟩]⟩,
   ⟨0xE001C, 0x0, 1, [⟨31, 0, .rw, .plain, 0, 0, 4294967295⟩]⟩,
   ⟨0xE0020, 0x0, 1, [⟨31, 0, .ro, .plain, 0, 0, 4294967295⟩]⟩,
   ⟨0xE0024, 0x0, 1, [⟨1, 0, .wo, .plain, 0, 0, 3⟩]⟩,
   ⟨0xE0028, 0x0, 1, [⟨0, 0, .ro, .plain, 0, 0, 1⟩, ⟨2, 1, .ro, .plain, 0, 0, 3⟩, ⟨31, 16, .ro, .plain, 0, 0, 65535⟩]⟩,
   ⟨0xE002C, 0x0, 1, [⟨0, 0, .rw, .plain, 0, 0, 1⟩, ⟨3, 1, .rw, .plain, 3, 0, 4⟩]⟩,
   ⟨0xE0030, 0x0, 1, [⟨31, 0, .ro, .plain, 0, 0, 4294967295⟩]⟩,
   ⟨0xE0034, 0x0, 1, [⟨31, 0, .ro, .plain, 0, 0, 4294967295⟩]⟩,
   ⟨0xE0038, 0x0, 1, [⟨0, 0, .wo, .plain, 0, 0, 1⟩]⟩,
   ⟨0xE0040, 0x0, 1, [⟨0, 0, .w1c, .plain, 0, 0, 1⟩]⟩]
/-- Register words of unit page 0xE, part 2. -/
def regRowsE_2 (_b : Build) : List RegRow :=
  [⟨0xE0080, 0x10, 8, [⟨31, 0, .ro, .plain, 0, 0, 4294967295⟩]⟩,
   ⟨0xE0084, 0x10, 8, [⟨31, 0, .ro, .plain, 0, 0, 4294967295⟩]⟩,
   ⟨0xE0088, 0x10, 8, [⟨31, 0, .ro, .plain, 0, 0, 4294967295⟩]⟩,
   ⟨0xE008C, 0x10, 8, [⟨31, 0, .ro, .plain, 0, 0, 4294967295⟩]⟩]
/-- Register words of unit page 0xE. -/
def regRowsE (b : Build) : List RegRow := regRowsE_1 b ++ regRowsE_2 b

/-- The rows of the unit page that holds address `a`, or of the core windows. -/
def regRowsAt (b : Build) (a : Nat) : List RegRow :=
  match a / 0x10000 with
  | 0x2 => regRows2 b
  | 0x3 => regRows3 b
  | 0x4 => regRows4 b
  | 0x1 => regRows1 b
  | 0x7 => regRows7 b
  | 0x8 => regRows8 b
  | 0x5 => regRows5 b
  | 0x6 => regRows6 b
  | 0x9 => regRows9 b
  | 0xA => regRowsA b
  | 0xB => regRowsB b
  | 0xC => regRowsC b
  | 0xD => regRowsD b
  | 0x0 => regRows0 b
  | 0xF => regRowsF b
  | 0xE => regRowsE b
  | 0x1F => regRowsCore b
  | _ => []

/-- The row of the register map that holds the word at alias-free address `a`, if the build has that word; a
word that no row holds is a reserved location (R456). -/
def regRow? (b : Build) (a : Nat) : Option RegRow :=
  (regRowsAt b a).find? fun r =>
    decide (r.base ≤ a) &&
      (if r.stride = 0 then a == r.base
       else (a - r.base) % r.stride == 0 && decide ((a - r.base) / r.stride < r.count))

/-- The fields of the word at alias-free address `a`; none for a reserved location. -/
def regFields (b : Build) (a : Nat) : List RegField :=
  match regRow? b a with
  | some r => r.fields
  | none => []

/-- The reset value of the word at `a` (R462): the reset values of its fields, each at its place. -/
def regReset (b : Build) (a : Nat) : BitVec 32 :=
  (regFields b a).foldl (fun acc f => acc ||| BitVec.ofNat 32 (f.rst * 2 ^ f.lo)) 0#32

end Sys2Proof.Machine
end

