-- ==== Sys2Proof/Machine/Operands.lean ====
section
/-! DEFINITION. Every form in which a rule names a value: a bit field of a word, a field of a register, a field of a table
row, a 64-bit pair of words, a handle, a flag of a list; and the one operation that reads and writes each. -/

namespace Sys2Proof.Machine

/-- Bits [hi:lo] of a number (R11). -/
def bits (n hi lo : Nat) : Nat := n / 2 ^ lo % 2 ^ (hi + 1 - lo)

/-- Bit `i` of a number. -/
def bit (n i : Nat) : Bool := n / 2 ^ i % 2 == 1

/-- 1 or 0. -/
def b2n (b : Bool) : Nat := if b then 1 else 0

/-- Bits [hi:lo] of a word (R11). -/
def wget (w : Word) (hi lo : Nat) : Nat := bits w.toNat hi lo

/-- The word with bits [hi:lo] replaced by the low bits of `v`. -/
def wput (w : Word) (hi lo v : Nat) : Word :=
  let m := BitVec.ofNat 32 (2 ^ (hi + 1 - lo) - 1) <<< lo
  (w &&& ~~~m) ||| ((BitVec.ofNat 32 v <<< lo) &&& m)

/-- Word `i` of a record, 0 beyond its end. -/
def wordAt (l : List Word) (i : Nat) : Word := l.getD i 0#32

/-- A field of a record. -/
def fld (l : List Word) (f : Fld) : Nat := wget (wordAt l f.w) f.hi f.lo

/-- Bits [hi:lo] of word `w` of a record. -/
def pf (l : List Word) (w hi lo : Nat) : Nat := wget (wordAt l w) hi lo

/-- A 64-bit value in words `w` and `w + 1` of a record. -/
def wide (l : List Word) (w : Nat) : Nat := (wordAt l w).toNat + 2 ^ 32 * (wordAt l (w + 1)).toNat

/-- A 52-bit address in words `w` and `w + 1` [19:0] of a record. -/
def addr52 (l : List Word) (w : Nat) : Nat := (wordAt l w).toNat + 2 ^ 32 * pf l (w + 1) 19 0

/-- The two words of a 64-bit value, low word first (R12). -/
def words64 (n : Nat) : List Word := [BitVec.ofNat 32 n, BitVec.ofNat 32 (n / 2 ^ 32)]

/-- `n` words of zeros. -/
def zeros (n : Nat) : List Word := List.replicate n 0#32

/-- A record with its fields set, the rest 0. -/
def mkRec (n : Nat) (fs : List (Fld × Nat)) : List Word :=
  fs.foldl (fun l (f, v) => l.set f.w (wput (wordAt l f.w) f.hi f.lo v)) (zeros n)

/-- Whether every bit of [hi:lo] of word `w` is 0: a reserved field is well-formed. -/
def rsvd (l : List Word) (w hi lo : Nat) : Bool := pf l w hi lo == 0

/-- `a` is newer than `b` by serial-number arithmetic over `w` bits: (a − b) modulo 2^w lies in 1 to 2^(w−1) − 1 (R105). -/
def newer (w a b : Nat) : Bool :=
  let d := (a + 2 ^ w - b % 2 ^ w) % 2 ^ w
  decide (0 < d) && decide (d < 2 ^ (w - 1))

/-- The index and the generation of a handle (R10 terms). -/
def hIdx (h : Nat) : Nat := bits h 19 0
/-- The generation of a handle. -/
def hGen (h : Nat) : Nat := bits h 31 20
/-- A handle. -/
def mkHandle (gen idx : Nat) : Nat := 2 ^ 20 * (gen % 4096) + idx

/-- A task tag: node index and generation (R49). -/
def mkTag (node ngen : Nat) : Nat := node + 2 ^ 20 * ngen

/-- The key an association list gives a value. -/
def lookupD {α : Type} (l : List (Nat × α)) (k : Nat) (d : α) : α :=
  match l.find? (fun e => e.1 == k) with
  | some e => e.2
  | none => d

/-- The association list with `v` at `k`. -/
def assocSet {α : Type} (l : List (Nat × α)) (k : Nat) (v : α) : List (Nat × α) :=
  (k, v) :: l.filter (fun e => e.1 != k)

/-- The association list without `k`. -/
def assocDel {α : Type} (l : List (Nat × α)) (k : Nat) : List (Nat × α) := l.filter (fun e => e.1 != k)

/-- The bits of a number that are set, below `n`, rising. -/
def bitList (v n : Nat) : List Nat := (List.range n).filter (bit v)

/-- How many bits of `v` below `n` are set. -/
def popCount (v n : Nat) : Nat := (bitList v n).length

/-- The value with bit `i` set or cleared. -/
def setBit (v i : Nat) (b : Bool) : Nat := if bit v i then (if b then v else v - 2 ^ i) else (if b then v + 2 ^ i else v)

/-- The quotient rounded up. -/
def ceilDiv (a b : Nat) : Nat := (a + b - 1) / b

/-- The smallest of a list by a key, the first on a tie. -/
def minBy {α : Type} (key : α → Nat) : List α → Option α
  | [] => none
  | x :: xs =>
    match minBy key xs with
    | none => some x
    | some y => if key y < key x then some y else some x

/-- The greatest of a list by a key, the first on a tie. -/
def maxBy {α : Type} (key : α → Nat) : List α → Option α
  | [] => none
  | x :: xs =>
    match maxBy key xs with
    | none => some x
    | some y => if key x < key y then some y else some x

/-- The stored word of a register. -/
def State.reg (s : State) (a : Nat) : Word := Tab.get (regReset s.build) s.regs a

/-- The state with a register word stored. -/
def State.setReg (s : State) (a : Nat) (v : Word) : State :=
  { s with regs := Tab.set (regReset s.build) s.regs a v }

/-- A register field as stored. -/
def State.rf (s : State) (f : RF) : Nat := wget (s.reg f.addr) f.hi f.lo

/-- The state with a register field stored. -/
def State.setRf (s : State) (f : RF) (v : Nat) : State :=
  s.setReg f.addr (wput (s.reg f.addr) f.hi f.lo v)

/-- A counter field that saturates, raised by `n`. -/
def State.incRf (s : State) (f : RF) (n : Nat := 1) : State :=
  s.setRf f (min (s.rf f + n) (2 ^ (f.hi + 1 - f.lo) - 1))

/-- A flag of a register. -/
def State.rb (s : State) (f : RF) : Bool := s.rf f == 1

/-- The SH value in force of a register word (R459). -/
def State.shReg (s : State) (a : Nat) : Word := Tab.get (regReset s.build) s.shf a

/-- The SH value in force of a register field. -/
def State.sh (s : State) (f : RF) : Nat := wget (s.shReg f.addr) f.hi f.lo

/-- A word of SRAM. -/
def State.ram (s : State) (k : Nat) : Word := Tab.get ramDefault s.sram k

/-- The state with a word of SRAM written. -/
def State.setRam (s : State) (k : Nat) (v : Word) : State := { s with sram := Tab.set ramDefault s.sram k v }

/-- A field of the row that starts at key `b`. -/
def State.rm (s : State) (b : Nat) (f : Fld) : Nat := wget (s.ram (b + f.w)) f.hi f.lo

/-- The state with a field of the row at `b` written. -/
def State.setRm (s : State) (b : Nat) (f : Fld) (v : Nat) : State :=
  s.setRam (b + f.w) (wput (s.ram (b + f.w)) f.hi f.lo v)

/-- The row of `n` words at key `b`. -/
def State.row (s : State) (b n : Nat) : List Word := (List.range n).map fun i => s.ram (b + i)

/-- The state with a row written in full: every word with its ECC, so that a damaged word of it is repaired (R99, R423). -/
def State.setRow (s : State) (b : Nat) (ws : List Word) : State :=
  (List.range ws.length).foldl (fun s i => s.setRam (b + i) (wordAt ws i))
    { s with ecc := s.ecc.filter fun e => !(decide (b ≤ e.1) && decide (e.1 < b + ws.length)) }

/-- A 64-bit value in two words of SRAM. -/
def State.ram64 (s : State) (k : Nat) : Nat := (s.ram k).toNat + 2 ^ 32 * (s.ram (k + 1)).toNat

/-- The state with a 64-bit value written. -/
def State.setRam64 (s : State) (k v : Nat) : State :=
  (s.setRam k (BitVec.ofNat 32 v)).setRam (k + 1) (BitVec.ofNat 32 (v / 2 ^ 32))

/-- A 64-bit accumulator that saturates (R413), raised by `n`. -/
def State.addRam64 (s : State) (k n : Nat) : State := s.setRam64 k (min (s.ram64 k + n) (2 ^ 64 - 1))

/-- A 64-bit value in a pair of registers, low word at `a`. -/
def State.reg64 (s : State) (lo hi : Nat) : Nat := (s.reg lo).toNat + 2 ^ 32 * (s.reg hi).toNat

/-- The state with a 64-bit value in a pair of registers. -/
def State.setReg64 (s : State) (lo hi v : Nat) : State :=
  (s.setReg lo (BitVec.ofNat 32 v)).setReg hi (BitVec.ofNat 32 (v / 2 ^ 32))

/-- Row keys of the tables of R472. -/
def nodeRow (n : Nat) : Nat := ramKey 0x01 (8 * n)
/-- Edge Table row. -/
def edgeRow (e : Nat) : Nat := ramKey 0x02 (2 * e)
/-- Template Directory row. -/
def dirRow (i : Nat) : Nat := ramKey 0x03 (8 * i)
/-- Launch slot row. -/
def slotRow (i : Nat) : Nat := ramKey 0x04 (16 * i)
/-- Sequence Table row. -/
def seqRow (i : Nat) : Nat := ramKey 0x07 (16 * i)
/-- Word of the dead-tag table that holds tag `t`. -/
def deadWord (t : Nat) : Nat := ramKey 0x08 (t / 32)
/-- Semaphore row. -/
def semRow (i : Nat) : Nat := ramKey 0x09 (4 * i)
/-- Sheaf row. -/
def sheafRow (i : Nat) : Nat := ramKey 0x0A (16 * i)
/-- Receive queue row. -/
def rxqRow (i : Nat) : Nat := ramKey 0x0B (8 * i)
/-- Route row. -/
def routeRow (i : Nat) : Nat := ramKey 0x0C (8 * i)
/-- Stook row. -/
def stookRow (i : Nat) : Nat := ramKey 0x0D (16 * i)
/-- Route-layer row of layer `l` of partition `p`. -/
def layerRow (p l : Nat) : Nat := ramKey 0x0E (16 * (128 * p + l))
/-- Regulator account of stack `i` of partition `p`. -/
def regulatorRow (p i : Nat) : Nat := ramKey 0x18 (4 * (24 * p + i))
/-- Save-set row. -/
def saveRow (p i : Nat) : Nat := ramKey 0x19 (2 * (256 * p + i))
/-- Claim row. -/
def claimRow (i : Nat) : Nat := ramKey 0x1A (4 * i)
/-- Measurement row of an at_sel value. -/
def measRow (i : Nat) : Nat := ramKey 0x1D (16 * i)
/-- Accounting row of a partition. -/
def acctRow (p : Nat) : Nat := ramKey 0x1E (64 * p)

/-- The local Global Count in ns (R71). -/
def State.gc (s : State) : Nat := s.tb.count / 2 ^ 32

/-- Epoch time T(e) of R377: DC_START_GC and e epochs of EPOCH_CC nominal core periods. -/
def State.epochTime (s : State) (e : Nat) : Nat :=
  s.reg64 Reg.DC_START_GC_LO_A Reg.DC_START_GC_HI_A + e * s.rf Reg.DC_CTRL_EPOCH_CC * 20 / 33

/-- The current epoch (R376). -/
def State.epoch (s : State) : Nat := s.reg64 Reg.DC_EPOCH_LO_A Reg.DC_EPOCH_HI_A

/-- Whether the DC's configuration asks for grain-locked epochs: GL, or REPLAY, which implies it (R376, R394). -/
def State.glMode (s : State) : Bool := wget (s.reg Reg.DC_CTRL_A) 1 0 != 0

/-- The time on which the rules act: the local Global Count, or epoch time while grain-locked epochs run (R377).  Stamps stay
real. -/
def State.now (s : State) : Nat := if wget (s.reg Reg.DC_STATUS_A) 0 0 = 1 then s.epochTime s.epoch else s.gc

/-- Whether a timeout of `limit` ns that began at `since` has elapsed; no timeout runs while pwr_ack is high (R487). -/
def State.due (s : State) (since limit : Nat) : Bool := !s.pins.pwrAck && decide (limit + since ≤ s.now)

/-- Whether the block starts no link-up offer: it quiesces or is QUIESCED (R486), or a block restart or an MBIST has it (R435, R496). -/
def State.noOffers (s : State) : Bool := decide (wget (s.reg Reg.THR_PWR_STATUS_A) 1 0 ≠ 0) || s.thr.restart || s.thr.mbist

/-- Whether the block consumes no packet, starts no job and sends no task: as for link-up offers, and while it waits for its
first gc_sync after RETAINED (R489). -/
def State.halted (s : State) : Bool := s.noOffers || s.thr.needSync

/-- Whether unit `u` has its EN bit set. -/
def State.unitEn (s : State) (u : Nat) : Bool := bit (s.rf Reg.GLB_UNIT_EN) u

/-- Whether unit `u` is disabled in the sense of R458: EN 0 and not STOPPING. -/
def State.unitOff (s : State) (u : Nat) : Bool := !s.unitEn u && !bit (s.rf Reg.GLB_UNIT_STATUS_STOPPING) u

/-- Unit numbers of R9's table. -/
def U.CFE : Nat := 1
/-- Graph Store. -/
def U.GS : Nat := 2
/-- Dependency Resolver. -/
def U.DR : Nat := 3
/-- Dispatch Slices. -/
def U.DS : Nat := 4
/-- Semaphore Memory. -/
def U.SM : Nat := 5
/-- Message Hub. -/
def U.MH : Nat := 6
/-- Sequence Table and Sower. -/
def U.ST : Nat := 7
/-- Expert Routing Assist. -/
def U.ERA : Nat := 8
/-- Budget Governor. -/
def U.BG : Nat := 9
/-- Preemption and Spill Controller. -/
def U.PSC : Nat := 10
/-- Determinism Controller. -/
def U.DC : Nat := 11
/-- Partition and Attestation Unit. -/
def U.PAU : Nat := 12
/-- Integrity and Fault Manager. -/
def U.IFM : Nat := 13
/-- Debug and Observability. -/
def U.DBG : Nat := 14
/-- Thresher. -/
def U.THR : Nat := 15

/-- Whether partition `p` is locked (R399). -/
def State.locked (s : State) (p : Nat) : Bool := bit (s.rf Reg.PAU_LOCKED) p

/-- Whether partition `p` exists in the build. -/
def State.partOk (s : State) (p : Nat) : Bool := decide (p < s.build.partitions)

/-- The next free value (R-open values; notes/assumptions/3.md) and the state that has used it. -/
def State.takeFree (s : State) : Word × State := (Config.freeWord s.free, { s with free := s.free + 1 })

end Sys2Proof.Machine
end

