-- ==== Sys2Proof/Machine/View.lean ====
section
/-! DEFINITION. What software sees, without any side effect: the registers that show a quantity the state holds elsewhere
(depths, free counts, live values), the table windows, the masks of locked partitions, and the snapshot image. -/

namespace Sys2Proof.Machine

/-- The index of address `a` in a run of `count` words that starts at `base` with `stride` bytes from one to the next. -/
def idxAt (base stride count a : Nat) : Option Nat :=
  if base ≤ a ∧ (a - base) % stride = 0 ∧ (a - base) / stride < count then some ((a - base) / stride) else none

/-- A word made of fields given as (low bit, value). -/
def packW (fs : List (Nat × Nat)) : Word := BitVec.ofNat 32 (fs.foldl (fun acc (lo, v) => acc + v * 2 ^ lo) 0)

/-! ### Extents (R88) -/

/-- The free gaps of the range [lo, hi) around the allocated extents, which rise. -/
def gaps (hi : Nat) : Nat → List (Nat × Nat) → List (Nat × Nat)
  | lo, [] => if lo < hi then [(lo, hi - lo)] else []
  | lo, (a, n) :: t => if lo < a then (lo, a - lo) :: gaps hi (a + n) t else gaps hi (a + n) t

/-- Units of a range that no extent holds. -/
def freeUnits (lo hi : Nat) (ext : List (Nat × Nat)) : Nat := ((gaps hi lo ext).map (·.2)).foldl (· + ·) 0

/-- The longest free gap. -/
def largestGap (lo hi : Nat) (ext : List (Nat × Nat)) : Nat := ((gaps hi lo ext).map (·.2)).foldl max 0

/-- Template-region nodes (R88, R108). -/
def State.tmplNodeEnd (s : State) : Nat := 16384 * s.rf Reg.GS_TMPL_REGION_TMPL_NODES
/-- Template-region edges. -/
def State.tmplEdgeEnd (s : State) : Nat := 65536 * s.rf Reg.GS_TMPL_REGION_TMPL_EDGES
/-- Tiller pool nodes in force (R136). -/
def State.poolSize (s : State) : Nat := 4096 * s.rf Reg.DR_TILLER_POOL
/-- The end of the instance area's nodes: the Tiller pool is taken out of it. -/
def State.instNodeEnd (s : State) : Nat := s.build.nodes - s.poolSize
/-- The end of the instance area's edges. -/
def State.instEdgeEnd (s : State) : Nat := s.build.edges - s.poolSize

/-- Pool nodes whose entry is FREE. -/
def State.poolFree (s : State) : List Nat :=
  (List.range s.poolSize).filterMap fun i =>
    let n := s.instNodeEnd + i
    if s.rm (nodeRow n) Nd.STATE = 0 then some n else none

/-! ### Links -/

/-- A link nothing is known of: absent and DOWN. -/
def Link.fresh (i : Nat) : Link :=
  { id := i, pin := false, present := false, presentCc := 0, stale := false, lstate := 0, cls := 0, proto := 0, creditsAdv := 0,
    creditsNow := 0, telem := false, spawn := false, engineId := 0, tasks := [], ctrl := none, ctrlQ := [], offerOut := false, offers := 0,
    offerGc := 0, reoffer := false, agreed := 0, adv := 0, irqOut := [], wakeGc := 0, wakeCmd := false }

/-- Link `i`. -/
def State.link (s : State) (i : Nat) : Link :=
  match s.ds.links.find? (fun l => l.id == i) with
  | some l => l
  | none => Link.fresh i

/-- Whether software has disabled link `i` (R144). -/
def State.linkDisabled (s : State) (i : Nat) : Bool := bit (s.reg (Reg.DS_ENGINE_DISABLE_A (i / 32))).toNat (i % 32)

/-- Whether link `i` is selectable (R144). -/
def State.selectable (s : State) (i : Nat) : Bool := (s.link i).lstate == 2 && !s.linkDisabled i

/-- The link status entry of R148. -/
def State.linkStatus (s : State) (i : Nat) : List Word :=
  let l := s.link i
  [packW [(0, l.lstate), (3, b2n (s.linkDisabled i)), (4, l.cls), (8, l.proto), (10, l.creditsAdv), (14, l.creditsNow),
     (18, l.tasks.length), (22, b2n l.telem), (23, b2n l.spawn)], BitVec.ofNat 32 l.engineId, 0#32, 0#32]

/-! ### Contexts -/

/-- Context `i`; a context that was never created is FREE with generation 0. -/
def State.ctx (s : State) (i : Nat) : Context :=
  match s.fe.ctxs.find? (fun c => c.idx == i) with
  | some c => c
  | none => ⟨i, 0, 0, 0, 0⟩

/-- Queue `q` of context `c`, if it exists. -/
def State.queue? (s : State) (c q : Nat) : Option Queue := s.fe.queues.find? (fun x => x.ctx == c && x.q == q)

/-- The code of a queue state (R159). -/
def QState.code : QState → Nat
  | .disabled => 0 | .empty => 1 | .pending => 2 | .active => 3
  | .blocked => 4 | .parked => 5 | .faulted => 6 | .draining => 7

/-- Whether a queue holds a resident head. -/
def State.resident (s : State) (c q : Nat) : Bool := s.fe.heads.any (fun h => h.ctx == c && h.q == q)

/-- The context status entry of R154. -/
def State.ctxStatus (s : State) (i : Nat) : List Word :=
  let c := s.ctx i
  let qs := fun q => match s.queue? i q with
    | some x => packW [(0, x.state.code), (3, b2n (s.resident i q)), (16, x.fault)]
    | none => 0#32
  let ws := fun q => match s.queue? i q with
    | some x => BitVec.ofNat 32 x.write
    | none => 0#32
  [packW [(0, c.cstate), (2, c.part), (6, c.qmask), (20, c.gen)]] ++ (List.range 6).map qs ++ [0#32] ++
    (List.range 6).map ws ++ [0#32, 0#32]

/-! ### Partition of a row (R396) -/

/-- The partition whose range holds semaphore `i` (R244). -/
def State.semPart (s : State) (i : Nat) : Option Nat :=
  (List.range s.build.partitions).find? fun p =>
    decide (s.rf (Reg.SM_SEM_BASE p) ≤ i) && decide (i < s.rf (Reg.SM_SEM_BASE p) + s.rf (Reg.SM_SEM_COUNT p))

/-- The partition whose bias area holds bias entry `i` (R241). -/
def State.biasPart (s : State) (i : Nat) : Option Nat :=
  (List.range s.build.partitions).find? fun p =>
    decide (s.rf (Reg.ERA_BIAS_BIAS_BASE p) ≤ i) &&
      decide (i < s.rf (Reg.ERA_BIAS_BIAS_BASE p) + s.rf (Reg.ERA_BIAS_BIAS_SIZE p))

/-- The partition whose seed area holds seed entry `i`. -/
def State.seedPart (s : State) (i : Nat) : Option Nat :=
  (List.range s.build.partitions).find? fun p =>
    decide (s.rf (Reg.ERA_SEED_SEED_BASE p) ≤ i) &&
      decide (i < s.rf (Reg.ERA_SEED_SEED_BASE p) + s.rf (Reg.ERA_SEED_SEED_SIZE p))

/-- Bytes of the built table, 0 for an identifier that no table has (R472, R473, R498). -/
def State.tableSize (s : State) (tid : Nat) : Nat :=
  let b := s.build
  match tid with
  | 0x01 => 32 * b.nodes | 0x02 => 8 * b.edges | 0x03 => 32 * b.tmpls | 0x04 => 64 * b.slots
  | 0x05 => 16 * b.links | 0x06 => 64 * b.ctxs | 0x07 => 64 * b.seqs | 0x08 => 8192
  | 0x09 => 16 * b.sems | 0x0A => 64 * 256 | 0x0B => 32 * b.rxqs | 0x0C => 131072 | 0x0D => 64 * b.stooks
  | 0x0E => 64 * 128 * b.partitions | 0x0F => 131072 | 0x10 => 131072 | 0x11 => 32768 | 0x12 => 32768
  | 0x13 => 131072 | 0x14 => 2048 | 0x15 => 2048 | 0x16 => 8192 | 0x17 => 8192
  | 0x18 => 16 * 24 * b.partitions | 0x19 => 8 * 256 * b.partitions | 0x1A => 16384 | 0x1B => 4096 | 0x1C => 512
  | 0x1D => 4096 | 0x1E => 256 * b.partitions | 0x1F => 2048
  | 0x40 => 32 * b.links | 0x41 => 16 * 6 * b.ctxs | 0x42 => 0x14000 | 0x50 => 524288
  | _ => 0

/-- Whether a table may be written through a window (R472). -/
def tableRw (tid : Nat) : Bool :=
  [0x0A, 0x0B, 0x0C, 0x0D, 0x0E, 0x0F, 0x10, 0x11, 0x12, 0x13, 0x14, 0x15, 0x16, 0x17, 0x18, 0x19, 0x1B, 0x1C].contains tid

/-- The partition that owns the row that holds word `w` of a table, for the tables of R402. -/
def State.rowPart (s : State) (tid w : Nat) : Option Nat :=
  match tid with
  | 0x01 =>
    let r := nodeRow (w / 8)
    if s.rm r Nd.STATE = 1 then some (s.rm r Nd.PART) else none
  | 0x02 => (s.gs.gens.find? fun g => decide (g.edgeBase ≤ w / 2) && decide (w / 2 < g.edgeBase + g.edgeCount)).map (·.part)
  | 0x03 => if s.rm (dirRow (w / 8)) Dir.STATE = 0 then none else some (s.rm (dirRow (w / 8)) Dir.PART)
  | 0x07 => if s.rm (seqRow (w / 16)) Sq.STATE = 0 then none else some (s.rm (seqRow (w / 16)) Sq.PART)
  | 0x09 => s.semPart (w / 4)
  | 0x0A => some (s.rm (sheafRow (w / 16)) Sh.PART)
  | 0x0B => some (s.rm (rxqRow (w / 8)) Rq.PART)
  | 0x0C => some (s.rm (routeRow (w / 8)) Rt.PART)
  | 0x0D => some (s.rm (stookRow (w / 16)) Sk.PART)
  | 0x0E => some (w / 16 / 128)
  | 0x0F => s.biasPart w
  | 0x10 => s.biasPart w
  | 0x11 => s.seedPart (w / 2)
  | 0x12 => s.seedPart (w / 2)
  | 0x18 => some (w / 4 / 24)
  | 0x19 => some (w / 2 / 256)
  | _ => none

/-- The partition that a cluster is assigned to as a locked partition's cluster, if any (R400, R503, R506). -/
def State.clusterLocked (s : State) (c : Nat) : Bool :=
  (List.range s.build.partitions).any fun p => s.locked p && bit (s.rf (Reg.PAU_PCFG_CLUSTERS p)) c

/-- A partition is locked or its lock is running (R402). -/
def State.lockedOrLocking (s : State) (p : Nat) : Bool := s.locked p || s.pau.locking == some p

/-! ### The on-chip log (R440) -/

/-- A log entry in the layout of R440.  `mask`: DETAIL and DETAIL2 removed (R441). -/
def LogEnt.words (e : LogEnt) (mask : Bool) : List Word :=
  [packW [(0, e.code), (16, e.sev), (20, e.part.getD 0), (24, b2n e.part.isSome), (25, b2n mask)],
   BitVec.ofNat 32 e.count, if mask then 0#32 else BitVec.ofNat 32 e.detail,
   if mask then 0#32 else BitVec.ofNat 32 e.detail2] ++ words64 e.firstGc ++ words64 e.lastGc

/-- Whether a log record of a partition is masked: the partition is locked and does not hold the ring (R441). -/
def State.logMasked (s : State) (p : Option Nat) : Bool :=
  match p with
  | some p => s.locked p && !(p == s.rf Reg.IFM_LOG_BASE_HI_LOG_PART)
  | none => false

/-- Whether device `d` is a member of the domain (R321, R322): its bit in the domain map, which reads bit 0 alone before fabric
link-up and in a build without the fabric port. -/
def State.member (s : State) (d : Nat) : Bool :=
  if s.fab.up then bit (s.ram (ramKey 0x1C (d / 32))).toNat (d % 32) else d == 0

/-- The accounting entry of a partition as the table window shows it: FORMAT, PART and ENCL stand in word 0. -/
def State.acctWord (s : State) (p w : Nat) : Word :=
  if w = 0 then packW [(0, 1), (8, p), (13, b2n (s.locked p))] else s.ram (acctRow p + w)

/-- Word `w` of a table as it stands, before the mask of R402. -/
def State.tableWord (s : State) (tid w : Nat) : Word :=
  match tid with
  | 0x05 => wordAt (s.linkStatus (w / 4)) (w % 4)
  | 0x06 => wordAt (s.ctxStatus (w / 16)) (w % 16)
  | 0x1C => if s.fab.up then s.ram (ramKey tid w) else if w = 0 then 1#32 else 0#32
  | 0x09 =>
    if w % 4 = 2 then
      let waits := s.sm.waits.any fun x => x.sem == w / 4 && x.granted.isNone
      wput (s.ram (ramKey tid w)) 3 3 (b2n waits)
    else s.ram (ramKey tid w)
  | 0x18 => if s.build.memStacks ≤ w / 4 % 24 then 0#32 else s.ram (ramKey tid w)
  | 0x1E => s.acctWord (w / 64) (w % 64)
  | 0x1F => match s.ifm.log.find? (fun e => e.idx == w / 8) with
    | some e => wordAt (e.words (s.logMasked e.part)) (w % 8)
    | none => 0#32
  | 0x42 => Tab.get (fun _ => 0#32) s.dbg.image w
  | 0x50 => match s.thr.mem with
    | .zero => 0#32
    | .rom => Config.firmwareRom w
  | _ => s.ram (ramKey tid w)

/-- The bits of word `i` of an entry that are no reserved field, from the entries' layouts in R216, R258, R272, R285, R291, R331, R351, R353. -/
def entryMask (tid i : Nat) : Word :=
  let ms : List Word := match tid with
    | 0x0A => [0xFFFFFF3F#32, ~~~0#32, ~~~0#32, ~~~0#32, 0xFFFF#32, ~~~0#32, ~~~0#32, ~~~0#32, ~~~0#32, ~~~0#32, 0xFFF#32, ~~~0#32, ~~~0#32]
    | 0x0B => [0x1FFFF#32, ~~~0#32, 0xFFFFF#32, ~~~0#32, ~~~0#32, 0xFF#32, ~~~0#32]
    | 0x0C => [0x3FFFFFFF#32, 0xFFF#32, ~~~0#32, 0#32, ~~~0#32, ~~~0#32]
    | 0x0D => [0xFFF7FFFF#32, 0xFFF#32, ~~~0#32, 0x7F#32, ~~~0#32, ~~~0#32]
    | 0x0E => [0x1F03FF#32, 0x7F03FF#32, 0x3FFFF#32, ~~~0#32, ~~~0#32, ~~~0#32, ~~~0#32, 0xFFF7FFF#32, ~~~0#32, ~~~0#32, 0xFFF#32, 0x3FFFF#32,
        0xFFFFF#32, 0x3FFFF#32, 0x7FFFF#32]
    | 0x14 => 0x1F#32 :: List.replicate 16 (~~~0#32)
    | 0x15 => 0x1F#32 :: List.replicate 16 (~~~0#32)
    | 0x16 => [0xFFFF#32, 0x1FFFFF#32]
    | 0x17 => [0xFFFF#32, 0x1FFFFF#32]
    | 0x18 => [0xFFFF#32, 0xFFFFFF#32, ~~~0#32, ~~~0#32]
    | _ => [0x8003FFFF#32]
  wordAt ms i

/-- The bits of a table's word that a read shows: the reserved fields of the tables that windows write read as 0 (R15).  What was written to them is
kept beside, for the checks that refuse it. -/
def shownMask (tid w : Nat) : Word :=
  match tid with
  | 0x0A => entryMask tid (w % 16)
  | 0x0B => entryMask tid (w % 8)
  | 0x0C => entryMask tid (w % 8)
  | 0x0D => entryMask tid (w % 16)
  | 0x0E => entryMask tid (w % 16)
  | 0x14 => entryMask tid (w % 32)
  | 0x15 => entryMask tid (w % 32)
  | 0x16 => entryMask tid (w % 2)
  | 0x17 => entryMask tid (w % 2)
  | 0x18 => entryMask tid (w % 4)
  | 0x19 => entryMask tid (w % 2)
  | _ => ~~~0#32

/-- A word of SRAM with its reserved fields as 0. -/
def State.shown (s : State) (k : Nat) : Word := s.ram k &&& shownMask (k / 2 ^ 24) (k % 2 ^ 24)

/-- Whether a window read of a word returns 0: it lies beyond the built size (R473), or belongs to a locked partition (R402, R503). -/
def State.windowHidden (s : State) (tid w : Nat) : Bool :=
  decide (s.tableSize tid ≤ 4 * w) || (s.rowPart tid w).any s.lockedOrLocking || (tid == 0x40 && s.clusterLocked (w / 8 / 16)) ||
    (tid == 0x41 && s.locked (s.ctx (w / 4 / 6)).part && (s.ctx (w / 4 / 6)).cstate != 0)

/-- Word `w` of a table as a window read returns it. -/
def State.windowWord (s : State) (tid w : Nat) : Word :=
  if s.windowHidden tid w then 0#32
  else if s.thr.mbist then Config.marchWord s.cc (ramKey tid w)
  else s.tableWord tid w &&& shownMask tid w

/-! ### Registers that show something kept elsewhere -/

/-- GLB_CAP_GRAPH (R29). -/
def Build.capGraph (b : Build) : Word :=
  packW [(0, b.nodeLog2), (5, b.nodeLog2 + 2), (10, b.tmplLog2), (15, b.slotLog2), (20, b.seqLog2), (25, b.semLog2)]

/-- GLB_CAP_DISPATCH (R30). -/
def Build.capDispatch (b : Build) : Word :=
  packW [(0, b.clusters), (6, b.slices), (11, 16), (16, b.partitions), (21, b.memStacks), (26, b2n b.fabric),
    (27, b2n b.isFull)]

/-- GLB_CAP_CTRL (R31). -/
def Build.capCtrl (b : Build) : Word :=
  packW [(0, b.ctxLog2), (5, b.ctxLog2 - 2), (10, b.ccores), (17, b.rxqLog2), (22, b.stookLog2), (27, b.expertLog2)]

/-- READY nodes at level `k` (R146): 0 to 5 are the user levels, 6 is I1, 7 is I0. -/
def State.readyCount (s : State) (k : Nat) : Nat :=
  (s.dr.ready.filter (fun e => e.level == k)).length + (s.dr.insQ.filter (fun n => s.rm (nodeRow n) Nd.LEVEL == k)).length

/-- Stook pool slots in use (R293). -/
def State.poolUsed (s : State) : Nat := (s.mh.stooks.map fun x => x.held.length).foldl (· + ·) 0

/-- Whether a held input is a request flit that enters a queue of R138, R266 or R289: 1 the remote decrement queue, 2 the SM fabric queue, 3 the hub
fabric queue; 0 for any other input. -/
def Held.fabQueue (h : Held) : Nat :=
  match h.input with
  | .edgeDec _ => 1
  | .sheafArrive _ => 2
  | .sheafRelease _ => 2
  | .msg _ => 3
  | _ => 0

/-- The entries of one of these queues: what grain-locked mode holds for it (R384), and what waits in it. -/
def State.fabDepth (s : State) (k : Nat) : Nat :=
  (s.dc.held.filter fun h => h.fabQueue == k).length + (s.fab.waiting.filter fun h => h.fabQueue == k).length

/-- Entries of the hub fabric queue (R289). -/
def State.hubQueue (s : State) : Nat := s.fabDepth 3

/-- Whether the walk, spawn, post and remote queues of the DR are empty (R484, R486): the remote queues are that of incoming decrements and that of
edges to send (R138). -/
def State.drEmpty (s : State) : Bool :=
  s.dr.walkQ.isEmpty && s.dr.spawnQ.isEmpty && s.dr.postQ.isEmpty && s.dr.sendQ.isEmpty && s.fabDepth 1 == 0

/-- Entries of the SM fabric queue (R266). -/
def State.smQueue (s : State) : Nat := s.fabDepth 2

/-- TAIL − HEAD of a receive queue, in bytes. -/
def State.ringBytes (s : State) (q : Nat) : Nat := (2 ^ 32 + s.rm (rxqRow q) Rq.TAIL - s.rm (rxqRow q) Rq.HEAD) % 2 ^ 32

/-- The GLB page. -/
def State.viewGlb (s : State) (a : Nat) : Option Word :=
  if a = Reg.GLB_UNLOCK_A then
    let armed := match s.glb.armedCc with
      | some c => decide (s.cc < c + 65)
      | none => false
    some (packW [(16, b2n armed)])
  else if a = Reg.GLB_GC_LO_A then some (BitVec.ofNat 32 s.gc)
  else if a = Reg.GLB_GC_HI_A then some (BitVec.ofNat 32 (s.gc / 2 ^ 32))
  else if a = Reg.GLB_CAP_GRAPH_A then some s.build.capGraph
  else if a = Reg.GLB_CAP_DISPATCH_A then some s.build.capDispatch
  else if a = Reg.GLB_CAP_CTRL_A then some s.build.capCtrl
  else none

/-- The CFE page. -/
def State.viewCfe (s : State) (a : Nat) : Option Word :=
  if a = Reg.CFE_HEADS_A then
    some (packW [(0, s.fe.heads.length), (16, (s.fe.queues.filter (fun q => q.state == .pending)).length)])
  else if a = Reg.CFE_SLOW_A then some (packW [(0, s.fe.slow.length)])
  else match idxAt (Reg.CFE_EVENT_USE_A 0) 4 s.build.partitions a with
  | some p => some (packW [(0, (s.fe.events.filter (fun e => e.live && e.part == p)).length)])
  | none => none

/-- The GS page. -/
def State.viewGs (s : State) (a : Nat) : Option Word :=
  if a = Reg.GS_PIPE_A then some (packW [(0, b2n (s.gs.pipe.length > 0)), (1, s.gs.pipe.length)])
  else if a = Reg.GS_TMPL_FREE_NODES_A then some (packW [(0, freeUnits 0 s.tmplNodeEnd s.gs.tmplNodes)])
  else if a = Reg.GS_TMPL_FREE_EDGES_A then some (packW [(0, freeUnits 0 s.tmplEdgeEnd s.gs.tmplEdges)])
  else if a = Reg.GS_INST_FREE_NODES_A then some (packW [(0, freeUnits s.tmplNodeEnd s.instNodeEnd s.gs.instNodes)])
  else if a = Reg.GS_INST_FREE_EDGES_A then some (packW [(0, freeUnits s.tmplEdgeEnd s.instEdgeEnd s.gs.instEdges)])
  else if a = Reg.GS_LARGEST_A then
    some (packW [(0, largestGap s.tmplNodeEnd s.instNodeEnd s.gs.instNodes / 64),
      (16, largestGap 0 s.tmplNodeEnd s.gs.tmplNodes / 64)])
  else if a = Reg.GS_SLOTS_FREE_A then some (packW [(0, s.build.slots - s.gs.launches.length)])
  else if a = Reg.GS_RETIRE_USED_A then
    some (packW [(0, (s.gs.gens.filter (·.retired)).length + (s.gs.jobs.filter (·.reserved)).length)])
  else none

/-- The DR page. -/
def State.viewDr (s : State) (a : Nat) : Option Word :=
  if a = Reg.DR_WALK_STATUS_A then some (packW [(0, s.dr.walkQ.length), (13, b2n s.dr.bp)])
  else if a = Reg.DR_SPAWN_STATUS_A then some (packW [(0, s.dr.spawnQ.length), (12, s.poolFree.length)])
  else if a = Reg.DR_REMOTE_STATUS_A then
    some (packW [(0, s.dr.early.length), (16, (s.dr.sendQ.filter (fun e => e.seq.isSome && e.resendGc.isNone)).length)])
  else match idxAt (Reg.DR_READY_COUNT_A 0) 4 8 a with
  | some k => some (packW [(0, s.readyCount k)])
  | none => none

/-- The DS page. -/
def State.viewDs (s : State) (a : Nat) : Option Word :=
  match idxAt (Reg.DS_LINK_UP_A 0) 4 (s.build.clusters / 2) a with
  | some k => some (packW ((List.range 32).map fun b => (b, b2n ((s.link (32 * k + b)).lstate == 2))))
  | none =>
    match idxAt (Reg.DS_SELECTABLE_A 0) 4 (s.build.clusters / 2) a with
    | some k => some (packW ((List.range 32).map fun b => (b, b2n (s.selectable (32 * k + b)))))
    | none => none
/-- The SM page. -/
def State.viewSm (s : State) (a : Nat) : Option Word :=
  if a = Reg.SM_STATUS_A then
    let busy := bit (s.rf Reg.GLB_UNIT_EN) U.SM && !bit (s.rf Reg.GLB_UNIT_STATUS_READY) U.SM
    some (packW [(0, s.dr.postQ.length), (7, b2n busy), (8, s.smQueue)])
  else none

/-- The MH page. -/
def State.viewMh (s : State) (a : Nat) : Option Word :=
  if a = Reg.MH_STATUS_A then some (packW [(0, s.hubQueue), (8, s.mh.sends.length), (17, 4096 - s.poolUsed)]) else none

/-- Rows of the row store in use (R205). -/
def State.rowsHeld (s : State) : Nat := (s.st.steps.map fun x => x.rows.length).foldl (· + ·) 0

/-- The ST page. -/
def State.viewSt (s : State) (a : Nat) : Option Word :=
  if a = Reg.ST_ROWSTORE_A then some (packW [(0, 131072 - s.rowsHeld)]) else none

/-- The ERA page. -/
def State.viewEra (s : State) (a : Nat) : Option Word :=
  if a = Reg.ERA_STATUS_A then
    match s.era.jobs.find? fun j => j.phase != .queued with
    | some j => some (packW [(0, s.era.jobs.length - 1), (7, 1), (8, j.part), (16, j.tag)])
    | none => some (packW [(0, s.era.jobs.length)])
  else none

/-- A pJ value shown in nJ, floored (R350). -/
def showNj (pj : Int) : Word := BitVec.ofInt 32 (pj / 1000)

/-- The BG page. -/
def State.viewBg (s : State) (a : Nat) : Option Word :=
  let part := fun (base : Nat) => idxAt base 0x40 s.build.partitions a
  let of := fun (p : Nat) => s.bg.parts.find? fun x => x.part == p
  if a = Reg.BG_PM_STATUS_A then some (wput (s.reg a) 5 0 s.bg.lends.length)
  else match part (Reg.BG_CREDIT_NJ_A 0) with
  | some p => some (match of p with
    | some x => if x.bad then 0#32 else showNj x.credit.toInt
    | none => 0#32)
  | none => match part (Reg.BG_LENT_LEFT_NJ_A 0) with
    | some p => some (match of p with
      | some x => if x.bad then 0#32 else showNj x.lent.toInt
      | none => 0#32)
    | none => match part (Reg.BG_BORROWED_NJ_A 0) with
      | some p => some (match of p with
        | some x => showNj x.borrowed
        | none => 0#32)
      | none => none

/-- The PSC page: VICTIM_OK of a locked partition reads 0 (R401). -/
def State.viewPsc (s : State) (a : Nat) : Option Word :=
  if a = Reg.PSC_STATUS_A then
    some (packW [(0, s.psc.preempts.length), (5, s.psc.jobs.length), (16, s.psc.order.length)])
  else match idxAt (Reg.PSC_GR_A 0) 0x20 s.build.partitions a with
  | some p => if s.locked p then some (wput (s.reg a) 16 16 0) else none
  | none => none

/-- The IFM page. -/
def State.viewIfm (s : State) (a : Nat) : Option Word :=
  if a = Reg.IFM_LOG_USED_A then some (packW [(0, s.ifm.log.length)]) else none

/-- RX_SEL of a core (R280): the queue that it should pop next. -/
def State.rxSel (s : State) (c : Nat) : Option Nat :=
  let mine := fun (q : Nat) => let r := rxqRow q
    s.rm r Rq.VALID == 1 && s.rm r Rq.CORE == c && s.rm r Rq.USED != 0
  let qs := (s.mh.msgs.map (·.q)).filter mine
  let low := fun (l : List Nat) => minBy id l
  match low (qs.filter fun q => s.rm (rxqRow q) Rq.PRIO == 1) with
  | some q => some q
  | none => low qs

/-- The core windows (R280): RX_SEL, and RX_STATUS of the queue that RX_Q names. -/
def State.viewCore (s : State) (a : Nat) : Option Word :=
  let c := (a - 0x1FC000) / 0x100
  if a % 0x100 = 0x00 then
    some (match s.rxSel c with
      | some q => packW [(0, q), (12, 1)]
      | none => 0#32)
  else if a % 0x100 = 0x0C then
    let q := s.rf (Reg.CW_RX_Q c)
    some (if q < s.build.rxqs then s.ram (rxqRow q + 5) &&& 0xFF#32 else 0#32)
  else none

/-- A word of a unit page or of a core window, at its alias-free address, as a read returns it.  WO fields are never stored, so they read 0;
words that the build does not have read 0 (R456). -/
def State.regView (s : State) (a : Nat) : Word :=
  if (regRow? s.build a).isNone then 0#32 else
  let v := match a / 0x10000 with
    | 0x0 => s.viewGlb a
    | 0x1 => s.viewCfe a
    | 0x2 => s.viewGs a
    | 0x3 => s.viewDr a
    | 0x4 => s.viewDs a
    | 0x5 => s.viewSm a
    | 0x6 => s.viewMh a
    | 0x7 => s.viewSt a
    | 0x8 => s.viewEra a
    | 0x9 => s.viewBg a
    | 0xA => s.viewPsc a
    | 0xD => s.viewIfm a
    | 0x1F => s.viewCore a
    | 0xF => if a = Reg.THR_BSR_LENGTH_A then some (BitVec.ofNat 32 Config.bsrLength) else none
    | _ => none
  match v with
  | some w => w
  | none => s.reg a

/-- Whether a word of a unit page is one of the partition registers of `p` (R476). -/
def partReg (p a : Nat) : Bool :=
  let o := a % 0x10000
  let inBlk := fun base stride len => decide (base + stride * p ≤ o) && decide (o < base + stride * p + len)
  match a / 0x10000 with
  | 0x1 => inBlk 0x100 4 4 || inBlk 0x140 4 4
  | 0x2 => inBlk 0x100 0x20 0x20
  | 0x3 => inBlk 0x100 8 8 || inBlk 0x300 0x10 0x10
  | 0x5 => inBlk 0x100 0x10 0x10
  | 0x6 => inBlk 0x200 0x20 0x20
  | 0x7 => inBlk 0x100 0x40 0x40
  | 0x8 => inBlk 0x100 0x40 0x40
  | 0x9 => inBlk 0x300 0x40 0x40
  | 0xA => inBlk 0x100 0x20 0x20
  | 0xB => inBlk 0x100 0x20 0x20
  | 0xC => inBlk 0x100 0x40 0x40
  | 0xD => inBlk 0x100 4 4
  | _ => false

/-- The words of the snapshot image that are not 0 (R506), by word index of table 0x42: every unit page, the READY counts, and the
link status entries, with the partition registers and the links of locked partitions masked. -/
def State.snapImage (s : State) : Tab :=
  let masked := fun a => (List.range s.build.partitions).any fun p => s.locked p && partReg p a
  let pages := (List.range (16 * 1024)).filterMap fun i =>
    let a := i / 1024 * 0x10000 + 4 * (i % 1024)
    let v := if masked a then 0#32 else s.regView a
    if v = 0#32 then none else some (i, v)
  let rdy := (List.range 128).filterMap fun i =>
    let n := (s.dr.ready.filter (fun e => e.level == i / 16 && e.cls == i % 16)).length
    if n = 0 then none else some (0x10000 / 4 + i, BitVec.ofNat 32 n)
  let lks := (List.range (4 * s.build.links)).filterMap fun i =>
    let v := if s.clusterLocked (i / 4 / 16) then 0#32 else wordAt (s.linkStatus (i / 4)) (i % 4)
    if v = 0#32 then none else some (0x12000 / 4 + i, v)
  pages ++ rdy ++ lks

end Sys2Proof.Machine
end

