-- ==== Sys2Proof/Machine/Ops.lean ====
section
/-! DEFINITION. The operations that every unit shares: driving a port, the trace, the snapshot, a report to the Gleaner, an
MM transfer, the completion of a command, and the accounting of what a partition uses. -/

namespace Sys2Proof.Machine

/-! ### Ports -/

/-- The reset domain whose assertion clamps an output (R78). -/
def Output.clamped (p : Pins) : Output → Bool
  | .rpAck .. => p.rstReg
  | .tapData .. => false
  | .mmReq .. => p.rstNoc
  | .dlIssue .. => p.rstEng
  | .dlCredit .. => p.rstEng
  | .dlIrq .. => p.rstEng
  | .dlWake .. => p.rstEng
  | .fpFlit .. => p.rstFab
  | .fpCredit .. => p.rstFab
  | .pmBudAck => p.rstReg
  | .pmMeasAck => p.rstReg
  | .pmLend .. => p.rstReg
  | .pmEpoch => p.rstReg
  | .atAnswer .. => p.rstReg
  | .trace .. => p.rstNoc
  | .snapTrig => p.rstCore
  | .tdo .. => false
  | .tdoBypass => false
  | .boundary .. => false

/-- Whether an output reaches its pin while iso_en is high: only tdo, which shows the bypass register (R78). -/
def Output.alwaysOn : Output → Bool
  | .tdo .. => true
  | .tdoBypass => true
  | _ => false

/-- Whether an output belongs to the TAP; every other one is driven by the boundary register while EXTEST or CLAMP is selected (R494). -/
def Output.ofTap : Output → Bool
  | .tdo .. => true
  | .tdoBypass => true
  | .boundary .. => true
  | .tapData .. => true
  | _ => false

/-- Whether EXTEST or CLAMP is selected. -/
def Tap.clamps (t : Tap) : Bool := t.ir == 0 || t.ir == 3

/-- Drive an output: it joins the list of everything driven, unless isolation or its domain's reset clamps it (R78), or the boundary
register drives its pin (R494). -/
def State.emit (s : State) (o : Output) : State :=
  if (s.pins.isoEn && !o.alwaysOn) || o.clamped s.pins || (s.tap.clamps && !o.ofTap) then s else { s with out := s.out ++ [o] }

/-- Every dl_irq that is high goes low at its pin, where isolation or the reset of its domain is about to clamp it (R78). -/
def State.lowerIrqs (s : State) : State := (s.ds.links.filter fun l => l.irqOut != []).foldl (fun s l => s.emit (.dlIrq l.id false)) s

/-- The clamp ends: every dl_irq whose interrupting records still await their acknowledgement is high again (R57). -/
def State.raiseIrqs (s : State) : State := (s.ds.links.filter fun l => l.irqOut != []).foldl (fun s l => s.emit (.dlIrq l.id true)) s

/-- The level at dl_irq of a link (R57, R78). -/
def State.dlIrqPin (s : State) (i : Nat) : Bool := !s.pins.isoEn && !s.pins.rstEng && (s.link i).irqOut != []

/-- mm_rsp_ready (R46, R78): low during reset and isolation alone. -/
def State.mmRspReady (s : State) : Bool := !s.pins.isoEn && !s.pins.rstNoc

/-- blk_present (R39).  The domain resets are those of the five clock domains of the core, the engines, the NoC, the fabric and the registers;
trst_n resets the TAP alone and is not among them (notes/assumptions/25.md). -/
def State.blkPresent (s : State) : Bool :=
  !s.pins.isoEn && !s.pins.rstCore && !s.pins.rstEng && !s.pins.rstNoc && !s.pins.rstFab && !s.pins.rstReg &&
    decide ((s.reg Reg.GLB_FW_VERSION_A) ≠ 0#32)

/-- Whether a held input is a doorbell: it takes a place of the FIFO (R384). -/
def Held.isDoorbell (h : Held) : Bool :=
  match h.input with
  | .doorbellWrite _ _ => true
  | _ => false

/-- db_ready (R43): the doorbell FIFO, with what grain-locked mode holds for it, has room, and the port is not clamped. -/
def State.dbReady (s : State) : Bool :=
  decide (s.fe.fifo.length + (s.dc.held.filter Held.isDoorbell).length < 64) && !s.pins.isoEn && !s.pins.rstNoc

/-- irq_out bit `i` (R74, R182, R442). -/
def State.irqOut (s : State) (i : Nat) : Bool :=
  if s.pins.isoEn || s.pins.rstCore then false
  else if i < 16 then bit (s.rf Reg.CFE_IRQ_STATUS_CMPL) i && bit (s.rf Reg.CFE_IRQ_MASK_CMPL_EN) i
  else
    (bit (s.rf Reg.CFE_IRQ_STATUS_ERR) (i - 16) && bit (s.rf Reg.CFE_IRQ_MASK_ERR_EN) (i - 16)) ||
      (bit (s.rf Reg.IFM_IRQ_STATUS_PART_ERR) (i - 16) && bit (s.rf Reg.IFM_IRQ_MASK_PART_EN) (i - 16))

/-- irq_admin (R442). -/
def State.irqAdmin (s : State) : Bool :=
  !s.pins.isoEn && !s.pins.rstCore && s.rb Reg.IFM_IRQ_STATUS_ADMIN && s.rb Reg.IFM_IRQ_MASK_ADMIN_EN

/-- fc_out bit `k` (R75, R78). -/
def State.fcPin (s : State) (k : Nat) : Bool := !s.pins.isoEn && !s.pins.rstCore && s.pins.fcOut.contains k

/-- snap_trig_out (R504, R78): high for 8 cc from the latest firing. -/
def State.snapTrigPin (s : State) : Bool :=
  !s.pins.isoEn && !s.pins.rstCore && (s.dbg.fireCc.any fun c => decide (s.cc < c + 8))

/-- An episode flag: some errors are raised once for each episode. -/
def State.inEpisode (s : State) (code key : Nat) : Bool := s.eps.contains (code, key)
/-- An episode begins. -/
def State.openEpisode (s : State) (code key : Nat) : State :=
  if s.eps.contains (code, key) then s else { s with eps := (code, key) :: s.eps }
/-- An episode ends. -/
def State.closeEpisode (s : State) (code key : Nat) : State := { s with eps := s.eps.filter (· != (code, key)) }

/-- The age from which a tag is too old to compare (R393). -/
def tagWindow : Nat := 2 ^ 31

/-- The episode key of a tag window (R393), with the partition: 1 rounds, 2 admission numbers, 3 launch IDs, 4 signals, 5 messages, 6 remote
edges. -/
def windowKey (kind p : Nat) : Nat := 16 * kind + p

/-! ### Trace (R507 to R511) -/

/-- Whether the DBG counts and traces: its READY bit is 1 (R501). -/
def State.dbgOn (s : State) : Bool := bit (s.rf Reg.GLB_UNIT_STATUS_READY) U.DBG

/-- Put one record into the trace FIFO, or count it as lost (R511). -/
def State.tracePush (s : State) (r : Nat) : State :=
  if s.dbg.fifo.length < 256 then { s with dbg := { s.dbg with fifo := s.dbg.fifo ++ [BitVec.ofNat 64 r] } }
  else
    let s := s.incRf Reg.DBG_TRACE_LOST
    { s with dbg := { s.dbg with lostNow := s.dbg.lostNow + 1 } }

/-- Whether the trace FIFO takes one more record (R511). -/
def State.traceRoom (s : State) : Bool := decide (s.dbg.fifo.length < 256)

/-- A TIME record: B is Global Count bits [59:0] of the stamp (R508, R509).  One that finds the FIFO full is lost and is no base. -/
def State.traceTime (s : State) (stamp : Nat) : State :=
  let base := if s.traceRoom then some stamp else s.dbg.base
  let s := s.tracePush (2 ^ 4 * (stamp % 2 ^ 60))
  { s with dbg := { s.dbg with base := base } }

/-- A SYNC record and the TIME record that follows it (R509). -/
def State.traceSync (s : State) (stamp : Nat) : State :=
  let hi := s.dbg.dec / 4096 % 2 ^ 44
  let sync := if s.traceRoom then some hi else s.dbg.sync
  let s := s.tracePush (1 + 2 ^ 4 * (stamp / 2 ^ 60 % 16) + 2 ^ 8 * hi)
  { s with dbg := { s.dbg with sync := sync } }.traceTime stamp

/-- The header of a record (R508). -/
def State.traceHeader (s : State) (kind stamp : Nat) : Nat :=
  kind + 2 ^ 4 * ((stamp - s.dbg.base.getD stamp) % 64) + 2 ^ 10 * (s.dbg.dec % 4096)

/-- A LOST record, SYNC and TIME, once the FIFO has room for three entries (R511; notes/assumptions/142.md). -/
def State.traceLost (s : State) : State :=
  if s.dbg.lostNow > 0 ∧ s.dbg.fifo.length ≤ 253 then
    let n := s.dbg.lostNow
    let s := { s with dbg := { s.dbg with lostNow := 0 } }
    let s := s.tracePush (s.traceHeader 12 s.gc + 2 ^ 22 * (n % 2 ^ 32))
    s.traceSync s.gc
  else s

/-- Number a decision (R507) and emit its record when the trace is on and the record passes the filter of R510.  `payload`
holds the bits above the header; `keep` is what stays of it when the partition is locked. -/
def State.traceAt (s : State) (kind : Nat) (part : Option Nat) (payload keep stamp : Nat) : State :=
  if !s.dbgOn then s
  else
    let pass := s.rb Reg.DBG_TRACE_CTRL_ON && bit (s.rf Reg.DBG_TRACE_KINDS) kind &&
      (match part with
       | some p => bit (s.rf Reg.DBG_TRACE_PARTS) p
       | none => true)
    let s :=
      if !pass then s
      else
        let s := s.traceLost
        let s :=
          if s.dbg.sync ≠ some (s.dbg.dec / 4096 % 2 ^ 44) then s.traceSync stamp
          else match s.dbg.base with
            | some b => if b ≤ stamp ∧ stamp - b < 64 then s else s.traceTime stamp
            | none => s.traceTime stamp
        let body := match part with
          | some p => if s.locked p then keep else payload
          | none => payload
        s.tracePush (s.traceHeader kind stamp + body + 2 ^ 60 * (part.getD 0 % 16))
    { s with dbg := { s.dbg with dec := (s.dbg.dec + 1) % 2 ^ 64 } }

/-- A record stamped with the Global Count of this cc. -/
def State.trace (s : State) (kind : Nat) (part : Option Nat) (payload : Nat) (keep : Nat := 0) : State :=
  s.traceAt kind part payload keep s.gc

/-- A decision that has no record of its own takes a number all the same (R507). -/
def State.decision (s : State) : State :=
  if s.dbgOn then { s with dbg := { s.dbg with dec := (s.dbg.dec + 1) % 2 ^ 64 } } else s

/-! ### Snapshots (R504, R505) -/

/-- The image is latched for a trigger (R505). -/
def State.latchSnap (s : State) (src : Nat) : State :=
  let s := s.setRf Reg.DBG_SNAP_STATUS_HELD 1
  let s := s.setRf Reg.DBG_SNAP_STATUS_SOURCE src
  let s := s.setReg64 Reg.DBG_SNAP_GC_LO_A Reg.DBG_SNAP_GC_HI_A s.gc
  let s := s.trace 11 none (2 ^ 22 * src)
  { s with dbg := { s.dbg with latchCc := some s.cc, image := s.snapImage } }

/-- A snapshot trigger fires.  Several triggers of one cc fire once, with the lowest SOURCE. -/
def State.fireSnap (s : State) (src : Nat) : State :=
  let again := s.dbg.fireCc == some s.cc
  let s := s.emit .snapTrig
  if again then
    let s := { s with dbg := { s.dbg with fireSrc := min s.dbg.fireSrc src } }
    if s.dbg.latchCc == some s.cc then s.setRf Reg.DBG_SNAP_STATUS_SOURCE (min (s.rf Reg.DBG_SNAP_STATUS_SOURCE) src) else s
  else
    let s := { s with dbg := { s.dbg with fireCc := some s.cc, fireSrc := src } }
    if !s.unitEn U.DBG then s
    else if s.rb Reg.DBG_SNAP_STATUS_HELD then s.incRf Reg.DBG_SNAP_STATUS_MISSED
    else s.latchSnap src

/-! ### Reports (R436 to R442) -/

/-- A capture register takes a report (R437). -/
def State.capture (s : State) (a : Nat) (e : Err) (part : Option Nat) (d : Nat) : State :=
  let s := s.setReg a (packW [(0, e.code), (16, e.sev), (20, part.getD 0), (24, b2n part.isSome), (31, 1)])
  let s := s.setReg (a + 4) (BitVec.ofNat 32 d)
  s.setReg64 (a + 8) (a + 12) s.gc

/-- The capture registers take a report.  Reports of one cc are applied in ascending code order, so a later report of the same
cc replaces FIRST when FIRST was taken in this cc and its code is lower, and so on (R437). -/
def State.captures (s : State) (e : Err) (part : Option Nat) (d : Nat) : State :=
  let d := match part with
    | some p => if s.locked p then 0 else d
    | none => d
  let f := s.reg Reg.IFM_FIRST_A
  let l := s.reg Reg.IFM_LAST_A
  let w := s.reg Reg.IFM_WORST_A
  let s :=
    if wget f 31 31 = 0 ∨ (s.ifm.firstCc = s.cc + 1 ∧ e.code < wget f 15 0) then
      { s.capture Reg.IFM_FIRST_A e part d with ifm := { s.ifm with firstCc := s.cc + 1 } }
    else s
  let s :=
    if wget l 31 31 = 1 ∧ s.ifm.lastCc = s.cc + 1 ∧ e.code < wget l 15 0 then s
    else { s.capture Reg.IFM_LAST_A e part d with ifm := { s.ifm with lastCc := s.cc + 1 } }
  if wget w 31 31 = 0 ∨ e.sev > wget w 18 16 ∨ (s.ifm.worstCc = s.cc + 1 ∧ e.sev = wget w 18 16 ∧ e.code < wget w 15 0) then
    { s.capture Reg.IFM_WORST_A e part d with ifm := { s.ifm with worstCc := s.cc + 1 } }
  else s

/-- Every error of the block is a report (R436): it is captured (R437); while the IFM is enabled it enters the intake FIFO
(R438) and sets its interrupt causes (R442); it may fire a snapshot (R504); and it leaves an ERROR trace record. -/
def State.report (s : State) (e : Err) (part : Option Nat) (detail detail2 : Nat) : State :=
  let s := s.captures e part detail
  let s :=
    if s.unitEn U.IFM then
      let s :=
        if s.ifm.intake.length < 32 then
          { s with ifm := { s.ifm with intake := s.ifm.intake ++ [⟨e.code, e.sev, part, detail, detail2, s.gc⟩] } }
        else s.incRf Reg.IFM_LOST
      let s := match part with
        | some p => if e.sev ≥ 2 then s.setRf Reg.IFM_IRQ_STATUS_PART_ERR (setBit (s.rf Reg.IFM_IRQ_STATUS_PART_ERR) p true) else s
        | none => s
      if e.sev ≥ 3 ∨ (e.sev ≥ 1 ∧ part = none) then s.setRf Reg.IFM_IRQ_STATUS_ADMIN 1 else s
    else s
  let kept := 2 ^ 22 * e.code + 2 ^ 38 * e.sev
  let s := s.trace 10 part (kept + 2 ^ 41 * b2n part.isSome) kept
  if s.rb Reg.DBG_SNAP_CFG_ON_ERR && decide (e.sev ≥ s.rf Reg.DBG_SNAP_CFG_SEV) then s.fireSnap 3 else s

/-- A report that names nothing (the last row of R436). -/
def State.reportPlain (s : State) (e : Err) (part : Option Nat) : State := s.report e part 0 0

/-- A report about a link. -/
def State.reportLink (s : State) (e : Err) (link : Nat) : State := s.report e none link (s.link link).engineId

/-- A report about a command: context, queue and QSEQ [31:0]. -/
def State.reportCmd (s : State) (e : Err) (part ctx q qseq : Nat) : State :=
  s.report e (some part) (ctx + 2 ^ 10 * q) (lo32 qseq)

/-- A report about a node or a launch: the task tag and the LAUNCH_ID. -/
def State.reportNode (s : State) (e : Err) (part tag launchId : Nat) : State := s.report e (some part) tag launchId

/-! ### Accounting (R413, R414) -/

/-- Raise an accumulator of partition `p`'s accounting entry, at word `w`, by `n`. -/
def State.acct (s : State) (p w n : Nat) : State := if s.partOk p then s.addRam64 (acctRow p + w) n else s

/-! ### The memory master port (R44 to R47, R398, R399) -/

/-- Whether bytes [a, a + n) lie wholly in the Granary region of `p` (R398). -/
def State.inGranary (s : State) (p a n : Nat) : Bool :=
  let base := 2 ^ 16 * s.rf (Reg.PAU_GR_BASE_LO p) + 2 ^ 32 * s.rf (Reg.PAU_GR_BASE_HI p)
  decide (base ≤ a) && decide (a + n ≤ base + 2 ^ 16 * s.rf (Reg.PAU_GR_GR_UNITS p))

/-- mm_req_encl of a request (R399). -/
def State.enclOf (s : State) (kind part : Nat) (use : MmUse) : Bool :=
  match use with
  | .ctxDesc => false
  | _ => if kind = 9 then false else s.locked part

/-- Beats of the next request of a transfer: at most 4, and none beyond a 4 KiB boundary (R44). -/
def MmXfer.nextBeats (x : MmXfer) : Nat := min (min x.left 4) ((4096 - x.addr % 4096) / 64)

/-- The lowest tag of an operation that no outstanding request holds. -/
def State.freeTag (s : State) (write : Bool) : Option Nat :=
  (List.range (if write then 128 else 256)).find? fun t => !s.mm.busy.any (fun x => x.write == write && x.tag == t)

/-- Send the next request of a transfer, or let it wait for a tag. -/
def State.mmSend (s : State) (x : MmXfer) : State :=
  match s.freeTag x.write with
  | none => { s with mm := { s.mm with waiting := s.mm.waiting ++ [x] } }
  | some t =>
    let n := x.nextBeats
    let s := s.emit (.mmReq x.write t x.addr n x.part (s.enclOf x.kind x.part x.use) x.scope x.kind (x.rest.take n))
    let s := s.acct x.part 44 (64 * n)
    { s with mm := { s.mm with busy := s.mm.busy ++ [{ x with tag := t, beats := n, rest := x.rest.drop n, no := s.dc.mmNo, epoch := s.epoch }] },
             dc := { s.dc with mmNo := s.dc.mmNo + 1 } }

/-- The next request of a transfer is due.  One of kinds 4 to 8 that does not lie wholly in the Granary region of its partition is not issued: it
raises ERR_GRANARY_RANGE, and the answer false says that the requester is to act as on an MM error (R398). -/
def State.mmNext (s : State) (x : MmXfer) : State × Bool :=
  if 4 ≤ x.kind ∧ x.kind ≤ 8 ∧ !s.inGranary x.part x.addr (64 * x.nextBeats) then
    (s.report E.GRANARY_RANGE (some x.part) (x.kind + 2 ^ 6 * b2n x.write) (bits x.addr 37 6), false)
  else (s.mmSend x, true)

/-- Start a transfer. -/
def State.mmStart (s : State) (write : Bool) (addr beats part scope kind : Nat) (use : MmUse)
    (data : List (List Word × Nat)) : State × Bool :=
  s.mmNext ⟨write, 0, addr, 0, part, scope, kind, use, beats, data, [], 0, 0, 0⟩

/-- Read whole beats. -/
def State.mmRead (s : State) (addr beats part scope kind : Nat) (use : MmUse) : State × Bool :=
  s.mmStart false addr beats part scope kind use []

/-- The beats of a write of words at a byte address: whole 64-byte beats with byte enables for the bytes written. -/
def beatsOf (addr : Nat) (ws : List Word) : List (List Word × Nat) :=
  let first := addr % 64 / 4
  let n := ceilDiv (first + ws.length) 16
  (List.range n).map fun b =>
    ((List.range 16).map fun i => if 16 * b + i < first then 0#32 else wordAt ws (16 * b + i - first),
     (List.range 16).foldl (fun acc i =>
       if first ≤ 16 * b + i ∧ 16 * b + i < first + ws.length then acc + 15 * 2 ^ (4 * i) else acc) 0)

/-- Write words at a byte address that is a multiple of 4. -/
def State.mmWrite (s : State) (addr : Nat) (ws : List Word) (part scope kind : Nat) (use : MmUse) : State × Bool :=
  let bs := beatsOf addr ws
  s.mmStart true (addr / 64 * 64) bs.length part scope kind use bs

/-- Give freed tags to the transfers that wait for one, oldest first. -/
def State.mmRetry (s : State) : State :=
  let ws := s.mm.waiting
  ws.foldl (fun s x => s.mmSend x) { s with mm := { s.mm with waiting := [] } }

/-- The report of a failed answer (R47, R436). -/
def State.mmError (s : State) (x : MmXfer) (status : Nat) : State :=
  s.report E.MM_RESPONSE (some x.part) (x.kind + 2 ^ 4 * status + 2 ^ 6 * b2n x.write) (bits x.addr 37 6)

/-! ### Queues and the completion of commands (R164, R165, R182) -/

/-- The state with one queue changed. -/
def State.updQueue (s : State) (c q : Nat) (f : Queue → Queue) : State :=
  { s with fe := { s.fe with queues := s.fe.queues.map fun x => if x.ctx == c && x.q == q then f x else x } }

/-- The state with one head changed. -/
def State.updHead (s : State) (c q : Nat) (f : Head → Head) : State :=
  { s with fe := { s.fe with heads := s.fe.heads.map fun h => if h.ctx == c && h.q == q then f h else h } }

/-- The resident head of a queue. -/
def State.head? (s : State) (c q : Nat) : Option Head := s.fe.heads.find? (fun h => h.ctx == c && h.q == q)

/-- The state with one context changed. -/
def State.updCtx (s : State) (c : Nat) (f : Context → Context) : State :=
  { s with fe := { s.fe with ctxs := s.fe.ctxs.map fun x => if x.idx == c then f x else x } }

/-- COMPLETED moves over the unbroken prefix of completed commands (R164). -/
def advancePrefix : Nat → Nat → List Nat → Nat
  | 0, c, _ => c
  | fuel + 1, c, done => if done.contains (c + 1) then advancePrefix fuel (c + 1) done else c

/-- A command of a queue has completed. -/
def Queue.complete (x : Queue) (qseq : Nat) : Queue :=
  let done := qseq :: x.done
  let c := advancePrefix done.length x.completed done
  { x with completed := c, done := done.filter (fun n => decide (c < n)), dirty := x.dirty || decide (c ≠ x.completed) }

/-- Set the completion interrupt cause of a partition (R182). -/
def State.setCmpl (s : State) (p : Nat) : State :=
  s.setRf Reg.CFE_IRQ_STATUS_CMPL (setBit (s.rf Reg.CFE_IRQ_STATUS_CMPL) p true)

/-- The reply words of R165. -/
def replyWords (s : State) (rep : Rep) (status flags result qseq : Nat) : List Word :=
  [packW [(0, status), (16, rep.tag)], packW [(0, rep.opcode), (8, flags)]] ++ words64 result ++ words64 s.gc ++ words64 qseq

/-- Complete a command: the reply is written unless it has none, the completion interrupt is due when the reply has been
answered, or at once without a reply, and COMPLETED moves (R164, R165, R182). `flags` are LATE, ORPHAN and SIG_FAIL. -/
def State.complete (s : State) (c q part qseq : Nat) (rep : Rep) (status : Nat) (result : Nat := 0) (flags : Nat := 0) : State :=
  let s := s.updQueue c q (fun x => x.complete qseq)
  if rep.addr = 0 ∨ rep.addr % 32 ≠ 0 then (if rep.irq then s.setCmpl part else s)
  else (s.mmWrite rep.addr (replyWords s rep status flags result qseq) part 1 10 (.reply c q (if rep.irq then some part else none))).1

/-- What a packet says of its reply (R163). -/
def Rep.ofPkt (p : List Word) : Rep :=
  ⟨if (addr52 p 14) % 32 = 0 then addr52 p 14 else 0, pf p 0 31 16, pf p 0 7 0, pf p 0 9 9 == 1⟩

/-! ### Nodes, launches and templates -/

/-- A field of node `n`. -/
def State.nd (s : State) (n : Nat) (f : Fld) : Nat := s.rm (nodeRow n) f
/-- The state with a field of node `n` written. -/
def State.setNd (s : State) (n : Nat) (f : Fld) (v : Nat) : State := s.setRm (nodeRow n) f v

/-- The state with DEP_COUNT and its complement written in one SRAM write (R82). -/
def State.setDep (s : State) (n v : Nat) : State :=
  s.setRam (nodeRow n + 1)
    (wput (wput (s.ram (nodeRow n + 1)) 11 0 v) 23 12 (4095 - v % 4096))

/-- Whether the three Husk pairs of a node agree (R421). -/
def State.nodeHusk (s : State) (n : Nat) : Bool :=
  decide (s.nd n Nd.DEP_COUNT + s.nd n Nd.DEP_COUNT_N = 4095) &&
    decide (s.nd n Nd.SUCC_BASE + s.nd n Nd.SUCC_BASE_N = 2 ^ 22 - 1) &&
    decide (s.nd n Nd.SUCC_COUNT + s.nd n Nd.SUCC_COUNT_N = 4095)

/-- Whether a word of a row is uncorrectable (R426).  The marks of `State.ecc` say what the check bits of a word hold: 1 a single-bit error, 2 an
uncorrectable one, 3 a Husk pair that disagrees in a memory of which no window shows the pair (notes/assumptions/42.md). -/
def State.eccBad (s : State) (k n : Nat) : Bool := s.ecc.any fun e => decide (k ≤ e.1) && decide (e.1 < k + n) && e.2 == 2

/-- The offset of the first uncorrectable word of a row (R436); 0 when there is none. -/
def State.eccWord (s : State) (k n : Nat) : Nat := ((List.range n).find? fun i => s.eccBad (k + i) 1).getD 0

/-- What a read of a node finds: nothing, or ERR_ECC_UNCORRECTED or ERR_HUSK with the offset of the failing word (R421: the ECC check comes
first). -/
def State.nodeBad (s : State) (n : Nat) : Option (Err × Nat) :=
  if s.eccBad (nodeRow n) 8 then some (E.ECC_UNCORRECTED, s.eccWord (nodeRow n) 8)
  else if s.nodeHusk n then none
  else some (E.HUSK, if s.nd n Nd.DEP_COUNT + s.nd n Nd.DEP_COUNT_N ≠ 4095 then 1
    else if s.nd n Nd.SUCC_BASE + s.nd n Nd.SUCC_BASE_N ≠ 2 ^ 22 - 1 then 2 else 4)

/-- A FREE node as release leaves it: its skip mark cleared (R229), NGEN kept, Husk pairs 0 with complement all ones, the rest 0 (R102). -/
def State.freeNode (s : State) (n : Nat) : State :=
  let g := s.nd n Nd.NGEN
  let s := { s with era := { s.era with marks := s.era.marks.filter (· != n) } }
  s.setRow (nodeRow n) [packW [(16, g)], 0x00FFF000#32, 0#32, 0x003FFFFF#32, 0x00FFF000#32, 0#32, 0#32, 0#32]

/-- The launch record of a slot. -/
def State.launch? (s : State) (slot : Nat) : Option Launch := s.gs.launches.find? (fun l => l.slot == slot)

/-- The state with one launch record changed. -/
def State.updLaunch (s : State) (slot : Nat) (f : Launch → Launch) : State :=
  { s with gs := { s.gs with launches := s.gs.launches.map fun l => if l.slot == slot then f l else l } }

/-- A field of a launch slot. -/
def State.sl (s : State) (slot : Nat) (f : Fld) : Nat := s.rm (slotRow slot) f
/-- The state with a field of a launch slot written. -/
def State.setSl (s : State) (slot : Nat) (f : Fld) (v : Nat) : State := s.setRm (slotRow slot) f v

/-- A launch changes state, which is a traced decision (R103, R508). -/
def State.setLaunchState (s : State) (slot st : Nat) : State :=
  (s.setSl slot Sl.STATE st).trace 4 (some (s.sl slot Sl.PART))
    (2 ^ 22 * st + 2 ^ 26 * slot + 2 ^ 38 * (s.sl slot Sl.LAUNCH_ID % 2 ^ 22))

/-- The generation record that a launch or a handle names. -/
def State.gen? (s : State) (tmpl gen : Nat) : Option Gen := s.gs.gens.find? (fun g => g.tmpl == tmpl && g.gen == gen)

/-- The state with one generation changed. -/
def State.updGen (s : State) (tmpl gen : Nat) (f : Gen → Gen) : State :=
  { s with gs := { s.gs with gens := s.gs.gens.map fun g => if g.tmpl == tmpl && g.gen == gen then f g else g } }

/-- Whether a launch is live. -/
def State.live (s : State) (slot : Nat) : Bool := s.sl slot Sl.STATE != 0

end Sys2Proof.Machine
end

