-- ==== Sys2Proof/Machine/Front.lean ====
section
/-! DEFINITION. What the commands of the Command Front End share: consuming and completing the packet at a queue head, blocking
it, faulting a queue, the shadow record, and the events. -/

namespace Sys2Proof.Machine

/-- The row of a queue in the DBG's queue counters (R501). -/
def queueCtr (c q : Nat) : Nat := ramKey 0x41 (4 * (6 * c + q))

/-- Add to a 64-bit counter that saturates, while the DBG counts (R501). -/
def State.dbgAdd64 (s : State) (k n : Nat) : State := if s.dbgOn then s.addRam64 k n else s

/-- Add to a 32-bit counter that saturates, while the DBG counts (R501). -/
def State.dbgAdd32 (s : State) (k n : Nat) : State :=
  if s.dbgOn then s.setRam k (BitVec.ofNat 32 (min ((s.ram k).toNat + n) (2 ^ 32 - 1))) else s

/-- Write the 64-byte shadow record of a queue (R158). -/
def State.writeShadow (s : State) (c q : Nat) : State :=
  match s.queue? c q with
  | none => s
  | some x =>
    let ws := [BitVec.ofNat 32 x.read, packW [(0, x.state.code), (16, if x.state = .faulted then x.fault else 0)]] ++ words64 x.completed ++ words64 s.gc ++ zeros 10
    let s := s.updQueue c q fun x => { x with dirty := false, shadowGc := s.now }
    (s.mmWrite x.shadow ws (s.ctx c).part 1 10 (.shadow c q)).1

/-- Give up the head of a queue. -/
def State.dropHead (s : State) (c q : Nat) : State :=
  { s with fe := { s.fe with heads := s.fe.heads.filter fun h => !(h.ctx == c && h.q == q) } }

/-- A queue takes a new state; leaving BLOCKED or PARKED for another state counts the time spent there (R501). -/
def State.setQState (s : State) (c q : Nat) (st : QState) : State :=
  match s.queue? c q with
  | none => s
  | some x =>
    let was := x.state == .blocked || x.state == .parked
    let will := st == .blocked || st == .parked
    let s := if was && !will then s.dbgAdd64 (queueCtr c q + 1) (s.gc - x.blockGc) else s
    s.updQueue c q fun x =>
      { x with state := st, dirty := x.dirty || x.state != st, blockGc := if will && !was then s.gc else x.blockGc }

/-- A queue becomes PENDING and takes its place among the pending queues (R160). -/
def State.makePending (s : State) (c q : Nat) : State :=
  let s := s.setQState c q .pending
  let s := s.updQueue c q fun x => { x with pendOrder := s.fe.pendNext, park := none }
  { s with fe := { s.fe with pendNext := s.fe.pendNext + 1 } }

/-- The head packet of a queue cannot yet be consumed (R159): the queue is BLOCKED, on the given wait if it is one. -/
def State.blockHead (s : State) (c q : Nat) (w : Option WaitCond) : State :=
  (s.setQState c q .blocked).updHead c q fun h =>
    { h with cur := h.cur.map fun x => if x.blocked then x else { x with blocked := true, since := s.now, wait := w } }

/-- Remove the slow-queue entry of a queue. -/
def State.dropSlow (s : State) (c q : Nat) : State :=
  { s with fe := { s.fe with slow := s.fe.slow.filter fun e => !(e.ctx == c && e.q == q) } }

/-- Prefetch for a resident head (R161): when at most half of PREFETCH packets are held or on their way, the pending packets up to
PREFETCH are read, never beyond WRITE_INDEX − 1, and a run is cut at the end of the ring. -/
def State.fetchMore (s : State) (c q : Nat) : State :=
  match s.queue? c q, s.head? c q with
  | some x, some h =>
    let pre := s.rf Reg.CFE_CTRL_PREFETCH
    let have_ := h.fetched.length + h.fetching + b2n h.cur.isSome
    let pending := (2 ^ 32 + x.write - x.read) % 2 ^ 32
    let n := min (pre - have_) (pending - have_)
    if pre < 2 * have_ ∨ n = 0 ∨ s.halted ∨ !s.unitEn U.CFE then s
    else
      let size := 2 ^ x.ringLog2
      let i := (x.read + have_) % 2 ^ 32
      let n1 := min n (size - i % size)
      let read := fun (s : State) (i n : Nat) =>
        if n = 0 then s else (s.mmRead (x.ringBase + 64 * (i % size)) n (s.ctx c).part 1 0 (.ring c q i h.grant)).1
      let s := s.updHead c q fun h => { h with fetching := h.fetching + n }
      read (read s i n1) ((i + n1) % 2 ^ 32) (n - n1)
  | _, _ => s

/-- The packet at a queue's head is consumed (R155, R164): READ_INDEX and QSEQ advance.  The queue becomes ACTIVE, EMPTY when
no packet is pending, or PENDING when its head is rotated (R160). -/
def State.consume (s : State) (c q : Nat) : State :=
  match s.queue? c q with
  | none => s
  | some x =>
    let s := s.dropSlow c q
    let s := s.updQueue c q fun x => { x with read := (x.read + 1) % 2 ^ 32, qseq := x.qseq + 1, dirty := true }
    let s := s.dbgAdd32 (queueCtr c q) 1
    let s := s.updHead c q fun h => { h with cur := none, consumed := h.consumed + 1 }
    if x.state = .draining ∨ x.state = .faulted then s
    else if (x.read + 1) % 2 ^ 32 = x.write then (s.setQState c q .empty).dropHead c q
    else
      let rotate := (match s.head? c q with
        | some h => decide (256 ≤ h.consumed)
        | none => false) && s.fe.queues.any (fun y => y.state == .pending && decide (y.q ≤ q))
      if rotate then (s.dropHead c q).makePending c q else (s.setQState c q .active).fetchMore c q

/-- The QSEQ that the packet at a queue's head takes when it is consumed. -/
def State.headQseq (s : State) (c q : Nat) : Nat :=
  match s.queue? c q with
  | some x => x.qseq + 1
  | none => 0

/-- Consume the packet at a queue's head and complete it (R164, R165). -/
def State.finishHead (s : State) (c q : Nat) (pkt : List Word) (status : Nat) (result : Nat := 0) : State :=
  let n := s.headQseq c q
  (s.consume c q).complete c q (s.ctx c).part n (Rep.ofPkt pkt) status result

/-- Complete the packet at a queue's head with an error, which is also reported (R166, R436). -/
def State.refuse (s : State) (c q : Nat) (pkt : List Word) (e : Err) (result : Nat := 0) : State :=
  let s := s.reportCmd e (s.ctx c).part c q (s.headQseq c q)
  s.finishHead c q pkt e.code result

/-- A queue faults (R159, R177): its pending list is discarded, each command of it completing with ERR_QUEUE_FAULTED, its head is
given up, the partition's error cause is set (R182), and its shadow record is written at once (R158). -/
def State.faultQueue (s : State) (c q code : Nat) : State :=
  match s.queue? c q with
  | none => s
  | some x =>
    let part := (s.ctx c).part
    let s := x.pend.foldl (fun s p =>
      (s.reportCmd E.QUEUE_FAULTED part c q p.qseq).complete c q part p.qseq (Rep.ofPkt p.pkt) E.QUEUE_FAULTED.code) s
    let s := s.setQState c q .faulted
    let s := s.updQueue c q fun x => { x with fault := code, pend := [], park := none }
    let s := (s.dropHead c q).dropSlow c q
    let s := { s with gs := { s.gs with waiting := s.gs.waiting.filter fun w => w.step || !(w.ctx == c && w.q == q) } }
    let s := s.setRf Reg.CFE_IRQ_STATUS_ERR (setBit (s.rf Reg.CFE_IRQ_STATUS_ERR) part true)
    s.writeShadow c q

/-! ### Events (R171 to R173) -/

/-- The event at an index. -/
def State.event? (s : State) (i : Nat) : Option Event := s.fe.events.find? fun e => e.idx == i && e.live

/-- The state with one event changed. -/
def State.updEvent (s : State) (i : Nat) (f : Event → Event) : State :=
  { s with fe := { s.fe with events := s.fe.events.map fun e => if e.idx == i then f e else e } }

/-- The event that a handle names for a partition: its index, or ERR_EVENT_HANDLE (R171). -/
def State.eventOf (s : State) (h part : Nat) : Except Err Event :=
  match s.event? (hIdx h) with
  | some e => if e.gen = hGen h ∧ e.part = part then .ok e else .error E.EVENT_HANDLE
  | none => .error E.EVENT_HANDLE

/-- What a read of an event finds (R171, R421, R422). -/
def State.eventBad (s : State) (e : Event) : Option Err :=
  if s.eccBad (ramKey 0x60 e.idx) 1 then some E.ECC_UNCORRECTED else if e.valN = ~~~e.val then none else some E.HUSK

/-- The report of a Husk or ECC failure: the row's kind, numbered as the rows of R422 from 0, its index and the word
offset in it (R436). -/
def State.reportRow (s : State) (e : Err) (sev : Nat) (part : Option Nat) (kind idx word : Nat) : State :=
  s.report ⟨e.code, sev⟩ part (idx % 2 ^ 20 + 2 ^ 20 * kind) word

/-- A unit reads a row: its single-bit errors are corrected, and reported (R426). -/
def State.corrected (s : State) (k n : Nat) (part : Option Nat) (kind idx : Nat) : State :=
  (s.ecc.filter fun e => decide (k ≤ e.1) && decide (e.1 < k + n) && e.2 == 1).foldl (fun s e =>
    ({ s with ecc := s.ecc.filter (· != e) }).reportRow E.ECC_CORRECTED 1 part kind idx (e.1 - k)) s

/-- A unit reads an instance node. -/
def State.readNode (s : State) (n : Nat) : State := s.corrected (nodeRow n) 8 (some (s.nd n Nd.PART)) 0 n

/-- The CFE reads an event: a single-bit error is corrected (R426), and a damaged event is reported (R422). -/
def State.checkEvent (s : State) (e : Event) : State × Option Err :=
  let s := s.corrected (ramKey 0x60 e.idx) 1 (some e.part) 6 e.idx
  match s.eventBad e with
  | some x => (s.reportRow x 2 (some e.part) 6 e.idx 0, some x)
  | none => (s, none)

/-- Whether a wait on an event is satisfied by its value as it stands (R173), or has ended because the event is broken or gone
(R422). -/
def State.eventSat (s : State) (h n : Nat) : Bool :=
  match s.event? (hIdx h) with
  | some e => e.gen != hGen h || (s.eventBad e).isSome || decide (n ≤ e.val.toNat)
  | none => true

/-- Parked queues whose wait on an event is satisfied become PENDING (R160). -/
def State.scanParked (s : State) : State :=
  (s.fe.queues.filter fun x => x.state == .parked && (match x.park with
    | some c => (match c.wait with
      | some (.event h n) => s.eventSat h n
      | _ => false)
    | none => false)).foldl (fun s x => s.makePending x.ctx x.q) s

/-- Apply a record to an event (R172): the value after it, and whether an ADD saturated. -/
def recordValue (v : Nat) (max : Bool) (n : Nat) : Nat × Bool :=
  if max then (Nat.max v n, false) else (min (v + n) (2 ^ 64 - 1), decide (2 ^ 64 ≤ v + n))

/-- Store the value of an event with its complement, note the decision (R508), and let parked waiters be released. -/
def State.storeEvent (s : State) (e : Event) (v : Nat) : State :=
  let s := s.updEvent e.idx fun x => { x with val := BitVec.ofNat 64 v, valN := ~~~(BitVec.ofNat 64 v) }
  let s := s.trace 5 (some e.part) (2 ^ 22 * e.idx + 2 ^ 36 * (v % 2 ^ 24))
  s.scanParked

end Sys2Proof.Machine
end

