-- ==== Sys2Proof/Machine/LinkOps.lean ====
section
/-! DEFINITION. What the commands on dispatch links share: control records (R50, R139, R142), completion credits, the
status of DS_LINK_CMD, the outstanding tasks of a link, and the engine time of a task (R413). -/

namespace Sys2Proof.Machine

/-- Whether grain-locked epochs run, so that inputs are held at their crossings (R378). -/
def State.holds (s : State) : Bool := s.rb Reg.DC_STATUS_RUNNING

/-- The state with one link changed. -/
def State.updLink (s : State) (i : Nat) (f : Link → Link) : State :=
  let ls := if s.ds.links.any (fun l => l.id == i) then s.ds.links else s.ds.links ++ [Link.fresh i]
  { s with ds := { s.ds with links := ls.map fun l => if l.id == i then f l else l } }

/-- Whether a link is up in the sense of R63: UP, DRAINING, SLEEPING or WAKING. -/
def State.linkUp (s : State) (i : Nat) : Bool := let l := (s.link i).lstate; decide (2 ≤ l) && decide (l ≤ 5)

/-- The state with every link changed. -/
def State.updLinks (s : State) (f : Link → Link) : State := { s with ds := { s.ds with links := s.ds.links.map f } }

/-- The completion FIFO of a cluster. -/
def State.fifo (s : State) (c : Nat) : List CmpRec := lookupD s.ds.fifos c []

/-- The state with the completion FIFO of a cluster replaced. -/
def State.setFifo (s : State) (c : Nat) (q : List CmpRec) : State :=
  { s with ds := { s.ds with fifos := if q = [] then assocDel s.ds.fifos c else assocSet s.ds.fifos c q } }

/-- KIND of a completion record. -/
def CmpRec.kind (r : CmpRec) : Nat := fld [r.w0, r.w1] Cmp.KIND
/-- NODE of a completion record. -/
def CmpRec.node (r : CmpRec) : Nat := fld [r.w0, r.w1] Cmp.NODE
/-- NGEN of a completion record. -/
def CmpRec.ngen (r : CmpRec) : Nat := fld [r.w0, r.w1] Cmp.NGEN
/-- VALUE of a completion record. -/
def CmpRec.value (r : CmpRec) : Nat := fld [r.w0, r.w1] Cmp.VALUE
/-- STEP_TAG of a completion record. -/
def CmpRec.stepTag (r : CmpRec) : Nat := fld [r.w0, r.w1] Cmp.STEP_TAG

/-- Whether a completion record carries the tag of a task. -/
def CmpRec.names (r : CmpRec) (t : OutTask) : Bool := r.node == t.node && r.ngen == t.ngen

/-- Whether the terminal record of a task of link `i` has been admitted, though a slice has not yet taken it. -/
def State.ended (s : State) (i : Nat) (t : OutTask) : Bool :=
  (s.fifo (i / 16)).any fun r => !r.held && r.link == i && r.names t && decide (r.kind ≤ 3)

/-- The issue credits of a link that a choice may count: the real counter, or the shadow count of grain-locked mode (R382). -/
def State.dealCredits (s : State) (i : Nat) : Nat :=
  let l := s.link i
  if s.holds then l.creditsAdv - (l.tasks.filter fun t => !s.ended i t).length else l.creditsNow

/-- A control record as it is driven (R50): NODE, NGEN, CLASS and RECTYPE, with word 2 where the table shows it. -/
def ctrlWords (rectype cls node ngen w2 : Nat) : List Word :=
  mkRec 8 [(Iss.NODE, node), (Iss.NGEN, ngen), (Iss.CLASS, cls), (Iss.RECTYPE, rectype), (⟨2, 31, 0⟩, w2)]

/-- Write the fields of DS_LINK_CMD_STATUS that end a command (R142), if it is the command of this link that is BUSY. -/
def State.endLinkCmd (s : State) (i : Nat) (f : RF) : State :=
  if s.rb Reg.DS_LINK_CMD_STATUS_BUSY ∧ s.rf Reg.DS_LINK_CMD_STATUS_LINK = i then
    (s.setRf Reg.DS_LINK_CMD_STATUS_BUSY 0).setRf f 1
  else s

/-- Drive a control record on a link (R50, R142).  A DRAIN takes the link to DRAINING and a SLEEP to SLEEPING; the SLEEP of
DS_LINK_CMD is then finished. -/
def State.driveCtrl (s : State) (i : Nat) (c : Ctrl) : State :=
  let l := s.link i
  let w2 := if c.rectype = 14 then l.agreed else if c.rectype = 15 then 0x102 else 0
  let s := s.emit (.dlIssue i (ctrlWords c.rectype l.cls c.node c.ngen w2))
  let s := s.updLink i fun l =>
    { l with tasks := l.tasks.map fun t =>
               if c.rectype == 1 && t.node == c.node && t.ngen == c.ngen then { t with killGc := s.now + 1 } else t,
             ctrl := some { c with gc := s.now, mustDrain := if c.rectype = 2 then l.tasks.map (fun t => (t.node, t.ngen)) else [] },
             lstate := if c.rectype = 2 then 3 else if c.rectype = 3 then 4 else l.lstate }
  if c.rectype = 3 ∧ c.byCmd then s.endLinkCmd i Reg.DS_LINK_CMD_STATUS_ACKED else s

/-- Ask for a control record on a link: it is driven at once when none is outstanding, else it waits (R139). -/
def State.sendCtrl (s : State) (i rectype node ngen : Nat) (byCmd : Bool) : State :=
  let c : Ctrl := ⟨rectype, node, ngen, byCmd, s.now, []⟩
  let l := s.link i
  if l.ctrl.isNone ∧ l.ctrlQ = [] then s.driveCtrl i c else s.updLink i fun l => { l with ctrlQ := l.ctrlQ ++ [c] }

/-- Drive the oldest waiting control record of a link, if none is outstanding (R139). -/
def State.nextCtrl (s : State) (i : Nat) : State :=
  let l := s.link i
  if l.ctrl.isSome then s
  else match l.ctrlQ with
    | [] => s
    | c :: rest => (s.updLink i fun l => { l with ctrlQ := rest }).driveCtrl i c

/-- Raise dl_wake on a link (R58): it is WAKING until the CTRL_ACK that answers its SLEEP. -/
def State.wakeLink (s : State) (i : Nat) : State :=
  if (s.link i).lstate = 4 then
    let s := s.emit (.dlWake i)
    s.updLink i fun l => { l with lstate := 5, wakeGc := s.now, ctrl := l.ctrl.map fun c => { c with gc := s.now } }
  else s

/-- Return completion credits to the engine of a link (R55); an engine whose link has been lost gets none until it answers a new offer. -/
def State.cmpCredit (s : State) (i n : Nat) : State := if (s.link i).stale then s else s.emit (.dlCredit i n)

/-- The task of a tag that is outstanding on a link. -/
def Link.task? (l : Link) (node ngen : Nat) : Option OutTask := l.tasks.find? fun t => t.node == node && t.ngen == ngen

/-- Remove a task from a link's outstanding tasks. -/
def State.dropTask (s : State) (i node ngen : Nat) : State :=
  s.updLink i fun l => { l with tasks := l.tasks.filter fun t => !(t.node == node && t.ngen == ngen) }

/-- Lower dl_irq of a link when no interrupting record awaits its acknowledgement (R57). -/
def State.clearIrq (s : State) (i : Nat) : State :=
  if (s.link i).irqOut = [] then s else (s.updLink i fun l => { l with irqOut := [] }).emit (.dlIrq i false)

/-- The link and the outstanding task of a node. -/
def State.taskOf (s : State) (node ngen : Nat) : Option (Nat × OutTask) :=
  s.ds.links.findSome? fun l => (l.tasks.find? fun t => t.job.isNone && t.node == node && t.ngen == ngen).map fun t => (l.id, t)

/-- Send KILL for a task of a link, unless a KILL for it has been sent already (R104, R141). `why`: 1 task timeout, 2 any other
reason. -/
def State.killOn (s : State) (i : Nat) (t : OutTask) (why : Nat) : State :=
  if t.killSent ≠ 0 then s
  else
    let s := s.updLink i fun l => { l with tasks := l.tasks.map fun x => if x == t then { x with killSent := why } else x }
    s.sendCtrl i 1 t.node t.ngen false

/-- Send KILL for the task of a node. -/
def State.killTask (s : State) (node ngen why : Nat) : State :=
  match s.taskOf node ngen with
  | none => s
  | some (i, t) => s.killOn i t why

/-- Charge the engine time of a task (R413, R501): to ENGINE_NS of its class, to FAULT_NS when the task did not end well, and
to the link's counters. -/
def State.chargeTask (s : State) (i : Nat) (t : OutTask) (endGc : Nat) (ok terminal : Bool) : State :=
  let ns := endGc - t.issueGc
  let s := s.acct t.part (8 + 2 * t.cls) ns
  let s := if ok then s else s.acct t.part 58 ns
  if terminal then
    let s := s.dbgAdd64 (ramKey 0x40 (8 * i + 2)) ns
    if ok then s else s.dbgAdd32 (ramKey 0x40 (8 * i + 4)) 1
  else s

/-- Whether a partition may use a cluster (R397). -/
def State.clusterOk (s : State) (p c : Nat) : Bool := bit (s.rf (Reg.PAU_PCFG_CLUSTERS p)) c

/-- Give up a wait. -/
def State.dropWait (s : State) (w : WaitFor) : State :=
  { s with sm := { s.sm with waits := s.sm.waits.filter fun x => x.who != w } }

/-- The waits on a semaphore are to be evaluated at the end of this cc. -/
def State.touchSem (s : State) (i : Nat) : State :=
  let evals := if s.sm.evals.any fun e => e.sem == i
    then s.sm.evals.map fun e => if e.sem == i then { e with again := true } else e
    else s.sm.evals ++ [(⟨i, [], true⟩ : SemEval)]
  { s with sm := { s.sm with evals := evals } }

/-- A wait ends unsatisfied: a consumer that goes no longer blocks those behind it, which are evaluated at the end of this cc (R248, R249). -/
def State.endWait (s : State) (w : WaitFor) : State :=
  ((s.sm.waits.filter fun x => x.who == w && x.consume && x.granted.isNone).foldl (fun s x => s.touchSem x.sem) s).dropWait w

/-- A binding ends; its link returns to UP if it was only held back (R254). -/
def State.freeBind (s : State) (i : Nat) : State :=
  let s := s.endWait (.bind i)
  { s with sm := { s.sm with binds := s.sm.binds.filter fun b => b.idx != i } }

end Sys2Proof.Machine
end

