-- ==== Sys2Proof/Machine/FabOps.lean ====
section
/-! DEFINITION. What the commands on the fabric port share: flits and credits (R65 to R68), the start of a SIGNAL (R180,
R181), and a flit that is answered. -/

namespace Sys2Proof.Machine

/-- This device's number (R68, R321). -/
def State.self (s : State) : Nat := s.rf Reg.DR_DOMAIN_STATUS_SELF

/-- A flit (R66), its payload filling words 3 to 7. -/
def State.flit (s : State) (type dst part len seq : Nat) (last : Bool) (payload : List Word) : List Word :=
  (mkRec 3 [(Fl.TYPE, type), (Fl.DST_DEV, dst), (Fl.SRC_DEV, s.self), (Fl.PART, part), (Fl.ENCL, b2n (s.locked part)),
      (Fl.LAST, b2n last), (Fl.LEN, len), (Fl.SEQ, seq)]) ++ payload ++ zeros (5 - payload.length)

/-- The receive credits that the interface holds on a channel (R65). -/
def Fabric.rx (f : Fabric) (rep : Bool) : Nat := if rep then f.rxRep else f.rxReq

/-- The fabric link with other receive credits held on a channel. -/
def Fabric.setRx (f : Fabric) (rep : Bool) (n : Nat) : Fabric := if rep then { f with rxRep := n } else { f with rxReq := n }

/-- Whether a queue that withholds request credits from `on` entries, until it holds `off` or fewer, withholds them. -/
def holdsAt (on off depth : Nat) (was : Bool) : Bool := decide (on ≤ depth) || (was && decide (off < depth))

/-- The queues that withhold request credits (R138, R266, R289). -/
def State.holdCredits (s : State) : State :=
  let f := fun k on off => if holdsAt on off (s.fabDepth k) (s.fab.holdsReq.contains k) then [k] else []
  { s with fab := { s.fab with holdsReq := f 1 896 512 ++ f 2 24 23 ++ f 3 48 32 } }

/-- Whether request credits are withheld: while a queue withholds them, and while the block quiesces or is QUIESCED (R486). -/
def State.withheld (s : State) : Bool := s.fab.holdsReq != [] || decide (s.rf Reg.THR_PWR_STATUS_PSTATE ≠ 0)

/-- The request credits that are owed go back once nothing withholds them. -/
def State.settleCredits (s : State) : State :=
  let s := s.holdCredits
  if s.fab.owed = 0 ∨ s.withheld then s
  else
    let n := s.fab.owed
    { s.emit (.fpCredit false n) with fab := { s.fab.setRx false (s.fab.rxReq + n) with owed := 0 } }

/-- Count a flit that was sent or received for its partition (R414). -/
def State.fabBytes (s : State) (fl : List Word) : State := s.acct (fld fl Fl.PART) 46 32

/-- The record of a remote flit in the trace (R508). -/
def State.traceRemote (s : State) (type : Nat) (sent : Bool) (dev part : Nat) : State :=
  s.trace 6 (some part) (2 ^ 22 * type + 2 ^ 30 * b2n sent + 2 ^ 31 * dev)

/-- Drive waiting flits while a transmit credit of their channel is held (R65). -/
def State.pumpFab (s : State) : State :=
  let n := min s.fab.reqCredits s.fab.reqQ.length
  let m := min s.fab.repCredits s.fab.repQ.length
  let send := fun (rep : Bool) (s : State) (f : List Word) => (s.fabBytes f).emit (.fpFlit rep f)
  let s' := (s.fab.repQ.take m).foldl (send true) ((s.fab.reqQ.take n).foldl (send false) s)
  { s' with fab := { s'.fab with reqCredits := s.fab.reqCredits - n, repCredits := s.fab.repCredits - m,
                                 reqQ := s.fab.reqQ.drop n, repQ := s.fab.repQ.drop m } }

/-- Send the flits of one message on the request or the reply channel. -/
def State.sendFlits (s : State) (rep : Bool) (fs : List (List Word)) : State :=
  let s := match fs with
    | f :: _ => s.traceRemote (fld f Fl.TYPE) true (fld f Fl.DST_DEV) (fld f Fl.PART)
    | [] => s
  ({ s with fab := if rep then { s.fab with repQ := s.fab.repQ ++ fs } else { s.fab with reqQ := s.fab.reqQ ++ fs } }).pumpFab

/-- Answer a request flit: ACK (0x80) with the payload, or NACK (0x81) with a code. -/
def State.replyFlit (s : State) (req : List Word) (nack : Bool) (payload : List Word) : State :=
  s.sendFlits true [s.flit (if nack then 0x81 else 0x80) (fld req Fl.SRC_DEV) (fld req Fl.PART) 1 (fld req Fl.SEQ) true payload]

/-- The report of an error of a signal (R436): about the command or the launch that sends it, or about nothing, for one that arrives. -/
def State.reportSignal (s : State) (who : Option SigFor) (part : Nat) (e : Err) : State :=
  match who with
  | none => s.reportPlain e (some part)
  | some (.launch slot) => s.reportNode e part 0 (s.sl slot Sl.LAUNCH_ID)
  | some (.cmd ctx q qseq _) => s.reportCmd e part ctx q qseq

/-- What a signal, remote or to this device's own number, does to an event (R172, R180): the answer's code, 0 for an ACK,
with the value after it. -/
def State.applySignal (s : State) (who : Option SigFor) (h part : Nat) (max : Bool) (v : Nat) : State × Nat × Nat :=
  match s.eventOf h part with
  | .error e => (s.reportSignal who part e, e.code, 0)
  | .ok ev =>
    if !ev.remoteOk then (s.reportSignal who part E.EVENT_HANDLE, E.EVENT_HANDLE.code, 0)
    else match s.checkEvent ev with
      | (s, some e) => (s, e.code, 0)
      | (s, none) =>
        let (v', sat) := recordValue ev.val.toNat max v
        let s := s.storeEvent ev v'
        if sat then (s.reportSignal who part E.EVENT_SATURATE, E.EVENT_SATURATE.code, v') else (s, 0, v')

/-- Start a signal (R181, R322): to this device's own number it is applied at once; to a device that is not a member it fails;
else a SIGNAL flit is sent.  `some (code, value)` is an outcome that is already known. -/
def State.startSignal (s : State) (who : SigFor) (dev h : Nat) (max : Bool) (v part : Nat) : State × Option (Nat × Nat) :=
  if dev = s.self then
    let (s, code, v') := s.applySignal (some who) h part max v
    (s, some (code, v'))
  else if !s.member dev then (s.reportSignal (some who) part E.REMOTE_DEPARTED, some (E.REMOTE_DEPARTED.code, 0))
  else
    let q := s.fe.sigSeq
    let s := { s with fe := { s.fe with sigSeq := (q + 1) % 2 ^ 32, signals := s.fe.signals ++ [(⟨q, dev, h, max, v, part, who, s.now⟩ : Signal)] } }
    (s.sendFlits false [s.flit 2 dev part 1 q true ([BitVec.ofNat 32 h, BitVec.ofNat 32 (b2n max)] ++ words64 v)], none)

end Sys2Proof.Machine
end

