-- ==== Sys2Proof/Machine/Chaff.lean ====
section
/-! DEFINITION. What a dead step tag ends outside the Sower: messages and contributions discarded as Chaff (R238, R290), and the
rounds of Stooks (R294). -/

namespace Sys2Proof.Machine

/-- Count discarded work in CHAFF of a partition (R238). -/
def State.chaff (s : State) (p n : Nat) : State := if s.partOk p then s.incRf (Reg.ERA_CHAFF p) n else s

/-- Whether a step tag is dead (R205). -/
def State.tagDead (s : State) (t : Nat) : Bool := decide (t ≠ 0) && bit (s.ram (deadWord t)).toNat (t % 32)

/-- A field of a Stook entry. -/
def State.sk (s : State) (k : Nat) (f : Fld) : Nat := s.rm (stookRow k) f

/-- What Stook `k` keeps beside its entry. -/
def State.stookX (s : State) (k : Nat) : StookX :=
  match s.mh.stooks.find? fun x => x.idx == k with
  | some x => x
  | none => ⟨k, [], [], none⟩

/-- The state with that record changed. -/
def State.updStookX (s : State) (k : Nat) (f : StookX → StookX) : State :=
  { s with mh := { s.mh with stooks := f (s.stookX k) :: s.mh.stooks.filter fun x => x.idx != k } }

/-- A Stook's round holds nothing: its contributions are freed, and ARRIVED, FOLDED and RTAG are 0. -/
def State.clearRound (s : State) (k : Nat) : State :=
  let s := (s.setRam64 (stookRow k + 4) 0).setRm (stookRow k) Sk.FOLDED 0
  (s.setRm (stookRow k) Sk.RTAG 0).updStookX k fun _ => ⟨k, [], [], none⟩

/-- When a tag is killed (R211), every OPEN round that carries it ends without a result (R294). -/
def State.endRounds (s : State) (tag : Nat) : State :=
  ((List.range s.build.stooks).filter fun k => s.sk k Sk.STATE == 1 && s.sk k Sk.RTAG == tag && tag != 0).foldl
    (fun s k => (s.chaff (s.sk k Sk.PART) (s.stookX k).held.length).clearRound k) s

end Sys2Proof.Machine
end

