-- ==== Sys2Proof/Machine/EraOps.lean ====
section
/-! DEFINITION. The Expert Routing Assist as the resolver meets it: routed layers, the report of a retired router (R218), and the skip
map (R229). -/

namespace Sys2Proof.Machine

/-- A field of the route-layer entry of layer `l` of partition `p`. -/
def State.lay (s : State) (p l : Nat) (f : Fld) : Nat := s.rm (layerRow p l) f

/-- The VALID route-layer entries of a partition. -/
def State.layers (s : State) (p : Nat) : List Nat := (List.range 128).filter fun l => s.lay p l Rl.VALID == 1

/-- What the ERA keeps of the step of a tag. -/
def State.eraStep? (s : State) (tag : Nat) : Option EraStep := s.era.steps.find? fun x => x.tag == tag

/-- The state with that record changed. -/
def State.updEraStep (s : State) (tag : Nat) (f : EraStep → EraStep) : State :=
  { s with era := { s.era with steps := s.era.steps.map fun x => if x.tag == tag then f x else x } }

/-- The state without the records of the steps whose tag satisfies `p`. -/
def State.dropEraSteps (s : State) (p : Nat → Bool) : State :=
  { s with era := { s.era with steps := s.era.steps.filter fun x => !p x.tag } }

/-- The layer whose router window holds instance node `n` of a step launch, if any (R218). -/
def State.routerLayer (s : State) (n : Nat) : Option Nat :=
  let slot := s.nd n Nd.LAUNCH_SLOT
  let tag := s.sl slot Sl.STEP_TAG
  if tag = 0 ∨ (s.eraStep? tag).isNone ∨ n < s.sl slot Sl.NODE_BASE ∨ s.sl slot Sl.NODE_BASE + s.sl slot Sl.NODE_COUNT ≤ n then none
  else
    let p := s.sl slot Sl.PART
    let k := n - s.sl slot Sl.NODE_BASE
    (s.layers p).find? fun l => decide (s.lay p l Rl.ROUTER_BASE ≤ k) && decide (k < s.lay p l Rl.ROUTER_BASE + s.lay p l Rl.ROUTER_COUNT)

/-- Whether node `n` is the router that completes its layer's count (R218). -/
def State.completesLayer (s : State) (n : Nat) : Bool :=
  match s.routerLayer n with
  | none => false
  | some l =>
    let slot := s.nd n Nd.LAUNCH_SLOT
    match s.eraStep? (s.sl slot Sl.STEP_TAG) with
    | none => false
    | some x => decide (lookupD x.routers l 0 + 1 = s.lay x.part l Rl.ROUTER_COUNT) && !bit x.mask l

/-- Whether a router is held in WALKING because the job queue is full (R218). -/
def State.routerHeld (s : State) (n : Nat) : Bool := decide (64 ≤ s.era.jobs.length) && s.completesLayer n

/-- A router has entered RETIRED or SKIPPED (R218): it is counted, and the last one of a layer that is not skipped queues a route job. -/
def State.reportRouter (s : State) (n : Nat) : State :=
  match s.routerLayer n with
  | none => s
  | some l =>
    let slot := s.nd n Nd.LAUNCH_SLOT
    let tag := s.sl slot Sl.STEP_TAG
    let done := s.completesLayer n
    let s := s.updEraStep tag fun x => { x with routers := assocSet x.routers l (lookupD x.routers l 0 + 1) }
    if done then
      { s with era := { s.era with jobs := s.era.jobs ++ [(⟨tag, s.sl slot Sl.PART, slot, l, .queued, 0, [], [], [], 0⟩ : EraJob)] } }
    else s

/-- The route jobs still in the queue whose step tag has died are removed from it in the next cc, without a count of Chaff (R515). -/
def State.dropDeadJobs (s : State) : State :=
  { s with era := { s.era with jobs := s.era.jobs.filter fun j => !(j.phase == .queued && s.tagDead j.tag) } }

/-- Whether the ERA has marked a node to be skipped. -/
def State.marked (s : State) (n : Nat) : Bool := s.era.marks.contains n && s.nd n Nd.SKIP_OK == 1

/-- A row of the live snapshot is taken when the step's launch enters RUNNING, with the layer-skip mask in force (R219). -/
def State.fixStep (s : State) (slot : Nat) : State :=
  let tag := s.sl slot Sl.STEP_TAG
  let p := s.sl slot Sl.PART
  let mask := (List.range 4).foldl (fun m j => m + s.sh (Reg.ERA_LAYER_SKIP p j) * 2 ^ (32 * j)) 0
  let live := match s.st.steps.find? fun x => x.tag == tag with
    | some x => x.rows.map fun r => (r.ntok, r.live)
    | none => []
  s.updEraStep tag fun x => { x with mask := mask, rows := live }

/-- The nodes that LAYER_SKIP marks when a step enters RUNNING (R230). -/
def State.layerMarks (s : State) (slot : Nat) : List Nat :=
  match s.eraStep? (s.sl slot Sl.STEP_TAG) with
  | none => []
  | some x =>
    let b := s.sl slot Sl.NODE_BASE
    ((s.layers x.part).filter fun l => bit x.mask l).flatMap fun l =>
      ((List.range (s.lay x.part l Rl.SKIP_COUNT)).map (· + s.lay x.part l Rl.SKIP_BASE)).filterMap fun k =>
        if k < s.sl slot Sl.NODE_COUNT then some (b + k) else none

/-- Whether a mark of a node is taken (R229): SKIP_OK is 1 and it is not yet ISSUED. -/
def State.markable (s : State) (n : Nat) : Bool :=
  s.nd n Nd.SKIP_OK == 1 && decide (2 ≤ s.nd n Nd.STATE) && decide (s.nd n Nd.STATE ≤ 4)

/-- A node's bit in the skip map is set. -/
def State.setMark (s : State) (n : Nat) : State :=
  if s.markable n ∧ !s.era.marks.contains n then { s with era := { s.era with marks := n :: s.era.marks } } else s

end Sys2Proof.Machine
end

