-- ==== Sys2Proof/Machine/Graph.lean ====
section
/-! DEFINITION. What the commands on nodes, launches, template generations and claims share: ready lists and the walk queue,
the copy, RUNNING, the kill of a launch as far as the Graph Store, the resolver and the slices take part in it (R104), its end, and
the end of its claims. -/

namespace Sys2Proof.Machine

/-! ### Extents, generations and quotas -/

/-- An extent list, which rises, with one more extent. -/
def extInsert : List (Nat × Nat) → Nat × Nat → List (Nat × Nat)
  | [], e => [e]
  | x :: t, e => if e.1 < x.1 then e :: x :: t else x :: extInsert t e

/-- The first fit for `n` units in [lo, hi), from the lowest index (R88). -/
def extFit (lo hi n : Nat) (ext : List (Nat × Nat)) : Option Nat :=
  if n = 0 then some lo else ((gaps hi lo ext).find? fun g => decide (n ≤ g.2)).map (·.1)

/-- Units rounded up to whole extents (R88, R98). -/
def roundUp (n u : Nat) : Nat := ceilDiv n u * u

/-- The extent list with an extent added, if it has any unit. -/
def extAdd (ext : List (Nat × Nat)) (b n : Nat) : List (Nat × Nat) := if n = 0 then ext else extInsert ext (b, n)

/-- The extent list without the extent at `b`. -/
def extDel (ext : List (Nat × Nat)) (b n : Nat) : List (Nat × Nat) := ext.filter fun e => !(e.1 == b && e.2 == n)

/-- Lower a counter field. -/
def State.decRf (s : State) (f : RF) (n : Nat) : State := s.setRf f (s.rf f - n)

/-- The state with the readers of a generation changed; READERS of the directory shows those of the current one (R89). -/
def State.setReaders (s : State) (tmpl gen n : Nat) : State :=
  let s := s.updGen tmpl gen fun g => { g with readers := n }
  match s.gen? tmpl gen with
  | some g => if g.retired then s else s.setRm (dirRow tmpl) Dir.READERS n
  | none => s

/-- Release the extents of a template generation (R94, R95): its nodes go to FREE, and the quota is uncharged. -/
def State.releaseTmpl (s : State) (part nodeBase nodeCount edgeBase edgeCount : Nat) : State :=
  let s := (List.range nodeCount).foldl (fun s i => s.freeNode (nodeBase + i)) s
  let n := roundUp nodeCount 64
  let e := roundUp edgeCount 256
  let s := { s with gs := { s.gs with tmplNodes := extDel s.gs.tmplNodes nodeBase n, tmplEdges := extDel s.gs.tmplEdges edgeBase e } }
  s.decRf (Reg.GS_USE_TMPL part) (n / 64)

/-- A generation of the retire list whose reader count is 0 is freed (R95). -/
def State.tryFreeGen (s : State) (tmpl gen : Nat) : State :=
  match s.gen? tmpl gen with
  | some g =>
    if g.retired ∧ g.readers = 0 then
      let s := s.releaseTmpl g.part g.nodeBase g.nodeCount g.edgeBase g.edgeCount
      { s with gs := { s.gs with gens := s.gs.gens.filter fun x => !(x.tmpl == tmpl && x.gen == gen) } }
    else s
  | none => s

/-- One instantiation of a generation has finished or been removed (R95, R104). -/
def State.dropReader (s : State) (tmpl gen : Nat) : State :=
  match s.gen? tmpl gen with
  | some g => (s.setReaders tmpl gen (g.readers - 1)).tryFreeGen tmpl gen
  | none => s

/-- GS_LAUNCH_ID_OLDEST (R106): the oldest LAUNCH_ID of the partition's live launches, or NEXT. -/
def State.oldestLaunch (s : State) (p : Nat) : Nat :=
  let next := s.rf (Reg.GS_LAUNCH_ID_NEXT p)
  let ids := (s.gs.launches.filter fun l => s.sl l.slot Sl.PART == p).map (·.launchId)
  match minBy (fun i => 2 ^ 32 - (2 ^ 32 + next - i) % 2 ^ 32) ids with
  | some i => i
  | none => next

/-! ### Ready lists and the walk queue -/

/-- Priority rank of a level (R120): I0, I1, 0, 1, 2, 3, 4, 5. -/
def levelRank (l : Nat) : Nat := if l = 7 then 0 else if l = 6 then 1 else l + 2

/-- A READY node joins the list of its level and class with the next ready sequence number (R119, R120). -/
def State.insertReady (s : State) (n : Nat) : State :=
  let e : ReadyEnt := ⟨s.dr.readySeq, n, none, s.nd n Nd.LEVEL, s.nd n Nd.CLASS, s.gc, none, []⟩
  ({ s with dr := { s.dr with ready := s.dr.ready ++ [e], readySeq := s.dr.readySeq + 1 },
            cyc := { s.cyc with inserts := s.cyc.inserts + 1 } }).decision

/-- A node becomes READY (R120).  At most 32 nodes enter the lists in a cc, those of the walker (source 1) before those of the GS (2) and Tillers (3);
a node beyond the 32nd, or of a source that comes before one already served in this cc, waits for the next cc. -/
def State.makeReady (s : State) (n src : Nat) : State :=
  let s := s.setNd n Nd.STATE 4
  if s.dr.insQ = [] ∧ s.cyc.inserts < 32 ∧ s.cyc.insertSrc ≤ src then
    ({ s with cyc := { s.cyc with insertSrc := src } }).insertReady n
  else { s with dr := { s.dr with insQ := s.dr.insQ ++ [n] } }

/-- The nodes that wait for the ready lists enter them, 32 in a cc (R120). -/
def State.drainInserts (s : State) : State :=
  let q := s.dr.insQ
  (q.take 32).foldl (fun s n => s.insertReady n) { s with dr := { s.dr with insQ := q.drop 32 } }

/-- Back-pressure on completions (R138): on at BP_ON, off at BP_OFF. -/
def State.setBp (s : State) : State :=
  let n := s.dr.walkQ.length
  let bp := if s.rf Reg.DR_WALK_THRESH_BP_ON ≤ n then true else if n ≤ s.rf Reg.DR_WALK_THRESH_BP_OFF then false else s.dr.bp
  { s with dr := { s.dr with bp := bp } }

/-- A node enters WALKING and joins the walk queue (R115). -/
def State.enterWalk (s : State) (n : Nat) (skip : Bool) : State :=
  let s := s.setNd n Nd.STATE 6
  ({ s with dr := { s.dr with walkQ := s.dr.walkQ ++ [(⟨n, 0, skip⟩ : WalkEnt)] } }).setBp

/-- The age slots that satisfy `f` are emptied, and HOLD cleared (R343, R344). -/
def State.emptySlots (s : State) (f : State → Nat → Bool) : State :=
  (List.range s.build.partitions).foldl (fun s p =>
    if s.rb (Reg.BG_AGE_SLOT_FULL p) ∧ f s p then s.setReg (Reg.BG_AGE_A p) 0#32 else s) s

/-- The age slot of a partition is emptied when its task has left READY (R343). -/
def State.cleanSlots (s : State) : State :=
  s.emptySlots fun s p => s.nd (s.rf (Reg.BG_AGE_NODE p)) Nd.STATE != 4 || s.nd (s.rf (Reg.BG_AGE_NODE p)) Nd.NGEN != s.rf (Reg.BG_AGE_NGEN p)

/-- A node leaves READY, and with it its list or the queue of those that wait for one (R121, R343). -/
def State.dropReady (s : State) (n : Nat) : State :=
  ({ s with dr := { s.dr with ready := s.dr.ready.filter fun e => !(e.node == n && e.job.isNone),
                              insQ := s.dr.insQ.filter (· != n), skipQ := s.dr.skipQ.filter (· != n) } }).emptySlots
    fun s p => s.rf (Reg.BG_AGE_NODE p) == n

/-- A skip takes place (R229): the node's bit is set, and a READY node leaves its list and enters WALKING. -/
def State.skipNow (s : State) (n : Nat) : State :=
  let was := s.markable n
  let s := s.setMark n
  if was ∧ s.nd n Nd.STATE = 4 then (s.dropReady n).enterWalk n true else s

/-- A skip that adds to the walk queue is held while the queue holds its sources back, and behind the skips already held (R138, R229;
notes/assumptions/39.md). -/
def State.skipWalk (s : State) (n : Nat) : State :=
  if s.dr.bp ∨ s.dr.skipQ ≠ [] then { s with dr := { s.dr with skipQ := s.dr.skipQ ++ [n] } } else s.skipNow n

/-- The skips held go on, in their order, once the walk queue holds nothing back (R138). -/
def State.drainSkips (s : State) : State :=
  s.dr.skipQ.foldl (fun s n => if s.dr.bp then { s with dr := { s.dr with skipQ := s.dr.skipQ ++ [n] } } else s.skipNow n)
    { s with dr := { s.dr with skipQ := [] } }

/-- A HELD node is released, or a waiting node's count has reached 0, while its launch is RUNNING (R84).  A node that the ERA has marked
passes through READY to WALKING and joins no list (R229).  `src`: what makes it ready (R120). -/
def State.release (s : State) (n src : Nat) : State :=
  if s.nd n Nd.JOIN = 1 then s.enterWalk n false
  else if s.marked n then (s.setNd n Nd.STATE 4).decision.skipWalk n
  else s.makeReady n src

/-- The ERA marks a node to be skipped (R229): a READY one leaves its list and enters WALKING. -/
def State.markSkip (s : State) (n : Nat) : State :=
  if s.markable n ∧ s.nd n Nd.STATE = 4 then s.skipWalk n else s.setMark n

/-- Whether a node index lies in the Tiller pool (R136). -/
def State.inPool (s : State) (n : Nat) : Bool := decide (s.instNodeEnd ≤ n)

/-- The Tillers of a launch that are not FREE. -/
def State.tillers (s : State) (slot : Nat) : List Nat :=
  (List.range s.poolSize).filterMap fun i =>
    let n := s.instNodeEnd + i
    if s.nd n Nd.STATE ≠ 0 ∧ s.nd n Nd.LAUNCH_SLOT = slot then some n else none

/-- The instance nodes of a launch. -/
def State.nodesOf (s : State) (slot : Nat) : List Nat :=
  (List.range (s.sl slot Sl.NODE_COUNT)).map (· + s.sl slot Sl.NODE_BASE)

/-- A decrement, or a terminal record, of a launch is progress for R319. -/
def State.progress (s : State) (slot : Nat) : State := s.updLaunch slot fun l => { l with lastProgressGc := s.now }

/-! ### Claims (R355, R357) -/

/-- A field of a claim. -/
def State.clm (s : State) (i : Nat) (f : Fld) : Nat := s.rm (claimRow i) f

/-- A claim takes a new state, which is a traced decision (R355, R508). -/
def State.setClaim (s : State) (i st : Nat) : State :=
  (s.setRm (claimRow i) Clm.STATE st).trace 8 (some (s.clm i Clm.PART))
    (2 ^ 22 * i + 2 ^ 32 * st + 2 ^ 35 * s.clm i Clm.SAVE_SET)

/-- A claim becomes FREE; its Granary granules, if it holds any, are freed with it. -/
def State.freeClaim (s : State) (i : Nat) : State :=
  let s := ((s.setClaim i 0).setRow (claimRow i) (zeros 4)).closeEpisode E.PSC_GRANARY_FULL.code i
  { s with psc := { s.psc with order := s.psc.order.filter (· != i), held := s.psc.held.filter (· != i) } }

/-- A claim is no longer a victim still to be spilled (R363, R365). -/
def State.victimDone (s : State) (i : Nat) : State :=
  { s with psc := { s.psc with preempts := s.psc.preempts.map fun p => { p with victims := p.victims.filter (· != i) } } }

/-- Hand over: a preemption without a victim left makes its requester's PENDING claim RESIDENT (R363). -/
def State.handOver (s : State) : State :=
  (s.psc.preempts.filter fun p => p.victims.isEmpty).foldl (fun s p =>
    let s := if s.clm p.claim Clm.STATE = 1 then s.setClaim p.claim 2 else s
    { s with psc := { s.psc with preempts := s.psc.preempts.filter fun x => x.claim != p.claim } }) s

/-- One claim of a launch that has ended (R357). -/
def State.endClaim (s : State) (i : Nat) : State :=
  match s.clm i Clm.STATE with
  | 4 => { s with psc := { s.psc with jobs := s.psc.jobs.map fun j => if j.claim == i then { j with discard := true } else j } }
  | 6 => { s with psc := { s.psc with jobs := s.psc.jobs.map fun j => if j.claim == i then { j with discard := true } else j } }
  | _ =>
    let s := { s with psc := { s.psc with preempts := s.psc.preempts.filter fun p => p.claim != i } }
    ((s.freeClaim i).victimDone i).handOver

/-- A launch's claims end (R357). -/
def State.endClaims (s : State) (slot : Nat) : State :=
  (s.psc.order.filter fun i => s.clm i Clm.LAUNCH_SLOT == slot && s.clm i Clm.LAUNCH_ID == s.sl slot Sl.LAUNCH_ID).foldl (fun s i => s.endClaim i) s

/-! ### The course of a launch (R101 to R104) -/

/-- The codes of the errors after which a launch may be replayed (R445). -/
def replayable (code : Nat) : Bool :=
  [E.HUSK.code, E.ECC_UNCORRECTED.code, E.TASK_FAULT.code, E.TASK_TIMEOUT.code, E.ENGINE_HUNG.code, E.LINK_LOST.code,
   E.LINK_PROTOCOL.code, E.SLICE_WATCHDOG.code, E.MM_RESPONSE.code].contains code

/-- The launch enters RUNNING (R101): its roots and every other HELD node become READY, join nodes WALKING; a step launch first takes its
live snapshot and its layer skips (R219, R230).  A step launch that
enters RUNNING is a moment at which the next synthesis may start (R197).  LATE is set as R179 says. -/
def State.enterRunning (s : State) (slot : Nat) : State :=
  let s := s.setLaunchState slot 3
  let s := s.updLaunch slot fun l =>
    { l with late := l.late || (match l.startGc, l.reachedCc with
               | some _, some c => decide (c + 1 < s.cc)
               | some _, none => true
               | none, _ => false) }
  let s := if s.sl slot Sl.STEP_TAG = 0 then s else
    let s := s.fixStep slot
    (s.layerMarks slot).foldl (fun s n => s.markSkip n) s
  let s := (s.nodesOf slot).foldl (fun s n => if s.nd n Nd.STATE = 2 then s.release n 2 else s) s
  match s.launch? slot with
  | some l =>
    let p := s.sl slot Sl.PART
    if l.step then { s with st := { s.st with streams := s.st.streams.map fun x => if x.part == p then { x with due := true } else x } }
    else s
  | none => s

/-- The copy has finished: the launch is GATED while PARAM_READY is 0, else RUNNING (R101, R103). -/
def State.afterCopy (s : State) (slot : Nat) : State :=
  if s.sl slot Sl.PARAM_READY = 1 then s.enterRunning slot else s.setLaunchState slot 2

/-- PARAM_READY is set (R101): a launch whose copy has finished enters RUNNING. -/
def State.setParamReady (s : State) (slot base limit : Nat) : State :=
  let s := s.setRam (slotRow slot + 6) (BitVec.ofNat 32 base)
  let s := s.setRam (slotRow slot + 7) (wput (s.ram (slotRow slot + 7)) 19 0 (base / 2 ^ 32))
  let s := (s.setSl slot Sl.ARG_LIMIT limit).setSl slot Sl.PARAM_READY 1
  if s.sl slot Sl.STATE = 2 then s.enterRunning slot else s

/-- RESULT of a launch's reply (R166, R181): LAUNCH_ID, slot, and the code of a failed signal. -/
def Launch.result (l : Launch) : Nat := l.launchId + 2 ^ 32 * l.slot + 2 ^ 48 * l.sigFail

/-- Write a launch's reply, which ends its command (R165, R167). A step launch writes none (R201). -/
def State.replyLaunch (s : State) (slot status : Nat) : State :=
  match s.launch? slot with
  | none => s
  | some l =>
    if l.replied then s
    else
      let s := s.updLaunch slot fun l => { l with replied := true }
      if l.step then s
      else s.complete (s.sl slot Sl.CONTEXT) (s.sl slot Sl.QUEUE) (s.sl slot Sl.PART) l.qseq l.rep status l.result
        (b2n l.late + 2 * b2n l.orphan + 4 * b2n (decide (l.sigFail ≠ 0)))

/-- The launch's sink has been walked and nothing holds it back: it completes (R167).  DONE_EVENT is recorded, then the remote
signal is started, then the reply is written, which waits for the signal's outcome (R180). -/
def State.doneLaunch (s : State) (slot : Nat) : State :=
  match s.launch? slot with
  | none => s
  | some l =>
    let part := s.sl slot Sl.PART
    let (c, q) := (s.sl slot Sl.CONTEXT, s.sl slot Sl.QUEUE)
    let s := s.updLaunch slot fun l => { l with doneStarted := true }
    let s := match l.doneEvent with
      | none => s
      | some (h, n) =>
        match s.eventOf h part with
        | .error e => s.reportCmd e part c q l.qseq
        | .ok ev =>
          match s.checkEvent ev with
          | (s, some _) => s
          | (s, none) =>
            let (v, sat) := recordValue ev.val.toNat false n
            let s := { s.storeEvent ev v with cyc := { s.cyc with evStep := 3 } }
            if sat then s.reportCmd E.EVENT_SATURATE part c q l.qseq else s
    match l.rsig with
    | none => s.replyLaunch slot 0
    | some (dev, h, n) =>
      match s.startSignal (.launch slot) dev h false n part with
      | (s, none) => s
      | (s, some (code, _)) => (s.updLaunch slot fun l => { l with sigFail := code }).replyLaunch slot 0

/-- A launch in RETIRING completes.  One that sends a signal waits for the last terminal record of its Tillers (R181, R311). -/
def State.settleDone (s : State) (slot : Nat) : State :=
  match s.launch? slot with
  | none => s
  | some l =>
    if s.sl slot Sl.STATE ≠ 4 ∨ l.doneStarted ∨ (l.rsig.isSome ∧ (s.tillers slot).any fun n => s.nd n Nd.STATE == 5) then s
    else s.doneLaunch slot

/-- The Tillers of a launch whose sink has been walked (R136): those not retired are killed and their edges are not walked. -/
def State.orphanTillers (s : State) (slot : Nat) : State :=
  let ts := (s.tillers slot).filter fun n => decide (4 ≤ s.nd n Nd.STATE) && decide (s.nd n Nd.STATE ≤ 6)
  if ts = [] then s
  else
    let s := s.updLaunch slot fun l => { l with orphan := true }
    let s := s.reportNode E.TILLER_ORPHAN (s.sl slot Sl.PART) 0 (s.sl slot Sl.LAUNCH_ID)
    ts.foldl (fun s n =>
      if s.nd n Nd.STATE = 5 then s.killTask n (s.nd n Nd.NGEN) 2
      else
        let s := (s.dropReady n).setNd n Nd.STATE 9
        ({ s with dr := { s.dr with walkQ := s.dr.walkQ.filter fun w => w.node != n } }).setBp) s

/-- A launch whose sink is RETIRED or SKIPPED enters RETIRING (R102), a bound one once every EDGE_DEC it sent has been
answered (R313). -/
def State.tryRetire (s : State) (slot : Nat) : State :=
  let k := s.nd (s.sl slot Sl.SINK) Nd.STATE
  if s.sl slot Sl.STATE = 3 ∧ (k = 7 ∨ k = 10) ∧ !s.dr.sendQ.any (fun e => e.slot == slot && e.launchId == s.sl slot Sl.LAUNCH_ID) then
    let s := s.setLaunchState slot 4
    let s := s.orphanTillers slot
    (s.endClaims slot).settleDone slot
  else s

/-- Queue a copy for the pipeline (R99). -/
def State.pushPipe (s : State) (r : PipeReq) : State := { s with gs := { s.gs with pipe := s.gs.pipe ++ [r] } }

/-- Issue the read of a launch's parameter descriptor (R101): one 64-byte read of kind 2.  A reference of 0 reads nothing. -/
def State.readParam (s : State) (slot : Nat) : State :=
  match s.launch? slot with
  | none => s
  | some l =>
    match l.opNode with
    | some pkt => s.setParamReady slot (addr52 pkt 3) 0
    | none =>
      if l.paramRef = 0 then s.setParamReady slot 0 0
      else
        let s := s.updLaunch slot fun l => { l with descSent := true }
        (s.mmRead l.paramRef 1 (s.sl slot Sl.PART) 1 2 (.param slot l.launchId)).1

/-- Whether R445 lets a killed launch be replayed, but for the limit of REPLAY_MAX. -/
def State.mayReplay (s : State) (l : Launch) : Bool :=
  replayable l.killCode && !l.killCfe && decide (s.sl l.slot Sl.STEP_TAG = 0) && l.round.isNone && !l.posted && !l.doneStarted &&
    (l.opNode.isSome || (s.gen? l.tmpl l.gen).isSome)

/-- Whether the kill of a launch has nothing left to wait for (R104): no node of it, Tillers included, is outstanding. -/
def State.killOver (s : State) (slot : Nat) : Bool :=
  !((s.nodesOf slot ++ s.tillers slot).any fun n => decide (2 ≤ s.nd n Nd.STATE) && decide (s.nd n Nd.STATE ≤ 6) &&
      decide (s.nd n Nd.LAUNCH_SLOT = slot))

/-- The end of a kill (R104, R445, R446): the claims end; the launch is replayed into the same slot and extents, where the new copy writes over
the nodes as they ended (notes/assumptions/33.md), or its reply carries the error. -/
def State.tryFinishKill (s : State) (slot : Nat) : State :=
  match s.launch? slot with
  | none => s
  | some l =>
    if s.sl slot Sl.STATE ≠ 5 ∨ l.replied ∨ !s.killOver slot then s
    else
      let s := s.endClaims slot
      let p := s.sl slot Sl.PART
      let may := s.mayReplay l
      let limit := s.rf (Reg.IFM_REPLAY_REPLAY_MAX p)
      if may ∧ l.replays < limit then
        let s := (s.tillers slot).foldl (fun s n => s.freeNode n) s
        let s := s.incRf (Reg.IFM_REPLAY_REPLAYS p)
        let s := match s.gen? l.tmpl l.gen with
          | some g => if l.opNode.isSome then s else s.setReaders l.tmpl l.gen (g.readers + 1)
          | none => s
        let s := s.updLaunch slot fun l => { l with replays := l.replays + 1, copied := false, descSent := false, killCode := 0 }
        let s := (s.setLaunchState slot 1).setSl slot Sl.PARAM_READY 0
        let s : State := s.pushPipe (.launch slot)
        if s.sl slot Sl.WAITS_CLEAR = 1 then s.readParam slot else s
      else
        let s := if may ∧ 0 < limit then s.reportNode E.REPLAY_LIMIT p 0 l.launchId else s
        s.replyLaunch slot l.killCode

/-- Free the watches of launches that have been released or killed (R253): each counts in WATCH_STALE. -/
def State.freeStaleWatches (s : State) : State :=
  let stale := s.sm.watches.filter fun w => s.sl w.slot Sl.LAUNCH_ID != w.launchId || s.sl w.slot Sl.STATE == 0 || s.sl w.slot Sl.STATE == 5
  stale.foldl (fun s w =>
    let s := s.endWait (.watch w.idx)
    let s := { s with sm := { s.sm with watches := s.sm.watches.filter fun x => x.idx != w.idx } }
    match s.semPart w.sem with
    | some p => s.incRf (Reg.SM_COUNTS_WATCH_STALE p)
    | none => s) s

/-- Kill a launch as far as the Graph Store, the resolver and the slices take part in it (R104).  `cfe`: the kill comes from the
CFE, so that it is never replayed (R445). -/
def State.killCore (s : State) (slot code : Nat) (cfe : Bool) : State :=
  match s.launch? slot with
  | none => s
  | some l =>
    let st := s.sl slot Sl.STATE
    if st = 5 then (if cfe then s.updLaunch slot fun l => { l with killCfe := true } else s)
    else if st = 0 ∨ st = 4 then s
    else
      let s := s.updLaunch slot fun l => { l with killCode := code, killCfe := cfe }
      let s := (s.setLaunchState slot 5).freeStaleWatches
      let s := if l.copied then s else
        let s := { s with gs := { s.gs with pipe := s.gs.pipe.filter (· != PipeReq.launch slot) } }
        let s := { s with dr := { s.dr with early := s.dr.early.filter fun e =>
          !(e.part == s.sl slot Sl.PART && some e.round == l.round) } }
        if l.opNode.isSome then s else s.dropReader l.tmpl l.gen
      let ns := if l.copied then s.nodesOf slot ++ s.tillers slot else []
      let s := { s with dr := { s.dr with
        ready := s.dr.ready.filter (fun e => !(e.job.isNone && ns.contains e.node)),
        walkQ := s.dr.walkQ.filter (fun w => !ns.contains w.node),
        insQ := s.dr.insQ.filter (fun n => !ns.contains n),
        skipQ := s.dr.skipQ.filter (fun n => !ns.contains n),
        spawnQ := s.dr.spawnQ.filter (fun w => !(w.slot == slot && w.launchId == l.launchId)) } }
      let s := ns.foldl (fun s n =>
        match s.nd n Nd.STATE with
        | 2 => s.setNd n Nd.STATE 9
        | 3 => s.setNd n Nd.STATE 9
        | 4 => s.setNd n Nd.STATE 9
        | 5 => s.killTask n (s.nd n Nd.NGEN) 2
        | 6 => s.setNd n Nd.STATE 9
        | _ => s) s.setBp
      s.cleanSlots.tryFinishKill slot

/-- Whether the launch-ID window holds a partition's launches (R106). -/
def State.windowShut (s : State) (p : Nat) : Bool :=
  decide (2 ^ 31 ≤ (2 ^ 32 + s.rf (Reg.GS_LAUNCH_ID_NEXT p) - s.rf (Reg.GS_LAUNCH_ID_OLDEST p)) % 2 ^ 32)

/-- Release a launch (R102): its instance nodes and the Tillers it still holds go to FREE, and its extents, slot and quota
charges are released.  The FREE slot is zeroed (notes/assumptions/30.md). -/
def State.releaseLaunch (s : State) (slot : Nat) : State :=
  let p := s.sl slot Sl.PART
  let n := roundUp (s.sl slot Sl.NODE_COUNT) 64
  let s := (s.nodesOf slot ++ s.tillers slot).foldl (fun s n => s.freeNode n) s
  let s := { s with gs := { s.gs with
    instNodes := extDel s.gs.instNodes (s.sl slot Sl.NODE_BASE) n,
    instEdges := extDel s.gs.instEdges (s.sl slot Sl.EDGE_BASE) (roundUp (s.sl slot Sl.EDGE_COUNT) 256),
    launches := s.gs.launches.filter fun l => l.slot != slot } }
  let s := (s.decRf (Reg.GS_USE_SLOTS p) 1).decRf (Reg.GS_USE_NODES p) (n / 64)
  let s := s.setLaunchState slot 0
  let s := s.setRow (slotRow slot) (zeros 16)
  let s := (s.setRf (Reg.GS_LAUNCH_ID_OLDEST p) (s.oldestLaunch p)).freeStaleWatches
  if s.windowShut p then s else s.closeEpisode E.LAUNCH_ID_WINDOW.code p

end Sys2Proof.Machine
end

