-- ==== Sys2Proof/Machine/Kill.lean ====
section
/-! DEFINITION. Killing a launch as a whole: with a step launch its stream faults (R196, R201, R211), a failed spill or restore
job ends its claim's launch (R365), and the loss of a link kills the launches that have tasks on it (R63). -/

namespace Sys2Proof.Machine

/-! ### Sequences and streams -/

/-- A field of a Sequence Table entry. -/
def State.sq (s : State) (i : Nat) (f : Fld) : Nat := s.rm (seqRow i) f
/-- The state with a field of a Sequence Table entry written. -/
def State.setSq (s : State) (i : Nat) (f : Fld) (v : Nat) : State := s.setRm (seqRow i) f v

/-- The projected position of a sequence (R186). -/
def State.projected (s : State) (i : Nat) : Nat := s.sq i Sq.POS + s.sq i Sq.PEND_TOK

/-- STATE recomputed under R187 for a sequence that is not ENDING. -/
def State.recomputeSeq (s : State) (i : Nat) : State :=
  let st := s.sq i Sq.STATE
  if st = 1 ∨ st = 2 then s.setSq i Sq.STATE (if s.projected i < s.sq i Sq.PROMPT_LEN then 1 else 2) else s

/-- A row is made dead: its live bit is cleared by the caller, and its tokens and the row are subtracted (R208, R210, R211). -/
def State.dropRow (s : State) (r : StepRow) : State :=
  (s.setSq r.seq Sq.PEND_TOK (s.sq r.seq Sq.PEND_TOK - r.ntok)).setSq r.seq Sq.PEND_ROWS (s.sq r.seq Sq.PEND_ROWS - 1)

/-- Mark a step tag dead or live in the dead-tag table (R205, R211). -/
def State.setTagDead (s : State) (t : Nat) (dead : Bool) : State :=
  s.setRam (deadWord t) (wput (s.ram (deadWord t)) (t % 32) (t % 32) (b2n dead))

/-- The stream of a partition. -/
def State.stream? (s : State) (p : Nat) : Option Stream := s.st.streams.find? fun x => x.part == p

/-- The state with the stream of a partition changed. -/
def State.updStream (s : State) (p : Nat) (f : Stream → Stream) : State :=
  { s with st := { s.st with streams := s.st.streams.map fun x => if x.part == p then f x else x } }

/-- The step that carries a tag. -/
def State.step? (s : State) (t : Nat) : Option Step := s.st.steps.find? fun x => x.tag == t

/-- The state with the step of a tag changed. -/
def State.updStep (s : State) (t : Nat) (f : Step → Step) : State :=
  { s with st := { s.st with steps := s.st.steps.map fun x => if x.tag == t then f x else x } }

/-- Cancel the steps in flight of a partition (R211): their tags are marked dead, their launches killed, every live row dead, each
sequence's STATE recomputed, and the rows freed.  A step whose boundary pass has applied its results runs on to the end of that pass (R208).
Answers how many rows were made dead, and the tags. -/
def State.cancelSteps (s : State) (p code : Nat) : State × Nat × List Nat :=
  let xs := s.st.steps.filter fun x => x.part == p && x.phase != .dead && x.phase != .applied
  let s := xs.foldl (fun s x => (s.setTagDead x.tag true).endRounds x.tag) s
  let s := xs.foldl (fun s x => match x.slot with
    | some k => s.killCore k code true
    | none => { s with gs := { s.gs with waiting := s.gs.waiting.filter fun w => !(w.step && w.stepTag == x.tag) } }) s
  let live := (xs.map fun x => x.rows.filter (·.live)).flatten
  let s := live.foldl (fun s r => s.dropRow r) s
  let s := (xs.map fun x => x.rows).flatten.foldl (fun s r => s.recomputeSeq r.seq) s
  let s := xs.foldl (fun s x => s.updStep x.tag fun y => { y with rows := [], phase := .dead }) s
  (s.incRf (Reg.ST_DEAD_ROWS p) live.length, live.length, xs.map (·.tag))

/-- A step that has been cancelled is over: nothing of it is outstanding and the kill of its launch has completed. -/
def State.stepOver (s : State) (x : Step) : Bool :=
  x.phase == .dead && decide (x.out = 0) &&
    (match x.slot with
     | none => true
     | some k => match s.launch? k with
       | some l => l.replied || decide (s.sl k Sl.STEP_TAG ≠ x.tag)
       | none => true)

/-- A stream faults (R196): it acts as SEQ_CANCEL MODE 1 and is left FAULTED with its code, which sets the partition's error
cause.  A stream whose step launch was killed by a replayable error is started again while R448 allows. -/
def State.streamFault (s : State) (p : Nat) (e : Err) (launchId : Nat) (replay : Bool) : State :=
  let st := s.rf (Reg.ST_STREAM_STATUS_SSTATE p)
  if st ≠ 1 ∧ st ≠ 2 then s
  else
    let s := s.report e (some p) 0 launchId
    let (s, _, _) := s.cancelSteps p e.code
    let s := s.setRf (Reg.ST_STREAM_STATUS_FAULT p) e.code
    let s := s.setRf Reg.CFE_IRQ_STATUS_ERR (setBit (s.rf Reg.CFE_IRQ_STATUS_ERR) p true)
    let s := s.setRf (Reg.ST_STREAM_STATUS_SSTATE p) 3
    match s.stream? p with
    | none => s
    | some x =>
      if s.rb (Reg.IFM_REPLAY_STREAM_RESTART p) ∧ replay then
        if x.restarts < s.rf (Reg.IFM_REPLAY_REPLAY_MAX p) then
          ((s.setRf (Reg.ST_STREAM_STATUS_SSTATE p) 1).incRf (Reg.IFM_REPLAY_REPLAYS p)).updStream p fun x =>
            { x with restarts := x.restarts + 1, due := true,
                     next := match x.lastApplied with
                       | some n => n + 1
                       | none => wide x.desc 2 }
        else s.reportPlain E.REPLAY_LIMIT (some p)
      else s

/-- An MM error on a DEAD mark or a finish record (R208, R215): the stream is FAULTED with ERR_STEP_WRITE, one that has stopped too. -/
def State.writeFault (s : State) (p : Nat) : State :=
  let st := s.rf (Reg.ST_STREAM_STATUS_SSTATE p)
  if st = 1 ∨ st = 2 then s.streamFault p E.STEP_WRITE 0 false
  else
    let s := (s.report E.STEP_WRITE (some p) 0 0).setRf (Reg.ST_STREAM_STATUS_FAULT p) E.STEP_WRITE.code
    (s.setRf Reg.CFE_IRQ_STATUS_ERR (setBit (s.rf Reg.CFE_IRQ_STATUS_ERR) p true)).setRf (Reg.ST_STREAM_STATUS_SSTATE p) 3

/-- Kill a launch (R104); the kill of a step launch faults its stream (R201). -/
def State.killLaunch (s : State) (slot code : Nat) (cfe : Bool) : State :=
  match s.launch? slot with
  | none => s
  | some l =>
    let st := s.sl slot Sl.STATE
    let p := s.sl slot Sl.PART
    let s := s.killCore slot code cfe
    if l.step ∧ 1 ≤ st ∧ st ≤ 3 then s.streamFault p E.STEP_LAUNCH l.launchId (replayable code && !cfe) else s

/-- Raise an error about a node or a launch and kill the launch. -/
def State.killWith (s : State) (slot : Nat) (e : Err) (tag : Nat) : State :=
  if s.live slot then (s.reportNode e (s.sl slot Sl.PART) tag (s.sl slot Sl.LAUNCH_ID)).killLaunch slot e.code false else s

/-- The tag of a node. -/
def State.tag (s : State) (n : Nat) : Nat := mkTag n (s.nd n Nd.NGEN)

/-- A row of a launch fails its Husk or ECC check (R422): the launch is killed.  Kind 0 an instance node, 1 an instance edge. -/
def State.rowFail (s : State) (e : Err) (kind idx word slot : Nat) : State :=
  let s := s.reportRow e 2 (some (s.sl slot Sl.PART)) kind idx word
  s.killLaunch slot e.code false

/-- A unit reads a launch slot (R422): when a word of it is uncorrectable its launch is killed without replay. -/
def State.slotRead (s : State) (slot : Nat) : State :=
  let p := some (s.sl slot Sl.PART)
  let s := s.corrected (slotRow slot) 16 p 3 slot
  let st := s.sl slot Sl.STATE
  if s.eccBad (slotRow slot) 16 ∧ 1 ≤ st ∧ st ≤ 3 then
    (s.reportRow E.ECC_UNCORRECTED 2 p 3 slot (s.eccWord (slotRow slot) 16)).killLaunch slot E.ECC_UNCORRECTED.code true
  else s

/-! ### Jobs of the PSC (R365) -/

/-- The state with one job changed. -/
def State.updJob (s : State) (k : Nat) (f : Job → Job) : State :=
  { s with psc := { s.psc with jobs := s.psc.jobs.map fun j => if j.k == k then f j else j } }

/-- A job is over. -/
def State.dropJob (s : State) (k : Nat) : State :=
  { s with psc := { s.psc with jobs := s.psc.jobs.filter fun j => j.k != k },
           dr := { s.dr with ready := s.dr.ready.filter fun e => e.job != some k } }

/-- A job fails (R365): its claim's launch is killed with ERR_PSC_SPILL or ERR_PSC_RESTORE, the claim becomes FREE, and a
preemption that it is part of proceeds as though the victim had been spilled.  A job whose result is discarded only ends its claim
(R357). -/
def State.failJob (s : State) (k gen : Nat) : State :=
  match s.psc.jobs.find? fun j => j.k == k && j.gen == gen with
  | none => s
  | some j =>
    let s := s.dropJob k
    let slot := s.clm j.claim Clm.LAUNCH_SLOT
    let id := s.clm j.claim Clm.LAUNCH_ID
    let s := ((s.freeClaim j.claim).victimDone j.claim).handOver
    if j.discard then s
    else
      let e := if j.restore then E.PSC_RESTORE else E.PSC_SPILL
      let s := s.report e (some j.part) 0 id
      if s.sl slot Sl.LAUNCH_ID = id then s.killLaunch slot e.code false else s

/-! ### Losing a link (R63) -/

/-- An outstanding task of a lost link is treated as faulted: it is charged up to this cc (R413), and its node enters FAULTED, or
KILLED when its launch no longer runs (R114). -/
def State.faultTask (s : State) (i : Nat) (t : OutTask) : State :=
  let s := s.chargeTask i t s.gc false false
  match t.job with
  | some _ => s
  | none =>
    if s.nd t.node Nd.STATE = 5 ∧ s.nd t.node Nd.NGEN = t.ngen then
      s.setNd t.node Nd.STATE (if s.sl t.slot Sl.STATE = 3 then 8 else 9)
    else s

/-- Whether the terminal record of a task was accepted before its link was lost and is still held (R63, R378): the record is applied at its
boundary, so the task is not treated as faulted. -/
def State.settles (s : State) (i : Nat) (t : OutTask) : Bool :=
  (s.fifo (i / 16)).any fun r => r.held && r.link == i && r.names t && decide (r.kind ≤ 3)

/-- A link is lost (R63, R142): it leaves selection, its tasks are treated as faulted, and their launches are killed with the error's
code.  `cmdEnd`: how a DS_LINK_CMD that waits on it ends. -/
def State.dropLink (s : State) (i : Nat) (e : Err) (cmdEnd : RF) : State :=
  let ts := (s.link i).tasks.filter fun t => !s.settles i t
  let s := s.endLinkCmd i cmdEnd
  let s := s.clearIrq i
  let s := match s.sm.binds.find? fun b => b.link == i with
    | some b => s.freeBind b.idx
    | none => s
  let s := ts.foldl (fun s t => s.faultTask i t) s
  let s := s.updLink i fun l =>
    { l with stale := true, lstate := 0, tasks := l.tasks.filter fun t => !ts.contains t, ctrl := none, ctrlQ := [], offerOut := false, offers := 0, reoffer := false, creditsNow := 0 }
  ts.foldl (fun s t => match t.job with
    | some k => s.failJob k t.ngen
    | none =>
      if s.live t.slot ∧ s.sl t.slot Sl.LAUNCH_ID = t.launchId then
        ((s.killLaunch t.slot e.code false).tryFinishKill t.slot).settleDone t.slot
      else s) s

/-- A link that was up is lost with an error, which is reported. -/
def State.loseLink (s : State) (i : Nat) (e : Err) (cmdEnd : RF) : State := (s.reportLink e i).dropLink i e cmdEnd

/-- Send LINKUP_OFFER on a link (R59, R62): it is LINKING, the offer is counted, and no record from before it is applied but those that
settle a task accepted before the link was lost.  A RELINK that waited for the offer is finished (R142). -/
def State.offerLink (s : State) (i : Nat) : State :=
  let keep := fun (r : CmpRec) => r.link != i || (r.held && ((s.link i).tasks.any fun t => r.names t))
  let s := { s with ds := { s.ds with fifos := s.ds.fifos.map fun (f : Nat × List CmpRec) => (f.1, f.2.filter keep) } }
  let s := s.emit (.dlIssue i (ctrlWords 15 0 0 0 0x102))
  let s := if s.rf Reg.DS_LINK_CMD_STATUS_CMD = 6 then s.endLinkCmd i Reg.DS_LINK_CMD_STATUS_ACKED else s
  s.updLink i fun l => { l with lstate := 1, offerOut := true, offers := l.offers + 1, offerGc := s.now, reoffer := false,
                                ctrl := none, ctrlQ := [] }

/-- An engine that does not answer, or a protocol error with the engine still present (R64, R141): a link that is up or LINKING is lost and, while
dl_present stays high, offered again; no offer goes out while the block sends none.  A DOWN link waits for its link-up under R59, and a FAILED one
for RELINK or a fall of dl_present (R61, R62). -/
def State.relinkLost (s : State) (i : Nat) (e : Err) (cmdEnd : RF) : State :=
  if (s.link i).lstate = 0 ∨ (s.link i).lstate = 6 then s.reportLink e i
  else
    let s := s.loseLink i e cmdEnd
    if (s.link i).present ∧ !s.noOffers then s.offerLink i else s

end Sys2Proof.Machine
end

