-- ==== Sys2Proof/Machine/PscOps.lean ====
section
/-! DEFINITION. The Preemption and Spill Controller: the test of a candidate (R356 to R359), spill links and Granary space (R361,
R362), and the end of a job (R363, R364). -/

namespace Sys2Proof.Machine

/-- Whether a claim in this state occupies its extent (R355). -/
def occupies (st : Nat) : Bool := [1, 2, 3, 4, 6].contains st

/-- The occupying claims of launches other than that of `slot` and LAUNCH_ID `id` that share a granule with the extent of `cnt` granules at `first` (R355), oldest first. -/
def State.conflicts (s : State) (slot id first cnt : Nat) : List Nat :=
  s.psc.order.filter fun i => occupies (s.clm i Clm.STATE) && !(s.clm i Clm.LAUNCH_SLOT == slot && s.clm i Clm.LAUNCH_ID == id) &&
    decide (s.clm i Clm.FIRST < first + cnt) && decide (first < s.clm i Clm.FIRST + s.clm i Clm.COUNT)

/-- The claim of a launch on a save set. -/
def State.claimOf (s : State) (slot ss : Nat) : Option Nat :=
  s.psc.order.find? fun i => s.clm i Clm.LAUNCH_SLOT == slot && s.clm i Clm.LAUNCH_ID == s.sl slot Sl.LAUNCH_ID && s.clm i Clm.SAVE_SET == ss

/-- The lowest free claim, while fewer than 1,024 are in use. -/
def State.freeClaimIdx (s : State) : Option Nat := (List.range 1024).find? fun i => !s.psc.order.contains i

/-- Take a claim (R355): a copy of the save set's extent, in state PENDING or RESIDENT. -/
def State.takeClaim (s : State) (i st part level ss slot first cnt : Nat) : State :=
  let s := s.setRow (claimRow i) (mkRec 4 [(Clm.PART, part), (Clm.LEVEL, level), (Clm.SAVE_SET, ss), (Clm.LAUNCH_SLOT, slot),
    (Clm.LAUNCH_ID, s.sl slot Sl.LAUNCH_ID), (Clm.FIRST, first), (Clm.COUNT, cnt)])
  ({ s with psc := { s.psc with order := s.psc.order ++ [i] } }).setClaim i st

/-- What the test of a candidate found: it passes, taking a claim at issue where a number stands; it is passed over; or its
launch has been killed. -/
inductive PscAnswer where
  | pass (claim : Option Nat)
  | over
  | killed
deriving DecidableEq, Repr

/-- Accept a preemption (R358, R359): a PENDING claim for the requester, and every conflicting claim PREEMPTING, to be spilled lowest
level first and oldest first among equals. -/
def State.acceptPreempt (s : State) (i part level ss slot first cnt : Nat) (cs : List Nat) : State :=
  let s := s.takeClaim i 1 part level ss slot first cnt
  let s := cs.foldl (fun s c => s.setClaim c 3) s
  let order := (List.range 8).flatMap fun r => cs.filter fun c => levelRank (s.clm c Clm.LEVEL) == 7 - r
  let s := { s with psc := { s.psc with preempts := s.psc.preempts ++ [(⟨i, order⟩ : Preempt)] } }
  s.incRf (Reg.PSC_PREEMPTIONS part)

/-- Test a candidate of the deal (R356): its node, its launch slot, partition and level, and its save set. -/
def State.pscTest (s : State) (n slot part level ss : Nat) : State × PscAnswer :=
  let s := s.corrected (saveRow part ss) 2 (some part) 10 ss
  if ss = 0 ∨ !s.unitEn U.PSC then (s, .pass none)
  else if s.eccBad (saveRow part ss) 2 then
    let s := s.reportRow E.ECC_UNCORRECTED 2 (some part) 10 ss (s.eccWord (saveRow part ss) 2)
    ((s.setRm (saveRow part ss) Sv.VALID 0).killWith slot E.PSC_SAVESET (s.tag n), .killed)
  else if s.rm (saveRow part ss) Sv.VALID = 0 then (s.killWith slot E.PSC_SAVESET (s.tag n), .killed)
  else match s.claimOf slot ss with
    | some i => (s, if s.clm i Clm.STATE = 2 ∧ !s.psc.held.contains i then .pass none else .over)
    | none =>
      let first := s.rm (saveRow part ss) Sv.FIRST
      let cnt := s.rm (saveRow part ss) Sv.COUNT_M1 + 1
      let cs := s.conflicts slot (s.sl slot Sl.LAUNCH_ID) first cnt
      match s.freeClaimIdx with
      | none =>
        if cs = [] ∧ !s.inEpisode E.PSC_CLAIMS_FULL.code 0 then
          ((s.openEpisode E.PSC_CLAIMS_FULL.code 0).reportPlain E.PSC_CLAIMS_FULL (some part), .over)
        else (s, .over)
      | some i =>
        let s := s.closeEpisode E.PSC_CLAIMS_FULL.code 0
        if cs = [] then (s, .pass (some i))
        else if s.rb Reg.PSC_CTRL_PREEMPT_EN ∧ s.rb (Reg.PSC_GR_PREEMPT_OK part) ∧ s.psc.preempts.length < 16 ∧
            cs.all (fun c => s.clm c Clm.STATE == 2 && decide (levelRank level < levelRank (s.clm c Clm.LEVEL)) &&
              s.rb (Reg.PSC_GR_VICTIM_OK (s.clm c Clm.PART)) && !s.locked (s.clm c Clm.PART)) then
          (s.acceptPreempt i part level ss slot first cnt cs, .over)
        else (s, .over)

/-- Base address of a partition's spill area. -/
def State.spillBase (s : State) (p : Nat) : Nat :=
  2 ^ 16 * s.rf (Reg.PSC_GR_BASE_LO p) + 2 ^ 32 * s.rf (Reg.PSC_GR_BASE_HI p)

/-- The Granary granules that a partition's claims hold, rising. -/
def State.granaryUsed (s : State) (p : Nat) : List (Nat × Nat) :=
  s.psc.order.foldl (fun l i =>
    if s.clm i Clm.PART = p ∧ s.clm i Clm.GR_SLOT ≠ 0 then extInsert l (s.clm i Clm.GR_SLOT, s.clm i Clm.COUNT) else l) []

/-- Whether a link qualifies as a spill link (R362): it is listed, UP, of class DX, and in no locked partition's clusters. -/
def State.spillOk (s : State) (i : Nat) : Bool :=
  (List.range 16).any (fun k => s.rb (Reg.PSC_SPILL_LINK_VALID k) && s.rf (Reg.PSC_SPILL_LINK k) == i) &&
    (s.link i).lstate == 2 && (s.link i).cls == 3 && !s.clusterLocked (i / 16)

/-- The spill link that a job takes (R362): the qualifying one with the most free issue credits (R368, R382), and on a tie the lowest link number. -/
def State.spillLink (s : State) : Option Nat := maxBy s.dealCredits ((List.range s.build.links).filter s.spillOk)

/-- A job whose descriptor has been answered, or whose link no longer qualifies before its task was issued, takes a link, and its task joins the
ready list of class DX at I1 (R362); while no link qualifies it waits, and ERR_PSC_NO_SPILL_LINK is raised once. -/
def State.offerJobs (s : State) : State :=
  (s.psc.jobs.filter fun j => j.written && !j.issued && !(match j.link with
      | some i => s.spillOk i
      | none => false)).foldl (fun s j =>
    let s := { s with dr := { s.dr with ready := s.dr.ready.filter fun e => e.job != some j.k } }
    match s.spillLink with
    | none =>
      if s.inEpisode E.PSC_NO_SPILL_LINK.code j.k then s
      else (s.openEpisode E.PSC_NO_SPILL_LINK.code j.k).reportPlain E.PSC_NO_SPILL_LINK (some j.part)
    | some i =>
      let s := (s.closeEpisode E.PSC_NO_SPILL_LINK.code j.k).updJob j.k fun x => { x with link := some i }
      let e : ReadyEnt := ⟨s.dr.readySeq, j.k, some j.k, 6, 3, s.gc, none, []⟩
      { s with dr := { s.dr with ready := s.dr.ready ++ [e], readySeq := s.dr.readySeq + 1 } }) s

/-- The task of a job has ended with DONE and VALUE 0 (R363, R364, R357): a spill's claim becomes SPILLED, a restore's RESIDENT with
its Granary granules freed; a result that is to be discarded frees the claim. -/
def State.jobDone (s : State) (k gen : Nat) : State :=
  match s.psc.jobs.find? fun j => j.k == k && j.gen == gen with
  | none => s
  | some j =>
    let s := s.dropJob k
    let s := s.acct j.part 56 (65536 * j.granules)
    if j.restore then
      let s := s.incRf (Reg.PSC_RESTORES j.part)
      if j.discard then s.freeClaim j.claim
      else
        let s := (s.setClaim j.claim 2).setRm (claimRow j.claim) Clm.GR_SLOT 0
        if s.rb Reg.DC_STATUS_RUNNING then { s with psc := { s.psc with held := s.psc.held ++ [j.claim] } } else s
    else
      let s := (s.incRf (Reg.PSC_SPILLS j.part)).incRf (Reg.PSC_SPILL_GRANULES j.part) j.granules
      let s := if j.discard then s.freeClaim j.claim else s.setClaim j.claim 5
      (s.victimDone j.claim).handOver

end Sys2Proof.Machine
end

