-- ==== Sys2Proof/Machine/Resolve.lean ====
section
/-! DEFINITION. The Dependency Resolver: a decrement (R116), the walk of successor edges (R115 to R118), remote edges (R313), and the
acceptance of a spawn descriptor (R135). -/

namespace Sys2Proof.Machine

/-- One subtraction from a node's DEP_COUNT (R116).  `src`: the source of R120 under which it may make the node READY. -/
def State.decrement (s : State) (n amt src : Nat) : State :=
  let slot := s.nd n Nd.LAUNCH_SLOT
  let s := s.readNode n
  match s.nodeBad n with
  | some (e, w) => s.rowFail e 0 n w slot
  | none =>
    let d := s.nd n Nd.DEP_COUNT
    if s.nd n Nd.STATE = 3 ∧ amt ≤ d then
      let s := ((s.setDep n (d - amt)).progress slot).decision
      if d - amt ≠ 0 then s
      else if s.sl slot Sl.STATE = 3 then s.release n src
      else s.setNd n Nd.STATE 2
    else s.killWith slot E.DEP_UNDERFLOW (s.tag n)

/-- An edge that the walker has read this cc: its producer and its index. -/
structure TakenEdge where
  node : Nat
  edge : Nat
deriving DecidableEq, Repr

/-- What the walker may still take this cc: edges, remote edges, semaphore-post edges, and places in the remote send queue,
in the post queue and in the walk queue. -/
structure WalkRoom where
  edges : Nat
  remote : Nat
  post : Nat
  sendQ : Nat
  postQ : Nat
  walk : Nat
deriving DecidableEq, Repr

/-- The amounts of the local edges of this cc that reach one target (R116). -/
def mergedAmount (s : State) (es : List TakenEdge) (t : Nat) : Nat :=
  es.foldl (fun a e => if s.rm (edgeRow e.edge) Ed.TYPE = 0 ∧ s.rm (edgeRow e.edge) Ed.TARGET = t
    then a + s.rm (edgeRow e.edge) Ed.AMOUNT else a) 0

/-- Whether an edge takes the count of a join node of a RUNNING launch to 0, so that the node needs a place in the walk queue (R84, R115). -/
def fillsWalk (s : State) (taken : List TakenEdge) (k : Nat) : Bool :=
  let t := s.rm (edgeRow k) Ed.TARGET
  s.nd t Nd.STATE == 3 && s.nd t Nd.JOIN == 1 && s.sl (s.nd t Nd.LAUNCH_SLOT) Sl.STATE == 3 &&
    s.nd t Nd.DEP_COUNT == mergedAmount s taken t + s.rm (edgeRow k) Ed.AMOUNT

/-- Take edges of one node from `pos` on while there is room; the count left is the fuel. -/
def takeEdges (s : State) (n base : Nat) : Nat → Nat → WalkRoom → List TakenEdge → Nat × WalkRoom × List TakenEdge
  | 0, pos, r, acc => (pos, r, acc)
  | left + 1, pos, r, acc =>
    if r.edges = 0 then (pos, r, acc)
    else
      let k := base + pos
      let r' : WalkRoom := { r with edges := r.edges - 1 }
      match s.rm (edgeRow k) Ed.TYPE with
      | 1 =>
        if r.remote = 0 then (pos, r, acc)
        else if r.sendQ = 0 then (pos, r, acc)
        else takeEdges s n base left (pos + 1) { r' with remote := r.remote - 1, sendQ := r.sendQ - 1 } (⟨n, k⟩ :: acc)
      | 2 =>
        if r.post = 0 then (pos, r, acc)
        else if r.postQ = 0 then (pos, r, acc)
        else takeEdges s n base left (pos + 1) { r' with post := r.post - 1, postQ := r.postQ - 1 } (⟨n, k⟩ :: acc)
      | 0 =>
        if !fillsWalk s acc k then takeEdges s n base left (pos + 1) r' (⟨n, k⟩ :: acc)
        else if r.walk = 0 then (pos, r, acc)
        else takeEdges s n base left (pos + 1) { r' with walk := r.walk - 1 } (⟨n, k⟩ :: acc)
      | _ => takeEdges s n base left (pos + 1) r' (⟨n, k⟩ :: acc)

/-- Take the edges of this cc from the nodes at the head of the walk queue, at most 16 of them (R115).  Answers the entries with
their new positions, those that are finished, and the edges in order.  The walker pauses on a router that the ERA cannot take (R218), and on an
edge whose effect has no place in its queue (R138). -/
def walkTake (s : State) : Nat → List WalkEnt → WalkRoom → List TakenEdge → List WalkEnt × List WalkEnt × List TakenEdge
  | 0, q, _, acc => (q, [], acc.reverse)
  | _ + 1, [], _, acc => ([], [], acc.reverse)
  | nodes + 1, w :: q, r, acc =>
    let cnt := s.nd w.node Nd.SUCC_COUNT
    let (pos, r, acc) := takeEdges s w.node (s.nd w.node Nd.SUCC_BASE) (cnt - w.pos) w.pos r acc
    if pos < cnt ∨ s.routerHeld w.node then ({ w with pos := pos } :: q, [], acc.reverse)
    else
      let (q', done, acc) := walkTake s nodes q { r with walk := r.walk + 1 } acc
      (q', w :: done, acc)

/-- A remote edge enters the remote send queue, or fails its launch (R313, R117). -/
def State.remoteEdge (s : State) (n k : Nat) : State :=
  let slot := s.nd n Nd.LAUNCH_SLOT
  let p := s.sl slot Sl.PART
  let dev := s.rm (edgeRow k) Ed.TARGET_DEV
  if !s.member dev then
    s.killWith slot E.REMOTE_DEPARTED (s.tag n)
  else match s.launch? slot with
    | none => s
    | some l => match l.round with
      | none => s.killWith slot E.REMOTE_UNBOUND (s.tag n)
      | some r =>
        let e : RemoteSend := ⟨slot, l.launchId, s.sl slot Sl.CONTEXT, s.sl slot Sl.QUEUE, p, dev, s.rm (edgeRow k) Ed.TARGET, s.rm (edgeRow k) Ed.AMOUNT,
          s.rm (edgeRow k) Ed.TAG, r, l.tmpl, none, 0, none, s.tag n⟩
        { s with dr := { s.dr with sendQ := s.dr.sendQ ++ [e] } }

/-- A semaphore-post edge enters the SM's post queue (R118). -/
def State.postEdge (s : State) (n k : Nat) : State :=
  let slot := s.nd n Nd.LAUNCH_SLOT
  let e : PostEnt := ⟨bits (s.rm (edgeRow k) Ed.TARGET) 15 0, s.rm (edgeRow k) Ed.AMOUNT, slot, s.sl slot Sl.LAUNCH_ID, s.sl slot Sl.PART, s.tag n⟩
  let s := s.updLaunch slot fun l => { l with posted := true }
  { s with dr := { s.dr with postQ := s.dr.postQ ++ [e] } }

/-- Process one edge; `s0` is the state at the start of the cc, in which the local edges of one target were merged. -/
def State.walkEdge (s0 : State) (es : List TakenEdge) (x : State × List Nat) (e : TakenEdge) : State × List Nat :=
  let (s, seen) := x
  let s := s.corrected (edgeRow e.edge) 2 (some (s.nd e.node Nd.PART)) 1 e.edge
  if s.nd e.node Nd.STATE ≠ 6 then (s, seen)
  else if s.eccBad (edgeRow e.edge) 2 then
    (s.rowFail E.ECC_UNCORRECTED 1 e.edge (s.eccWord (edgeRow e.edge) 2) (s.nd e.node Nd.LAUNCH_SLOT), seen)
  else match s.rm (edgeRow e.edge) Ed.TYPE with
    | 0 =>
      let t := s.rm (edgeRow e.edge) Ed.TARGET
      if seen.contains t then (s, seen) else (s.decrement t (mergedAmount s0 es t) 1, t :: seen)
    | 1 => (s.remoteEdge e.node e.edge, seen)
    | 2 => (s.postEdge e.node e.edge, seen)
    | _ => (s, seen)

/-- A node whose last edge has been processed (R115, R84): RETIRED, or SKIPPED if it entered WALKING by a skip.  A retired
Tiller returns to the pool at once (R136); a walked sink may retire its launch (R102). -/
def State.retireNode (s : State) (w : WalkEnt) : State :=
  let n := w.node
  if s.nd n Nd.STATE ≠ 6 then s
  else if s.routerHeld n then { s with dr := { s.dr with walkQ := { w with pos := s.nd n Nd.SUCC_COUNT } :: s.dr.walkQ } }
  else
    let slot := s.nd n Nd.LAUNCH_SLOT
    let s := (s.setNd n Nd.STATE (if w.skip then 10 else 7)).reportRouter n
    if s.inPool n then s.freeNode n
    else if s.nd n Nd.SINK = 1 then s.tryRetire slot else s

/-- Check the Husk pairs and the ECC of the nodes at the head of the walk queue; a bad one kills its launch (R115, R422). -/
def State.walkCheck (s : State) : State :=
  (s.dr.walkQ.take 16).foldl (fun s w =>
    let s := s.readNode w.node
    if s.nd w.node Nd.STATE ≠ 6 then s
    else match s.nodeBad w.node with
      | some (e, k) => s.rowFail e 0 w.node k (s.nd w.node Nd.LAUNCH_SLOT)
      | none => s) s

/-- The entries of the walk queue (R115). -/
def walkDepth : Nat := 4096

/-- One cc of the walker (R115). -/
def State.walkCc (s : State) : State :=
  let s := ({ s with cyc := { s.cyc with walked := true } }).walkCheck
  let room : WalkRoom := ⟨32, 8, 8, 1024 - s.dr.sendQ.length, 64 - s.dr.postQ.length, walkDepth - s.dr.walkQ.length⟩
  let (q, done, es) := walkTake s 16 s.dr.walkQ room []
  let s := ({ s with dr := { s.dr with walkQ := q } }).setBp
  let (s', _) := es.foldl (State.walkEdge s es) (s, [])
  done.foldl (fun s w => s.retireNode w) s'

/-! ### Tillers (R131 to R136) -/

/-- Whether a spawn descriptor passes R134, for a launch of `nodes` nodes. -/
def spawnDescOk (d : List Word) (nodes : Nat) : Bool :=
  let cnt := fld d Sp.COUNT
  let amt := fld d Sp.AMOUNT
  decide (fld d Sp.DESC_VER = 1) && rsvd d 0 31 25 && rsvd d 5 31 12 && (List.range 9).all (fun i => rsvd d (7 + i) 31 0) &&
    decide (fld d Sp.CLASS ≠ 7) && decide (fld d Sp.ACQ_SCOPE ≠ 3) && decide (cnt ≤ 16) &&
    (if cnt = 0 then decide (amt = 0) else decide (1 ≤ amt)) &&
    !(decide (cnt = 0) && decide (fld d Sp.REMAINDER = 0)) && decide (fld d Sp.EDGE_TARGET < nodes)

/-- Create Tiller `i` of an accepted descriptor in pool node `n` (R135). -/
def State.makeTiller (s : State) (d : List Word) (slot level part n i : Nat) : State :=
  let e := s.build.edges - s.poolSize + (n - s.instNodeEnd)
  let g := (s.nd n Nd.NGEN + 1) % 256
  let s := s.setRow (edgeRow e) (mkRec 2 [(Ed.TYPE, 0), (Ed.TARGET, s.sl slot Sl.NODE_BASE + fld d Sp.EDGE_TARGET), (Ed.AMOUNT, fld d Sp.AMOUNT)])
  let s := s.setRow (nodeRow n) (mkRec 8 [(Nd.CLASS, fld d Sp.CLASS), (Nd.LEVEL, level), (Nd.PART, part), (Nd.NGEN, g),
    (Nd.DEP_COUNT, 0), (Nd.DEP_COUNT_N, 4095), (Nd.ENERGY_CLASS, fld d Sp.ENERGY_CLASS), (Nd.ACQ_SCOPE, fld d Sp.ACQ_SCOPE),
    (Nd.SUCC_BASE, e), (Nd.SUCC_BASE_N, 2 ^ 22 - 1 - e), (Nd.SUCC_COUNT, 1), (Nd.SUCC_COUNT_N, 4094), (Nd.SAVE_SET, fld d Sp.SAVE_SET),
    (Nd.OP_INDEX, fld d Sp.OP_INDEX), (Nd.LAUNCH_SLOT, slot), (Nd.DEP_INIT, 0),
    (Nd.ARG_OFFSET, (fld d Sp.ARG_OFFSET + i * fld d Sp.ARG_STRIDE) % 2 ^ 32)])
  s.makeReady n 3

/-- The REMAINDER of a spawn is subtracted at its edge's target before any Tiller is READY (R135). -/
def State.spawnRemainder (s : State) (w : Spawn) (d : List Word) : State :=
  if fld d Sp.REMAINDER = 0 then s else s.decrement (s.sl w.slot Sl.NODE_BASE + fld d Sp.EDGE_TARGET) (fld d Sp.REMAINDER) 3

/-- Whether the launch of a spawn still runs. -/
def State.spawnRuns (s : State) (w : Spawn) : Bool := s.sl w.slot Sl.STATE == 3 && s.sl w.slot Sl.LAUNCH_ID == w.launchId

/-- The Tillers of a spawn are made in the free nodes of the pool (R135), unless its REMAINDER has killed the launch. -/
def State.makeTillers (s : State) (w : Spawn) (d : List Word) (free : List Nat) : State :=
  if !s.spawnRuns w then s
  else (free.zip (List.range free.length)).foldl (fun s x =>
    s.makeTiller d w.slot (s.nd w.node Nd.LEVEL) (s.sl w.slot Sl.PART) x.1 x.2) s

/-- Accept the spawn descriptor at the head of the spawn queue, if the pool holds COUNT free nodes (R135, R136): the lowest free
nodes are taken.  A step launch whose route job has a write without its response waits (R236). -/
def State.acceptSpawn (s : State) : State :=
  match s.dr.spawnQ with
  | [] => s
  | w :: rest =>
    match w.desc with
    | none => s
    | some d =>
      let free := s.poolFree.take (fld d Sp.COUNT)
      let routing := (match s.eraStep? (s.sl w.slot Sl.STEP_TAG) with
        | some x => decide (x.writesOut ≠ 0)
        | none => false) && s.sl w.slot Sl.LAUNCH_ID == w.launchId && s.sl w.slot Sl.STEP_TAG != 0
      if free.length < fld d Sp.COUNT ∨ routing then s
      else if !s.spawnRuns w then { s with dr := { s.dr with spawnQ := rest } }
      else
        (({ s with dr := { s.dr with spawnQ := rest } }).spawnRemainder w d).makeTillers w d free

/-! ### Commands -/

/-- REMOTE_EDGE_SEND (R313, R315): the oldest entry of the remote send queue that has not been sent leaves as an EDGE_DEC flit
with the next SEQ of the edge counter, when a request credit lets it leave. -/
def execRemoteEdgeSend (s : State) : Host.Outcome State Fault Refusal :=
  match (if s.fab.reqCredits = 0 ∨ s.fab.reqQ ≠ [] then none else s.dr.sendQ.find? fun e => e.seq.isNone && e.resendGc.isNone) with
  | none => .next s
  | some e =>
    let q := s.dr.remSeq
    let mark := fun (x : RemoteSend) => if x == e then { x with seq := some q, sentGc := s.now } else x
    let s := { s with dr := { s.dr with sendQ := (s.dr.sendQ.takeWhile (· != e)) ++ (s.dr.sendQ.dropWhile (· != e)).head?.toList.map mark ++
        (s.dr.sendQ.dropWhile (· != e)).tail, remSeq := (q + 1) % 2 ^ 32 } }
    let s := s.incRf (Reg.DR_EDGES_OUT e.part)
    .next (s.sendFlits false [s.flit 1 e.dev e.part 1 q true
      [BitVec.ofNat 32 (e.target + 2 ^ 20 * e.amount), BitVec.ofNat 32 e.round, BitVec.ofNat 32 e.tag]])

/-- SPAWN_ACCEPT (R135): the descriptor at the head of the spawn queue is accepted when the Tiller pool holds its nodes. -/
def execSpawnAccept (s : State) : Host.Outcome State Fault Refusal := .next s.acceptSpawn

end Sys2Proof.Machine
end

