-- ==== Sys2Proof/Machine/SemOps.lean ====
section
/-! DEFINITION. The Semaphore Memory: operations on a semaphore (R246 to R250), arrivals at a sheaf and its release (R260 to
R265), watches (R252) and wake bindings (R254). -/

namespace Sys2Proof.Machine

/-- VALUE of a semaphore. -/
def State.semVal (s : State) (i : Nat) : Nat := s.rm (semRow i) Sem.VALUE

/-- Write VALUE and VALUE_N of a semaphore (R243). -/
def State.setSem (s : State) (i v : Nat) : State :=
  ((s.setRam (semRow i) (BitVec.ofNat 32 v)).setRam (semRow i + 1) (~~~(BitVec.ofNat 32 v))).decision

/-- What a read of a semaphore finds (R243, R421, R422). -/
def State.semBad (s : State) (i : Nat) : Option Err :=
  if s.eccBad (semRow i) 4 then some E.ECC_UNCORRECTED
  else if s.ram (semRow i + 1) = ~~~(s.ram (semRow i)) then none else some E.HUSK

/-- The report of a damaged semaphore, with the failing word (R422). -/
def State.reportSem (s : State) (e : Err) (i : Nat) : State := s.reportRow e 2 (s.semPart i) 5 i (s.eccWord (semRow i) 4)

/-- The SM reads a semaphore: a single-bit error is corrected (R426), and a damaged one is reported (R243, R422). -/
def State.checkSem (s : State) (i : Nat) : State × Option Err :=
  let s := s.corrected (semRow i) 4 (s.semPart i) 5 i
  match s.semBad i with
  | some e => (s.reportSem e i, some e)
  | none => (s, none)

/-- Count a dropped arrival or a refused port operation (R260, R268). -/
def State.misuse (s : State) (p : Nat) : State := s.incRf (Reg.SM_COUNTS_MISUSE p)

/-! ### Waits (R249, R250) -/

/-- A binding's link is woken (R254, R255). -/
def State.wakeBindingLink (s : State) (b : Bind) : State :=
  let s := s.wakeLink b.link
  { s with sm := { s.sm with binds := s.sm.binds.map fun x => if x.idx == b.idx then { x with phase := .waking } else x } }

/-- A wait is satisfied, with VALUE `v` after it (R249, R250, R252, R254). -/
def State.grantWait (s : State) (w : SemWait) (v : Nat) : State :=
  match w.who with
  | .queue c q =>
    let s := { s with sm := { s.sm with waits := s.sm.waits.map fun x => if x == w then { x with granted := some v } else x } }
    match s.queue? c q with
    | some x => if x.state = .parked then s.makePending c q else s
    | none => s
  | .watch i =>
    let s := s.dropWait w.who
    match s.sm.watches.find? fun x => x.idx == i with
    | none => s
    | some x =>
      let s := { s with sm := { s.sm with watches := s.sm.watches.filter fun y => y.idx != i } }
      let s := s.updLaunch x.slot fun l => { l with posted := true }
      s.decrement (s.sl x.slot Sl.NODE_BASE + x.node) x.amount 1
  | .bind i =>
    match s.sm.binds.find? fun b => b.idx == i with
    | none => s.dropWait w.who
    | some b => if b.phase = .sleeping then (s.dropWait w.who).wakeBindingLink b else s

/-- The waits on a semaphore that are not satisfied yet, in waiting order. -/
def State.waitersOf (s : State) (i : Nat) : List SemWait := s.sm.waits.filter fun w => w.sem == i && w.granted.isNone

/-- Serve a consumer (R248 step 6): the oldest consumer of the semaphore alone, once VALUE meets its threshold; one whose threshold is not met blocks
every later one (R249). -/
def State.serveConsumer (s : State) (i : Nat) (who : WaitFor) : State :=
  match (s.waitersOf i).find? (·.consume) with
  | none => s
  | some w =>
    if w.who ≠ who ∨ s.semVal i < w.thresh then s
    else
      let v := s.semVal i - w.thresh
      (s.setSem i v).grantWait w v

/-- Evaluate a non-consuming wait against VALUE as it stands after the consumers (R248 step 7). -/
def State.serveViewer (s : State) (i : Nat) (who : WaitFor) : State :=
  match (s.waitersOf i).find? fun w => !w.consume && w.who == who with
  | none => s
  | some w => if w.thresh ≤ s.semVal i then s.grantWait w (s.semVal i) else s

/-- The evaluation of a semaphore in this cc: one that is under way goes on, or one that is due begins, with the waits as they stand. -/
def State.beginEval (s : State) (e : SemEval) : SemEval :=
  if e.todo = [] ∧ e.again then ⟨e.sem, (s.waitersOf e.sem).map (·.who), false⟩ else e

/-- Waits of one semaphore that are evaluated in one cc (R250). -/
def evalsPerCc : Nat := 16

/-- The end of a cc in the SM (R248 steps 6 and 7, R250): of each semaphore that an operation or a new wait has reached, up to 16 waits are evaluated,
the consumers first; the others follow in later cc.  The waits on a damaged semaphore stay unsatisfied (R243). -/
def State.evalSems (s : State) : State :=
  let es := s.sm.evals.map s.beginEval
  let left := es.filterMap fun e =>
    let rest := e.todo.drop evalsPerCc
    if rest = [] ∧ !e.again then none else some { e with todo := rest }
  let s := { s with sm := { s.sm with evals := left } }
  let (s, es) := es.foldl (fun (x : State × List SemEval) e =>
    if e.todo = [] then x
    else match x.1.checkSem e.sem with
      | (s, none) => (s, x.2 ++ [e])
      | (s, some _) => (s, x.2)) (s, [])
  let each := fun (f : State → Nat → WaitFor → State) (s : State) => es.foldl (fun s e => (e.todo.take evalsPerCc).foldl (fun s w => f s e.sem w) s) s
  each State.serveViewer (each State.serveConsumer s)

/-- Begin to wait on a semaphore: the wait is evaluated at the end of this cc. -/
def State.addWait (s : State) (i thresh : Nat) (consume : Bool) (who : WaitFor) : State :=
  ({ s with sm := { s.sm with waits := s.sm.waits ++ [(⟨i, thresh, consume, who, none⟩ : SemWait)] } }).touchSem i

/-- An operation of step `k` of R248 is applied. -/
def State.semOp (s : State) (k : Nat) : State := { s with cyc := { s.cyc with semOps := s.cyc.semOps + 1, semStep := k } }

/-- Whether an operation of step `k` must wait for the next cc (R248): eight have been applied in this one, or one of a later step. -/
def State.semFull (s : State) (k : Nat) : Bool := decide (8 ≤ s.cyc.semOps) || decide (k < s.cyc.semStep)

/-- Whether the SM is being initialised (R243). -/
def State.smInit (s : State) : Bool := s.unitEn U.SM && !bit (s.rf Reg.GLB_UNIT_STATUS_READY) U.SM

/-! ### Sheaves (R258 to R265) -/

/-- A field of a sheaf. -/
def State.shv (s : State) (k : Nat) (f : Fld) : Nat := s.rm (sheafRow k) f
/-- The state with a field of a sheaf written. -/
def State.setShv (s : State) (k : Nat) (f : Fld) (v : Nat) : State := s.setRm (sheafRow k) f v
/-- MASK of a sheaf. -/
def State.shMask (s : State) (k : Nat) : Nat := s.ram64 (sheafRow k + 1)
/-- ARRIVED of a sheaf. -/
def State.shArrived (s : State) (k : Nat) : Nat := s.ram64 (sheafRow k + 6)
/-- NEXT of a sheaf. -/
def State.shNext (s : State) (k : Nat) : Nat := s.ram64 (sheafRow k + 8)

/-- What the SM keeps of sheaf `k` beside its entry. -/
def State.sheafX (s : State) (k : Nat) : SheafX :=
  match s.sm.sheaves.find? fun x => x.idx == k with
  | some x => x
  | none => ⟨k, none, none, []⟩

/-- The state with that record changed. -/
def State.updSheafX (s : State) (k : Nat) (f : SheafX → SheafX) : State :=
  { s with sm := { s.sm with sheaves := f (s.sheafX k) :: s.sm.sheaves.filter fun x => x.idx != k } }

/-- A sheaf enters FAULTED with an error. -/
def State.faultSheaf (s : State) (k : Nat) (e : Err) : State :=
  (s.reportPlain e (some (s.shv k Sh.PART))).setShv k Sh.STATE 3

/-- Send a sheaf flit (R263), with a SEQ of the signal counter. -/
def State.sendSheaf (s : State) (type k dev gen : Nat) : State :=
  let q := s.fe.sigSeq
  let s := { s with fe := { s.fe with sigSeq := (q + 1) % 2 ^ 32 },
                    sm := { s.sm with msgs := s.sm.msgs ++ [(⟨q, k, dev, type == 4⟩ : SheafMsg)] } }
  s.sendFlits false [s.flit type dev (s.shv k Sh.PART) 1 q true [BitVec.ofNat 32 k, BitVec.ofNat 32 gen]]

/-- The entry of a sheaf at the end of a generation: the time, the next GEN, the next ports, and no arrival (R261). -/
def State.nextGen (s : State) (k : Nat) : State :=
  let s := s.setRam64 (sheafRow k + 11) s.gc
  let s := s.setShv k Sh.GEN ((s.shv k Sh.GEN + 1) % 2 ^ 32)
  let s := s.setRam64 (sheafRow k + 6) (s.shNext k)
  let s := (s.setRam64 (sheafRow k + 8) 0).setShv k Sh.DEV_ARRIVED 0
  s.updSheafX k fun x => { x with firstGc := x.nextGc, nextGc := none, srcs := [] }

/-- The release takes effect in the next cc. -/
def State.queueRelease (s : State) (k : Nat) : State := { s with sm := { s.sm with releases := s.sm.releases ++ [k] } }

/-- The home sends SHEAF_RELEASE of generation `g` to every device that arrived (R264). -/
def State.releaseRemote (s : State) (k g : Nat) (srcs : List Nat) : State :=
  if s.shv k Sh.HOME_DEV = s.self then
    ((List.range 4096).filter fun d => srcs.contains d && s.member d).foldl (fun s d => s.sendSheaf 4 k d g) s
  else s

/-- A generation completes (R261): the stamp, the generation and the arrival state change, and the release is queued.  The home tells
every device of its map (R265). -/
def State.completeSheaf (s : State) (k : Nat) : State :=
  ((s.nextGen k).queueRelease k).releaseRemote k (s.shv k Sh.GEN) (s.sheafX k).srcs

/-- Complete a generation whose arrivals are all in (R261), or report it to the home (R264). -/
def State.checkSheaf (s : State) (k : Nat) : State :=
  if s.shv k Sh.STATE ≠ 1 ∨ s.shArrived k ≠ s.shMask k then s
  else if s.shv k Sh.HOME_DEV = s.self then
    if s.shv k Sh.DEV_ARRIVED = s.shv k Sh.DEVICES then s.completeSheaf k else s
  else if !s.member (s.shv k Sh.HOME_DEV) then s.faultSheaf k E.REMOTE_DEPARTED
  else (s.setShv k Sh.STATE 2).sendSheaf 3 k (s.shv k Sh.HOME_DEV) (s.shv k Sh.GEN)

/-- An ADD of `v` to the port of sheaf `k` (R260). -/
def State.arrive (s : State) (k v : Nat) : State :=
  let p := s.shv k Sh.PART
  if s.shv k Sh.STATE = 3 then s.misuse p
  else if v = 0 ∨ 64 < v ∨ !bit (s.shMask k) (v - 1) then (s.misuse p).reportPlain E.SHEAF_ARRIVE (some p)
  else if !bit (s.shArrived k) (v - 1) ∧ s.shv k Sh.STATE = 1 then
    let s := s.setRam64 (sheafRow k + 6) (setBit (s.shArrived k) (v - 1) true)
    let s := s.updSheafX k fun x => { x with firstGc := some (x.firstGc.getD s.now) }
    s.checkSheaf k
  else if !bit (s.shNext k) (v - 1) then
    let s := s.setRam64 (sheafRow k + 8) (setBit (s.shNext k) (v - 1) true)
    s.updSheafX k fun x => { x with nextGc := some (x.nextGc.getD s.now) }
  else (s.misuse p).reportPlain E.SHEAF_ARRIVE (some p)

/-- The sheaf whose armed port a semaphore is. -/
def State.portOf (s : State) (i : Nat) : Option Nat :=
  if s.rm (semRow i) Sem.PORT = 0 then none
  else (List.range 256).find? fun k => s.shv k Sh.STATE ≠ 0 && s.shv k Sh.ARRIVE_SEM == i

/-! ### Operations (R246) -/

/-- What an operation on a semaphore answers: an error that ended it, if any, VALUE after it, and whether it has saturated. -/
structure SemAnswer where
  err : Option Err
  val : Nat
  sat : Bool
deriving DecidableEq, Repr

/-- ADD (R246, R260): the caller reports a saturation. -/
def State.semAdd (s : State) (i v : Nat) : State × SemAnswer :=
  match s.checkSem i with
  | (s, some e) => (s, ⟨some e, 0, false⟩)
  | (s, none) =>
    match s.portOf i with
    | some k => (s.arrive k v, ⟨none, s.semVal i, false⟩)
    | none =>
      let sum := s.semVal i + v
      let s := s.setSem i (min sum (2 ^ 32 - 1))
      let sat := decide (2 ^ 32 ≤ sum)
      let s := (if sat then s.setRm (semRow i) Sem.SAT 1 else s).touchSem i
      (s, ⟨none, s.semVal i, sat⟩)

/-- The report of a saturation that no command packet brought about. -/
def State.reportSat (s : State) (i : Nat) (a : SemAnswer) : State := if a.sat then s.reportPlain E.SEM_SATURATE (s.semPart i) else s

/-- SUB (R246, R260). -/
def State.semSub (s : State) (i v : Nat) : State × SemAnswer :=
  match s.checkSem i with
  | (s, some e) => (s, ⟨some e, 0, false⟩)
  | (s, none) =>
    match s.portOf i with
    | some k => (s.misuse (s.shv k Sh.PART), ⟨some E.SEM_PORT, s.semVal i, false⟩)
    | none =>
      if s.semVal i < v then (s.setRm (semRow i) Sem.UNDER 1, ⟨some E.SEM_UNDERFLOW, s.semVal i, false⟩)
      else
        let s := (s.setSem i (s.semVal i - v)).touchSem i
        (s, ⟨none, s.semVal i, false⟩)

/-- The releases decided in the previous cc add 1 to their RELEASE_SEM, eight in a cc (R248 step 1, R261); a generation whose arrivals are
already in completes in its turn. -/
def State.applyReleases (s : State) : State :=
  let ks := s.sm.releases
  (ks.take 8).foldl (fun s k =>
    let i := s.shv k Sh.RELEASE_SEM
    let (s, a) := (s.semOp 1).semAdd i 1
    (s.reportSat i a).checkSheaf k) { s with sm := { s.sm with releases := ks.drop 8 } }

/-- Whether semaphore `i` lies in partition `p`'s range (R244). -/
def State.semOf (s : State) (i p : Nat) : Bool := decide (i < s.build.sems) && decide (s.semPart i = some p)

/-- The binding that holds a link. -/
def State.bindOf (s : State) (link : Nat) : Option Bind := s.sm.binds.find? fun b => b.link == link

end Sys2Proof.Machine
end

