-- ==== Sys2Proof/Machine/Input.lean ====
section
/-! DEFINITION. How an input enters: which reset or isolation makes the block ignore it (R79), and the hold of grain-locked mode
(R378). -/

namespace Sys2Proof.Machine

/-- Whether the reset of a clock domain is asserted. -/
def Pins.inReset (p : Pins) : ResetDom → Bool
  | .core => p.rstCore
  | .eng => p.rstEng
  | .noc => p.rstNoc
  | .fab => p.rstFab
  | .reg => p.rstReg

/-- Whether an input of a clock domain is seen: iso_en is low, and neither its domain nor the core is in reset (R79). -/
def State.portOn (s : State) (d : ResetDom) : Bool := !s.pins.isoEn && !s.pins.rstCore && !s.pins.inReset d

/-- Hold an input until the next boundary. -/
def State.hold (s : State) (i : Instr) : State := { s with dc := { s.dc with held := s.dc.held ++ [⟨i, s.cc⟩] } }

/-- An input arrives: it is ignored, held, or applied. -/
def State.input (s : State) (d : ResetDom) (i : Instr) (f : State → State) : State :=
  if !s.portOn d then s else if s.holds then s.hold i else f s

/-- An unlock that is still armed in the 65th cc lapses. -/
def State.expireUnlock (s : State) : State :=
  match s.glb.armedCc with
  | some c => if c + 65 ≤ s.cc then { s.setRf Reg.GLB_STICKY_UNLOCK_EXPIRED 1 with glb := { s.glb with armedCc := none } } else s
  | none => s

/-- A register-port access begins: an unlock that has lapsed is gone, and so is the read latch, which serves the next access alone
(R460). -/
def State.unlatch (s : State) : State :=
  let s := s.expireUnlock
  { s with glb := { s.glb with latch := none } }

/-- A write on the register port is carried out and acknowledged (R40). -/
def State.regDone (s : State) (f : State → State) : State := (f s.unlatch).emit (.rpAck none false)

/-- A read on the register port with an effect is carried out and acknowledged with its data. -/
def State.readDone (s : State) (f : State → State × Word) : State :=
  let (s, w) := f s.unlatch
  s.emit (.rpAck (some w) false)

/-- Whether live writes that affect decisions are acknowledged and otherwise ignored: in replay mode the log supplies them (R389). -/
def State.replaying (s : State) : Bool := s.rb Reg.DC_STATUS_REPLAYING

/-- A write that R402 refuses is ignored: ENCL_IGNORED is set and ERR_ENCLAVE_WRITE raised. -/
def State.enclIgnored (s : State) (p : Nat) : State := (s.setRf Reg.PAU_STICKY_ENCL_IGNORED 1).reportPlain E.ENCLAVE_WRITE (some p)

/-- A register-port write with an effect arrives: it is not answered while blk_present is low (R39), else held or applied. -/
def State.regInput (s : State) (i : Instr) (f : State → State) : State :=
  if !s.blkPresent then s
  else if s.replaying then s.regDone fun s => s
  else if s.holds then s.hold i
  else s.regDone f

/-- A register-port read with an effect arrives.  In replay mode it has no effect and returns what its register keeps: the last value
popped, or no outcome (notes/assumptions/22.md). -/
def State.regRead (s : State) (i : Instr) (a : Nat) (f : State → State × Word) : State :=
  if !s.blkPresent then s
  else if s.replaying then s.readDone fun s => (s, s.reg a)
  else if s.holds then s.hold i
  else s.readDone f

end Sys2Proof.Machine
end

