-- ==== Sys2Proof/Machine/SemCmd.lean ====
section
/-! DEFINITION. The command registers of the Semaphore Memory: SM_SEM_CMD, watches and wake bindings (R251 to R256, R267). -/

namespace Sys2Proof.Machine

/-- Whether the SM has finished its initialisation and is enabled. -/
def State.smUp (s : State) : Bool := bit (s.rf Reg.GLB_UNIT_STATUS_READY) U.SM

/-! ### SM_SEM_CMD (R267, R260, R402) -/

/-- Why SM_SEM_CMD is refused: no partition's range holds the semaphore, its partition is locked, or it is an armed port (SET). -/
def State.semCmdErr (s : State) (i : Nat) (set : Bool) : Option Err :=
  match (if i < s.build.sems then s.semPart i else none) with
  | none => some E.SEM_HANDLE
  | some p =>
    if s.lockedOrLocking p then some E.ENCLAVE_WRITE
    else if set && (s.portOf i).isSome then some E.SEM_PORT
    else none

/-- A refused SM_SEM_CMD: CODE says why, and an operation refused at a port counts in MISUSE. -/
def State.refuseSemCmd (s : State) (i : Nat) (e : Err) : State :=
  let s := s.setRf Reg.SM_SEM_STATUS_CODE e.code
  let s := s.reportPlain e (if i < s.build.sems then s.semPart i else none)
  match s.semPart i with
  | some p => if e = E.SEM_PORT then s.misuse p else s
  | none => s

/-- SET: VALUE and VALUE_N are written, which repairs a damaged pair, and the waiters are evaluated again. -/
def State.semSet (s : State) (i v : Nat) : State :=
  match s.semCmdErr i true with
  | some e => s.refuseSemCmd i e
  | none =>
    let s := { s with ecc := s.ecc.filter fun (e : Nat × Nat) => !(decide (semRow i ≤ e.1) && decide (e.1 < semRow i + 2)) }
    ((s.setRf Reg.SM_SEM_STATUS_CODE 0).setSem i v).touchSem i

/-- CLEAR_FLAGS: SAT and UNDER are cleared. -/
def State.semClear (s : State) (i : Nat) : State :=
  match s.semCmdErr i false with
  | some e => s.refuseSemCmd i e
  | none => ((s.setRf Reg.SM_SEM_STATUS_CODE 0).setRm (semRow i) Sem.SAT 0).setRm (semRow i) Sem.UNDER 0

/-- SM_SEM_CMD with the operation, index and value taken from the registers. -/
def State.semCmdNow (s : State) (op i v : Nat) : State :=
  match op with
  | 1 => s.semSet i v
  | 2 => s.semClear i
  | _ => s

/-- SM_SEM_CMD: it waits for the end of the initialisation (R243), and for the next cc where R248 says so; one command at a time (R267).  A disabled
SM takes none. -/
def State.semCmd (s : State) (op : Nat) : State :=
  let i := s.rf Reg.SM_SEM_INDEX
  let v := s.rf Reg.SM_SEM_VALUE
  if s.sm.semCmd.isSome ∨ !s.unitEn U.SM ∨ (op ≠ 1 ∧ op ≠ 2) then s
  else if s.smUp ∧ !s.semFull 2 then (s.semOp 2).semCmdNow op i v
  else { s with sm := { s.sm with semCmd := some (op, i, v) } }

/-- The operations of a cc with which no command comes (R248): the releases, and the SM_SEM_CMD that has waited. -/
def State.semCycle (s : State) : State :=
  if s.smInit then s
  else
    let s := s.applyReleases
    match s.sm.semCmd with
    | some (op, i, v) => if s.smUp ∧ !s.semFull 2 then (({ s with sm := { s.sm with semCmd := none } }).semOp 2).semCmdNow op i v else s
    | none => s

/-- SEM_CMD_SET. -/
def execSemCmdSet (s : State) : Host.Outcome State Fault Refusal := .next (s.regInput .semCmdSet fun s => s.semCmd 1)

/-- SEM_CMD_CLEAR_FLAGS. -/
def execSemCmdClearFlags (s : State) : Host.Outcome State Fault Refusal :=
  .next (s.regInput .semCmdClearFlags fun s => s.semCmd 2)

/-! ### Watches (R251 to R253) -/

/-- SM_WATCH_STATUS after a command. -/
def State.watchStatus (s : State) (idx : Nat) (e : Option Err) : State :=
  s.setReg Reg.SM_WATCH_STATUS_A (packW [(0, idx), (12, 1), (13, b2n e.isSome), (16, (e.map (·.code)).getD 0)])

/-- Whether the target of SM_WATCH_CMD ARM passes R251. -/
def State.watchOk (s : State) : Bool :=
  let slot := s.rf Reg.SM_WATCH_TARGET_SLOT
  let st := s.sl slot Sl.STATE
  decide (slot < s.build.slots) && (st == 2 || st == 3) &&
    decide (s.sl slot Sl.LAUNCH_ID = s.rf Reg.SM_WATCH_LAUNCH_LAUNCH_ID) &&
    decide (s.rf Reg.SM_WATCH_TARGET_NODE < s.sl slot Sl.NODE_COUNT) &&
    s.semOf (s.rf Reg.SM_WATCH_SEM) (s.sl slot Sl.PART) && decide (s.rf Reg.SM_WATCH_ARGS_AMOUNT ≠ 0)

/-- The partition of the launch that a watch names, if it is live. -/
def State.watchPart (s : State) : Option Nat :=
  let slot := s.rf Reg.SM_WATCH_TARGET_SLOT
  if s.live slot then some (s.sl slot Sl.PART) else none

/-- SM_WATCH_CMD ARM (R251): an accepted watch takes the lowest free index and is evaluated at the end of this cc (R252).  A semaphore outside the
launch's range is refused as R251 says (notes/assumptions/44.md). -/
def State.armWatch (s : State) : State :=
  if !s.smUp ∨ s.sm.cancels ≠ [] then s
  else if !s.watchOk then (s.reportPlain E.WATCH_TARGET s.watchPart).watchStatus 0 (some E.WATCH_TARGET)
  else match (List.range 4096).find? fun i => !s.sm.watches.any fun w => w.idx == i with
    | none => (s.reportPlain E.WATCH_FULL s.watchPart).watchStatus 0 (some E.WATCH_FULL)
    | some i =>
      let sem := s.rf Reg.SM_WATCH_SEM
      let th := s.rf Reg.SM_WATCH_THRESH
      let con := s.rb Reg.SM_WATCH_ARGS_CONSUME
      let w : Watch := ⟨i, sem, th, s.rf Reg.SM_WATCH_TARGET_SLOT, s.rf Reg.SM_WATCH_LAUNCH_LAUNCH_ID,
        s.rf Reg.SM_WATCH_TARGET_NODE, s.rf Reg.SM_WATCH_ARGS_AMOUNT, con⟩
      let s := { s with sm := { s.sm with watches := s.sm.watches ++ [w] } }
      (s.watchStatus i none).addWait sem th con (.watch i)

/-- SM_WATCH_CMD CANCEL (R253): it is carried out at the end of this cc, after the evaluation, so that a watch that fires in this cc fires. -/
def State.cancelWatch (s : State) (i : Nat) : State :=
  if !s.smUp ∨ s.sm.cancels ≠ [] then s
  else ({ s with sm := { s.sm with cancels := [i] } }).setReg Reg.SM_WATCH_STATUS_A (packW [(0, i)])

/-- The cancel of this cc is carried out. -/
def State.endCancels (s : State) : State :=
  s.sm.cancels.foldl (fun s i =>
    let s := s.endWait (.watch i)
    ({ s with sm := { s.sm with watches := s.sm.watches.filter fun w => w.idx != i } }).watchStatus i none)
    { s with sm := { s.sm with cancels := [] } }

/-- The end of a cc in the SM: its waits are evaluated, and then a watch is cancelled (R248, R253). -/
def State.semEnd (s : State) : State := if s.smInit then s else s.evalSems.endCancels

/-- WATCH_ARM. -/
def execWatchArm (s : State) : Host.Outcome State Fault Refusal := .next (s.regInput .watchArm State.armWatch)

/-- WATCH_CANCEL. -/
def execWatchCancel (index : Nat) (s : State) : Host.Outcome State Fault Refusal :=
  .next (s.regInput (.watchCancel index) fun s => s.cancelWatch (index % 4096))

/-! ### Wake bindings (R254 to R256) -/

/-- SM_WAKE_STATUS after a command. -/
def State.wakeStatus (s : State) (idx : Nat) (e : Option Err) : State :=
  s.setReg Reg.SM_WAKE_STATUS_A (packW [(0, idx), (6, 1), (7, b2n e.isSome), (16, (e.map (·.code)).getD 0)])

/-- The lowest free binding. -/
def State.freeBindIdx (s : State) : Option Nat := (List.range 64).find? fun i => !s.sm.binds.any fun b => b.idx == i

/-- Whether a link may be bound for a partition (R254): it is UP at protocol 2, no binding holds it, and the partition may use it. -/
def State.bindable (s : State) (i p : Nat) : Bool :=
  decide (i < s.build.links) && (s.link i).lstate == 2 && (s.link i).proto == 2 && (s.bindOf i).isNone && s.partOk p &&
    s.clusterOk p (i / 16)

/-- A binding takes a link: the DS stops issuing to it, as for a DRAIN (R254 step 1). -/
def State.addBind (s : State) (b : Bind) : State :=
  let s := { s with sm := { s.sm with binds := s.sm.binds ++ [b] } }
  s.updLink b.link fun l => { l with lstate := 3 }

/-- SM_WAKE_CMD BIND (R254, R244). -/
def State.wakeBind (s : State) : State :=
  let i := s.rf Reg.SM_WAKE_LINK
  let p := s.rf Reg.SM_WAKE_LINK_PART
  let sem := s.rf Reg.SM_WAKE_LINK_SEM
  let no := fun (e : Err) => (s.reportPlain e (if s.partOk p then some p else none)).wakeStatus 0 (some e)
  if !s.smUp then s
  else if !s.bindable i p then no E.WAKE_BIND
  else if !s.semOf sem p then no E.SEM_HANDLE
  else match s.freeBindIdx with
    | none => no E.WAKE_BIND
    | some k =>
      (s.addBind ⟨k, i, p, some sem, s.rf Reg.SM_WAKE_THRESH, s.rb Reg.SM_WAKE_LINK_CONSUME, s.rf Reg.SM_WAKE_TMO, s.now, .draining⟩).wakeStatus k none

/-- A draining link of a binding returns to UP, and the binding is freed. -/
def State.unbindUp (s : State) (b : Bind) : State :=
  (s.freeBind b.idx).updLink b.link fun l => if l.lstate == 3 then { l with lstate := 2 } else l

/-- A binding ends without its semaphore and is freed (R256): a sleeping link is woken, one that has not yet been sent SLEEP returns to UP. -/
def State.endBind (s : State) (b : Bind) : State :=
  match b.phase with
  | .draining => s.unbindUp b
  | .sleeping => (s.freeBind b.idx).wakeLink b.link
  | .waking => s.freeBind b.idx

/-- SM_WAKE_CMD CANCEL of the binding of LINK (R256). -/
def State.wakeCancel (s : State) : State :=
  if !s.smUp then s
  else match s.bindOf (s.rf Reg.SM_WAKE_LINK) with
    | none => s.wakeStatus 0 none
    | some b => (s.endBind b).wakeStatus b.idx none

/-- Steps 2 to 4 of R254, once the bound link holds no task and no control record: a semaphore that meets THRESH, with no older consumer
before it, frees the binding; otherwise the link is sent SLEEP, and the wait begins. -/
def State.bindSleep (s : State) (b : Bind) : State :=
  let l := s.link b.link
  if b.phase ≠ .draining ∨ l.tasks ≠ [] ∨ l.ctrl.isSome ∨ l.ctrlQ ≠ [] then s
  else
    let sleep := fun (s : State) =>
      let s := { s with sm := { s.sm with binds := s.sm.binds.map fun (x : Bind) => if x.idx == b.idx then { x with phase := .sleeping } else x } }
      s.sendCtrl b.link 3 0 0 false
    match b.sem with
    | none => sleep s
    | some i =>
      let before := b.consume && (s.waitersOf i).any (·.consume)
      match s.checkSem i with
      | (s, bad) =>
        if bad.isNone ∧ b.thresh ≤ s.semVal i ∧ !before then
          (if b.consume then s.setSem i (s.semVal i - b.thresh) else s).unbindUp b
        else (sleep s).addWait i b.thresh b.consume (.bind b.idx)

/-- WAKE_BIND. -/
def execWakeBind (s : State) : Host.Outcome State Fault Refusal := .next (s.regInput .wakeBind State.wakeBind)

/-- WAKE_CANCEL. -/
def execWakeCancel (s : State) : Host.Outcome State Fault Refusal := .next (s.regInput .wakeCancel State.wakeCancel)

/-- WAKE_TIMEOUT (R256). -/
def execWakeTimeout (index : Nat) (s : State) : Host.Outcome State Fault Refusal :=
  match s.sm.binds.find? fun b => b.idx == index with
  | some b =>
    if b.tmo ≠ 0 ∧ b.phase ≠ .waking ∧ s.due b.gc (1000 * b.tmo) then
      .next ((s.reportPlain E.WAKE_TIMEOUT (some b.part)).endBind b)
    else .next s
  | none => .next s

end Sys2Proof.Machine
end

