-- ==== Sys2Proof/Machine/IfmOps.lean ====
section
/-! DEFINITION. The restarts that contain a fault (R424, R425, R432 to R434) and what a damaged word of a unit's queues does
(R422). -/

namespace Sys2Proof.Machine

/-! ### Recovery bindings (R433) -/

/-- Place recovery bindings on UP protocol-2 links that hold no task, in ascending order, while a binding is free; during the whole of a list rebuild
and of a DR restart. -/
def State.placeRecovery (s : State) : State :=
  ((List.range s.build.links).filter fun i => (s.link i).lstate == 2 && (s.link i).proto == 2 && (s.link i).tasks == [] && (s.bindOf i).isNone).foldl
    (fun s i => match s.freeBindIdx with
      | none => s
      | some k => s.addBind ⟨k, i, 0, none, 0, false, 0, s.now, .draining⟩) s

/-- Dealing resumes: every recovery binding is cancelled, unless another restart still holds the deal. -/
def State.endRecovery (s : State) : State :=
  if s.rb Reg.IFM_STATUS_REBUILD ∨ s.rb Reg.IFM_STATUS_DR_RESTART then s
  else (s.sm.binds.filter fun b => b.sem.isNone).foldl (fun s b => s.endBind b) s

/-! ### List rebuild (R424) -/

/-- A list rebuild starts: the Rachis deals nothing, and the ready lists are emptied.  Internal tasks not yet issued are offered again
once dealing resumes. -/
def State.startRebuild (s : State) : State :=
  if s.rb Reg.IFM_STATUS_REBUILD then s
  else
    let s := s.setRf Reg.IFM_STATUS_REBUILD 1
    let again := fun (j : Job) => if j.issued then j else { j with link := none }
    let s := { s with dr := { s.dr with ready := [], insQ := [] }, psc := { s.psc with jobs := s.psc.jobs.map again } }
    s.placeRecovery

/-- The scan has ended: every READY node is in its list, in ascending node index, with a new ready sequence number; dealing resumes. -/
def State.endRebuild (s : State) : State :=
  if !s.rb Reg.IFM_STATUS_REBUILD then s
  else
    let ns := (List.range s.build.nodes).filter fun n => s.nd n Nd.STATE == 4 && !s.marked n
    let s := { s with dr := { s.dr with ready := s.dr.ready.filter fun e => e.job.isSome, insQ := [] } }
    ((ns.foldl (fun s n => s.insertReady n) s).setRf Reg.IFM_STATUS_REBUILD 0).endRecovery

/-! ### DR restart (R425) -/

/-- A DR restart: every live launch is killed with the code, and the DR's queues are reinitialised. -/
def State.drRestart (s : State) (code : Nat) : State :=
  if s.rb Reg.IFM_STATUS_DR_RESTART then s
  else
    let s := s.setRf Reg.IFM_STATUS_DR_RESTART 1
    let s := { s with dr := { s.dr with spawnQ := [], postQ := [], sendQ := [], skipQ := [] },
                      fab := { s.fab with waiting := s.fab.waiting.filter fun h => h.fabQueue != 1 } }
    let s := (s.gs.launches.map (·.slot)).foldl (fun s slot => s.killLaunch slot code false) s
    let left := s.dr.walkQ
    let s := left.foldl (fun s w => if s.nd w.node Nd.STATE = 6 then s.setNd w.node Nd.STATE 9 else s) s
    (({ s with dr := { s.dr with walkQ := [] } }).setBp).placeRecovery

/-- The queues have been reinitialised. -/
def State.drRestartDone (s : State) : State :=
  if s.rb Reg.IFM_STATUS_DR_RESTART then (s.setRf Reg.IFM_STATUS_DR_RESTART 0).endRecovery else s

/-! ### Slice restart (R432) -/

/-- The links of a slice. -/
def sliceLinks (slice : Nat) : List Nat := (List.range 32).map (· + 32 * slice)

/-- A slice restart: its clusters are ineligible, the tasks of its links are faulted with ERR_SLICE_WATCHDOG, its state is reinitialised,
and its present links are offered link-up. -/
def State.sliceRestart (s : State) (slice : Nat) : State :=
  if bit (s.rf Reg.IFM_STATUS_SLICE_DOWN) slice then s
  else
    let s := s.setRf Reg.IFM_STATUS_SLICE_DOWN (setBit (s.rf Reg.IFM_STATUS_SLICE_DOWN) slice true)
    let s := (s.setFifo (2 * slice) []).setFifo (2 * slice + 1) []
    let s := (sliceLinks slice).foldl (fun s i => s.dropLink i E.SLICE_WATCHDOG Reg.DS_LINK_CMD_STATUS_LOST) s
    let s := { s with ds := { s.ds with sliceDown := s.ds.sliceDown ++ [(slice, s.now)], idle := assocDel s.ds.idle slice } }
    if !s.unitEn U.DS then s
    else ((sliceLinks slice).filter fun i => (s.link i).present).foldl (fun s i => s.offerLink i) s

/-- The slice rejoins the deal when each present link of it has finished link-up, or after 20 µs. -/
def State.sliceRejoin (s : State) (slice : Nat) : State :=
  match s.ds.sliceDown.find? fun x => x.1 == slice with
  | none => s
  | some (_, t) =>
    if (sliceLinks slice).any (fun i => (s.link i).present && (s.link i).lstate == 1) ∧ s.now < 20000 + t then s
    else
      let s := { s with ds := { s.ds with sliceDown := s.ds.sliceDown.filter fun x => x.1 != slice } }
      s.setRf Reg.IFM_STATUS_SLICE_DOWN (setBit (s.rf Reg.IFM_STATUS_SLICE_DOWN) slice false)

/-! ### Damaged words of the DS and the DR (R422) -/

/-- Keys of the memory that no table window shows, beside the row kinds of R422: ready links, ready-list heads and tails, the outstanding table and
credit counter of a slice, the DR's queues, and the Gleaner, the measurements' guard and the IFM's own state. -/
def eccKind (tid : Nat) : Nat :=
  match tid with
  | 0x01 => 0 | 0x02 => 1 | 0x03 => 2 | 0x04 => 3 | 0x07 => 4 | 0x09 => 5 | 0x60 => 6 | 0x18 => 8 | 0x65 => 9 | 0x66 => 9
  | 0x0A => 10 | 0x0B => 10 | 0x0C => 10 | 0x0D => 10 | 0x0E => 10 | 0x19 => 10 | 0x67 => 10 | 0x68 => 10
  | 0x0F => 11 | 0x10 => 11 | 0x11 => 11 | 0x12 => 11 | 0x69 => 12 | 0x61 => 13 | 0x62 => 14 | 0x63 => 15 | 0x64 => 16 | 0x50 => 17
  | _ => 18

/-- Remove the mark of a word. -/
def State.clearEcc (s : State) (k : Nat) : State := { s with ecc := s.ecc.filter fun e => e.1 != k }

/-- A unit reads a word of these memories that is marked: a single-bit error is corrected (R426); an uncorrectable word, or a Husk pair that
disagrees, starts the restart of R422. -/
def State.readDamage (s : State) (m : Nat × Nat) : State :=
  let tid := m.1 / 2 ^ 24
  let w := m.1 % 2 ^ 24
  let s := s.clearEcc m.1
  if m.2 = 1 then s.reportRow E.ECC_CORRECTED 1 none (eccKind tid) w 0
  else
    let e := if m.2 = 3 then E.HUSK else E.ECC_UNCORRECTED
    let s := s.reportRow e 3 none (eccKind tid) w 0
    match tid with
    | 0x63 => s.sliceRestart w
    | 0x64 => s.drRestart e.code
    | _ => s.startRebuild

/-- The marked words of the memories numbered `lo` to `hi` are read. -/
def State.readMarks (s : State) (lo hi : Nat) : State :=
  (s.ecc.filter fun e => decide (lo ≤ e.1 / 2 ^ 24) && decide (e.1 / 2 ^ 24 ≤ hi)).foldl State.readDamage s

/-- The words that a deal reads are checked before it is made (R421, R422): ready links, list heads and tails, the slices and the DR's queues. -/
def State.dealChecks (s : State) : State := s.readMarks 0x61 0x64

/-- The words that a completion intake of a slice reads (R421, R422). -/
def State.sliceChecks (s : State) (slice : Nat) : State :=
  (s.ecc.filter fun e => e.1 == ramKey 0x63 slice).foldl State.readDamage s

/-! ### Thresher restart (R434) -/

/-- Whether the firmware runs: the boot has ended, and no restart holds the Thresher in reset. -/
def State.thrRuns (s : State) : Bool := decide (s.rf Reg.THR_BOOT_STATUS_PHASE = 5) && !s.ifm.thrHold

end Sys2Proof.Machine
end

