-- ==== Sys2Proof/Machine/BgOps.lean ====
section
/-! DEFINITION. The Budget Governor's answer to a candidate (R331, R332, R337 to R348): the price, the credit and what may be
drawn on, the bandwidth accounts, and the admission test. -/

namespace Sys2Proof.Machine

/-! ### Credit (R337) -/

/-- What the BG keeps of a partition. -/
def State.bgPart (s : State) (p : Nat) : BgPart :=
  match s.bg.parts.find? fun x => x.part == p with
  | some x => x
  | none => ⟨p, 0, ~~~0, 0, ~~~0, false, 0, false, 0, 0, 0⟩

/-- The state with that record changed. -/
def State.updBg (s : State) (p : Nat) (f : BgPart → BgPart) : State :=
  { s with bg := { s.bg with parts := f (s.bgPart p) :: s.bg.parts.filter fun x => x.part != p } }

/-- The Husk check of credit and LENT_LEFT (R337, R422): after a mismatch both are 0 until the next boundary. -/
def State.bgCheck (s : State) (p : Nat) : State :=
  let x := s.bgPart p
  if x.bad ∨ (x.creditN = ~~~x.credit ∧ x.lentN = ~~~x.lent) then s
  else (s.reportRow E.HUSK 2 (some p) 7 p 0).updBg p fun x => { x with bad := true }

/-- The credit of a partition in pJ. -/
def State.credit (s : State) (p : Nat) : Int := if (s.bgPart p).bad then 0 else (s.bgPart p).credit.toInt

/-- LENT_LEFT of a partition in pJ. -/
def State.lentLeft (s : State) (p : Nat) : Int := if (s.bgPart p).bad then 0 else (s.bgPart p).lent.toInt

/-- A pJ value as a 48-bit word; the spec states no result outside the format (notes/assumptions/3.md). -/
def State.word48 (s : State) (v : Int) : BitVec 48 × State :=
  if -(2 ^ 47) ≤ v ∧ v < 2 ^ 47 then (BitVec.ofInt 48 v, s)
  else
    let (a, s) := s.takeFree
    let (b, s) := s.takeFree
    (BitVec.ofNat 48 (a.toNat + 2 ^ 32 * b.toNat), s)

/-- Store a credit with its complement. -/
def State.setCredit (s : State) (p : Nat) (v : Int) : State :=
  if (s.bgPart p).bad then s
  else
    let (w, s) := s.word48 v
    s.updBg p fun x => { x with credit := w, creditN := ~~~w }

/-- Store LENT_LEFT with its complement. -/
def State.setLent (s : State) (p : Nat) (v : Int) : State :=
  if (s.bgPart p).bad then s
  else
    let (w, s) := s.word48 v
    s.updBg p fun x => { x with lent := w, lentN := ~~~w }

/-! ### The price of a task (R331, R332) -/

/-- Point `i` of an engine class in a bank: frequency and energy. -/
def State.bgPoint (s : State) (bank cls i : Nat) : Nat × Nat :=
  let w := s.ram (ramKey (0x14 + bank) (32 * cls + 1 + i))
  (wget w 15 0, wget w 31 16)

/-- pJ of one work unit at `f` MHz (R332). -/
def State.unitPrice (s : State) (bank cls f : Nat) : Nat :=
  let n := min (wget (s.ram (ramKey (0x14 + bank) (32 * cls))) 4 0) 16
  if n = 0 then 0
  else
    let p := s.bgPoint bank cls
    if f ≤ (p 0).1 then (p 0).2
    else if (p (n - 1)).1 ≤ f then (p (n - 1)).2
    else match ((List.range (n - 1)).filter fun i => decide ((p i).1 ≤ f)).getLast? with
      | none => (p 0).2
      | some i => (p i).2 + ((p (i + 1)).2 - (p i).2) * (f - (p i).1) / ((p (i + 1)).1 - (p i).1)

/-- A word of the class entry of (engine class, energy class) in the active bank. -/
def State.classWord (s : State) (cls ecls w : Nat) : Word :=
  s.ram (ramKey (0x16 + s.rf Reg.BG_MODEL_STATUS_ACTIVE) (2 * (64 * cls + ecls) + w))

/-- The estimate of a task on a cluster, in pJ. -/
def State.estimate (s : State) (cls ecls c : Nat) : Nat :=
  wget (s.classWord cls ecls 0) 15 0 * s.unitPrice (s.rf Reg.BG_MODEL_STATUS_ACTIVE) cls (lookupD s.bg.opp c 3300)

/-! ### Bandwidth accounts (R346 to R348) -/

/-- The accounts that a task charges, with the amount in units of 64 B (R347). -/
def State.bwCharges (s : State) (cls ecls c : Nat) : List (Nat × Nat) :=
  let w := s.classWord cls ecls 1
  let n := 4 * wget w 19 0
  let home := s.rf (Reg.BG_CLUSTER_HOME_STACK c)
  if n = 0 then []
  else if bit w.toNat 20 ∧ home < s.build.memStacks then [(home, n)]
  else (List.range s.build.memStacks).map fun i => (i, ceilDiv n s.build.memStacks)

/-- LEVEL of an account, checked against its complement; a mismatch is rewritten as 0 (R422). -/
def State.checkLevel (s : State) (p i : Nat) : State :=
  let r := regulatorRow p i
  let s := s.corrected r 4 (some p) 8 (24 * p + i)
  if s.eccBad r 4 ∨ s.ram (r + 3) ≠ ~~~(s.ram (r + 2)) then
    let s := if s.eccBad r 4 then s.reportRow E.ECC_UNCORRECTED 1 (some p) 8 (24 * p + i) (s.eccWord r 4)
      else s.reportRow E.HUSK 1 (some p) 8 (24 * p + i) 2
    s.setRow r [s.ram r, s.ram (r + 1), 0#32, 0xFFFFFFFF#32]
  else s

/-- Store LEVEL with its complement. -/
def State.setLevel (s : State) (p i : Nat) (v : Int) : State :=
  let r := regulatorRow p i
  let (w, s) := if -(2 ^ 31) ≤ v ∧ v < 2 ^ 31 then (BitVec.ofInt 32 v, s) else s.takeFree
  (s.setRam (r + 2) w).setRam (r + 3) (~~~w)

/-- LEVEL of an account. -/
def State.level (s : State) (p i : Nat) : Int := (s.ram (regulatorRow p i + 2)).toInt

/-- Charge the accounts of a task while REG_EN is 1 (R348). -/
def State.chargeBw (s : State) (p cls ecls c : Nat) : State :=
  if s.rb (Reg.BG_PCFG_REG_EN p) then
    (s.bwCharges cls ecls c).foldl (fun s (x : Nat × Nat) => (s.checkLevel p x.1).setLevel p x.1 ((s.checkLevel p x.1).level p x.1 - x.2)) s
  else s

/-! ### The admission test (R338 to R345) -/

/-- USED of a partition grows by an estimate (R338). -/
def State.addUsed (s : State) (p e : Nat) : State := s.updBg p fun x => { x with used := x.used + e }

/-- What a task's estimate is charged to beside the credit and USED: EST_NJ of the cluster and the partition's accounting (R339, R414, R415). -/
def State.chargeEst (s : State) (p c e bytes : Nat) : State :=
  let sum := (s.bgPart p).estRem + e
  let s := s.updBg p fun x => { x with estRem := sum % 1000 }
  let s := s.acct p 48 (sum / 1000)
  let s := s.acct p 42 (256 * bytes)
  let old := match s.bg.est.find? fun x => x.1 == p && x.2.1 == c with
    | some x => x.2.2
    | none => 0
  { s with bg := { s.bg with est := (p, c, old + e) :: s.bg.est.filter fun x => !(x.1 == p && x.2.1 == c) } }

/-- The pJ that a draw may take for a partition, in its order (R341): its own LENT_LEFT, then that of the others. -/
def State.drawOrder (s : State) (p : Nat) : List Nat :=
  p :: (if s.rb (Reg.BG_PCFG_BORROW_EN p) then (List.range s.build.partitions).filter (· != p) else [])

/-- A draw of a shortfall (R341): all or nothing.  Answers whether it was made; a mismatch found by a draw that is not made is found all the same. -/
def State.draw (s : State) (p : Nat) (short : Int) : State × Bool :=
  let ps := s.drawOrder p
  let s := ps.foldl (fun s q => s.bgCheck q) s
  if (ps.map fun q => s.lentLeft q).foldl (· + ·) 0 < short then (s, false)
  else
    ((ps.foldl (fun (x : State × Int) q =>
      let t := min x.2 (x.1.lentLeft q)
      let s := x.1.setLent q (x.1.lentLeft q - t)
      let s := if q = p then s else s.updBg p fun y => { y with borrowed := y.borrowed + t.toNat }
      (s, x.2 - t)) (s, short)).1, true)

/-- Whether a partition's age slot holds this task. -/
def State.isSlot (s : State) (p node ngen : Nat) : Bool :=
  s.rb (Reg.BG_AGE_SLOT_FULL p) && s.rf (Reg.BG_AGE_NODE p) == node && s.rf (Reg.BG_AGE_NGEN p) == ngen

/-- An energy refusal (R343): it fills an empty slot. -/
def State.refuseEnergy (s : State) (p node ngen : Nat) : State :=
  let s := s.incRf (Reg.BG_REFUSE_E p)
  if s.rb (Reg.BG_AGE_SLOT_FULL p) then s else s.setReg (Reg.BG_AGE_A p) (packW [(0, 1), (4, node), (24, ngen)])

/-- Temperatures are two's complement values of 12 bits. -/
def temp12 (t : Nat) : Int := if t < 2048 then (t : Int) else (t : Int) - 4096

/-- The energy test (R338): the credit after it, or a refusal. -/
def State.energyTest (s : State) (p node ngen e : Nat) : State × Bool :=
  let s := s.bgCheck p
  let cr := s.credit p
  let hold := s.rb (Reg.BG_AGE_HOLD p)
  let mine := s.isSlot p node ngen
  if !s.rb Reg.BG_CTRL_ENERGY_EN then (s.setCredit p (cr - e), true)
  else if hold ∧ !mine then (s.refuseEnergy p node ngen, false)
  else if mine ∧ hold ∧ 1000 * s.rf (Reg.BG_BUDGET_NJ p) < e ∧ 0 < cr then
    let s := (s.setCredit p (cr - e)).incRf (Reg.BG_AGED_ALONE p)
    (s.reportPlain E.BG_ALONE (some p), true)
  else if (e : Int) ≤ cr then (s.setCredit p (cr - e), true)
  else if 0 ≤ cr then
    match s.draw p (e - cr) with
    | (s, true) => (s.setCredit p 0, true)
    | (s, false) => (s.refuseEnergy p node ngen, false)
  else (s.refuseEnergy p node ngen, false)

/-- The admission test (R338). A refusal answers its reason: 0 energy, 1 bandwidth, 2 heat (R508). -/
def State.bgAdmit (s : State) (internal : Bool) (p cls ecls c node ngen : Nat) : State × Option Nat :=
  let e := s.estimate cls ecls c
  let bytes := wget (s.classWord cls ecls 1) 19 0
  if internal then
    let s := s.bgCheck p
    let s := s.setCredit p (s.credit p - e)
    ((s.chargeBw p cls ecls c).chargeEst p c e bytes, none)
  else if s.rb Reg.BG_TEMP_STOP_EN ∧ temp12 (s.rf Reg.BG_TEMP_TEMP_STOP) ≤ temp12 (s.rf (Reg.BG_TEMP_NOW_TEMP c)) then
    let s := s.incRf (Reg.BG_REFUSE_HOT p)
    (if s.inEpisode E.BG_HOT.code c then s else (s.openEpisode E.BG_HOT.code c).reportPlain E.BG_HOT (some p), some 2)
  else
    let accts := if s.rb (Reg.BG_PCFG_REG_EN p) then s.bwCharges cls ecls c else []
    let s := accts.foldl (fun s x => s.checkLevel p x.1) s
    if accts.any fun x => decide (s.level p x.1 ≤ 0) then (s.incRf (Reg.BG_REFUSE_BW p), some 1)
    else
      let aged := s.rb (Reg.BG_AGE_HOLD p) && s.isSlot p node ngen
      match s.energyTest p node ngen e with
      | (s, false) => (s, some 0)
      | (s, true) =>
        let s := if aged then s.incRf (Reg.BG_AGED p) else s
        (((s.chargeBw p cls ecls c).addUsed p e).chargeEst p c e bytes, none)

end Sys2Proof.Machine
end

