-- ==== Sys2Proof/Machine/Acct.lean ====
section
/-! DEFINITION. Accounting records (R416, R417). -/

namespace Sys2Proof.Machine

/-- The words of an accounting entry that are 64-bit accumulators (R416): by their low word. -/
def acctCounters : List Nat := (List.range 26).map fun i => 8 + 2 * i

/-- The Global Count of budget-epoch boundary `k`. -/
def State.boundaryGc (s : State) (k : Nat) : Nat := k * (1000 * s.rf Reg.BG_CTRL_EPOCH_US)

/-- The record of a partition, but for LATE and SEQ, which it gets when it is written. -/
def State.acctRecord (s : State) (p : Nat) (final : Bool) : List Word :=
  let ws := (List.range 64).map fun w => s.acctWord p w
  let e := s.boundaryGc s.bg.epochNo
  ((ws.set 0 (packW [(0, 1), (8, p), (12, b2n final), (13, b2n (s.locked p))])).set 6 (BitVec.ofNat 32 e)).set 7 (BitVec.ofNat 32 (e / 2 ^ 32))

/-- Clear the accumulators of a partition. -/
def State.acctClear (s : State) (p : Nat) : State := s.setRow (acctRow p) (zeros 64)

/-- A due record is not written (R417): the accumulators keep running, and the next one carries LATE. -/
def State.acctLate (s : State) (p : Nat) (e : Err) : State :=
  let s := s.incRf (Reg.PAU_ACCT_STAT_LATE p)
  let s := s.setRf (Reg.PAU_ACCT_STAT_CODE p) e.code
  let s := { s with pau := { s.pau with late := if s.pau.late.contains p then s.pau.late else p :: s.pau.late } }
  if e = E.ACCT_WRITE then s.reportPlain e (some p)
  else if s.inEpisode e.code p then s
  else (s.openEpisode e.code p).reportPlain e (some p)

/-- Add the counts of a record that was not written back to the accumulators. -/
def State.acctBack (s : State) (p : Nat) (ws : List Word) : State :=
  let s := acctCounters.foldl (fun s w =>
    if w = 54 then s.setRam64 (acctRow p + w) ((s.ram64 (acctRow p + w) + wide ws w) % 2 ^ 64) else s.acct p w (wide ws w)) s
  let s := s.setRam (acctRow p + 1) (BitVec.ofNat 32 ((s.ram (acctRow p + 1)).toNat + (wordAt ws 1).toNat))
  s.setRam64 (acctRow p + 4) (wide ws 4)

/-- A record with the counts of an earlier one that was not written (R417): it covers the epochs of both. -/
def acctMerge (x y : List Word) : List Word :=
  let ws := acctCounters.foldl (fun ws w =>
    let v := if w = 54 then (wide x w + wide y w) % 2 ^ 64 else min (wide x w + wide y w) (2 ^ 64 - 1)
    (ws.set w (BitVec.ofNat 32 v)).set (w + 1) (BitVec.ofNat 32 (v / 2 ^ 32))) y
  ((ws.set 1 (wordAt x 1 + wordAt y 1)).set 4 (wordAt x 4)).set 5 (wordAt x 5)

/-- The state with the records of a partition that are out or wait to be written; the first of them is the one that is out. -/
def State.setAcctOut (s : State) (p : Nat) (rs : List (List Word)) : State :=
  { s with pau := { s.pau with acctOut := (s.pau.acctOut.filter fun x => x.1 != p) ++ rs.map fun ws => (p, ws) } }

/-- The records of a partition that are out or wait to be written. -/
def State.acctOutOf (s : State) (p : Nat) : List (List Word) := (s.pau.acctOut.filter fun x => x.1 == p).map (·.2)

/-- Write the first record of a partition (R417).  While the ring is full no record of it is written: their counts go back. -/
def State.acctSend (s : State) (p : Nat) : State :=
  match s.acctOutOf p with
  | [] => s
  | ws :: rest =>
    let tail := s.rf (Reg.PAU_ACCT_TAIL p)
    let size := 2 ^ s.rf (Reg.PAU_ACCT_BASE_HI_ACCT_LOG2 p)
    if (2 ^ 32 + tail - s.rf (Reg.PAU_ACCT_HEAD p)) % 2 ^ 32 = size then
      (ws :: rest).reverse.foldl (fun s x => (s.acctBack p x).acctLate p E.ACCT_LATE) (s.setAcctOut p [])
    else
      let s := s.closeEpisode E.ACCT_LATE.code p
      let ws := ((ws.set 0 (wput (wordAt ws 0) 14 14 (b2n (s.pau.late.contains p)))).set 2 (BitVec.ofNat 32 tail)).set 3 0#32
      let a := 2 ^ 8 * s.rf (Reg.PAU_ACCT_BASE_LO p) + 2 ^ 32 * s.rf (Reg.PAU_ACCT_BASE_HI p)
      ((s.setAcctOut p (ws :: rest)).mmWrite ((a + 256 * (tail % size)) % 2 ^ 52) ws p 1 9 (.acct p (bit (wordAt ws 0).toNat 12))).1

/-- The record of a partition is due (R417): its counts leave the accumulators.  It is written once every earlier one has been answered. -/
def State.acctWrite (s : State) (p : Nat) (final : Bool) : State :=
  let rs := s.acctOutOf p
  let ws := s.acctRecord p final
  let s := (s.acctClear p).setAcctOut p (rs ++ [ws])
  if rs = [] then s.acctSend p else s

/-- The write of an accounting record has been answered (R417): TAIL passes it, or the next record covers its epochs too. -/
def State.acctAnswered (s : State) (p : Nat) (ok : Bool) : State :=
  match s.acctOutOf p with
  | [] => s
  | ws :: rest =>
    if ok then
      let s := s.setAcctOut p rest
      let s := { s with pau := { s.pau with late := s.pau.late.filter (· != p) } }
      (s.setRf (Reg.PAU_ACCT_TAIL p) ((s.rf (Reg.PAU_ACCT_TAIL p) + 1) % 2 ^ 32)).acctSend p
    else match rest with
      | [] => ((s.setAcctOut p []).acctBack p ws).acctLate p E.ACCT_WRITE
      | y :: more => ((s.setAcctOut p (acctMerge ws y :: more)).acctLate p E.ACCT_WRITE).acctSend p

/-- One cluster's measured energy is attributed (R415).  `meas` is in nJ and `est` lists the pJ of the partitions. -/
def State.attribute (s : State) (c meas : Nat) : State :=
  let est := s.bg.est.filter fun x => x.2.1 == c
  let sum := (est.map fun x => x.2.2).foldl (· + ·) 0
  let share := fun (e : Nat) => if sum = 0 then 0 else meas * e / sum
  let s := est.foldl (fun s x => s.acct x.1 50 (share x.2.2)) s
  let rest := meas - (est.map fun x => share x.2.2).foldl (· + ·) 0
  s.setReg64 Reg.PAU_UNATTR_LO.addr Reg.PAU_UNATTR_HI.addr
    (min (s.reg64 Reg.PAU_UNATTR_LO.addr Reg.PAU_UNATTR_HI.addr + rest) (2 ^ 64 - 1))

/-- A budget epoch has closed for the accounting of a partition: it is counted, and its record is written when due (R416, R417). -/
def State.acctEpoch (s : State) (old p : Nat) : State :=
  let n := s.ram (acctRow p + 1)
  let s := if n = 0#32 then s.setRam64 (acctRow p + 4) (s.boundaryGc old) else s
  let s := s.setRam (acctRow p + 1) (n + 1)
  let k := lookupD s.bg.acctDue p 0 + 1
  let every := s.rf (Reg.PAU_ACCT_EPOCHS p)
  if every = 0 ∨ k < every then { s with bg := { s.bg with acctDue := assocSet s.bg.acctDue p k } }
  else { s with bg := { s.bg with acctDue := assocSet s.bg.acctDue p 0 } }.acctWrite p false

end Sys2Proof.Machine
end

