-- ==== Sys2Proof/Machine/TmplOps.lean ====
section
/-! DEFINITION. Templates (R88 to R97): the checks of a load image (R91), of patch records (R93) and of a handle (R97); the commit of a
generation; the end of a load or patch. -/

namespace Sys2Proof.Machine

/-! ### Load images (R90, R91) -/

/-- A load image without its header: the counts, the sink, and the words of the nodes and of the edges. -/
structure Image where
  nodes : Nat
  edges : Nat
  roots : Nat
  sink : Nat
  nodeWords : List Word
  edgeWords : List Word
deriving DecidableEq, Repr

/-- A field of node `i`. -/
def Image.nd (m : Image) (i : Nat) (f : Fld) : Nat := wget (wordAt m.nodeWords (8 * i + f.w)) f.hi f.lo
/-- A field of edge `j`. -/
def Image.ed (m : Image) (j : Nat) (f : Fld) : Nat := wget (wordAt m.edgeWords (2 * j + f.w)) f.hi f.lo
/-- The edges of the successor range of node `i` (R83). -/
def Image.succ (m : Image) (i : Nat) : List Nat := (List.range (m.nd i Nd.SUCC_COUNT)).map (· + m.nd i Nd.SUCC_BASE)
/-- The local successors of node `i`. -/
def Image.locals (m : Image) (i : Nat) : List Nat :=
  ((m.succ i).filter fun j => m.ed j Ed.TYPE == 0).map fun j => m.ed j Ed.TARGET

/-- Check 1 as far as the header goes: FORMAT, the counts and the reserved words (R90, R24). -/
def headerOk (b : Build) (h : List Word) : Bool :=
  let n := fld h Img.NODE_COUNT
  decide (fld h Img.FORMAT = 1) && decide (1 ≤ n) && decide (n ≤ b.nodes / 4) && decide (fld h Img.EDGE_COUNT ≤ b.nodes) &&
    decide (1 ≤ fld h Img.ROOT_COUNT) && decide (fld h Img.ROOT_COUNT ≤ n) && (List.range 11).all fun i => rsvd h (5 + i) 31 0

/-- The reserved fields of the node images and edge images are 0 (check 1): TARGET_DEV and TAG are 0 in an edge that is not remote
(R85). -/
def Image.rsvdOk (m : Image) : Bool :=
  ((List.range m.nodes).all fun i =>
    m.nd i ⟨0, 15, 15⟩ == 0 && m.nd i ⟨0, 31, 29⟩ == 0 && m.nd i ⟨2, 31, 22⟩ == 0 && m.nd i ⟨3, 31, 22⟩ == 0 && m.nd i ⟨6, 31, 24⟩ == 0) &&
  ((List.range m.edges).all fun j =>
    m.ed j ⟨0, 31, 22⟩ == 0 && (m.ed j Ed.TYPE == 1 || (m.ed j Ed.TARGET_DEV == 0 && m.ed j Ed.TAG == 0)))

/-- Check 3: exactly the node named by SINK is the sink, without a successor, and every other node has one. -/
def Image.sinkOk (m : Image) : Bool :=
  decide (m.sink < m.nodes) &&
    (List.range m.nodes).all fun i =>
      (m.nd i Nd.SINK == b2n (i == m.sink)) && (if i = m.sink then m.nd i Nd.SUCC_COUNT == 0 else m.nd i Nd.SUCC_COUNT != 0)

/-- Check 5 on edge `j`, for a load by partition `p`. -/
def State.edgeOk (s : State) (p : Nat) (m : Image) (j : Nat) : Bool :=
  m.ed j Ed.AMOUNT != 0 && (match m.ed j Ed.TYPE with
    | 0 => decide (m.ed j Ed.TARGET < m.nodes)
    | 1 => m.ed j Ed.TARGET_DEV != s.self
    | 2 => m.ed j Ed.TARGET / 2 ^ 16 == 0 && s.semOf (m.ed j Ed.TARGET) p
    | _ => false)

/-- Check 6 on node `i`. -/
def Image.levelOk (m : Image) (i : Nat) : Bool :=
  decide (m.nd i Nd.LEVEL ≤ 5) && decide (m.nd i Nd.ACQ_SCOPE ≤ 2) && (m.nd i Nd.JOIN == 1 || m.nd i Nd.CLASS != 7)

/-- The fan-in of a node (R87). -/
def Image.fanIn (m : Image) (i : Nat) : Nat :=
  (List.range m.edges).foldl (fun a j => if m.ed j Ed.TYPE = 0 ∧ m.ed j Ed.TARGET = i then a + m.ed j Ed.AMOUNT else a) 0

/-- The nodes of `r` with a local edge to a node of `r`, as often as `k` says: what is left after as many rounds as there are nodes lies
on a cycle or leads to one. -/
def Image.onCycle (m : Image) : Nat → List Nat → List Nat
  | 0, r => r
  | k + 1, r => Image.onCycle m k (r.filter fun i => (m.locals i).any r.contains)

/-- The nodes with a path of at most `k` local edges into `t`. -/
def Image.reach (m : Image) : Nat → List Nat → List Nat
  | 0, t => t
  | k + 1, t => Image.reach m k ((List.range m.nodes).filter fun i => t.contains i || (m.locals i).any t.contains)

/-- The number of the first check of R91 that fails, or 0.  `hdr`: whether the header passes check 1. -/
def State.imageCheck (s : State) (p : Nat) (hdr : Bool) (m : Image) : Nat :=
  let ns := List.range m.nodes
  if !(hdr && m.rsvdOk) then 1
  else if !ns.all (fun i => (m.nd i Nd.DEP_COUNT == 0) == decide (i < m.roots)) then 2
  else if !m.sinkOk then 3
  else if !ns.all (fun i => m.nd i Nd.SUCC_COUNT == 0 || decide (m.nd i Nd.SUCC_BASE + m.nd i Nd.SUCC_COUNT ≤ m.edges)) then 4
  else if !(List.range m.edges).all (s.edgeOk p m) then 5
  else if !ns.all m.levelOk then 6
  else if !ns.all (fun i => decide (m.fanIn i ≤ m.nd i Nd.DEP_COUNT)) then 7
  else if m.onCycle m.nodes ns ≠ [] ∨ (m.reach m.nodes [m.sink]).length ≠ m.nodes then 8
  else 0

/-- The image that the words of a load make: header, nodes, edges (R90). -/
def imageOf (ws : List Word) : Image :=
  let n := fld ws Img.NODE_COUNT
  let e := fld ws Img.EDGE_COUNT
  ⟨n, e, fld ws Img.ROOT_COUNT, fld ws Img.SINK, (ws.drop 16).take (8 * n), (ws.drop (16 + 8 * n)).take (2 * e)⟩

/-- The image of a generation that stands in the template region. -/
def State.genImage (s : State) (nodeBase nodes edgeBase edges roots sink : Nat) : Image :=
  ⟨nodes, edges, roots, sink, s.row (nodeRow nodeBase) (8 * nodes), s.row (edgeRow edgeBase) (2 * edges)⟩

/-- The words of an image that the PAU hashes (R408): the GS's own fields are 0. -/
def Image.hashed (m : Image) : List Word :=
  ((List.range (8 * m.nodes)).map fun k =>
    let w := wordAt m.nodeWords k
    match k % 8 with
    | 0 => wput (wput (wput w 3 0 0) 14 11 0) 23 16 0
    | 1 => wput w 23 12 0
    | 3 => wput w 21 0 0
    | 4 => wput w 23 12 0
    | 6 => wput (wput w 11 0 0) 23 12 0
    | _ => w) ++ m.edgeWords

/-! ### Template Directory, handles and the retire list -/

/-- A field of a Template Directory entry. -/
def State.dir (s : State) (i : Nat) (f : Fld) : Nat := s.rm (dirRow i) f

/-- The template index that a handle names for partition `p`, or ERR_TMPL_HANDLE or ERR_TMPL_STALE (R97). -/
def State.tmplOf (s : State) (h p : Nat) : Except Err Nat :=
  let i := hIdx h
  if s.build.tmpls ≤ i ∨ s.dir i Dir.STATE < 2 ∨ s.dir i Dir.PART ≠ p then .error E.TMPL_HANDLE
  else if hGen h = s.dir i Dir.GEN then .ok i
  else if newer 12 (s.dir i Dir.GEN) (hGen h) then .error E.TMPL_STALE
  else .error E.TMPL_HANDLE

/-- Whether the current generation of a template index is damaged (R422). -/
def State.tmplDamaged (s : State) (i : Nat) : Bool :=
  s.eccBad (dirRow i) 8 || (match s.gen? i (s.dir i Dir.GEN) with
    | some g => g.damaged
    | none => false)

/-- The handle of a template that LAUNCH_GRAPH, LAUNCH_AT or PATCH_TEMPLATE names: as R97 says, and not damaged (R422). -/
def State.tmplUse (s : State) (h p : Nat) : Except Err Nat :=
  match s.tmplOf h p with
  | .error e => .error e
  | .ok i => if s.tmplDamaged i then .error E.TMPL_DAMAGED else .ok i

/-- Entries of the retire list in use or reserved (R96). -/
def State.retireUsed (s : State) : Nat := (s.gs.gens.filter (·.retired)).length + (s.gs.jobs.filter (·.reserved)).length

/-- A generation whose row fails its check is damaged (R422): its queued or running instantiations are killed, without a replay: the error is not on
their own nodes or edges (R445). -/
def State.damageGen (s : State) (tmpl gen : Nat) (e : Err) (part idx word : Nat) : State :=
  let s := s.reportRow e 2 (some part) 2 idx word
  let s := s.updGen tmpl gen fun g => { g with damaged := true }
  (s.gs.launches.filter fun l => l.opNode.isNone && l.tmpl == tmpl && l.gen == gen).foldl (fun s l => s.killLaunch l.slot e.code true) s

/-- A unit reads a Template Directory entry (R422): when a word of it is uncorrectable its current generation is damaged. -/
def State.dirRead (s : State) (i : Nat) : State :=
  let p := some (s.dir i Dir.PART)
  let s := s.corrected (dirRow i) 8 p 2 i
  match s.gen? i (s.dir i Dir.GEN) with
  | some g => if !g.damaged ∧ s.eccBad (dirRow i) 8 then s.damageGen i g.gen E.ECC_UNCORRECTED g.part i (s.eccWord (dirRow i) 8) else s
  | none => s

/-- The GS reads the rows of a generation for a copy: single-bit errors are corrected. -/
def State.genRead (s : State) (g : Gen) : State :=
  let s := (List.range g.nodeCount).foldl (fun s i => s.corrected (nodeRow (g.nodeBase + i)) 8 (some g.part) 2 (g.nodeBase + i)) s
  (List.range g.edgeCount).foldl (fun s j => s.corrected (edgeRow (g.edgeBase + j)) 2 (some g.part) 2 (g.edgeBase + j)) s

/-- The first row of a generation that fails its check: the error, the index of the row, and the offset of the failing word. -/
def State.genBad (s : State) (g : Gen) : Option (Err × Nat × Nat) :=
  match (List.range g.nodeCount).findSome? fun i => (s.nodeBad (g.nodeBase + i)).map fun x => (x.1, g.nodeBase + i, x.2) with
  | some x => some x
  | none => (List.range g.edgeCount).findSome? fun j =>
      if s.eccBad (edgeRow (g.edgeBase + j)) 2 then
        some (E.ECC_UNCORRECTED, g.edgeBase + j, s.eccWord (edgeRow (g.edgeBase + j)) 2)
      else none

/-! ### Loads and patches -/

/-- A directory entry becomes FREE: it keeps GEN, and the rest is 0 (notes/assumptions/31.md). -/
def State.freeDir (s : State) (i : Nat) : State := s.setRow (dirRow i) (mkRec 8 [(Dir.GEN, s.dir i Dir.GEN)])

/-- The load or patch of a queue. -/
def State.tmplJob? (s : State) (c q : Nat) : Option TmplJob := s.gs.jobs.find? fun j => j.ctx == c && j.q == q

/-- The state with it changed. -/
def State.updTmplJob (s : State) (c q : Nat) (f : TmplJob → TmplJob) : State :=
  { s with gs := { s.gs with jobs := s.gs.jobs.map fun j => if j.ctx == c && j.q == q then f j else j } }

/-- A load or patch of a queue ends without a commit: a load returns its index to FREE with its GEN (R92); a patch releases its new
extents and its reservation (R94, R96), and the entry no longer reads PATCHING. -/
def State.dropTmplJob (s : State) (c q : Nat) : State :=
  match s.tmplJob? c q with
  | none => s
  | some j =>
    let p := s.dir j.tmpl Dir.PART
    let s := { s with gs := { s.gs with jobs := s.gs.jobs.filter (fun x => !(x.ctx == c && x.q == q)),
                                        pipe := s.gs.pipe.filter (· != PipeReq.patch c q) } }
    if j.patch then
      let s := if j.reserved then s.releaseTmpl p j.nodeBase j.nodeCount j.edgeBase j.edgeCount else s
      if j.reserved ∧ s.dir j.tmpl Dir.STATE = 3 then s.setRm (dirRow j.tmpl) Dir.STATE 2 else s
    else s.freeDir j.tmpl

/-- Refuse the load or patch of a queue. -/
def State.refuseTmpl (s : State) (c q : Nat) (pkt : List Word) (e : Err) (result : Nat := 0) : State :=
  (s.dropTmplJob c q).refuse c q pkt e result

/-- Allocate template extents for a generation, charging the quota (R92, R94): the quota is tested first, then the space. -/
def State.allocTmpl (s : State) (p nodes edges : Nat) : Except Err (State × Nat × Nat) :=
  let n := roundUp nodes 64
  let e := roundUp edges 256
  if s.rf (Reg.GS_QUOTA_TMPL p) < s.rf (Reg.GS_USE_TMPL p) + n / 64 then .error E.QUOTA
  else match extFit 0 s.tmplNodeEnd n s.gs.tmplNodes, extFit 0 s.tmplEdgeEnd e s.gs.tmplEdges with
    | some a, some b =>
      let s := { s with gs := { s.gs with tmplNodes := extAdd s.gs.tmplNodes a n, tmplEdges := extAdd s.gs.tmplEdges b e } }
      .ok (s.setRf (Reg.GS_USE_TMPL p) (s.rf (Reg.GS_USE_TMPL p) + n / 64), a, b)
    | _, _ => .error E.TMPL_NO_SPACE

/-- Write the nodes and edges of an image into template extents (R92, R94): the GS computes its own fields, DEP_INIT being 0 in a template node
(notes/assumptions/32.md), and NGEN rises by one. -/
def State.writeImage (s : State) (p nodeBase edgeBase st : Nat) (m : Image) : State :=
  let s := (List.range m.nodes).foldl (fun s i =>
    let n := nodeBase + i
    let g := (s.nd n Nd.NGEN + 1) % 256
    let w := fun k => wordAt m.nodeWords (8 * i + k)
    s.setRow (nodeRow n)
      [wput (wput (wput (w 0) 3 0 st) 14 11 p) 23 16 g, wput (w 1) 23 12 (4095 - m.nd i Nd.DEP_COUNT), w 2,
       wput (w 3) 21 0 (2 ^ 22 - 1 - m.nd i Nd.SUCC_BASE), wput (w 4) 23 12 (4095 - m.nd i Nd.SUCC_COUNT), w 5,
       wput (wput (w 6) 11 0 0) 23 12 0, w 7]) s
  (List.range m.edges).foldl (fun s j => s.setRow (edgeRow (edgeBase + j)) [wordAt m.edgeWords (2 * j), wordAt m.edgeWords (2 * j + 1)]) s

/-- Commit a generation (R92, R94): the directory entry takes it as current, a template extend is queued (R408), and the command of the
queue completes with the handle. -/
def State.commitTmpl (s : State) (c q : Nat) (pkt : List Word) (patch : Bool) (i p nodeBase edgeBase : Nat) (m : Image) : State :=
  let g := (s.dir i Dir.GEN + 1) % 4096
  let s := s.setRow (dirRow i) (mkRec 8 [(Dir.STATE, 2), (Dir.PART, p), (Dir.GEN, g), (Dir.NODE_BASE, nodeBase), (Dir.NODE_COUNT, m.nodes),
    (Dir.EDGE_BASE, edgeBase), (Dir.EDGE_COUNT, m.edges), (Dir.SINK, m.sink), (Dir.ROOT_COUNT, m.roots)])
  let x : TmplExtend := ⟨p, mkHandle g i, patch, m.nodes, m.edges, m.hashed⟩
  let s := { s with gs := { s.gs with gens := s.gs.gens ++ [(⟨i, g, p, nodeBase, m.nodes, edgeBase, m.edges, m.sink, m.roots, 0, false, false⟩ : Gen)],
                                      jobs := s.gs.jobs.filter fun x => !(x.ctx == c && x.q == q) },
                    pau := { s.pau with tmplQ := s.pau.tmplQ ++ [x] } }
  s.finishHead c q pkt 0 (mkHandle g i)

/-- The current generation of an index moves to the retire list (R94, R97), and is freed at once without a reader (R95). -/
def State.retireGen (s : State) (i : Nat) : State :=
  let g := s.dir i Dir.GEN
  (s.updGen i g fun x => { x with retired := true }).tryFreeGen i g

/-- One record of a patch list. -/
def patchRec (ws : List Word) (k : Nat) : List Word := (ws.drop (4 * k)).take 4

/-- Whether a patch record passes R93 for a template of these counts. -/
def patchRecOk (r : List Word) (nodes edges : Nat) : Bool :=
  let node := fld r Pat.KIND == 0
  let w := fld r Pat.WORD
  let no := fun hi lo => rsvd r 1 hi lo
  decide (fld r Pat.KIND ≤ 1) && rsvd r 0 31 25 && rsvd r 3 31 0 &&
    decide (fld r Pat.INDEX < if node then nodes else edges) && (node || decide (w ≤ 1)) &&
    (!node || (match w with
      | 0 => no 3 0 && no 14 11 && no 23 16
      | 1 => no 23 12
      | 3 => no 31 0
      | 4 => no 23 12
      | 6 => no 31 0
      | _ => true))

/-- Apply one patch record to an image (R93). -/
def Image.patch (m : Image) (r : List Word) : Image :=
  let put := fun (l : List Word) (k : Nat) => l.set k ((wordAt l k &&& ~~~(wordAt r 1)) ||| (wordAt r 2 &&& wordAt r 1))
  if fld r Pat.KIND = 0 then { m with nodeWords := put m.nodeWords (8 * fld r Pat.INDEX + fld r Pat.WORD) }
  else { m with edgeWords := put m.edgeWords (2 * fld r Pat.INDEX + fld r Pat.WORD) }

/-- The copy of a patch ends (R94 step 3): the current generation as patched stands in the new extents. -/
def State.copyPatch (s : State) (c q : Nat) : State :=
  match s.tmplJob? c q with
  | none => s
  | some j =>
    match s.gen? j.tmpl (s.dir j.tmpl Dir.GEN) with
    | none => s
    | some g =>
      let s := s.genRead g
      match s.genBad g with
      | some (e, k, w) =>
        (s.damageGen g.tmpl g.gen e g.part k w).updTmplJob c q fun j => { j with phase := .copied }
      | none =>
        let m := s.genImage g.nodeBase g.nodeCount g.edgeBase g.edgeCount g.rootCount g.sink
        let m := (List.range (j.words.length / 4)).foldl (fun m k => m.patch (patchRec j.words k)) m
        (s.writeImage g.part j.nodeBase j.edgeBase 0 m).updTmplJob c q fun j => { j with phase := .copied }

/-- The answer of a load or patch read (R92, R94): a failure refuses the command with ERR_TMPL_READ; a header that fails check 1
refuses the load, else the rest of the image is read. -/
def State.tmplData (s : State) (c q : Nat) (pkt : List Word) (ok : Bool) (ws : List Word) : State :=
  match s.tmplJob? c q with
  | none => s
  | some j =>
    if !ok then s.refuseTmpl c q pkt E.TMPL_READ
    else if j.patch then
      s.updTmplJob c q fun j => { j with phase := .read, words := (ws.drop (addr52 pkt 2 % 64 / 4)).take (4 * pf pkt 4 16 0) }
    else if j.phase = .header then
      let h := ws.take 16
      if !headerOk s.build h then s.refuseTmpl c q pkt E.TMPL_INVALID (2 ^ 32)
      else
        let s := s.updTmplJob c q fun j => { j with phase := .reading, words := h, nodeCount := fld h Img.NODE_COUNT, edgeCount := fld h Img.EDGE_COUNT }
        let n := ceilDiv (32 * fld h Img.NODE_COUNT + 8 * fld h Img.EDGE_COUNT) 64
        (s.mmRead (addr52 pkt 2 + 64) n (s.ctx c).part 1 1 (.tmplLoad c q)).1
    else s.updTmplJob c q fun j => { j with phase := .read, words := j.words ++ ws }

end Sys2Proof.Machine
end

