-- ==== Sys2Proof/Machine/Template.lean ====
section
/-! DEFINITION. The template commands (R92 to R97) as the Thresher carries them out for the packet of a queue. -/

namespace Sys2Proof.Machine

/-- The slow-queue entry of a queue. -/
def State.slow? (s : State) (c q : Nat) : Option Slow := s.fe.slow.find? fun e => e.ctx == c && e.q == q

/-- The packet of the Thresher command of a queue that the processor is carrying out, if it has opcode `op`. -/
def State.slowRun (s : State) (c q op : Nat) : Option (List Word) :=
  match s.slow? c q with
  | some e => if e.phase = .running ∧ pf e.pkt 0 7 0 = op then some e.pkt else none
  | none => none

/-- The packet of the Thresher command of a queue that has started, if it has opcode `op`: the processor carries it out, or it waits on another unit. -/
def State.slowHeld (s : State) (c q op : Nat) : Option (List Word) :=
  match s.slow? c q with
  | some e => if e.phase ≠ .queued ∧ pf e.pkt 0 7 0 = op then some e.pkt else none
  | none => none

/-- The packet of the Thresher command of a queue that has started, whether it waits on another unit or not. -/
def State.slowPkt (s : State) (c q : Nat) : List Word :=
  match s.slow? c q with
  | some e => e.pkt
  | none => []

/-- A command has handed its remaining work to another unit: it releases the processor (R516). -/
def State.slowAway (s : State) (c q : Nat) : State :=
  { s with fe := { s.fe with slow := s.fe.slow.map fun e => if e.ctx == c && e.q == q then { e with phase := .waiting } else e } }

/-- A new load or patch. -/
def TmplJob.start (c q : Nat) (patch : Bool) (i g : Nat) : TmplJob :=
  ⟨c, q, patch, i, g, [], 0, 0, 0, 0, false, if patch then .reading else .header⟩

/-- LOAD_TEMPLATE (R92): the lowest FREE index is taken as LOADING and the header is read; without a FREE index the command is refused. -/
def execLoadTemplate (c q : Nat) (s : State) : Host.Outcome State Fault Refusal :=
  match s.slowRun c q 0x20 with
  | none => .next s
  | some pkt =>
    match (List.range s.build.tmpls).find? fun i => s.dir i Dir.STATE == 0 with
    | none => .next (s.refuse c q pkt E.TMPL_NO_SPACE)
    | some i =>
      let p := (s.ctx c).part
      let s := (s.setRm (dirRow i) Dir.PART p).setRm (dirRow i) Dir.STATE 1
      let s := ({ s with gs := { s.gs with jobs := s.gs.jobs ++ [TmplJob.start c q false i 0] } }).slowAway c q
      .next (s.mmRead (addr52 pkt 2) 1 p 1 1 (.tmplLoad c q)).1

/-- TEMPLATE_CHECK_DONE (R91, R92): the checks of an image that has arrived end, and the generation is committed or the load is
refused.  While 16 template extends are queued, the commit waits (R408). -/
def execTemplateCheckDone (c q : Nat) (s : State) : Host.Outcome State Fault Refusal :=
  match s.tmplJob? c q with
  | none => .next s
  | some j =>
    let pkt := s.slowPkt c q
    let p := (s.ctx c).part
    let m := imageOf j.words
    if j.patch ∨ j.phase ≠ .read ∨ 16 ≤ s.pau.tmplQ.length then .next s
    else
      let k := s.imageCheck p (headerOk s.build j.words) m
      if k ≠ 0 then .next (s.refuseTmpl c q pkt E.TMPL_INVALID (2 ^ 32 * k))
      else match s.allocTmpl p m.nodes m.edges with
        | .error e => .next (s.refuseTmpl c q pkt e)
        | .ok (s, a, b) => .next ((s.writeImage p a b 1 m).commitTmpl c q pkt false j.tmpl p a b m)

/-- Step 2 of a patch (R94, R96), and step 3 as far as it joins the pipeline (R99). -/
def State.patchGo (s : State) (c q : Nat) (j : TmplJob) (pkt : List Word) (g : Gen) : State :=
  if j.phase = .alloc then
    if 64 ≤ s.gs.pipe.length then s
    else (s.updTmplJob c q fun j => { j with phase := .copying }).pushPipe (.patch c q)
  else if 16 ≤ s.retireUsed then s
  else match s.allocTmpl g.part g.nodeCount g.edgeCount with
    | .error e => s.refuseTmpl c q pkt e
    | .ok (s, a, b) =>
      let s := s.setRm (dirRow j.tmpl) Dir.STATE 3
      let full := decide (64 ≤ s.gs.pipe.length)
      let s := s.updTmplJob c q fun j =>
        { j with reserved := true, nodeBase := a, edgeBase := b, nodeCount := g.nodeCount, edgeCount := g.edgeCount,
                 phase := if full then .alloc else .copying }
      if full then s else s.pushPipe (.patch c q)

/-- PATCH_TEMPLATE (R94): at its start the handle is checked and the list is read; once the list has arrived, its records are checked,
the new extents allocated, and the copy queued, as the retire list and the pipeline have room. -/
def execPatchTemplate (c q : Nat) (s : State) : Host.Outcome State Fault Refusal :=
  let p := (s.ctx c).part
  match s.slowRun c q 0x21 with
  | some pkt =>
    let s := s.dirRead (hIdx (pf pkt 1 31 0))
    match s.tmplUse (pf pkt 1 31 0) p with
    | .error e => .next (s.refuse c q pkt e)
    | .ok i =>
      let s := ({ s with gs := { s.gs with jobs := s.gs.jobs ++ [TmplJob.start c q true i (hGen (pf pkt 1 31 0))] } }).slowAway c q
      let a := addr52 pkt 2
      .next (s.mmRead (a / 64 * 64) (ceilDiv (a % 64 + 16 * pf pkt 4 16 0) 64) p 1 1 (.tmplPatch c q)).1
  | none =>
    match s.tmplJob? c q with
    | none => .next s
    | some j =>
      let pkt := s.slowPkt c q
      if !j.patch ∨ (j.phase ≠ .read ∧ j.phase ≠ .alloc) then .next s
      else match s.tmplUse (pf pkt 1 31 0) p with
        | .error e => .next (s.refuseTmpl c q pkt e)
        | .ok _ =>
          match s.gen? j.tmpl j.gen with
          | none => .next s
          | some g =>
            match (List.range (j.words.length / 4)).find? fun k => !patchRecOk (patchRec j.words k) g.nodeCount g.edgeCount with
            | some k => .next (s.refuseTmpl c q pkt E.PATCH_INVALID (2 ^ 48 * k))
            | none => .next (s.patchGo c q j pkt g)

/-- PATCH_COMMIT (R94 steps 4 and 5): the copied generation is checked; it becomes current and the old one moves to the retire list, or
the new extents are discarded. -/
def execPatchCommit (c q : Nat) (s : State) : Host.Outcome State Fault Refusal :=
  match s.tmplJob? c q with
  | none => .next s
  | some j =>
    let pkt := s.slowPkt c q
    if !j.patch ∨ j.phase ≠ .copied ∨ 16 ≤ s.pau.tmplQ.length then .next s
    else match s.gen? j.tmpl j.gen with
      | none => .next s
      | some g =>
        let m := s.genImage j.nodeBase j.nodeCount j.edgeBase j.edgeCount g.rootCount g.sink
        let k := s.imageCheck g.part true m
        if g.damaged then .next (s.refuseTmpl c q pkt E.TMPL_DAMAGED)
        else if k ≠ 0 then .next (s.refuseTmpl c q pkt E.TMPL_INVALID (2 ^ 32 * k))
        else
          let s := (List.range j.nodeCount).foldl (fun s i => s.setNd (j.nodeBase + i) Nd.STATE 1) s
          let s := s.updTmplJob c q fun j => { j with reserved := false }
          .next ((s.retireGen j.tmpl).commitTmpl c q pkt true j.tmpl g.part j.nodeBase j.edgeBase m)

/-- The patches that a FREE_TEMPLATE abandons (R96): those of the index that wait to start or lie between steps 2 and 5. -/
def State.abandonPatches (s : State) (i : Nat) : State :=
  let js := s.gs.jobs.filter fun j => j.patch && j.tmpl == i && (j.reserved || j.phase == .read)
  let s := js.foldl (fun s j => s.refuseTmpl j.ctx j.q (s.slowPkt j.ctx j.q) E.TMPL_HANDLE) s
  let es := s.fe.slow.filter fun e => e.phase == .queued && pf e.pkt 0 7 0 == 0x21 && hIdx (pf e.pkt 1 31 0) == i &&
    (s.ctx e.ctx).part == s.dir i Dir.PART
  es.foldl (fun s e => s.refuse e.ctx e.q e.pkt E.TMPL_HANDLE) s

/-- FREE_TEMPLATE (R97): the handle becomes invalid at once, the generation moves to the retire list and the index to FREE; it waits while
the retire list has no room (R96). -/
def execFreeTemplate (c q : Nat) (s : State) : Host.Outcome State Fault Refusal :=
  match s.slowRun c q 0x22 with
  | none => .next s
  | some pkt =>
    match s.tmplOf (pf pkt 1 31 0) (s.ctx c).part with
    | .error e => .next (s.refuse c q pkt e)
    | .ok i =>
      if 16 ≤ s.retireUsed then .next s
      else
        let s := (s.abandonPatches i).retireGen i
        .next ((s.freeDir i).finishHead c q pkt 0)

end Sys2Proof.Machine
end

