-- ==== Sys2Proof/Machine/Launch.lean ====
section
/-! DEFINITION. Launches (R98 to R106, R167, R179, R312, R317): a launch packet at the head of its queue, its acceptance, the copy, its
waits, and its release. -/

namespace Sys2Proof.Machine

/-- Whether the CFE consumes packets: it is enabled (R484), and the block does not quiesce (R486). -/
def State.consuming (s : State) : Bool := s.unitEn U.CFE && !s.halted

/-- The packet that a resident head holds and may consume, if it has opcode `op`. -/
def State.headPkt (s : State) (c q op : Nat) : Option (List Word) :=
  match s.head? c q with
  | some h => match h.cur with
    | some x => if s.consuming ∧ pf x.pkt 0 7 0 = op then some x.pkt else none
    | none => none
  | none => none

/-- What a read of the event of a handle finds for a partition: nothing, or the error (R171, R422). -/
def State.eventFault (s : State) (h part : Nat) : Option Err :=
  match s.eventOf h part with
  | .error e => some e
  | .ok ev => s.eventBad ev

/-- Complete the packet at a head with an error found on an event: a damaged event is reported as a row (R422). -/
def State.refuseEvent (s : State) (c q : Nat) (pkt : List Word) (h : Nat) (e : Err) : State :=
  if e = E.EVENT_HANDLE then s.refuse c q pkt e
  else (s.reportRow e 2 (some (s.ctx c).part) 6 (hIdx h) 0).finishHead c q pkt e.code

/-! ### Launch packets (R167) -/

/-- Whether a launch packet is a LAUNCH_OP. -/
def isOp (pkt : List Word) : Bool := pf pkt 0 7 0 == 1
/-- Whether it is a LAUNCH_AT. -/
def isAt (pkt : List Word) : Bool := pf pkt 0 7 0 == 3
/-- NWAIT. -/
def nWait (pkt : List Word) : Nat := pf pkt 0 12 11
/-- The event waits of a launch packet: handles and values. -/
def launchWaits (pkt : List Word) : List (Nat × Nat) :=
  ([(pf pkt 5 31 0, wide pkt 6), (pf pkt 8 31 0, wide pkt 9)] : List (Nat × Nat)).take (nWait pkt)
/-- DONE_EVENT with its AMOUNT, when LREC is 1. -/
def launchDone (pkt : List Word) : Option (Nat × Nat) :=
  if pf pkt 0 13 13 = 1 then some (pf pkt 11 31 0, pf pkt 12 19 0) else none
/-- The remote signal, when RSIG is 1: device, event handle, AMOUNT. -/
def launchSig (pkt : List Word) : Option (Nat × Nat × Nat) :=
  if pf pkt 0 10 10 = 1 then some (pf pkt 12 31 20, pf pkt 13 31 0, pf pkt 12 19 0) else none

/-- What a launch needs of the instance area: nodes and edges, and the template index if it has one, or the error of its handle. -/
def State.launchNeeds (s : State) (pkt : List Word) (p : Nat) : Except Err (Nat × Nat × Option Nat) :=
  if isOp pkt then .ok (1, 0, none)
  else match s.tmplUse (pf pkt 1 31 0) p with
    | .error e => .error e
    | .ok i => .ok (s.dir i Dir.NODE_COUNT, s.dir i Dir.EDGE_COUNT, some i)

/-- Whether a launch of template `i` is bound (R312). -/
def State.isBound (s : State) (p : Nat) (i : Option Nat) : Bool :=
  s.rb (Reg.DR_BIND_BIND_EN p) && i == some (s.rf (Reg.DR_BIND_BIND_TMPL p))

/-- Whether DR_DOMAIN_CMD LEAVE is running (R324). -/
def State.leaving (s : State) : Bool := s.rb Reg.DR_DOMAIN_STATUS_BUSY && s.dr.domCmd != 2

/-- The tests of R98 on a launch's arrival, before it may wait. -/
def State.arrivalTest (s : State) (pkt : List Word) (p : Nat) : Option Err :=
  match s.launchNeeds pkt p with
  | .error e => some e
  | .ok (n, e, i) =>
    let n := roundUp n 64
    if s.rf (Reg.GS_QUOTA_SLOTS p) < 1 ∨ s.rf (Reg.GS_QUOTA_NODES p) < n / 64 then some E.QUOTA
    else if s.instNodeEnd < s.tmplNodeEnd + n ∨ s.instEdgeEnd < s.tmplEdgeEnd + roundUp e 256 then some E.NO_INSTANCE_SPACE
    else if s.isBound p i ∧ s.leaving then some E.REMOTE_DEPARTED
    else none

/-- A launch arrives: behind those of earlier cc, and among those of this cc by the class of its queue, then its context (R98). -/
def arriveAmong : List Waiting → Waiting → List Waiting
  | [], w => [w]
  | x :: ws, w =>
    if x.cc = w.cc ∧ !x.step ∧ (w.q < x.q ∨ (w.q = x.q ∧ w.ctx < x.ctx)) then w :: x :: ws else x :: arriveAmong ws w

/-- A launch packet goes to the GS (R98): its events and its template are checked, then the two tests of R98; it then waits at the head
of its queue. -/
def State.launchArrive (s : State) (c q op : Nat) : State :=
  match s.headPkt c q op with
  | none => s
  | some pkt =>
    let p := (s.ctx c).part
    if s.gs.waiting.any fun w => !w.step && w.ctx == c && w.q == q then s
    else
      let s := if isOp pkt then s else s.dirRead (hIdx (pf pkt 1 31 0))
      let hs := (launchWaits pkt).map (·.1) ++ (launchDone pkt).toList.map (·.1)
      match hs.findSome? fun h => (s.eventFault h p).map fun e => (h, e) with
      | some (h, e) => s.refuseEvent c q pkt h e
      | none =>
        match s.arrivalTest pkt p with
        | some e => s.refuse c q pkt e
        | none =>
          let s := s.blockHead c q none
          { s with gs := { s.gs with waiting := arriveAmong s.gs.waiting ⟨s.cc, c, q, p, false, 0, pkt⟩ } }

/-! ### Acceptance (R98, R100, R105, R106) -/

/-- The slot and the extents that a launch of `n` nodes and `e` edges takes, when every condition of R98 and R99 holds: the lowest free slot, and the
lowest extents that fit (notes/assumptions/29.md). -/
def State.launchPlace (s : State) (p n e : Nat) : Option (Nat × Nat × Nat) :=
  let n := roundUp n 64
  let e := roundUp e 256
  if 64 ≤ s.gs.pipe.length ∨ s.rf (Reg.GS_QUOTA_SLOTS p) < s.rf (Reg.GS_USE_SLOTS p) + 1 ∨
      s.rf (Reg.GS_QUOTA_NODES p) < s.rf (Reg.GS_USE_NODES p) + n / 64 then none
  else match (List.range s.build.slots).find? fun i => !s.live i with
    | none => none
    | some i => match extFit s.tmplNodeEnd s.instNodeEnd n s.gs.instNodes, extFit s.tmplEdgeEnd s.instEdgeEnd e s.gs.instEdges with
      | some a, some b => some (i, a, b)
      | _, _ => none

/-- The cc in which START_GC was reached, when it has been reached by now (R179). -/
def State.startReached (s : State) (g : Nat) : Option Nat :=
  if g ≤ s.now then some (s.cc - (s.now - g) * 33 / 20) else none

/-- A launch is accepted (R98): it takes the slot and its LAUNCH_ID, charges the quotas, counts as a reader of its generation, takes a round
if it is bound, and joins the copy pipeline.  A LAUNCH_OP has TMPL_GEN and TMPL_INDEX 0, and a launch without edges an EDGE_BASE at the start of
the instance area (notes/assumptions/34.md). -/
def State.acceptLaunch (s : State) (w : Waiting) (n e : Nat) (i : Option Nat) (slot nb eb : Nat) : State :=
  let p := w.part
  let id := s.rf (Reg.GS_LAUNCH_ID_NEXT p)
  let gen := match i with
    | some i => s.dir i Dir.GEN
    | none => 0
  let sink := match i with
    | some i => nb + s.dir i Dir.SINK
    | none => nb
  let roots := match i with
    | some i => s.dir i Dir.ROOT_COUNT
    | none => 1
  let bound := s.isBound p i
  let start := if isAt w.pkt then some (wide w.pkt 8) else none
  let l : Launch :=
    { slot := slot, launchId := id, qseq := if w.step then 0 else s.headQseq w.ctx w.q, rep := Rep.ofPkt w.pkt, waits := launchWaits w.pkt,
      serial := pf w.pkt 0 8 8 == 1, startGc := start, reachedCc := start.bind s.startReached, late := false,
      paramRef := if isOp w.pkt then 0 else addr52 w.pkt 2, doneEvent := launchDone w.pkt, rsig := launchSig w.pkt,
      tmpl := i.getD 0, gen := gen, rootCount := roots, opNode := if isOp w.pkt then some w.pkt else none, step := w.step,
      round := if bound then some (s.rf (Reg.DR_ROUND_NEXT p)) else none, copied := false, descSent := false, acceptGc := s.now,
      killCode := 0, killCfe := false, replays := 0, replayPending := false, posted := false, orphan := false, doneStarted := false,
      replied := false, sigFail := 0, lastProgressGc := s.now }
  let s := { s with gs := { s.gs with
    waiting := s.gs.waiting.filter (· != w), launches := s.gs.launches ++ [l],
    instNodes := extAdd s.gs.instNodes nb (roundUp n 64), instEdges := extAdd s.gs.instEdges eb (roundUp e 256) } }
  let s := s.setRow (slotRow slot) (mkRec 16 [(Sl.PART, p), (Sl.TMPL_GEN, gen), (Sl.LAUNCH_ID, id), (Sl.NODE_BASE, nb), (Sl.NODE_COUNT, n),
    (Sl.EDGE_BASE, eb), (Sl.EDGE_COUNT, e), (Sl.TMPL_INDEX, i.getD 0), (Sl.CONTEXT, w.ctx), (Sl.QUEUE, w.q), (Sl.SINK, sink),
    (Sl.STEP_TAG, w.stepTag), (⟨12, 31, 0⟩, lo32 s.now), (⟨13, 31, 0⟩, hi32 s.now)])
  let s := s.setRf (Reg.GS_USE_SLOTS p) (s.rf (Reg.GS_USE_SLOTS p) + 1)
  let s := s.setRf (Reg.GS_USE_NODES p) (s.rf (Reg.GS_USE_NODES p) + roundUp n 64 / 64)
  let s := s.setRf (Reg.GS_LAUNCH_ID_NEXT p) ((id + 1) % 2 ^ 32)
  let s := s.setRf (Reg.GS_LAUNCH_ID_OLDEST p) (s.oldestLaunch p)
  let s := match i with
    | some i => match s.gen? i gen with
      | some g => s.setReaders i gen (g.readers + 1)
      | none => s
    | none => s
  let s := if bound then s.setRf (Reg.DR_ROUND_NEXT p) ((s.rf (Reg.DR_ROUND_NEXT p) + 1) % 2 ^ 32) else s
  let s := (s.setLaunchState slot 1).pushPipe (.launch slot)
  if w.step then s.updStep w.stepTag fun x => { x with slot := some slot } else s.consume w.ctx w.q

/-- A waiting launch is refused: its handle no longer names a current generation, or LEAVE refuses bound launches.  A step launch faults
its stream (R201). -/
def State.refuseWaiting (s : State) (w : Waiting) (e : Err) : State :=
  let s := { s with gs := { s.gs with waiting := s.gs.waiting.filter (· != w) } }
  if w.step then (s.reportPlain e (some w.part)).streamFault w.part E.STEP_LAUNCH 0 false else s.refuse w.ctx w.q w.pkt e

/-- The greatest age of a ROUND of a partition (R393): ROUND_NEXT minus the ROUND of a bound launch that is live. -/
def State.roundAge (s : State) (p : Nat) : Nat :=
  ((s.gs.launches.filter fun l => s.sl l.slot Sl.PART == p).map fun l => match l.round with
    | some r => (2 ^ 32 + s.rf (Reg.DR_ROUND_NEXT p) - r % 2 ^ 32) % 2 ^ 32
    | none => 0).foldl max 0

/-- Try one waiting launch.  Answers whether it has been accepted or refused. -/
def State.tryLaunch (s : State) (w : Waiting) : State × Bool :=
  match s.launchNeeds w.pkt w.part with
  | .error e => (s.refuseWaiting w e, true)
  | .ok (n, e, i) =>
    if s.isBound w.part i ∧ s.leaving then (s.refuseWaiting w E.REMOTE_DEPARTED, true)
    else if s.isBound w.part i ∧ s.inEpisode E.TAG_WINDOW.code (windowKey 1 w.part) ∧ tagWindow ≤ s.roundAge w.part then (s, false)
    else if s.windowShut w.part then
      if s.inEpisode E.LAUNCH_ID_WINDOW.code w.part then (s, false)
      else ((s.openEpisode E.LAUNCH_ID_WINDOW.code w.part).reportPlain E.LAUNCH_ID_WINDOW (some w.part), false)
    else match s.launchPlace w.part n e with
      | none => (s, false)
      | some (slot, a, b) => (s.acceptLaunch w n e i slot a b, true)

/-- The oldest waiting launch of each partition, in arrival order (R98). -/
def oldestOfParts : List Nat → List Waiting → List Waiting
  | _, [] => []
  | seen, w :: ws => if seen.contains w.part then oldestOfParts seen ws else w :: oldestOfParts (w.part :: seen) ws

/-! ### The copy (R99, R317) -/

/-- One instance node, copied from template node `t` to `n` (R99), at the level of R98. -/
def State.copyNode (s : State) (slot level t n edgeBase : Nat) : State :=
  let p := s.sl slot Sl.PART
  let w := fun k => s.ram (nodeRow t + k)
  let dep := s.nd t Nd.DEP_COUNT
  let lev := if s.nd t Nd.LEVEL_PIN = 1 then max (s.nd t Nd.LEVEL) level else level
  let base := (s.nd t Nd.SUCC_BASE + edgeBase) % 2 ^ 22
  let g := (s.nd n Nd.NGEN + 1) % 256
  s.setRow (nodeRow n)
    [wput (wput (wput (wput (w 0) 3 0 (if dep = 0 then 2 else 3)) 10 8 lev) 14 11 p) 23 16 g,
     wput (w 1) 23 12 (4095 - dep), wput (w 2) 21 0 base, wput (w 3) 21 0 (2 ^ 22 - 1 - base),
     wput (w 4) 23 12 (4095 - s.nd t Nd.SUCC_COUNT), w 5, wput (wput (w 6) 11 0 slot) 23 12 dep, w 7]

/-- One instance edge: a local target is rebased (R86, R99). -/
def State.copyEdge (s : State) (t e nodeBase : Nat) : State :=
  let w0 := s.ram (edgeRow t)
  s.setRow (edgeRow e)
    [if wget w0 1 0 = 0 then wput w0 21 2 ((wget w0 21 2 + nodeBase) % 2 ^ 20) else w0, s.ram (edgeRow t + 1)]

/-- The node of a LAUNCH_OP (R167): root and sink. -/
def State.copyOp (s : State) (slot : Nat) (pkt : List Word) : State :=
  let n := s.sl slot Sl.NODE_BASE
  let b := s.sl slot Sl.EDGE_BASE
  s.setRow (nodeRow n) (mkRec 8 [(Nd.STATE, 2), (Nd.CLASS, pf pkt 1 3 0), (Nd.LEVEL, s.sl slot Sl.QUEUE), (Nd.PART, s.sl slot Sl.PART),
    (Nd.NGEN, (s.nd n Nd.NGEN + 1) % 256), (Nd.SINK, 1), (Nd.DEP_COUNT_N, 4095), (Nd.ENERGY_CLASS, pf pkt 1 9 4),
    (Nd.ACQ_SCOPE, pf pkt 1 11 10), (Nd.SUCC_BASE, b), (Nd.SUCC_BASE_N, 2 ^ 22 - 1 - b), (Nd.SUCC_COUNT_N, 4095),
    (Nd.SAVE_SET, pf pkt 1 19 12), (Nd.OP_INDEX, pf pkt 2 31 0), (Nd.LAUNCH_SLOT, slot)])

/-- Apply the early-store entries of a bound launch, in ascending TARGET order, and free them (R317). -/
def State.applyEarly (s : State) (slot p round : Nat) : State :=
  let mine := fun (e : Early) => e.part == p && e.round == round
  let es := s.dr.early.filter mine
  let s := { s with dr := { s.dr with early := s.dr.early.filter fun e => !mine e } }
  let n := s.sl slot Sl.NODE_COUNT
  let s := if es.any fun e => !e.bad && decide (n ≤ e.target) then s.killWith slot E.REMOTE_TARGET 0 else s
  ((List.range n).flatMap fun t => es.filter fun e => e.target == t).foldl (fun s e =>
    if e.bad then s.reportRow E.ECC_UNCORRECTED 2 (some p) 12 0 0
    else if s.sl slot Sl.STATE = 1 then s.decrement (s.sl slot Sl.NODE_BASE + e.target) e.amount 1 else s) s

/-- A bound launch takes the decrements that arrived before its copy (R317). -/
def State.copyEarly (s : State) (slot : Nat) (l : Launch) : State :=
  match l.round with
  | some r => s.applyEarly slot (s.sl slot Sl.PART) r
  | none => s

/-- A launch that is still INSTANTIATING becomes GATED or RUNNING (R99). -/
def State.copyEnd (s : State) (slot : Nat) : State := if s.sl slot Sl.STATE = 1 then s.afterCopy slot else s

/-- The copy of a launch is complete: its early decrements are applied, and it becomes GATED or RUNNING (R99, R317). -/
def State.copyDone (s : State) (slot : Nat) (l : Launch) : State :=
  ((s.updLaunch slot fun l => { l with copied := true }).copyEarly slot l).copyEnd slot

/-- The copy of an instantiation ends (R99). -/
def State.copyLaunch (s : State) (slot : Nat) : State :=
  match s.launch? slot with
  | none => s
  | some l =>
    let nb := s.sl slot Sl.NODE_BASE
    let eb := s.sl slot Sl.EDGE_BASE
    match l.opNode with
    | some pkt => (s.copyOp slot pkt).copyDone slot l
    | none =>
      match s.gen? l.tmpl l.gen with
      | none => s
      | some g =>
        let s := s.genRead g
        match s.genBad g with
        | some (e, k, w) => if g.damaged then s.killLaunch slot e.code true else s.damageGen g.tmpl g.gen e g.part k w
        | none =>
          let s := (List.range g.nodeCount).foldl (fun s i => s.copyNode slot (s.sl slot Sl.QUEUE) (g.nodeBase + i) (nb + i) eb) s
          let s := (List.range g.edgeCount).foldl (fun s j => s.copyEdge (g.edgeBase + j) (eb + j) nb) s
          (s.copyDone slot l).dropReader g.tmpl g.gen

/-! ### Waits (R101, R167) -/

/-- Whether the wait conditions of a launch hold (R167); a step launch also waits for the publications of its step (R221). -/
def State.waitsHold (s : State) (l : Launch) : Bool :=
  l.waits.all (fun w => s.eventSat w.1 w.2) &&
    (!l.serial || (match s.queue? (s.sl l.slot Sl.CONTEXT) (s.sl l.slot Sl.QUEUE) with
      | some x => decide (l.qseq ≤ x.completed + 1)
      | none => true)) &&
    (match l.startGc with
      | some g => decide (g ≤ s.now)
      | none => true) &&
    (!l.step || (match s.eraStep? (s.sl l.slot Sl.STEP_TAG) with
      | some x => decide (x.pubOut = 0)
      | none => true))

/-- The first wait of a launch whose event is gone or damaged (R422). -/
def State.brokenWait (s : State) (l : Launch) : Option (Nat × Err) :=
  l.waits.findSome? fun w => (s.eventFault w.1 (s.sl l.slot Sl.PART)).map fun e => (w.1, e)

/-- Whether every reply that a launch owes has been written, and every Tiller of it has ended: it may be released (R102, R136). -/
def State.releasable (s : State) (slot : Nat) : Bool :=
  match s.launch? slot with
  | none => false
  | some l =>
    (s.sl slot Sl.STATE == 4 || (s.sl slot Sl.STATE == 5 && s.killOver slot)) && l.replied &&
      (s.sl slot Sl.STATE == 5 || l.doneStarted) &&
      (s.tillers slot).all fun n => 7 ≤ s.nd n Nd.STATE

/-! ### Commands -/

/-- LAUNCH_OP (R167). -/
def execLaunchOp (c q : Nat) (s : State) : Host.Outcome State Fault Refusal := .next (s.launchArrive c q 1)

/-- LAUNCH_GRAPH (R98). -/
def execLaunchGraph (c q : Nat) (s : State) : Host.Outcome State Fault Refusal := .next (s.launchArrive c q 2)

/-- LAUNCH_AT (R179). -/
def execLaunchAt (c q : Nat) (s : State) : Host.Outcome State Fault Refusal := .next (s.launchArrive c q 3)

/-- LAUNCH_ACCEPT (R98): of the oldest waiting launches of the partitions, in arrival order, the first that can be accepted is. -/
def execLaunchAccept (s : State) : Host.Outcome State Fault Refusal :=
  if s.halted ∨ !s.unitEn U.GS then .next s
  else .next ((oldestOfParts [] s.gs.waiting).foldl (fun (x : State × Bool) w => if x.2 then x else x.1.tryLaunch w) (s, false)).1

/-- COPY_FINISH (R99): the request at the head of the copy pipeline finishes. -/
def execCopyFinish (s : State) : Host.Outcome State Fault Refusal :=
  match s.gs.pipe with
  | [] => .next s
  | r :: rest =>
    let s := { s with gs := { s.gs with pipe := rest } }
    match r with
    | .launch slot => .next (s.copyLaunch slot)
    | .patch c q => .next (s.copyPatch c q)

/-- WAITS_CLEAR (R101, R167): the wait conditions of a launch hold, so the flag is set and the descriptor read is issued. -/
def execWaitsClear (slot : Nat) (s : State) : Host.Outcome State Fault Refusal :=
  match s.launch? slot with
  | none => .next s
  | some l =>
    let s := s.slotRead slot
    if s.sl slot Sl.WAITS_CLEAR = 1 ∨ (s.sl slot Sl.STATE ≠ 1 ∧ s.sl slot Sl.STATE ≠ 2) then .next s
    else match s.brokenWait l with
      | some (h, e) =>
        let s := if e = E.EVENT_HANDLE then s.reportNode e (s.sl slot Sl.PART) 0 l.launchId
          else s.reportRow e 2 (some (s.sl slot Sl.PART)) 6 (hIdx h) 0
        .next (s.killLaunch slot e.code false)
      | none => if s.waitsHold l then .next ((s.setSl slot Sl.WAITS_CLEAR 1).readParam slot) else .next s

/-- LAUNCH_RELEASE (R102): after the reply, the launch's nodes, extents, slot and quota charges are released. -/
def execLaunchRelease (slot : Nat) (s : State) : Host.Outcome State Fault Refusal :=
  if s.releasable slot then .next (s.releaseLaunch slot) else .next s

end Sys2Proof.Machine
end

