-- ==== Sys2Proof/Machine/Packet.lean ====
section
/-! DEFINITION. The checks of a command packet before any object is looked at: the opcode, the units that it needs, its reserved fields, ranges
and alignments (R163, R166 to R170, R189 to R193). -/

namespace Sys2Proof.Machine

/-- Whether every bit of the words `lo` to `hi` of a packet is 0. -/
def zeroWords (p : List Word) (lo hi : Nat) : Bool := (List.range (hi + 1 - lo)).all fun i => rsvd p (lo + i) 31 0

/-- The opcodes of R166. -/
def opcodes : List Nat :=
  [0x01, 0x02, 0x03, 0x04, 0x05, 0x06, 0x10, 0x11, 0x12, 0x13, 0x14, 0x20, 0x21, 0x22, 0x30, 0x31, 0x32, 0x33]

/-- Whether an opcode takes the Thresher path (R166). -/
def slowOp (op : Nat) : Bool := decide (0x10 ≤ op)

/-- The units that a packet needs beside the CFE (R166, R170): launches and template packets the GS, semaphore packets the SM,
Thresher packets the THR, and sequence packets the ST as well (notes/assumptions/15.md). -/
def needs (p : List Word) : List Nat :=
  match pf p 0 7 0 with
  | 0x01 => [U.GS]
  | 0x02 => [U.GS]
  | 0x03 => [U.GS]
  | 0x06 => [U.SM]
  | 0x12 => if pf p 1 3 0 = 4 then [U.THR, U.SM] else if pf p 1 3 0 = 0 ∨ pf p 1 3 0 = 2 then [U.THR, U.GS] else [U.THR]
  | 0x20 => [U.THR, U.GS]
  | 0x21 => [U.THR, U.GS]
  | 0x22 => [U.THR, U.GS]
  | op => if 0x30 ≤ op then [U.THR, U.ST] else if slowOp op then [U.THR] else []

/-- The words that the three launches share (R167): those beyond NWAIT are reserved, and AMOUNT has a range with LREC or RSIG. -/
def launchOk (p : List Word) (op : Nat) : Bool :=
  let n := nWait p
  let sig := pf p 0 10 10 == 1
  let rec_ := pf p 0 13 13 == 1
  (if op = 3 then decide (n ≤ 1) && rsvd p 10 31 0 && (n == 1 || zeroWords p 5 7)
   else decide (n ≤ 2) && (1 ≤ n || zeroWords p 5 7) && (n == 2 || zeroWords p 8 10)) &&
    (!(sig || rec_) || decide (1 ≤ pf p 12 19 0)) &&
    (if op = 1 then decide (pf p 1 3 0 ≠ 7) && decide (pf p 1 11 10 ≤ 2) && rsvd p 1 31 20 && decide (addr52 p 3 % 64 = 0) && rsvd p 4 31 20
     else decide (addr52 p 2 % 64 = 0) && rsvd p 3 31 20 && rsvd p 4 31 0)

/-- Words 1 to 13 of a packet, by opcode: reserved fields 0, fields in range, addresses aligned.  Words and bits that the tables of R168, R169 and R189 to
R193 do not list count as reserved (notes/assumptions/37.md). -/
def bodyOk (p : List Word) : Bool :=
  match pf p 0 7 0 with
  | 0x01 => launchOk p 1
  | 0x02 => launchOk p 2
  | 0x03 => launchOk p 3
  | 0x04 => rsvd p 2 31 1 && zeroWords p 5 13 && (pf p 2 0 0 == 1 || wide p 3 != 0)
  | 0x05 => zeroWords p 4 13
  | 0x06 => decide (pf p 1 19 16 ≤ 3) && rsvd p 1 31 20 && zeroWords p 3 13
  | 0x10 => rsvd p 1 31 12 && rsvd p 3 31 1 && zeroWords p 6 13
  | 0x11 => decide (pf p 1 1 0 ≠ 3) && rsvd p 1 31 2 && zeroWords p 2 13
  | 0x12 => decide (pf p 1 3 0 ≤ 4) && rsvd p 1 31 4 && zeroWords p 3 13 && (pf p 1 3 0 != 3 || decide (pf p 2 31 0 ≤ 5))
  | 0x13 => rsvd p 1 31 1 && zeroWords p 4 13
  | 0x14 => zeroWords p 2 13
  | 0x20 => rsvd p 1 31 0 && decide (addr52 p 2 % 64 = 0) && rsvd p 3 31 20 && zeroWords p 4 13
  | 0x21 => decide (addr52 p 2 % 16 = 0) && rsvd p 3 31 20 && decide (1 ≤ pf p 4 16 0) && decide (pf p 4 16 0 ≤ 65536) && rsvd p 4 31 17 &&
      zeroWords p 5 13
  | 0x22 => zeroWords p 2 13
  | 0x30 => decide (fld p Adm.CLASS ≤ 5) && rsvd p 1 31 4 && decide (1 ≤ fld p Adm.PROMPT_LEN) && decide (fld p Adm.PROMPT_LEN ≤ 16777214) &&
      rsvd p 2 31 24 && rsvd p 3 31 24 && rsvd p 4 31 24 && decide (addr52 p 7 % 64 = 0) && rsvd p 8 31 20 && rsvd p 9 31 20 &&
      decide (addr52 p 10 % 64 = 0) && rsvd p 11 31 20 && rsvd p 13 31 0
  | 0x31 => decide (pf p 2 2 0 ≤ 4) && rsvd p 2 31 3 && zeroWords p 4 13 &&
      (match pf p 2 2 0 with
        | 0 => decide (pf p 3 31 0 ≤ 5)
        | 3 => rsvd p 3 31 24 && decide (1 ≤ pf p 3 23 0)
        | 4 => true
        | _ => rsvd p 3 31 0)
  | 0x32 => decide (pf p 2 1 0 ≤ 2) && rsvd p 2 31 2 && zeroWords p 3 13
  | 0x33 => rsvd p 1 31 2 && zeroWords p 5 13 &&
      (match pf p 1 1 0 with
        | 0 => decide (addr52 p 2 % 64 = 0) && rsvd p 3 31 20 && rsvd p 4 31 0
        | 1 => zeroWords p 2 4
        | 2 => zeroWords p 2 3 && decide (1 ≤ pf p 4 31 0)
        | _ => false)
  | _ => false

/-- The header and words 14 and 15 (R163): SERIAL, RSIG, NWAIT and LREC are reserved outside launches. -/
def headerFieldsOk (p : List Word) : Bool :=
  rsvd p 0 15 14 && (decide (pf p 0 7 0 ≤ 3) || (rsvd p 0 8 8 && rsvd p 0 13 10)) && rsvd p 15 31 20 && decide (addr52 p 14 % 32 = 0)

/-- The first check of R170, of those before objects are looked at, that a packet fails.  A misaligned REPLY_ADDR is ERR_PACKET_FIELD
whichever other check the packet fails (R163). -/
def State.packetFault (s : State) (p : List Word) : Option Err :=
  if addr52 p 14 % 32 ≠ 0 then some E.PACKET_FIELD
  else if !opcodes.contains (pf p 0 7 0) then some E.BAD_OPCODE
  else if !(needs p).all s.unitEn then some E.UNIT_DISABLED
  else if !(headerFieldsOk p && bodyOk p) then some E.PACKET_FIELD
  else none

end Sys2Proof.Machine
end

