-- ==== Sys2Proof/Machine/Event.lean ====
section
/-! DEFINITION. RECORD_EVENT and WAIT_EVENT (R168, R171 to R173), and the pending list of a queue (R164). -/

namespace Sys2Proof.Machine

/-- Whether the packet at a queue's head, once consumed, takes effect at once: COMPLETED ≥ QSEQ − 1 (R164). -/
def State.effectNow (s : State) (c q : Nat) : Bool :=
  match s.queue? c q with
  | some x => decide (x.qseq ≤ x.completed)
  | none => false

/-- A command that does not block the head (R164): it is consumed, and takes effect now or sits in the pending list; while the list is full
its head blocks. `f` is the effect of the command with its QSEQ. -/
def State.pendOrRun (s : State) (c q : Nat) (pkt : List Word) (f : State → Nat → State) : State :=
  let n := s.headQseq c q
  if s.effectNow c q then f (s.consume c q) n
  else match s.queue? c q with
    | none => s
    | some x =>
      if x.pend.length < 16 then (s.consume c q).updQueue c q fun x => { x with pend := x.pend ++ [(⟨n, pkt⟩ : PendCmd)] }
      else s.blockHead c q none

/-- A RECORD_EVENT takes effect (R172): the event changes and the command completes with the value after the record. -/
def State.applyRecord (s : State) (c q n : Nat) (pkt : List Word) : State :=
  let p := (s.ctx c).part
  match s.eventOf (pf pkt 1 31 0) p with
  | .error e => (s.reportCmd e p c q n).complete c q p n (Rep.ofPkt pkt) e.code
  | .ok ev =>
    match s.checkEvent ev with
    | (s, some e) => s.complete c q p n (Rep.ofPkt pkt) e.code
    | (s, none) =>
      let (v, sat) := recordValue ev.val.toNat (pf pkt 2 0 0 == 1) (wide pkt 3)
      let s := s.storeEvent ev v
      if sat then (s.reportCmd E.EVENT_SATURATE p c q n).complete c q p n (Rep.ofPkt pkt) E.EVENT_SATURATE.code v
      else s.complete c q p n (Rep.ofPkt pkt) 0 v

/-- RECORD_EVENT at a head (R168, R172). -/
def State.recordHead (s : State) (c q : Nat) : State :=
  match s.headPkt c q 4 with
  | none => s
  | some pkt =>
    match s.eventFault (pf pkt 1 31 0) (s.ctx c).part with
    | some e => s.refuseEvent c q pkt (pf pkt 1 31 0) e
    | none => s.pendOrRun c q pkt fun s n => s.applyRecord c q n pkt

/-- WAIT_EVENT (R173): the head is consumed once the value is at least N, and blocks until then; a wait-cycle walk starts when it
blocks (R175). -/
def execWaitEvent (c q : Nat) (s : State) : Host.Outcome State Fault Refusal :=
  match s.headPkt c q 5 with
  | none => .next s
  | some pkt =>
    let h := pf pkt 1 31 0
    match s.eventFault h (s.ctx c).part with
    | some e => .next (s.refuseEvent c q pkt h e)
    | none =>
      let v := match s.event? (hIdx h) with
        | some e => e.val.toNat
        | none => 0
      if wide pkt 2 ≤ v then .next (s.finishHead c q pkt 0 v)
      else
        let first : Bool := match s.queue? c q with
          | some x => x.state != .blocked
          | none => false
        let s := s.blockHead c q (some (.event h (wide pkt 2)))
        .next (if first ∧ s.rb Reg.CFE_CTRL_CYCLE_DETECT then { s with fe := { s.fe with walks := s.fe.walks ++ [(c, q, s.headQseq c q)] } } else s)

end Sys2Proof.Machine
end

