-- ==== Sys2Proof/Machine/Sem.lean ====
section
/-! DEFINITION. What the SEM_OP packets do at a queue's head (R168, R246 to R250). -/

namespace Sys2Proof.Machine

/-- Whether the SM carries out operations: it has finished its initialisation (R243). -/
def State.smReady (s : State) : Bool := bit (s.rf Reg.GLB_UNIT_STATUS_READY) U.SM

/-- The SEM_OP packet of form `op` at a queue's head. -/
def State.semPkt (s : State) (c q op : Nat) : Option (List Word) :=
  match s.headPkt c q 6 with
  | some pkt => if pf pkt 1 19 16 = op then some pkt else none
  | none => none

/-- The checks of a SEM_OP on its semaphore (R244, R247): an operand of 0 is an error unless the form allows it. -/
def State.semCheck (s : State) (c : Nat) (pkt : List Word) (zeroOk : Bool) : Option Err :=
  if !zeroOk ∧ pf pkt 2 31 0 = 0 then some E.PACKET_FIELD
  else if !s.semOf (pf pkt 1 15 0) (s.ctx c).part then some E.SEM_HANDLE
  else none

/-- SEM_OP ADD or SUB takes effect (R246): the command completes with VALUE after the operation. -/
def State.applySem (s : State) (c q n : Nat) (pkt : List Word) : State :=
  let p := (s.ctx c).part
  let sub := pf pkt 1 19 16 == 1
  let i := pf pkt 1 15 0
  if !s.semOf i p then (s.reportCmd E.SEM_HANDLE p c q n).complete c q p n (Rep.ofPkt pkt) E.SEM_HANDLE.code
  else
    let (s, a) := if sub then s.semSub i (pf pkt 2 31 0) else s.semAdd i (pf pkt 2 31 0)
    match a.err with
    | none => (if a.sat then s.reportCmd E.SEM_SATURATE p c q n else s).complete c q p n (Rep.ofPkt pkt) 0 a.val
    | some e =>
      let s := if e = E.HUSK ∨ e = E.ECC_UNCORRECTED then s else s.reportCmd e p c q n
      s.complete c q p n (Rep.ofPkt pkt) e.code a.val

/-- ADD and SUB of a SEM_OP at a head. -/
def State.semCount (s : State) (c q op : Nat) : State :=
  match s.semPkt c q op with
  | none => s
  | some pkt =>
    match s.semCheck c pkt false with
    | some e => s.refuse c q pkt e
    | none => if s.smReady then s.pendOrRun c q pkt fun s n => s.applySem c q n pkt else s.blockHead c q none

/-- The wait of a queue on a semaphore, if it has one. -/
def State.semWaitOf (s : State) (c q : Nat) : Option SemWait := s.sm.waits.find? fun w => w.who == .queue c q

/-- A waiting SEM_OP at a head (R246, R247, R249, R250): it begins to wait, and is consumed in a cc after the one in which its wait was satisfied.  A
WAIT_GE of 0 does not block. -/
def State.semWaitOp (s : State) (c q op : Nat) (consume : Bool) : State :=
  match s.semPkt c q op with
  | none => s
  | some pkt =>
    let i := pf pkt 1 15 0
    let v := pf pkt 2 31 0
    let settle := fun (s : State) => match s.semWaitOf c q with
      | some w => match w.granted with
        | some r => (s.dropWait (.queue c q)).finishHead c q pkt 0 r
        | none => s.blockHead c q (some (if consume then .semGeSub i v else .semGe i v))
      | none => s
    match s.semWaitOf c q with
    | some _ => settle s
    | none =>
      match s.semCheck c pkt (!consume) with
      | some e => s.refuse c q pkt e
      | none =>
        if !s.smReady then s.blockHead c q none
        else match s.checkSem i with
          | (s, some e) => s.finishHead c q pkt e.code
          | (s, none) =>
            match s.portOf i with
            | some k => (s.misuse (s.shv k Sh.PART)).refuse c q pkt E.SEM_PORT
            | none =>
              if v = 0 then s.finishHead c q pkt 0 (s.semVal i)
              else settle (s.addWait i v consume (.queue c q))

end Sys2Proof.Machine
end

