-- ==== Sys2Proof/Machine/StreamOps.lean ====
section
/-! DEFINITION. Step streams as the commands of a context and of the Sower share them (R195, R196, R205): the steps in flight, the removal of
cancelled steps, and how a stream becomes IDLE. -/

namespace Sys2Proof.Machine

/-- The steps in flight of a partition, cancelled ones that are not yet over included. -/
def State.stepsOf (s : State) (p : Nat) : List Step := s.st.steps.filter fun x => x.part == p

/-- Remove the cancelled steps of a partition that are over (R205, R211), with their telemetry and their digests (R296, R388). -/
def State.sweepSteps (s : State) (p : Nat) : State :=
  let ended := s.st.steps.filter fun x => x.part == p && s.stepOver x
  let tags := ended.map (·.tag)
  let gone := fun (t : Nat) => tags.contains t
  let s := s.dropEraSteps gone
  { s with st := { s.st with steps := s.st.steps.filter fun x => !(x.part == p && gone x.tag) },
           mh := { s.mh with telem := s.mh.telem.filter fun t => !gone t.tag },
           dc := { s.dc with digests := s.dc.digests.filter fun d => !gone d.1 } }

/-- The stream of a partition becomes IDLE, and the STOP commands that wait for it complete with the last step applied (R193). -/
def State.idleStream (s : State) (p : Nat) : State :=
  let s := s.setRf (Reg.ST_STREAM_STATUS_SSTATE p) 0
  match s.stream? p with
  | none => s
  | some x =>
    let s := s.updStream p fun x => { x with stopCmds := [], due := false }
    x.stopCmds.foldl (fun s cq => s.finishHead cq.1 cq.2 (s.slowPkt cq.1 cq.2) 0 (s.reg64 (Reg.ST_STEP_LO_A p) (Reg.ST_STEP_HI_A p))) s

/-- A STOPPING stream whose steps have all been applied becomes IDLE (R195). -/
def State.settleStream (s : State) (p : Nat) : State :=
  let s := s.sweepSteps p
  if s.rf (Reg.ST_STREAM_STATUS_SSTATE p) = 2 ∧ s.stepsOf p = [] then s.idleStream p else s

/-- A RUNNING stream synthesises no further step (R196): its steps in flight run to their boundaries. -/
def State.stopStream (s : State) (p : Nat) : State :=
  if s.rf (Reg.ST_STREAM_STATUS_SSTATE p) = 1 then (s.setRf (Reg.ST_STREAM_STATUS_SSTATE p) 2).settleStream p else s

/-- DESTROY_KILL of a stream's context acts as SEQ_CANCEL MODE 1 and leaves the stream IDLE (R196): it is STOPPING until the kills of its step
launches have completed (R211). -/
def State.killStream (s : State) (p code : Nat) : State :=
  let st := s.rf (Reg.ST_STREAM_STATUS_SSTATE p)
  if st = 1 ∨ st = 2 then ((s.cancelSteps p code).1.setRf (Reg.ST_STREAM_STATUS_SSTATE p) 2).settleStream p else s

/-- In each cc the cancelled steps that are over are removed (R205), and a STOPPING stream that holds no other step becomes IDLE. -/
def State.settleStreams (s : State) : State := (s.st.streams.map (·.part)).foldl (fun s p => s.settleStream p) s

end Sys2Proof.Machine
end

