-- ==== Sys2Proof/Machine/HeadOps.lean ====
section
/-! DEFINITION. What faults, timeouts and the end of a context share at a queue's head (R159, R177, R180, R181): the packet that is held
there is given up, with whatever another unit does for it. -/

namespace Sys2Proof.Machine

/-- The answer of an MM transfer that served the head command of a queue is discarded. -/
def MmXfer.drop (c q : Nat) (x : MmXfer) : MmXfer :=
  match x.use with
  | .tmplLoad a b => if a = c ∧ b = q then { x with use := .dropped } else x
  | .tmplPatch a b => if a = c ∧ b = q then { x with use := .dropped } else x
  | .st _ 0 arg => if arg = 8 * c + q then { x with use := .dropped } else x
  | _ => x

/-- Give up whatever is under way for the packet at a queue's head: its waits, its place among the waiting launches, its load or patch, its
signal, and its claim on a sweep or a stream. -/
def State.endHeadCmd (s : State) (c q : Nat) : State :=
  let s := (s.endWait (.queue c q)).dropTmplJob c q
  { s with
    gs := { s.gs with waiting := s.gs.waiting.filter fun w => w.step || !(w.ctx == c && w.q == q) },
    mm := { busy := s.mm.busy.map (MmXfer.drop c q), waiting := s.mm.waiting.map (MmXfer.drop c q) },
    fe := { s.fe with
      slow := s.fe.slow.filter fun e => !(e.ctx == c && e.q == q),
      signals := s.fe.signals.filter fun g => match g.who with
        | .cmd a b _ _ => !(a == c && b == q)
        | .launch _ => true },
    st := { s.st with
      winnow := s.st.winnow.map fun w => if w.ctx = c ∧ w.q = q then { w with ctx := s.build.ctxs } else w,
      streams := s.st.streams.map fun x =>
        { x with startCmd := if x.startCmd = some (c, q) then none else x.startCmd, stopCmds := x.stopCmds.filter (· != (c, q)) } } }

/-- The blocked packet of a queue: at its head, or kept while it is parked (R160). -/
def State.blockedPkt (s : State) (c q : Nat) : Option Cur :=
  match s.queue? c q with
  | none => none
  | some x => match x.state with
    | .blocked => match s.head? c q with
      | some h => h.cur
      | none => none
    | .parked => x.park
    | _ => none

/-- A queue faults with an error (R161, R175, R177): its blocked packet completes with the code, whatever the fault is (notes/assumptions/38.md), and the
queue, FAULTED, fetches nothing further. -/
def State.faultWith (s : State) (c q : Nat) (e : Err) : State :=
  match s.queue? c q with
  | none => s
  | some x =>
    if x.state = .disabled ∨ x.state = .faulted ∨ x.state = .draining then s
    else
      let b := s.blockedPkt c q
      let s := s.reportCmd e (s.ctx c).part c q (if b.isSome then x.qseq + 1 else x.qseq)
      let s := (s.endHeadCmd c q).setQState c q .faulted
      let s := match b with
        | some k => s.finishHead c q k.pkt e.code
        | none => s
      s.faultQueue c q e.code

/-- A signal has its outcome (R180, R181): a launch's reply is written, with SIG_FAIL when it failed; a SIGNAL_REMOTE completes. -/
def State.signalDone (s : State) (g : Signal) (code value : Nat) : State :=
  let s := { s with fe := { s.fe with signals := s.fe.signals.filter (· != g) } }
  match g.who with
  | .launch slot => (if code = 0 then s else s.updLaunch slot fun l => { l with sigFail := code }).replyLaunch slot 0
  | .cmd c q _ _ => s.finishHead c q (s.slowPkt c q) code value

/-- The answer of a ring read (R161): the packets join the prefetched ones of the head that asked for them; a failure faults the queue. -/
def State.ringData (s : State) (c q idx grant : Nat) (ok : Bool) (ws : List Word) : State :=
  match s.head? c q with
  | none => s
  | some h =>
    if h.grant ≠ grant then s
    else if !ok then s.faultWith c q E.RING_READ
    else
      let n := ws.length / 16
      let ps := (List.range n).map fun k => ((idx + k) % 2 ^ 32, (ws.drop (16 * k)).take 16)
      (s.updHead c q fun h => { h with fetching := h.fetching - n, fetched := h.fetched ++ ps }).fetchMore c q

end Sys2Proof.Machine
end

