-- ==== Sys2Proof/Machine/Sheaf.lean ====
section
/-! DEFINITION. The commands of sheaves (R258, R259, R262). -/

namespace Sys2Proof.Machine

/-- SM_SHEAF_STATUS after a command. -/
def State.sheafStatus (s : State) (e : Option Err) : State :=
  s.setReg Reg.SM_SHEAF_STATUS_A (packW [(0, 1), (1, b2n e.isSome), (16, (e.map (·.code)).getD 0)])

/-- Whether sheaf `k` passes the checks of R259. -/
def State.sheafOk (s : State) (k : Nat) : Bool :=
  let p := s.shv k Sh.PART
  let a := s.shv k Sh.ARRIVE_SEM
  let home := decide (s.shv k Sh.HOME_DEV = s.self)
  let w := s.row (sheafRow k) 16
  s.partOk p && s.semOf a p && s.semOf (s.shv k Sh.RELEASE_SEM) p && decide (a ≠ s.shv k Sh.RELEASE_SEM) &&
    (s.portOf a).isNone && decide (s.semVal a = 0) && !(s.sm.waits.any fun x => x.sem == a) &&
    !(decide (s.shMask k = 0) && !home) && !(decide (s.shMask k = 0) && decide (s.shv k Sh.DEVICES = 0)) &&
    !(decide (s.shv k Sh.DEVICES ≠ 0) && !home) && (home || s.build.fabric) &&
    rsvd w 0 7 6 && rsvd w 4 31 16 && rsvd w 10 31 12 && rsvd w 13 31 0 && rsvd w 14 31 0 && rsvd w 15 31 0

/-- All arrival state of a sheaf is cleared: ARRIVED, NEXT, DEV_ARRIVED, the source map and its times. -/
def State.clearArrivals (s : State) (k : Nat) : State :=
  let s := (s.setRam64 (sheafRow k + 6) 0).setRam64 (sheafRow k + 8) 0
  (s.setShv k Sh.DEV_ARRIVED 0).updSheafX k fun _ => ⟨k, none, none, []⟩

/-- SM_SHEAF_CMD ARM (R259).  On a damaged port the arm is not applied, and its error is the answer (R422).  A sheaf that is not IDLE is refused (notes/assumptions/16.md). -/
def State.armSheaf (s : State) (k : Nat) : State :=
  if !s.smUp then s
  else
    let a := s.shv k Sh.ARRIVE_SEM
    match s.checkSem a with
    | (s, some e) => s.sheafStatus (some e)
    | (s, none) =>
      if s.shv k Sh.STATE ≠ 0 ∨ !s.sheafOk k then
        (s.reportPlain E.SHEAF_CONFIG (some (s.shv k Sh.PART))).sheafStatus (some E.SHEAF_CONFIG)
      else
        let s := ((s.clearArrivals k).setShv k Sh.GEN 0).setRm (semRow a) Sem.PORT 1
        (s.setShv k Sh.STATE 1).sheafStatus none

/-- A sheaf returns to IDLE (R259). -/
def State.idleSheaf (s : State) (k : Nat) : State :=
  let s := if s.shv k Sh.STATE = 0 then s else s.setRm (semRow (s.shv k Sh.ARRIVE_SEM)) Sem.PORT 0
  (s.clearArrivals k).setShv k Sh.STATE 0

/-- SM_SHEAF_CMD DISARM. -/
def State.disarmSheaf (s : State) (k : Nat) : State := if !s.smUp then s else (s.idleSheaf k).sheafStatus none

/-- SM_SHEAF_CMD CLEAR_FAULT: DISARM restricted to FAULTED. -/
def State.clearSheaf (s : State) (k : Nat) : State :=
  if !s.smUp then s else (if s.shv k Sh.STATE = 3 then s.idleSheaf k else s).sheafStatus none

/-- SM_SHEAF_CMD by its OP; 0 does nothing. -/
def State.sheafCmd (s : State) (k op : Nat) : State :=
  match op with
  | 1 => s.armSheaf k
  | 2 => s.disarmSheaf k
  | 3 => s.clearSheaf k
  | _ => s

/-- SHEAF_ARM. -/
def execSheafArm (sheaf : Nat) (s : State) : Host.Outcome State Fault Refusal :=
  .next (s.regInput (.sheafArm sheaf) fun s => s.armSheaf (sheaf % 256))

/-- SHEAF_DISARM. -/
def execSheafDisarm (sheaf : Nat) (s : State) : Host.Outcome State Fault Refusal :=
  .next (s.regInput (.sheafDisarm sheaf) fun s => s.disarmSheaf (sheaf % 256))

/-- SHEAF_CLEAR_FAULT. -/
def execSheafClearFault (sheaf : Nat) (s : State) : Host.Outcome State Fault Refusal :=
  .next (s.regInput (.sheafClearFault sheaf) fun s => s.clearSheaf (sheaf % 256))

/-- SHEAF_TIMEOUT (R262): the generation has not been released within TIMEOUT of its first arrival. -/
def execSheafTimeout (sheaf : Nat) (s : State) : Host.Outcome State Fault Refusal :=
  let k := sheaf % 256
  let t := s.shv k Sh.TIMEOUT
  match (s.sheafX k).firstGc with
  | some g =>
    if (s.shv k Sh.STATE = 1 ∨ s.shv k Sh.STATE = 2) ∧ t ≠ 0 ∧ s.due g (1000 * t) then .next (s.faultSheaf k E.SHEAF_TIMEOUT)
    else .next s
  | none => .next s

end Sys2Proof.Machine
end

