-- ==== Sys2Proof/Machine/Budget.lean ====
section
/-! DEFINITION. The power-manager port and the budget epochs (R70, R335, R336, R340, R342, R344), the regulators (R346), and the energy
model's banks (R333, R334). -/

namespace Sys2Proof.Machine

/-! ### pm_lend (R342) -/

/-- The transfer at the front of the lend FIFO is driven. -/
def State.driveLend (s : State) : State :=
  match s.bg.lends with
  | [] => s
  | (p, ret, nj) :: _ => s.emit (.pmLend p ret nj)

/-- Queue a lend or return transfer; a full FIFO drops it. -/
def State.queueLend (s : State) (p : Nat) (ret : Bool) (nj : Nat) : State :=
  if 32 ≤ s.bg.lends.length then (s.incRf Reg.BG_PM_STATUS_LEND_LOST).reportPlain E.PM_LEND_LOST (some p)
  else
    let first := s.bg.lends.isEmpty
    let s := { s with bg := { s.bg with lends := s.bg.lends ++ [(p, ret, nj)] } }
    if first then s.driveLend else s

/-! ### Inputs of the power manager (R70) -/

/-- A budget is accepted: it is in force from the next boundary. -/
def State.budgetIn (s : State) (p : Nat) (nj : BitVec 32) : State :=
  if s.partOk p then s.updBg p fun x => { x with next := nj.toNat, fresh := true } else s

/-- PM_BUDGET (R70). -/
def execPmBudget (part : Nat) (nj : BitVec 32) (s : State) : Host.Outcome State Fault Refusal :=
  if !s.portOn .reg then .next s
  else
    let s := s.emit .pmBudAck
    .next (if s.replaying then s else s.input .reg (.pmBudget part nj) fun s => s.budgetIn part nj)

/-- A measurement is accepted: the temperature is latched, and the energy joins the epoch's (R70, R339). -/
def State.measIn (s : State) (c : Nat) (nj : BitVec 32) (temp : BitVec 12) : State :=
  if s.build.clusters ≤ c then s
  else
    let s := s.setRf (Reg.BG_TEMP_NOW_TEMP c) temp.toNat
    let s := { s with bg := { s.bg with meas := assocSet s.bg.meas c (lookupD s.bg.meas c 0 + nj.toNat) } }
    if temp12 temp.toNat < temp12 (s.rf Reg.BG_TEMP_TEMP_STOP) then s.closeEpisode E.BG_HOT.code c else s

/-- PM_MEAS (R70). -/
def execPmMeas (cluster : Nat) (nj : BitVec 32) (temp : BitVec 12) (s : State) : Host.Outcome State Fault Refusal :=
  if !s.portOn .reg then .next s
  else
    let s := s.emit .pmMeasAck
    .next (if s.replaying then s else s.input .reg (.pmMeas cluster nj temp) fun s => s.measIn cluster nj temp)

/-- pm_lend_ack: the transfer at the front has been taken, and the next is driven. -/
def State.lendAck (s : State) : State := { s with bg := { s.bg with lends := s.bg.lends.tail } }.driveLend

/-- PM_LEND_ACK (R70, R342). -/
def execPmLendAck (s : State) : Host.Outcome State Fault Refusal :=
  .next (if s.bg.lends.isEmpty ∨ s.replaying then s else s.input .reg .pmLendAck State.lendAck)

/-! ### Long waits (R257) -/

/-- Since when a queue waits at its head or parked. -/
def State.waitSince (s : State) (c q : Nat) : Option Nat := (s.blockedPkt c q).map (·.since)

/-- The waits of a partition that have lasted LONG_WAIT. -/
def State.longWaits (s : State) (p : Nat) : Nat :=
  let lim := 1000 * s.rf Reg.SM_CTRL_LONG_WAIT
  let long := fun (t : Nat) => decide (lim ≠ 0) && decide (t + lim ≤ s.now)
  let heads := s.sm.waits.filter fun w => match w.who with
    | .queue c q => (s.ctx c).part == p && w.granted.isNone && (match s.waitSince c q with
      | some t => long t
      | none => false)
    | _ => false
  let binds := s.sm.binds.filter fun b => b.part == p && b.sem.isSome && long b.gc
  let sheaves := s.sm.sheaves.filter fun x => s.shv x.idx Sh.STATE == 1 && s.shv x.idx Sh.PART == p && (match x.firstGc with
    | some t => long t
    | none => false)
  heads.length + binds.length + sheaves.length

/-- The links of a partition SLEEPING under a binding. -/
def State.sleepers (s : State) (p : Nat) : Nat := (s.sm.binds.filter fun b => b.part == p && b.phase == .sleeping).length

/-- The SM hands over its counts at a rising edge of pm_epoch. -/
def State.handWaits (s : State) : State :=
  if !s.unitEn U.SM then s
  else (List.range s.build.partitions).foldl (fun s p =>
    (s.setRf (Reg.SM_WAITS_LONG_WAITS p) (min (s.longWaits p) 8191)).setRf (Reg.SM_WAITS_SLEEPERS p) (min (s.sleepers p) 127)) s

/-! ### The boundary (R335, R336, R340, R344) -/

/-- Step 1 of R336 for a partition: USED_NJ is latched, and what is left of its lend is returned.  Answers R_p. -/
def State.closeEpoch (s : State) (p : Nat) : State × Int :=
  let s := s.bgCheck p
  let left := s.lentLeft p
  let r := max 0 (s.credit p)
  let x := s.bgPart p
  let s := s.setRf (Reg.BG_USED_NJ p) (min (x.used / 1000) (2 ^ 32 - 1))
  let s := s.acct p 52 (x.borrowed / 1000)
  let s := if 0 < left then
      let nj := (left / 1000).toNat
      let s := s.setRam64 (acctRow p + 54) ((2 ^ 64 + s.ram64 (acctRow p + 54) - nj) % 2 ^ 64)
      s.queueLend p true nj
    else s
  (s.updBg p fun x => { x with used := 0, borrowed := 0 }, r)

/-- Step 2 of R336: a pending energy model is flipped in, OPP_MHZ is latched, and the age slots age (R334, R344). -/
def State.flipModel (s : State) : State :=
  let s := if s.rb Reg.BG_MODEL_STATUS_PEND then
      (s.setRf Reg.BG_MODEL_STATUS_ACTIVE (1 - s.rf Reg.BG_MODEL_STATUS_ACTIVE)).setRf Reg.BG_MODEL_STATUS_PEND 0
    else s
  let s := { s with bg := { s.bg with opp := (List.range s.build.clusters).map fun c => (c, s.rf (Reg.BG_CLUSTER_OPP_MHZ c)) } }
  (List.range s.build.partitions).foldl (fun s p =>
    if s.rb (Reg.BG_AGE_SLOT_FULL p) then
      let a := min (s.rf (Reg.BG_AGE p) + 1) 3
      (s.setRf (Reg.BG_AGE p) a).setRf (Reg.BG_AGE_HOLD p) (b2n (decide (a = 3)))
    else s) s

/-- Step 3 of R336: the new credit; a deficit carries forward and a surplus does not. -/
def State.newCredit (s : State) (p : Nat) : State :=
  let cr := min 0 (s.credit p)
  let x := s.bgPart p
  let s := if x.fresh then s else s.reportPlain E.PM_BUDGET_STALE (some p)
  let s := (s.updBg p fun x => { x with bad := false, fresh := false }).setRf (Reg.BG_BUDGET_NJ p) x.next
  s.setCredit p ((1000 * x.next : Nat) + cr)

/-- Step 4 of R336: what a partition lends, in nJ (R340). -/
def State.lendOf (s : State) (p : Nat) (r : Int) : Nat :=
  if s.rb (Reg.BG_PCFG_LEND_EN p) ∧ !s.rb (Reg.BG_AGE_HOLD p) ∧
      s.rf (Reg.BG_PCFG_LEND_MIN p) ≤ s.rf (Reg.SM_WAITS_LONG_WAITS p) + s.rf (Reg.SM_WAITS_SLEEPERS p) then
    (min (r / 1000) (s.credit p / 1000) * (s.rf (Reg.BG_PCFG_LEND_FRAC p) : Int) / 16).toNat
  else 0

/-- A partition lends (R340); its transfer is queued in step 5. -/
def State.lend (s : State) (p : Nat) (r : Int) : State × Nat :=
  let n := s.lendOf p r
  let s := (s.setCredit p (s.credit p - (1000 * n : Nat))).setLent p ((1000 * n : Nat) : Int)
  let s := s.setRam64 (acctRow p + 54) ((s.ram64 (acctRow p + 54) + n) % 2 ^ 64)
  (s.setRf (Reg.BG_LENT_NJ p) (min n (2 ^ 32 - 1)), n)

/-- The attribution of the closed epoch, and what the clusters' registers show of it (R339, R415). -/
def State.attributeAll (s : State) : State :=
  let s := (List.range s.build.clusters).foldl (fun s c =>
    let meas := lookupD s.bg.meas c 0
    let est := ((s.bg.est.filter fun x => x.2.1 == c).map fun x => x.2.2).foldl (· + ·) 0
    let s := s.setRf (Reg.BG_MEAS_NJ c) (min meas (2 ^ 32 - 1))
    (s.setRf (Reg.BG_EST_NJ c) (min (est / 1000) (2 ^ 32 - 1))).attribute c meas) s
  { s with bg := { s.bg with est := [], meas := [] } }

/-- Everything of a budget-epoch boundary (R336, R415, R417). -/
def State.epochBoundary (s : State) (k : Nat) : State :=
  let ps := List.range s.build.partitions
  let old := s.bg.epochNo
  let s := { s with bg := { s.bg with epochNo := k } }
  let s := (s.emit .pmEpoch).handWaits
  let (s, rs) := ps.foldl (fun (x : State × List Int) p => let (s, r) := x.1.closeEpoch p; (s, x.2 ++ [r])) (s, [])
  let s := s.attributeAll
  let s := ps.foldl (fun s p => s.acctEpoch old p) s
  let s := s.flipModel
  let s := ps.foldl (fun s p => s.newCredit p) s
  let (s, ls) := (ps.zip rs).foldl (fun (x : State × List (Nat × Nat)) (p, r) =>
    let (s, n) := x.1.lend p r
    (s, if n = 0 then x.2 else x.2 ++ [(p, n)])) (s, [])
  ls.foldl (fun s (p, n) => s.queueLend p false n) s

/-- BUDGET_EPOCH_BOUNDARY (R335): the time has reached a multiple of EPOCH_US × 1,000. -/
def execBudgetEpochBoundary (s : State) : Host.Outcome State Fault Refusal :=
  let k := s.now / (1000 * max 1 (s.rf Reg.BG_CTRL_EPOCH_US))
  if !s.unitEn U.BG ∨ k ≤ s.bg.epochNo then .next s else .next (s.epochBoundary k)

/-! ### Regulators (R346) -/

/-- Refill one account for `n` µs. -/
def State.refillLevel (s : State) (p i n : Nat) : State :=
  let s := s.checkLevel p i
  let r := regulatorRow p i
  s.setLevel p i (min (s.level p i + ((n * s.rm r Ra.RATE : Nat) : Int)) (s.rm r Ra.BURST))

/-- REGULATOR_REFILL (R346): at every µs each LEVEL rises by RATE, up to BURST. -/
def execRegulatorRefill (s : State) : Host.Outcome State Fault Refusal :=
  let k := s.now / 1000
  if !s.unitEn U.BG ∨ k ≤ s.bg.refillNo then .next s
  else
    let n := k - s.bg.refillNo
    let s := { s with bg := { s.bg with refillNo := k } }
    .next ((List.range s.build.partitions).foldl (fun s p =>
      (List.range s.build.memStacks).foldl (fun s i => s.refillLevel p i n) s) s)

/-! ### The energy model (R333) -/

/-- The first failure of an engine class in a bank (R333): BG_MODEL_DETAIL.PART and INDEX. -/
def State.modelClassBad (s : State) (bank cls : Nat) : Option (Nat × Nat) :=
  let w := fun i => s.ram (ramKey (0x14 + bank) (32 * cls + i))
  let n := wget (w 0) 4 0
  let pt := s.bgPoint bank cls
  let badPt := fun i =>
    if n ≤ i then decide (w (1 + i) ≠ 0#32)
    else decide (0 < i) && (decide ((pt i).1 ≤ (pt (i - 1)).1) || decide ((pt i).2 < (pt (i - 1)).2))
  let cw := fun k i => s.ram (ramKey (0x16 + bank) (2 * (64 * cls + k) + i))
  if 16 < n ∨ wget (w 0) 31 5 ≠ 0 then some (0, 0)
  else match (List.range 16).find? badPt with
    | some i => some (1, i)
    | none => match (List.range 15).find? fun i => decide (w (17 + i) ≠ 0#32) with
      | some i => some (2, 17 + i)
      | none => match (List.range 64).find? fun k => wget (cw k 0) 31 16 != 0 || wget (cw k 1) 31 21 != 0 with
        | some k => some (3, k)
        | none => none

/-- A swap request (R333). -/
def State.modelSwap (s : State) : State :=
  let bank := 1 - s.rf Reg.BG_MODEL_STATUS_ACTIVE
  let act := s.rf Reg.BG_MODEL_STATUS_ACTIVE
  match (List.range 16).findSome? fun c => (s.modelClassBad bank c).map fun d => (c, d) with
  | some (c, part, i) =>
    let s := s.reportPlain E.BG_MODEL none
    let s := s.setReg Reg.BG_MODEL_STATUS_A (packW [(0, act), (1, s.rf Reg.BG_MODEL_STATUS_PEND), (2, 1), (8, c),
      (12, if part = 1 then i else 0), (16, E.BG_MODEL.code)])
    s.setReg Reg.BG_MODEL_DETAIL_A (packW [(0, part), (2, i)])
  | none => (s.setReg Reg.BG_MODEL_STATUS_A (packW [(0, act), (1, 1)])).setReg Reg.BG_MODEL_DETAIL_A 0#32

/-- BG_MODEL_SWAP (R333): a write of SWAP to BG_MODEL_CMD. -/
def execBgModelSwap (s : State) : Host.Outcome State Fault Refusal := .next (s.regInput .bgModelSwap State.modelSwap)

end Sys2Proof.Machine
end

