-- ==== Sys2Proof/Machine/Doorbell.lean ====
section
/-! DEFINITION. Doorbells (R42, R43, R157). -/

namespace Sys2Proof.Machine

/-- Drop a doorbell: it is counted and reported (R157). -/
def State.dropDoorbell (s : State) (part : Option Nat) : State :=
  (s.incRf Reg.CFE_DB_DROPPED).reportPlain E.DOORBELL_DROP part

/-- The CFE checks a doorbell and takes its write index, or drops it (R157). -/
def State.ring (s : State) (addr data : Nat) : State :=
  let c := addr / 4096
  let off := addr % 4096
  if addr % 8 ≠ 0 ∨ s.build.ctxs ≤ c then s.dropDoorbell none
  else
    let x := s.ctx c
    let part := if x.cstate = 0 then none else some x.part
    match s.queue? c (off / 8) with
    | none => s.dropDoorbell part
    | some u =>
      let w := data % 2 ^ 32
      if x.cstate ≠ 1 ∨ bits data 63 52 ≠ x.gen ∨ 6 ≤ off / 8 ∨ bits data 51 32 ≠ 0 then s.dropDoorbell part
      else if !newer 32 w u.write then s
      else if 2 ^ u.ringLog2 < (2 ^ 32 + w - u.read) % 2 ^ 32 then s.faultWith c u.q E.DOORBELL_RANGE
      else
        let s := s.updQueue c u.q fun u => { u with write := w }
        if u.state = .empty then s.makePending c u.q else s.fetchMore c u.q

/-- DOORBELL_WRITE (R43): the write enters the FIFO while db_ready is high; in replay mode it is accepted and otherwise ignored (R389). -/
def execDoorbellWrite (addr : BitVec 22) (data : BitVec 64) (s : State) : Host.Outcome State Fault Refusal :=
  if !s.dbReady ∨ s.replaying then .next s
  else .next (s.input .noc (.doorbellWrite addr data) fun s =>
    { s with fe := { s.fe with fifo := s.fe.fifo ++ [(addr.toNat, data.toNat)] } })

/-- DOORBELL_PROCESS (R157): the oldest write of the FIFO is checked. -/
def execDoorbellProcess (s : State) : Host.Outcome State Fault Refusal :=
  match s.fe.fifo with
  | [] => .next s
  | (a, d) :: rest => .next (({ s with fe := { s.fe with fifo := rest } }).ring a d)

end Sys2Proof.Machine
end

