-- ==== Sys2Proof/Machine/Flags.lean ====
section
/-! DEFINITION. The computations that the spec names by a standard: binary32 arithmetic with rounding to nearest even,
CRC-32C, Philox4x32-10 and SHA-384. -/

namespace Sys2Proof.Machine

/-! ### binary32 -/

/-- Bits of the magnitude: the smallest `n` with `a < 2^n`. -/
def bitLen (a : Nat) : Nat := if a = 0 then 0 else Nat.log2 a + 1

/-- `a ÷ 2^k`, rounded to nearest, ties to even. -/
def rneShift (a k : Nat) : Nat :=
  if k = 0 then a
  else
    let q := a / 2 ^ k
    let r := a % 2 ^ k
    if 2 ^ (k - 1) < r ∨ (r = 2 ^ (k - 1) ∧ q % 2 = 1) then q + 1 else q

/-- The sign bit of a binary32. -/
def f32Neg (x : Nat) : Bool := bit x 31
/-- The exponent field of a binary32. -/
def f32Exp (x : Nat) : Nat := bits x 30 23
/-- The fraction field of a binary32. -/
def f32Frac (x : Nat) : Nat := bits x 22 0
/-- Whether a binary32 is an infinity or a NaN. -/
def f32Special (x : Nat) : Bool := f32Exp x == 255
/-- Whether a binary32 is a NaN. -/
def f32Nan (x : Nat) : Bool := f32Special x && f32Frac x != 0

/-- The magnitude of a finite binary32 in units of 2^-149. -/
def f32Mag (x : Nat) : Nat :=
  if f32Exp x = 0 then f32Frac x else (2 ^ 23 + f32Frac x) * 2 ^ (f32Exp x - 1)

/-- The value of a finite binary32 in units of 2^-149. -/
def f32Int (x : Nat) : Int := if f32Neg x then -(f32Mag x : Int) else (f32Mag x : Int)

/-- The binary32 of sign `neg` nearest to `a × 2^-149`, ties to even; too large a magnitude gives an infinity. -/
def f32Round (neg : Bool) (a : Nat) : Nat :=
  let s := 2 ^ 31 * b2n neg
  let k := bitLen a - 24
  let q := rneShift a k
  let (q, k) := if q = 2 ^ 24 then (2 ^ 23, k + 1) else (q, k)
  if q < 2 ^ 23 then s + q
  else if 254 < k + 1 then s + 255 * 2 ^ 23
  else s + 2 ^ 23 * (k + 1) + (q - 2 ^ 23)

/-- The canonical quiet NaN. -/
def f32QNan : Nat := 0x7FC00000

/-- binary32 addition, rounded to nearest even.  A sum of infinities of opposite signs, or of a NaN, is the quiet NaN. -/
def f32Add (x y : Nat) : Nat :=
  if f32Nan x || f32Nan y then f32QNan
  else if f32Special x then (if f32Special y && f32Neg x != f32Neg y then f32QNan else x)
  else if f32Special y then y
  else
    let n := f32Int x + f32Int y
    if n = 0 then (if f32Neg x && f32Neg y then 2 ^ 31 else 0)
    else f32Round (decide (n < 0)) n.natAbs

/-- binary32 of a bfloat16. -/
def f32OfBf16 (x : Nat) : Nat := 2 ^ 16 * (x % 2 ^ 16)

/-! ### CRC-32C -/

/-- One bit of the reflected CRC with polynomial 0x82F63B78. -/
def crcBit (c : Nat) : Nat := if c % 2 = 1 then Nat.xor (c / 2) 0x82F63B78 else c / 2

/-- One byte. -/
def crcByte (c b : Nat) : Nat := Nat.repeat crcBit 8 (Nat.xor c b)

/-- One 32-bit word, little-endian. -/
def crcWord (c : Nat) (w : Word) : Nat :=
  [wget w 7 0, wget w 15 8, wget w 23 16, wget w 31 24].foldl crcByte c

/-- CRC-32C of a list of words: initial value and final exclusive-or all ones. -/
def crc32c (ws : List Word) : Nat := Nat.xor (ws.foldl crcWord 0xFFFFFFFF) 0xFFFFFFFF

/-! ### Philox4x32-10 -/

/-- One round on the counter (c0, c1, c2, c3) with the key (k0, k1). -/
def philoxRound (c : Word × Word × Word × Word) (k : Word × Word) : Word × Word × Word × Word :=
  let p0 := 0xD2511F53 * c.1.toNat
  let p1 := 0xCD9E8D57 * c.2.2.1.toNat
  (Word.of (p1 / 2 ^ 32) ^^^ c.2.1 ^^^ k.1, Word.of p1, Word.of (p0 / 2 ^ 32) ^^^ c.2.2.2 ^^^ k.2, Word.of p0)

/-- The rounds left, with the key bumped before each but the first. -/
def philoxGo : Nat → Word × Word × Word × Word → Word × Word → Word × Word × Word × Word
  | 0, c, _ => c
  | n + 1, c, k => philoxGo n (philoxRound c k) (k.1 + 0x9E3779B9#32, k.2 + 0xBB67AE85#32)

/-- Philox4x32-10: the words x0 to x3 for a 64-bit key and a 128-bit counter. -/
def philox (key : Nat) (c0 c1 c2 c3 : Nat) : List Word :=
  let r := philoxGo 10 (Word.of c0, Word.of c1, Word.of c2, Word.of c3) (Word.of key, Word.of (key / 2 ^ 32))
  [r.1, r.2.1, r.2.2.1, r.2.2.2]

/-! ### SHA-384 -/

/-- The greatest number of `n` more bits, `r` standing above them, whose `k`th power is at most `x`. -/
def rootBits (k x : Nat) : Nat → Nat → Nat
  | 0, r => r
  | n + 1, r => if (r + 2 ^ n) ^ k ≤ x then rootBits k x n (r + 2 ^ n) else rootBits k x n r

/-- The first 64 bits after the binary point of the `k`th root of a number below 512. -/
def rootFrac (k p : Nat) : BitVec 64 := BitVec.ofNat 64 (rootBits k (p * 2 ^ (64 * k)) 69 0)

/-- The first 80 primes. -/
def shaPrimes : List Nat := (List.range 410).filter fun n => decide (2 ≤ n) && (List.range n).all fun d => decide (d < 2) || n % d != 0

/-- The round constants: FIPS 180-4 takes them from the cube roots of the first 80 primes. -/
def shaK : List (BitVec 64) := shaPrimes.map (rootFrac 3)

/-- Rotate right. -/
def ror (x : BitVec 64) (n : Nat) : BitVec 64 := x.rotateRight n

/-- The message schedule: the 16 words of a block, newest first, extended to 80. -/
def shaSchedule : Nat → List (BitVec 64) → List (BitVec 64)
  | 0, w => w
  | n + 1, w =>
    let g := fun i => w.getD i 0#64
    let s1 := ror (g 1) 19 ^^^ ror (g 1) 61 ^^^ (g 1 >>> 6)
    let s0 := ror (g 14) 1 ^^^ ror (g 14) 8 ^^^ (g 14 >>> 7)
    shaSchedule n ((s1 + g 6 + s0 + g 15) :: w)

/-- One round on the eight working variables. -/
def shaRound (v : List (BitVec 64)) (kw : BitVec 64 × BitVec 64) : List (BitVec 64) :=
  match v with
  | [a, b, c, d, e, f, g, h] =>
    let t1 := h + (ror e 14 ^^^ ror e 18 ^^^ ror e 41) + ((e &&& f) ^^^ (~~~e &&& g)) + kw.1 + kw.2
    let t2 := (ror a 28 ^^^ ror a 34 ^^^ ror a 39) + ((a &&& b) ^^^ (a &&& c) ^^^ (b &&& c))
    [t1 + t2, a, b, c, d + t1, e, f, g]
  | v => v

/-- One 128-byte block. -/
def shaBlock (h : List (BitVec 64)) (blk : List (BitVec 64)) : List (BitVec 64) :=
  let w := (shaSchedule 64 blk.reverse).reverse
  let v := (shaK.zip w).foldl shaRound h
  (h.zip v).map fun x => x.1 + x.2

/-- The initial hash value of SHA-384: FIPS 180-4 takes it from the square roots of the ninth to the sixteenth prime. -/
def sha384Init : List (BitVec 64) := ((shaPrimes.drop 8).take 8).map (rootFrac 2)

/-- The bytes of a word, least significant first. -/
def wordBytes (w : Word) : List Nat := [wget w 7 0, wget w 15 8, wget w 23 16, wget w 31 24]

/-- The big-endian 64-bit value of eight bytes. -/
def be64 (b : List Nat) : BitVec 64 := BitVec.ofNat 64 (b.foldl (fun a x => a * 256 + x) 0)

/-- The first `n` groups of `k` elements of a list. -/
def groups {α : Type} (k : Nat) : Nat → List α → List (List α)
  | 0, _ => []
  | n + 1, l => l.take k :: groups k n (l.drop k)

/-- SHA-384 of a byte string: 48 bytes. -/
def sha384 (m : List Nat) : List Nat :=
  let pad := (240 - (m.length + 1 + 16) % 128 + 16) % 128
  let len := (List.range 16).map fun i => 8 * m.length / 256 ^ (15 - i) % 256
  let bs := m ++ [0x80] ++ List.replicate pad 0 ++ len
  let ws := groups 8 (bs.length / 8) bs |>.map be64
  let h := (groups 16 (ws.length / 16) ws).foldl shaBlock sha384Init
  (h.take 6).flatMap fun x => (List.range 8).map fun i => x.toNat / 256 ^ (7 - i) % 256

/-- The bytes of a list of words, each least significant first (R11). -/
def bytesOf (ws : List Word) : List Nat := ws.flatMap wordBytes

/-- The words of a list of bytes. -/
def wordsOf (bs : List Nat) : List Word :=
  (groups 4 (bs.length / 4) bs).map fun b => Word.of (b.getD 0 0 + 256 * b.getD 1 0 + 65536 * b.getD 2 0 + 16777216 * b.getD 3 0)

end Sys2Proof.Machine
end

