-- ==== Sys2Proof/Machine/HubOps.lean ====
section
/-! DEFINITION. What the commands of the Message Hub share: delivery to a receive queue (R275 to R278), contributions and results of
Stooks (R292 to R294), a send (R284), and remote sends (R287, R288). -/

namespace Sys2Proof.Machine

/-! ### Receive queues -/

/-- The answer to a message (R283): a RESULT code and, for REFUSED, the error. -/
structure MsgAnswer where
  result : Nat
  err : Option Err
deriving DecidableEq, Repr

/-- DELIVERED. -/
def MsgAnswer.delivered : MsgAnswer := ⟨0, none⟩
/-- SPILLED. -/
def MsgAnswer.spilled : MsgAnswer := ⟨1, none⟩
/-- DISCARDED. -/
def MsgAnswer.discarded : MsgAnswer := ⟨4, none⟩
/-- REFUSED. -/
def MsgAnswer.refused (e : Err) : MsgAnswer := ⟨3, some e⟩

/-- A field of a receive-queue entry. -/
def State.rq (s : State) (q : Nat) (f : Fld) : Nat := s.rm (rxqRow q) f
/-- The state with a field of a receive-queue entry written. -/
def State.setRq (s : State) (q : Nat) (f : Fld) (v : Nat) : State := s.setRm (rxqRow q) f v

/-- Units of a message. -/
def msgUnits (m : List Word) : Nat := fld m Ms.UNITS + 1

/-- Ring bytes of a queue that are in use: TAIL − HEAD. -/
def State.ringUsed (s : State) (q : Nat) : Nat := s.ringBytes q

/-- A refusal of a queue or Stook of partition `p`: it is reported for the sender's partition and counted in REFUSALS (R298). -/
def State.refuseMsg (s : State) (sp : Nat) (p : Option Nat) (e : Err) : State × MsgAnswer :=
  let s := s.reportPlain e (if s.partOk sp then some sp else none)
  let s := match p with
    | some p => if s.partOk p then s.incRf (Reg.MH_REFUSALS p) else s
    | none => s
  (s, .refused e)

/-- A message is accepted: MSGS counts it (R272). -/
def State.countMsg (s : State) (q : Nat) : State := s.setRq q Rq.MSGS (min (s.rq q Rq.MSGS + 1) (2 ^ 32 - 1))

/-- The source of a message in the order of R279: 0 the fabric, 1 the ERA's notices, 2 the Stooks' results, 3 a core of this device. -/
def State.msgSource (s : State) (m : List Word) : Nat :=
  if fld m Ms.KIND = 4 then 1 else if fld m Ms.KIND = 5 then 2 else if fld m Ms.SRC_DEV = s.self then 3 else 0

/-- A message takes its place on chip. -/
def State.placeMsg (s : State) (q : Nat) (m : List Word) : State :=
  let s := { s with mh := { s.mh with msgs := s.mh.msgs ++ [(⟨q, m⟩ : RxMsg)] } }
  s.setRq q Rq.USED (s.rq q Rq.USED + msgUnits m)

/-- A message has reached a queue in this cc (R279). -/
def State.noteArrival (s : State) (q : Nat) (m : List Word) : State :=
  { s with cyc := { s.cyc with arrived := s.cyc.arrived ++ [(q, s.msgSource m)] } }

/-- A ring write failed (R278): the message is lost. -/
def State.granaryWriteBad (s : State) (q : Nat) : State :=
  let s := s.reportPlain E.GRANARY_WRITE (some (s.rq q Rq.PART))
  if s.rq q Rq.VALID = 1 then s.setRq q Rq.OVR 1 else s

/-- Write one item of `ws` at the ring's TAIL; TAIL advances by `bytes`. -/
def State.ringPut (s : State) (q : Nat) (ws : List Word) (bytes tag : Nat) : State :=
  let size := 2 ^ s.rq q Rq.GR_LOG2
  let a := addr52 (s.row (rxqRow q) 8) 1 + s.rq q Rq.TAIL % size
  let s := s.setRq q Rq.TAIL ((s.rq q Rq.TAIL + bytes) % 2 ^ 32)
  let s := s.setRq q Rq.SPILLING 1
  let s := { s with mh := { s.mh with ring := s.mh.ring ++ [(⟨q, bytes, tag⟩ : RingItem)] } }
  match s.mmWrite a ws (s.rq q Rq.PART) 1 4 (.granary q 0) with
  | (s, true) => s
  | (s, false) => s.granaryWriteBad q

/-- Ring placement (R276). -/
def State.ringPlace (s : State) (sp q : Nat) (m : List Word) : State × MsgAnswer :=
  let size := 2 ^ s.rq q Rq.GR_LOG2
  let n := 16 * msgUnits m
  let t := s.rq q Rq.TAIL % size
  let left := size - t
  let free := size - s.ringUsed q
  let done := fun (s : State) => ((s.countMsg q).incRf (Reg.MH_SPILLS (s.rq q Rq.PART)), MsgAnswer.spilled)
  if n ≤ left ∧ n ≤ free then done (s.ringPut q m n (fld m Ms.STEP_TAG))
  else if left < n ∧ left + n ≤ free then
    let pad := mkRec 4 [(Ms.KIND, 15), (Ms.UNITS, left / 16 - 1)]
    done ((s.ringPut q pad left 0).ringPut q m n (fld m Ms.STEP_TAG))
  else (s.setRq q Rq.OVR 1).refuseMsg sp (some (s.rq q Rq.PART)) E.MSG_FULL

/-- What the hub holds of a queue beside its entry is gone (R273): its messages on chip and what it knows of the ring; the answer of a refill that is
still out is not taken for the ring of a later use. -/
def State.emptyRxq (s : State) (q : Nat) : State :=
  let drop := fun (x : MmXfer) => match x.use with
    | .granary a (_ + 1) => if a = q then { x with use := .dropped } else x
    | _ => x
  { s with mh := { s.mh with msgs := s.mh.msgs.filter (fun m => m.q != q), ring := s.mh.ring.filter (fun r => r.q != q),
                             refills := s.mh.refills.filter fun r => r.q != q },
           mm := { busy := s.mm.busy.map drop, waiting := s.mm.waiting.map drop } }

/-- A receive queue is emptied and leaves use. -/
def State.closeRxq (s : State) (q : Nat) : State := ((s.setRq q Rq.VALID 0).setRq q Rq.USED 0).emptyRxq q

/-- The hub reads a receive-queue entry: a damaged one loses VALID (R422). -/
def State.checkRxq (s : State) (q : Nat) : State :=
  let s := s.corrected (rxqRow q) 8 (some (s.rq q Rq.PART)) 10 q
  if s.rq q Rq.VALID = 1 ∧ s.eccBad (rxqRow q) 8 then
    (s.reportRow E.ECC_UNCORRECTED 2 (some (s.rq q Rq.PART)) 10 q (s.eccWord (rxqRow q) 8)).closeRxq q
  else s

/-- A message reaches a receive queue (R275). -/
def State.deliver (s : State) (sp q : Nat) (m : List Word) : State × MsgAnswer :=
  let s := (if q < s.build.rxqs then s.checkRxq q else s).noteArrival q m
  let u := msgUnits m
  let p := s.rq q Rq.PART
  if s.build.rxqs ≤ q ∨ s.rq q Rq.VALID = 0 then s.refuseMsg sp none E.MSG_RXQ
  else if p ≠ sp then s.refuseMsg sp (some p) E.MSG_PART
  else if s.tagDead (fld m Ms.STEP_TAG) then (s.chaff p 1, .discarded)
  else if s.rq q Rq.SPILLING = 0 ∧ s.rq q Rq.USED + u ≤ 16 then ((s.placeMsg q m).countMsg q, .delivered)
  else if s.rq q Rq.GR_LOG2 = 0 then (s.setRq q Rq.OVR 1).refuseMsg sp (some p) E.MSG_FULL
  else if 2 ^ s.rq q Rq.GR_LOG2 < 16 * u then (s.setRq q Rq.OVR 1).refuseMsg sp (some p) E.MSG_TOO_LONG
  else s.ringPlace sp q m

/-- HEAD passes one ring item; SPILLING ends when HEAD reaches TAIL (R277). -/
def State.ringTake (s : State) (q bytes : Nat) : State :=
  let s := s.setRq q Rq.HEAD ((s.rq q Rq.HEAD + bytes) % 2 ^ 32)
  let other := fun (r : RingItem) => r.q != q
  let s : State := { s with mh := { s.mh with ring := s.mh.ring.takeWhile other ++ (s.mh.ring.dropWhile other).tail } }
  if s.rq q Rq.HEAD = s.rq q Rq.TAIL then s.setRq q Rq.SPILLING 0 else s

/-- Take whole messages from the words that a refill has read (R277): pads are skipped, dead tags are Chaff, and a message that does not
fit on chip, or is not there whole, stays in the ring.  The count is the fuel. -/
def State.refillTake (q : Nat) : Nat → List Word → State → State
  | 0, _, s => s
  | fuel + 1, ws, s =>
    let u := msgUnits ws
    let m := ws.take (4 * u)
    let rest := ws.drop (4 * u)
    if ws = [] ∨ ws.length < 4 * u ∨ s.ringUsed q < 16 * u then s
    else if fld ws Ms.KIND = 15 then State.refillTake q fuel rest (s.ringTake q (16 * u))
    else if s.tagDead (fld ws Ms.STEP_TAG) then State.refillTake q fuel rest ((s.ringTake q (16 * u)).chaff (s.rq q Rq.PART) 1)
    else if 16 < s.rq q Rq.USED + u then s
    else State.refillTake q fuel rest ((s.placeMsg q m).ringTake q (16 * u))

/-- A refill read failed (R278): the ring's contents are abandoned. -/
def State.refillBad (s : State) (q : Nat) : State :=
  let s := s.setRq q Rq.HEAD (s.rq q Rq.TAIL)
  let s := (s.setRq q Rq.OVR 1).setRq q Rq.SPILLING 0
  let s := { s with mh := { s.mh with ring := s.mh.ring.filter fun r => r.q != q } }
  s.reportPlain E.GRANARY_READ (some (s.rq q Rq.PART))

/-- Start a refill (R277) when the ring holds something and four slots are free: it asks for what fits the free slots, up to the ring's
end. -/
def State.refill (s : State) (q : Nat) : State :=
  let free := 16 - s.rq q Rq.USED
  if s.build.rxqs ≤ q ∨ s.rq q Rq.VALID = 0 ∨ s.ringUsed q = 0 ∨ free < 4 ∨ s.mh.refills.any (fun r => r.q == q) ∨ !s.unitEn U.MH then s
  else
    let size := 2 ^ s.rq q Rq.GR_LOG2
    let h := s.rq q Rq.HEAD % size
    let n := min (16 * free) (min (s.ringUsed q) (size - h))
    let a := addr52 (s.row (rxqRow q) 8) 1 + h
    let s := { s with mh := { s.mh with refills := s.mh.refills ++ [(⟨q, n, a % 64 / 4⟩ : Refill)] } }
    match s.mmRead (a / 64 * 64) (ceilDiv (a % 64 + n) 64) (s.rq q Rq.PART) 1 4 (.granary q 1) with
    | (s, true) => s
    | (s, false) => { s with mh := { s.mh with refills := s.mh.refills.filter fun r => r.q != q } }.refillBad q

/-- The data of a refill, or its failure (R277, R278). -/
def State.refillData (s : State) (q : Nat) (ok : Bool) (ws : List Word) : State :=
  match s.mh.refills.find? fun r => r.q == q with
  | none => s
  | some r =>
    let s := { s with mh := { s.mh with refills := s.mh.refills.filter fun r => r.q != q } }
    if ok then State.refillTake q 16 ((ws.drop r.skip).take (r.bytes / 4)) s else s.refillBad q

/-! ### Stooks -/

/-- Elements of a message as numbers: one word each, or two for INT64 (R292). -/
def msgElems (i64 : Bool) (n : Nat) (m : List Word) : List Nat :=
  (List.range n).map fun i => if i64 then wide m (4 + 2 * i) else (wordAt m (4 + i)).toNat

/-- Fold one contribution into the sum (R293): `type` 0 INT32, 1 INT64, 2 BINARY32. -/
def foldElems (type : Nat) (acc c : List Nat) : List Nat :=
  (acc.zip c).map fun (a, b) => match type with
    | 0 => (a + b) % 2 ^ 32
    | 1 => (a + b) % 2 ^ 64
    | _ => f32Add a b

/-- A Stook faults: its held contributions are freed (R292). -/
def State.faultStook (s : State) (k : Nat) : State :=
  (s.setRm (stookRow k) Sk.STATE 2).updStookX k fun x => { x with held := [], pending := none }

/-- The result message of a round (R294). -/
def State.stookResult (s : State) (k : Nat) : List Word :=
  let ws := (s.stookX k).acc.flatMap fun v => if s.sk k Sk.TYPE = 1 then words64 v else [BitVec.ofNat 32 v]
  let u := 1 + ceilDiv ws.length 4
  let h := mkRec 4 [(Ms.KIND, 5), (Ms.UNITS, u - 1), (Ms.HANDLER, s.sk k Sk.HANDLER), (Ms.DST, s.sk k Sk.RESULT_RXQ),
    (Ms.DST_DEV, s.self), (Ms.STEP_TAG, s.sk k Sk.RTAG), (Ms.COOKIE, s.sk k Sk.ROUND), (Ms.SRC_DEV, s.self), (Ms.SYS, 1)]
  h ++ ws ++ zeros (4 * (u - 1) - ws.length)

/-- Offer the result of a round to its queue (R294): unless it is refused, the round ends. -/
def State.offerResult (s : State) (k : Nat) : State :=
  let (s, a) := s.deliver (s.sk k Sk.PART) (s.sk k Sk.RESULT_RXQ) (s.stookResult k)
  if a.err.isSome then s.updStookX k fun x => { x with pending := some s.now }
  else (s.setRm (stookRow k) Sk.ROUND ((s.sk k Sk.ROUND + 1) % 2 ^ 16)).clearRound k

/-- The contribution that comes next, if it is held, is folded; the last one completes the result (R292, R294). -/
def State.foldNext (s : State) (k : Nat) : State :=
  let p := s.sk k Sk.FOLDED
  match (s.stookX k).held.find? fun e => e.1 == p with
  | none => s
  | some (_, m) =>
    let c := msgElems (s.sk k Sk.TYPE == 1) (s.sk k Sk.ELEMS) m
    let s := s.updStookX k fun x => { x with held := x.held.filter (fun e => e.1 != p),
                                             acc := if p = 0 then c else foldElems (s.sk k Sk.TYPE) x.acc c }
    let s := s.setRm (stookRow k) Sk.FOLDED (p + 1)
    if p + 1 = s.sk k Sk.N then s.offerResult k else s

/-- One core cycle of the Stooks: each OPEN one folds the held contribution that comes next, one per cc (R292). -/
def State.foldStooks (s : State) : State :=
  ((s.mh.stooks.filter fun x => x.held != [] && s.sk x.idx Sk.STATE == 1).map (·.idx)).foldl State.foldNext s

/-- The hub reads the entry of a Stook: a damaged one that is OPEN faults (R422). -/
def State.checkStook (s : State) (k : Nat) : State :=
  let s := s.corrected (stookRow k) 16 (some (s.sk k Sk.PART)) 10 k
  if s.sk k Sk.STATE = 1 ∧ s.eccBad (stookRow k) 16 then
    (s.reportRow E.ECC_UNCORRECTED 2 (some (s.sk k Sk.PART)) 10 k (s.eccWord (stookRow k) 16)).faultStook k
  else s

/-- A contribution reaches a Stook (R292). -/
def State.contribute (s : State) (sp k : Nat) (m : List Word) : State × MsgAnswer :=
  let p := s.sk k Sk.PART
  let ord := bits (fld m Ms.HANDLER) 5 0
  let round := bits (fld m Ms.HANDLER) 11 6
  let tag := fld m Ms.STEP_TAG
  let need := s.sk k Sk.ELEMS * (if s.sk k Sk.TYPE = 1 then 2 else 1)
  let first := s.ram64 (stookRow k + 4) == 0
  let s := if k < s.build.stooks then s.checkStook k else s
  if s.build.stooks ≤ k then s.refuseMsg sp none E.STOOK_STATE
  else if s.sk k Sk.STATE ≠ 1 then s.refuseMsg sp (some p) E.STOOK_STATE
  else if p ≠ sp then s.refuseMsg sp (some p) E.MSG_PART
  else if s.tagDead tag then (s.chaff p 1, .discarded)
  else if round ≠ s.sk k Sk.ROUND % 64 ∨ (s.stookX k).pending.isSome then s.refuseMsg sp (some p) E.STOOK_ROUND
  else if s.sk k Sk.N ≤ ord ∨ bit (s.ram64 (stookRow k + 4)) ord ∨ 4 * (msgUnits m - 1) < need ∨
      (s.sk k Sk.RTAG ≠ 0 ∧ tag ≠ s.sk k Sk.RTAG) then (s.faultStook k).refuseMsg sp (some p) E.STOOK_ORD
  else if ord ≠ s.sk k Sk.FOLDED ∧ 4096 ≤ s.poolUsed then s.refuseMsg sp (some p) E.STOOK_POOL
  else
    let s := s.setRam64 (stookRow k + 4) (setBit (s.ram64 (stookRow k + 4)) ord true)
    let s := if first then s.setRm (stookRow k) Sk.RTAG tag else s
    let s := s.updStookX k fun x => { x with held := x.held ++ [(ord, m)] }
    (if ord = s.sk k Sk.FOLDED then s.foldNext k else s, .delivered)

/-! ### Sends (R284 to R288) -/

/-- A message is handled where it is addressed: its Stook, or its queue. -/
def State.handleMsg (s : State) (sp : Nat) (m : List Word) : State × MsgAnswer :=
  if fld m Ms.KIND = 3 then s.contribute sp (fld m Ms.DST) m else s.deliver sp (fld m Ms.DST) m

/-- Count an answer at the sending core and its route (R280, R285). -/
def State.countSend (s : State) (c : Nat) (route : Option Nat) (result : Nat) : State :=
  let inc := fun (s : State) (a : Nat) => s.setReg a (BitVec.ofNat 32 (min ((s.reg a).toNat + 1) (2 ^ 32 - 1)))
  let s := if result ≤ 1 then inc s (Reg.CW_SENT_A c) else s
  let s := if result = 1 then inc s (Reg.CW_SPILLED_A c) else s
  let s := if result = 3 ∨ result = 5 then inc s (Reg.CW_REFUSED_A c) else s
  match route with
  | none => s
  | some r =>
    let up := fun (s : State) (f : Fld) => s.setRm (routeRow r) f (min (s.rm (routeRow r) f + 1) (2 ^ 32 - 1))
    let s := if result ≤ 1 then up s Rt.MSG_COUNT else s
    if result = 1 ∨ result = 3 ∨ result = 5 then up s Rt.STALL_COUNT else s

/-- SEND_STATUS of a core. -/
def State.sendStatus (s : State) (c result code : Nat) : State :=
  s.setReg (Reg.CW_SEND_STATUS_A c) (packW [(0, result), (16, code)])

/-- A send ends locally with an answer. -/
def State.sendEnd (s : State) (c : Nat) (route : Option Nat) (a : MsgAnswer) : State :=
  (s.sendStatus c a.result ((a.err.map (·.code)).getD 0)).countSend c route a.result

/-- A send is refused before it reaches a queue. -/
def State.sendRefuse (s : State) (c p : Nat) (route : Option Nat) (e : Err) : State :=
  (s.reportPlain e (if s.partOk p then some p else none)).sendEnd c route (.refused e)

/-- Step 2 of R284. -/
def sendFieldsOk (m : List Word) : Bool :=
  let kind := fld m Ms.KIND
  let u := msgUnits m
  decide (kind ≤ 3) && decide ((if kind = 0 then 1 else if kind = 2 then 3 else 2) ≤ u) && rsvd m 3 31 0 && rsvd m 0 7 7 && rsvd m 0 31 20 &&
    (fld m Ms.ROUTED == 1 || rsvd m 1 31 24) && (kind != 2 || decide (addr52 m 9 % 4 = 0))

/-- The flits of a message (R287). -/
def State.msgFlits (s : State) (dev p seq : Nat) (m : List Word) : List (List Word) :=
  let body := groups 5 (ceilDiv (4 * (msgUnits m - 1)) 5) (m.drop 4)
  let n := 1 + body.length
  (s.flit 5 dev p n seq (n == 1) (m.take 4)) ::
    (body.zip (List.range body.length)).map fun (ws, i) => s.flit 5 dev p n seq (i + 2 == n) ws

/-- A send to another device (R288). -/
def State.sendRemote (s : State) (c p : Nat) (route : Option Nat) (m : List Word) : State :=
  let dev := fld m Ms.DST_DEV
  let mine := (s.mh.sends.filter fun x => x.core == c).length + (s.mh.ends.filter fun x => x.core == c).length
  if !s.member dev then s.sendRefuse c p route E.REMOTE_DEPARTED
  else if 256 ≤ s.mh.sends.length ∨ 32 ≤ mine then s.sendRefuse c p route E.MSG_REMOTE_BUSY
  else
    let q := s.mh.msgSeq
    let x : MsgSend := ⟨q, c, fld m Ms.COOKIE, dev, p, route, s.now⟩
    let s := { s with mh := { s.mh with msgSeq := (q + 1) % 2 ^ 32, sends := s.mh.sends ++ [x] } }
    (s.sendFlits false (s.msgFlits dev p q m)).sendStatus c 2 0

/-- A remote send ends: its outcome joins the core's FIFO (R288). -/
def State.endSend (s : State) (x : MsgSend) (result code : Nat) : State :=
  let s := { s with mh := { s.mh with sends := s.mh.sends.filter (fun y => y.seq != x.seq), ends := s.mh.ends ++ [(⟨x.core, x.cookie, result, code⟩ : MsgEnd)] } }
  s.countSend x.core x.route result

/-- The hub reads a route: a damaged one loses VALID (R422). -/
def State.checkRoute (s : State) (r : Nat) : State :=
  let s := s.corrected (routeRow r) 8 (some (s.rm (routeRow r) Rt.PART)) 10 r
  if s.rm (routeRow r) Rt.VALID = 1 ∧ s.eccBad (routeRow r) 8 then
    (s.reportRow E.ECC_UNCORRECTED 2 (some (s.rm (routeRow r) Rt.PART)) 10 r (s.eccWord (routeRow r) 8)).setRm (routeRow r) Rt.VALID 0
  else s

/-- SEND_GO of core `c` (R284). -/
def State.sendGo (s : State) (c : Nat) : State :=
  let m0 := (List.range 16).map fun i => s.reg (Reg.CW_SB_A c i)
  let m := m0.take (4 * msgUnits m0)
  let p := s.rf (Reg.MH_CORE_CFG_PART c)
  if s.build.ccores ≤ c ∨ !s.unitEn U.MH then s
  else if !s.rb (Reg.MH_CORE_CFG_ENABLE c) then s.sendRefuse c p none E.MSG_CORE
  else if !sendFieldsOk m then s.sendRefuse c p none E.MSG_FIELD
  else
    let routed := fld m Ms.ROUTED == 1
    let h := fld m Ms.ROUTE
    let r := hIdx h
    let s := if routed ∧ r < 4096 then s.checkRoute r else s
    let route := if routed then some r else none
    let data := fld m Ms.KIND == 2
    if routed ∧ !(decide (r < 4096) && decide (s.rm (routeRow r) Rt.VALID = 1) && decide (s.rm (routeRow r) Rt.GEN = hGen h) &&
        decide (s.rm (routeRow r) Rt.PART = p)) then s.sendRefuse c p none E.MSG_ROUTE
    else if data ∧ pf m 8 1 0 ≤ 1 ∧ addr52 m 9 = 0 ∧ !(routed && s.rm (routeRow r) Rt.SCALE_EN == 1) then
      s.sendRefuse c p route E.MSG_SCALE
    else
      let dst := if routed then s.rm (routeRow r) Rt.DST else fld m Ms.DST
      let dev := if routed then s.rm (routeRow r) Rt.DST_DEV else fld m Ms.DST_DEV
      let m := m.set 1 (packW [(0, dst), (12, dev)])
      let m := m.set 3 (packW [(0, s.self), (12, c)])
      let m := if routed ∧ data ∧ addr52 m 9 = 0 then m.set 11 (s.ram (routeRow r + 2)) else m
      if dev ≠ s.self then s.sendRemote c p route m
      else
        let (s, a) := s.handleMsg p m
        s.sendEnd c route a

/-- Whether the hub holds a message or a Stook round with a tag, so that the ST may not give it out again (R290). -/
def State.tagHeld (s : State) (t : Nat) : Bool :=
  s.mh.msgs.any (fun m => fld m.words Ms.STEP_TAG == t) || s.mh.ring.any (fun r => r.tag == t) ||
    (List.range s.build.stooks).any fun k => s.sk k Sk.STATE == 1 && s.sk k Sk.RTAG == t

/-! ### Pops (R281, R288) -/

/-- Remove the first message of a queue. -/
def dropFirstMsg (q : Nat) (l : List RxMsg) : List RxMsg :=
  (l.takeWhile fun m => m.q != q) ++ (l.dropWhile fun m => m.q != q).tail

/-- The oldest live message on chip of a queue, which leaves it; dead ones before it are Chaff.  The count is the fuel. -/
def State.popLive (q : Nat) : Nat → State → State × Option (List Word)
  | 0, s => (s, none)
  | fuel + 1, s =>
    match s.mh.msgs.find? fun m => m.q == q with
    | none => (s, none)
    | some m =>
      let s := { s with mh := { s.mh with msgs := dropFirstMsg q s.mh.msgs } }
      let s := s.setRq q Rq.USED (s.rq q Rq.USED - msgUnits m.words)
      if s.tagDead (fld m.words Ms.STEP_TAG) then State.popLive q fuel (s.chaff (s.rq q Rq.PART) 1)
      else (s, some m.words)

/-- A read of RX_POP of core `c` (R281), whether or not the MH is enabled (R461). -/
def State.rxPop (s : State) (c : Nat) : State × Word :=
  let q := wget (s.reg (Reg.CW_RX_Q_A c)) 11 0
  let last := s.reg (Reg.CW_RX_POP_A c)
  if s.build.ccores ≤ c then (s, 0#32)
  else
    let s := if q < s.build.rxqs then s.checkRxq q else s
    if s.build.rxqs ≤ q ∨ s.rq q Rq.VALID = 0 ∨ s.rq q Rq.CORE ≠ c then (s, last)
    else match State.popLive q 17 s with
      | (s, none) => ((s.setRq q Rq.UNDER 1).incRf (Reg.MH_UNDERRUNS (s.rq q Rq.PART)), last)
      | (s, some m) =>
        let s := (List.range 16).foldl (fun s i => s.setReg (Reg.CW_MB_A c i) (wordAt m i)) s
        let s := s.setReg (Reg.CW_RX_POP_A c) (wordAt m 0)
        let n := (s.reg (Reg.CW_POPPED_A c)).toNat
        (s.setReg (Reg.CW_POPPED_A c) (BitVec.ofNat 32 (min (n + 1) (2 ^ 32 - 1))), wordAt m 0)

/-- A read of OUT_POP of core `c` (R288). -/
def State.outPop (s : State) (c : Nat) : State × Word :=
  match s.mh.ends.find? fun e => e.core == c with
  | none => (s, 0#32)
  | some e =>
    let other := fun (x : MsgEnd) => x.core != c
    let s : State := { s with mh := { s.mh with ends := s.mh.ends.takeWhile other ++ (s.mh.ends.dropWhile other).tail } }
    (s.setReg (Reg.CW_OUT_CODE_A c) (packW [(0, e.code)]), packW [(0, e.cookie), (16, e.result), (19, 1)])

end Sys2Proof.Machine
end

