-- ==== Sys2Proof/Machine/Domain.lean ====
section
/-! DEFINITION. The domain of devices (R321 to R326): the map, traffic that fails because its device has left, LEAVE and JOIN, and
the loss of the fabric link. -/

namespace Sys2Proof.Machine

/-- Set or clear a device's bit in the domain map (R321). -/
def State.setMember (s : State) (d : Nat) (b : Bool) : State :=
  let k := ramKey 0x1C (d / 32)
  s.setRam k (BitVec.ofNat 32 (setBit (s.ram k).toNat (d % 32) b))

/-- The other members of the domain, in ascending order. -/
def State.others (s : State) : List Nat := (List.range 4096).filter fun d => d != s.self && s.member d

/-- A remote edge leaves the send queue with its launch failed (R318, R322). -/
def State.failEdge (s : State) (e : RemoteSend) (err : Err) : State :=
  let s := { s with dr := { s.dr with sendQ := s.dr.sendQ.filter (· != e) } }
  if s.sl e.slot Sl.LAUNCH_ID = e.launchId then s.killWith e.slot err e.sender else s

/-- A sheaf flit ends badly: the arrival of a SENT sheaf, for which the sheaf is FAULTED, or a release (R264, R265, R322). -/
def State.failSheafMsg (s : State) (m : SheafMsg) (e : Err) (departed : Bool) : State :=
  let s := { s with sm := { s.sm with msgs := s.sm.msgs.filter (· != m) } }
  if m.release then (if departed then s else s.reportPlain e (some (s.shv m.sheaf Sh.PART)))
  else if s.shv m.sheaf Sh.STATE = 2 then s.faultSheaf m.sheaf e else s

/-- R322: requests that are outstanding to devices that have left. -/
def State.failTraffic (s : State) (gone : Nat → Bool) : State :=
  let s := (s.dr.sendQ.filter fun e => gone e.dev).foldl (fun s e => s.failEdge e E.REMOTE_DEPARTED) s
  let s := (s.fe.signals.filter fun g => gone g.dev).foldl (fun s g =>
    (s.reportSignal (some g.who) g.part E.REMOTE_DEPARTED).signalDone g E.REMOTE_DEPARTED.code 0) s
  let s := (s.mh.sends.filter fun x => gone x.dev).foldl (fun s x =>
    (s.reportPlain E.REMOTE_DEPARTED (some x.part)).endSend x 3 E.REMOTE_DEPARTED.code) s
  (s.sm.msgs.filter fun m => gone m.dev).foldl (fun s m => s.failSheafMsg m E.REMOTE_DEPARTED true) s

/-! ### LEAVE and JOIN -/

/-- The end of a command of DR_DOMAIN_CMD. -/
def State.endDomCmd (s : State) (member : Nat) : State :=
  let s := ((s.setRf Reg.DR_DOMAIN_STATUS_BUSY 0).setRf Reg.DR_DOMAIN_STATUS_DONE 1).setRf Reg.DR_DOMAIN_STATUS_MEMBER member
  { s with dr := { s.dr with domCmd := 0 } }

/-- Clear every bit of the domain map but the device's own. -/
def State.keepSelf (s : State) : State :=
  (List.range 128).foldl (fun s i =>
    let k := ramKey 0x1C i
    s.setRam k (if s.self / 32 = i then s.ram k &&& BitVec.ofNat 32 (2 ^ (s.self % 32)) else 0#32)) s

/-- LEAVE or JOIN ends once every send has ended (R324, R325). -/
def State.settleDomain (s : State) : State :=
  if s.dr.departs ≠ [] then s
  else if s.dr.domCmd = 3 then
    s.keepSelf.endDomCmd 0
  else if s.dr.domCmd = 2 then s.endDomCmd 1
  else s

/-- Send DEPART LEAVE (0) or JOIN (2) to the given devices, in order (R323). -/
def State.sendDeparts (s : State) (join : Bool) (ds : List Nat) : State :=
  ds.foldl (fun s d =>
    let q := s.fe.sigSeq
    let s := { s with fe := { s.fe with sigSeq := (q + 1) % 2 ^ 32 },
                      dr := { s.dr with departs := s.dr.departs ++ [(⟨d, join, q, s.now⟩ : Depart)] } }
    s.sendFlits false [s.flit 6 d 0 1 q true [if join then 2#32 else 0#32, BitVec.ofNat 32 s.self]]) s

/-- A DEPART send ends (R324, R325): a JOIN that was not accepted clears the device's bit. -/
def State.endDepart (s : State) (d : Depart) (ok : Bool) : State :=
  let s := { s with dr := { s.dr with departs := s.dr.departs.filter (· != d) } }
  let s := if d.join && !ok then (s.setMember d.dev false).report E.DOMAIN_JOIN none d.dev 0 else s
  s.settleDomain

/-- A command of DR_DOMAIN_CMD is refused (R328). -/
def State.refuseDomain (s : State) : State :=
  let s := s.reportPlain E.DOMAIN_JOIN none
  let s := (s.setRf Reg.DR_DOMAIN_STATUS_REFUSED 1).setRf Reg.DR_DOMAIN_STATUS_CODE E.DOMAIN_JOIN.code
  s.setRf Reg.DR_DOMAIN_STATUS_DONE 1

/-- A command of DR_DOMAIN_CMD starts. -/
def State.startDomain (s : State) (cmd : Nat) : State :=
  let s := (s.setRf Reg.DR_DOMAIN_STATUS_BUSY 1).setRf Reg.DR_DOMAIN_STATUS_DONE 0
  let s := (s.setRf Reg.DR_DOMAIN_STATUS_REFUSED 0).setRf Reg.DR_DOMAIN_STATUS_CODE 0
  { s with dr := { s.dr with domCmd := cmd } }

/-- Whether the build has the fabric port (R328). -/
def State.hasFabric (s : State) : Bool := s.build.fabric

/-- DR_DOMAIN_CMD LEAVE (R324 steps 1 and 2). -/
def State.domainLeave (s : State) : State :=
  if s.rb Reg.DR_DOMAIN_STATUS_BUSY then s else if !s.hasFabric then s.refuseDomain else s.startDomain 1

/-- DR_DOMAIN_CMD JOIN (R325). -/
def State.domainJoin (s : State) : State :=
  if s.rb Reg.DR_DOMAIN_STATUS_BUSY then s
  else if !s.hasFabric ∨ s.rb Reg.DR_DOMAIN_STATUS_MEMBER then s.refuseDomain
  else ((s.startDomain 2).sendDeparts true s.others).settleDomain

/-- DR_DOMAIN_CMD by its OP; other values are ignored. -/
def State.domainCmd (s : State) (op : Nat) : State :=
  match op with
  | 1 => s.domainLeave
  | 2 => s.domainJoin
  | _ => s

/-- R324 steps 3 and 4: no bound launch is live and the send queue is empty. -/
def State.leaveSend (s : State) : State :=
  if s.dr.domCmd = 1 ∧ s.rb Reg.DR_DOMAIN_STATUS_BUSY ∧ s.dr.sendQ = [] ∧ !s.gs.launches.any (fun l => l.round.isSome) then
    (({ s with dr := { s.dr with domCmd := 3 } }).sendDeparts false s.others).settleDomain
  else s

/-! ### The link itself (R68, R69, R79, R479) -/

/-- The fabric link is lost: outstanding requests fail as to a device that has left, and the block is a domain of one; the map is kept. -/
def State.fabDown (s : State) : State :=
  let s := if s.fab.up then s.failTraffic (fun d => d != s.self) else s
  let s := s.dr.departs.foldl (fun s d => s.endDepart d false) s
  let s := s.setRf Reg.DR_DOMAIN_STATUS_SELF 0
  { s with fab := Fabric.off s.fab.present }

/-- Send the LINKUP flit (R68).  It needs no transmit credit (notes/assumptions/27.md). -/
def State.fabLinkup (s : State) : State :=
  let f := s.flit 0 0 0 1 0 true [0x303#32]
  (s.fabBytes f).emit (.fpFlit false f)

/-- DOMAIN_LEAVE. -/
def execDomainLeave (s : State) : Host.Outcome State Fault Refusal := .next (s.regInput .domainLeave State.domainLeave)

/-- DOMAIN_JOIN. -/
def execDomainJoin (s : State) : Host.Outcome State Fault Refusal := .next (s.regInput .domainJoin State.domainJoin)

/-- DOMAIN_LEAVE_SEND. -/
def execDomainLeaveSend (s : State) : Host.Outcome State Fault Refusal := .next s.leaveSend

/-- DEPART_TIMEOUT (R324, R325). -/
def execDepartTimeout (dev : Nat) (s : State) : Host.Outcome State Fault Refusal :=
  match s.dr.departs.find? fun d => d.dev == dev && s.due d.sentGc (1000 * s.rf Reg.DR_DOMAIN_CTRL_EDGE_TIMEOUT) with
  | some d => .next (s.endDepart d false)
  | none => .next s

end Sys2Proof.Machine
end

