-- ==== Sys2Proof/Machine/Fabric.lean ====
section
/-! DEFINITION. The fabric port: link-up, credits, arriving requests and replies (R65 to R69, R180, R264, R265, R289, R316 to R326). -/

namespace Sys2Proof.Machine

/-! ### Link-up -/

/-- The block sees fp_present rise: LINKUP is sent (R68). -/
def State.fpRise (s : State) : State :=
  let s := { s with fab := { s.fab with present := true } }
  if s.build.fabric then s.fabLinkup else s

/-- The block sees fp_present fall (R69). -/
def State.fpFall (s : State) : State :=
  let s := { s with fab := { s.fab with present := false } }
  if s.build.fabric then s.fabDown else s

/-- The level at fp_present.  While the port's inputs are ignored nothing else is noted of it (R79, R479). -/
def State.setFpPin (s : State) (b : Bool) : State := { s with pins := { s.pins with fpPresent := b } }

/-- The port's inputs are seen again, after isolation or a reset: the link goes down, or up anew, with the level at fp_present (R68, R79,
R479). -/
def State.seeFabric (s : State) : State :=
  if !s.portOn .fab ∨ s.pins.rstNoc ∨ s.pins.rstReg then s
  else if s.fab.present && !s.pins.fpPresent then s.fpFall
  else if s.pins.fpPresent ∧ !s.fab.up ∧ !s.fab.alone then s.fpRise
  else s

/-- Whether a count of transmit credits is one that the interface may advertise (R65). -/
def creditsOk (n : Nat) : Bool := decide (4 ≤ n) && decide (n ≤ 64)

/-- The interface's LINKUP flit (R68, R69).  It uses no receive credit and returns none (notes/assumptions/27.md); one whose credits R65 does not
allow is discarded, and the link stays down (notes/assumptions/28.md). -/
def State.fpLinkup (s : State) (f : List Word) : State :=
  if !s.build.fabric ∨ !s.fab.present ∨ s.fab.up ∨ s.fab.alone ∨ fld f Fl.TYPE ≠ 0 then s
  else if !creditsOk (pf f 4 7 0) ∨ !creditsOk (pf f 4 15 8) then s
  else if pf f 3 7 0 < 3 ∨ 3 < pf f 3 15 8 then
    let s := { s with fab := { s.fab with alone := true } }
    s.report E.FP_VERSION none 0 0
  else
    let s := { s with fab := { s.fab with up := true, reqCredits := pf f 4 7 0, repCredits := pf f 4 15 8 } }
    let d := pf f 3 27 16
    let s := (s.setRf Reg.DR_DOMAIN_STATUS_SELF d).pumpFab
    match s.thr.oldSelf with
    | none => s
    | some old =>
      let s := { s with thr := { s.thr with oldSelf := none } }
      if old = d then s else ((s.keepSelf).setRf Reg.DR_DOMAIN_STATUS_MEMBER 0).reportPlain E.SELF_CHANGED none

/-- FP_PRESENT_RISE. -/
def execFpPresentRise (s : State) : Host.Outcome State Fault Refusal :=
  .next ((s.setFpPin true).input .fab .fpPresentRise State.fpRise)

/-- FP_PRESENT_FALL: with a rise still held the two cancel, so that no LINKUP goes out for a level that has gone (R68, R378). -/
def execFpPresentFall (s : State) : Host.Outcome State Fault Refusal :=
  let s := s.setFpPin false
  .next (if s.portOn .fab ∧ s.holds ∧ s.dc.held.any (fun h => h.input == .fpPresentRise) then
      { s with dc := { s.dc with held := s.dc.held.filter fun h => h.input != .fpPresentRise } }
    else s.input .fab .fpPresentFall State.fpFall)

/-- FP_LINKUP: the flit is counted as received (R414). -/
def execFpLinkup (flit : List (BitVec 32)) (s : State) : Host.Outcome State Fault Refusal :=
  .next (s.input .fab (.fpLinkup flit) fun s => (if s.fab.present ∧ fld flit Fl.TYPE = 0 then s.fabBytes flit else s).fpLinkup flit)

/-- FP_CREDIT_RETURN (R65): a waiting flit may leave. -/
def execFpCreditReturn (rep : Bool) (s : State) : Host.Outcome State Fault Refusal :=
  if !s.portOn .fab ∨ !s.fab.up then .next s
  else
    let f := s.fab
    .next ({ s with fab := if rep then { f with repCredits := f.repCredits + 1 } else { f with reqCredits := f.reqCredits + 1 } }).pumpFab

/-! ### Arriving requests -/

/-- The TYPE codes of R67. -/
def flitTypes : List Nat := [0, 1, 2, 3, 4, 5, 6, 0x80, 0x81]

/-- Return receive credits of a channel (R65); those of the request channel stay owed while they are withheld. -/
def State.returnCredit (s : State) (rep : Bool) (n : Nat) : State :=
  let s := { s with fab := s.fab.setRx rep (s.fab.rx rep - n) }
  if !rep ∧ s.withheld then { s with fab := { s.fab with owed := s.fab.owed + n } }
  else { s.emit (.fpCredit rep n) with fab := s.fab.setRx rep (s.fab.rx rep + n) }

/-- Whether a flit sequence is well formed: a TYPE of R67, and LEN from 1 to 16 (R80). -/
def flitOk (f : List Word) : Bool := flitTypes.contains (fld f Fl.TYPE) && decide (1 ≤ fld f Fl.LEN) && decide (fld f Fl.LEN ≤ 16)

/-- The flits of one message arrive (R65, R67, R80): they are counted; those without a credit, with a reserved TYPE or with a LEN out of range are
discarded with ERR_FP_PROTOCOL; the credits that they used go back; and a message so accepted goes on to `act`. -/
def State.arriveFlits (s : State) (rep : Bool) (fs : List (List Word)) (act : State → State) : State :=
  let n := min fs.length (s.fab.rx rep)
  let ok := decide (fs.length = n) && flitOk (fs.headD [])
  let s := (fs.foldl (fun s f => s.fabBytes f) s).returnCredit rep n
  if ok then act s else s.report E.FP_PROTOCOL none 0 0

/-- The row of a flit: nothing arrives while the port is not seen or the link is not up, and a flit that has a TYPE of R67 other than the row's is
not this row's. -/
def State.flitInput (s : State) (i : Instr) (rep : Bool) (ok : Nat → Bool) (fs : List (List Word)) (f : State → State) : State :=
  let t := fld (fs.headD []) Fl.TYPE
  if !s.portOn .fab ∨ !s.fab.up ∨ fs = [] ∨ (flitTypes.contains t ∧ !ok t) then s
  else s.arriveFlits rep fs fun s => (s.input .fab i f).settleCredits

/-- A message that has been admitted is traced, and handled. -/
def State.recv (s : State) (fs : List (List Word)) (act : State → List Word → State) : State :=
  let f := fs.headD []
  act (s.traceRemote (fld f Fl.TYPE) false (fld f Fl.SRC_DEV) (fld f Fl.PART)) f

/-- NACK a request with an error, which is reported for its partition. -/
def State.nackFlit (s : State) (f : List Word) (e : Err) : State :=
  let p := fld f Fl.PART
  (s.reportPlain e (if s.partOk p then some p else none)).replyFlit f true [BitVec.ofNat 32 e.code]

/-- A request other than DEPART: one from a device that is not a member is answered NACK (R322). -/
def State.recvReq (s : State) (fs : List (List Word)) (act : State → List Word → State) : State :=
  s.recv fs fun s f => if s.member (fld f Fl.SRC_DEV) then act s f else s.nackFlit f E.REMOTE_DEPARTED

/-- The live launch of a partition that carries a round (R312). -/
def State.roundLaunch (s : State) (p r : Nat) : Option Launch :=
  s.gs.launches.find? fun l => l.round == some r && s.sl l.slot Sl.PART == p && s.live l.slot

/-- Hold a decrement in the early store (R317), if there is room. -/
def State.holdEarly (s : State) (p tmpl r target amount : Nat) : Option State :=
  if s.dr.early.any fun e => e.part == p && e.round == r && e.target == target then
    some { s with dr := { s.dr with early := s.dr.early.map fun e =>
      if e.part == p && e.round == r && e.target == target then { e with amount := min (e.amount + amount) 8191 } else e } }
  else if s.dr.early.length < 4096 then
    some { s with dr := { s.dr with early := s.dr.early ++ [(⟨p, tmpl, r, target, amount, false⟩ : Early)] } }
  else none

/-- An EDGE_DEC is answered ACK with a RESULT: 0 APPLIED, 1 EARLY, 2 DISCARDED (R315). -/
def State.ackEdge (s : State) (f : List Word) (result : Nat) : State :=
  let s := if result = 2 then s.incRf (Reg.DR_EDGES_DROPPED (fld f Fl.PART)) else s
  s.replyFlit f false [BitVec.ofNat 32 result]

/-- Hold an EDGE_DEC early, or refuse it. -/
def State.earlyEdge (s : State) (f : List Word) : State :=
  let p := fld f Fl.PART
  match s.holdEarly p (s.rf (Reg.DR_BIND_BIND_TMPL p)) (pf f 4 31 0) (pf f 3 19 0) (pf f 3 31 20) with
  | some s => s.ackEdge f 1
  | none => s.nackFlit f E.REMOTE_EARLY_FULL

/-- Resolve an EDGE_DEC by its ROUND (R316), by the first row that matches. -/
def State.edgeDec (s : State) (f : List Word) : State :=
  let p := fld f Fl.PART
  let target := pf f 3 19 0
  let r := pf f 4 31 0
  if !s.partOk p ∨ !s.rb (Reg.DR_BIND_BIND_EN p) ∨ (fld f Fl.ENCL == 1) ≠ s.locked p then s.nackFlit f E.REMOTE_UNBOUND
  else match s.roundLaunch p r with
    | some l =>
      if s.sl l.slot Sl.STATE = 5 ∨ s.tagDead (s.sl l.slot Sl.STEP_TAG) then (s.chaff p 1).ackEdge f 2
      else if s.sl l.slot Sl.NODE_COUNT ≤ target then
        (s.killWith l.slot E.REMOTE_TARGET 0).replyFlit f true [BitVec.ofNat 32 E.REMOTE_TARGET.code]
      else if l.copied then (s.decrement (s.sl l.slot Sl.NODE_BASE + target) (pf f 3 31 20) 1).ackEdge f 0
      else s.earlyEdge f
    | none =>
      let d := (2 ^ 32 + r - s.rf (Reg.DR_ROUND_NEXT p)) % 2 ^ 32
      if d ≤ 3 then s.earlyEdge f
      else if d ≤ 2 ^ 31 then s.nackFlit f E.REMOTE_EARLY_FULL
      else (s.reportPlain E.REMOTE_STALE (some p)).ackEdge f 2

/-- Whether an EDGE_DEC waits in the remote decrement queue (R138, R316): behind those that wait already, for the next cc when 8 have been taken in
this one, for a place in the walk queue, or for the end of a DR restart. -/
def State.edgeWaits (s : State) : Bool :=
  s.fab.waiting.any (fun h => h.fabQueue == 1) || decide (8 ≤ s.cyc.remDecs) || decide (walkDepth ≤ s.dr.walkQ.length) ||
    s.rb Reg.IFM_STATUS_DR_RESTART

/-- An EDGE_DEC is taken from the remote decrement queue, or waits in it. -/
def State.edgeArrive (s : State) (f : List Word) : State :=
  if s.edgeWaits then { s with fab := { s.fab with waiting := s.fab.waiting ++ [⟨.edgeDec f, s.cc⟩] } }
  else ({ s with cyc := { s.cyc with remDecs := s.cyc.remDecs + 1 } }).recvReq [f] State.edgeDec

/-- The remote decrement queue goes on, in arrival order. -/
def State.drainEdges (s : State) : State :=
  (s.fab.waiting.filter fun h => h.fabQueue == 1).foldl (fun s h => match h.input with
      | .edgeDec f => s.edgeArrive f
      | _ => s) { s with fab := { s.fab with waiting := s.fab.waiting.filter fun h => h.fabQueue != 1 } }

/-- EDGE_DEC. -/
def execEdgeDec (flit : List (BitVec 32)) (s : State) : Host.Outcome State Fault Refusal :=
  .next (s.flitInput (.edgeDec flit) false (· == 1) [flit] fun s => s.edgeArrive flit)

/-- An arriving SIGNAL (R180). -/
def State.signalFlit (s : State) (f : List Word) : State :=
  let (s, code, v) := s.applySignal none (pf f 3 31 0) (fld f Fl.PART) (pf f 4 0 0 == 1) (wide f 5)
  if code = 0 then s.replyFlit f false (words64 v) else s.replyFlit f true [BitVec.ofNat 32 code]

/-- An arriving SHEAF_ARRIVE (R265). -/
def State.sheafArriveFlit (s : State) (f : List Word) : State :=
  let k := pf f 3 7 0
  let src := fld f Fl.SRC_DEV
  if s.shv k Sh.STATE = 1 ∧ s.shv k Sh.HOME_DEV = s.self ∧ s.shv k Sh.PART = fld f Fl.PART ∧ s.shv k Sh.GEN = pf f 4 31 0 ∧
      s.shv k Sh.DEVICES ≠ 0 ∧ !(s.sheafX k).srcs.contains src then
    let s := s.updSheafX k fun x => { x with srcs := src :: x.srcs, firstGc := some (x.firstGc.getD s.now) }
    let s := s.setShv k Sh.DEV_ARRIVED (s.shv k Sh.DEV_ARRIVED + 1)
    (s.replyFlit f false []).checkSheaf k
  else s.nackFlit f E.SHEAF_REMOTE

/-- An arriving SHEAF_RELEASE (R264): a matching SENT sheaf is released and ARMED again. -/
def State.sheafReleaseFlit (s : State) (f : List Word) : State :=
  let k := pf f 3 7 0
  if s.shv k Sh.STATE = 2 ∧ s.shv k Sh.PART = fld f Fl.PART ∧ s.shv k Sh.GEN = pf f 4 31 0 then
    ((s.completeSheaf k).setShv k Sh.STATE 1).replyFlit f false []
  else s.nackFlit f E.SHEAF_REMOTE

/-- A sheaf flit reaches the SM: it is applied in step 4 of R248, or waits in the SM fabric queue (R266). -/
def State.sheafFlit (s : State) (i : Instr) (f : List Word) (act : State → List Word → State) : State :=
  if s.fab.waiting.any (fun h => h.fabQueue == 2) ∨ s.smInit ∨ s.semFull 4 then
    { s with fab := { s.fab with waiting := s.fab.waiting ++ [⟨i, s.cc⟩] } }
  else (s.semOp 4).recvReq [f] act

/-- The SM fabric queue goes on, in arrival order. -/
def State.drainSheaves (s : State) : State :=
  (s.fab.waiting.filter fun h => h.fabQueue == 2).foldl (fun s h => match h.input with
      | .sheafArrive f => s.sheafFlit h.input f State.sheafArriveFlit
      | .sheafRelease f => s.sheafFlit h.input f State.sheafReleaseFlit
      | _ => s) { s with fab := { s.fab with waiting := s.fab.waiting.filter fun h => h.fabQueue != 2 } }

/-- SHEAF_ARRIVE. -/
def execSheafArrive (flit : List (BitVec 32)) (s : State) : Host.Outcome State Fault Refusal :=
  .next (s.flitInput (.sheafArrive flit) false (· == 3) [flit] fun s => s.sheafFlit (.sheafArrive flit) flit State.sheafArriveFlit)

/-- SHEAF_RELEASE. -/
def execSheafRelease (flit : List (BitVec 32)) (s : State) : Host.Outcome State Fault Refusal :=
  .next (s.flitInput (.sheafRelease flit) false (· == 4) [flit] fun s => s.sheafFlit (.sheafRelease flit) flit State.sheafReleaseFlit)

/-- The message that a MSG sequence carries (R287). -/
def msgOfFlits (fs : List (List Word)) : List Word :=
  let ws := match fs with
    | [] => []
    | f :: rest => (f.drop 3).take 4 ++ rest.flatMap fun g => (g.drop 3).take 5
  let ws := ws ++ zeros (16 - ws.length)
  ws.take (4 * msgUnits ws)

/-- An arriving MSG sequence (R289). -/
def State.msgArrive (s : State) (fs : List (List Word)) (f : List Word) : State :=
  let m := msgOfFlits fs
  let p := fld f Fl.PART
  let (s, a) := if (fld f Fl.ENCL == 1) ≠ s.locked p then s.refuseMsg p (some p) E.MSG_PART else s.handleMsg p m
  match a.err with
  | none => s.replyFlit f false [BitVec.ofNat 32 a.result]
  | some e => s.replyFlit f true [BitVec.ofNat 32 e.code]

/-- A MSG sequence reaches the hub (R279, R289): before every other message of its cc, so that one that follows a notice, a result or a core's send
waits in the hub fabric queue for the next cc. -/
def State.hubArrive (s : State) (fs : List (List Word)) : State :=
  if s.fab.waiting.any (fun h => h.fabQueue == 3) ∨ s.cyc.arrived.any (fun a => a.2 != 0) then
    { s with fab := { s.fab with waiting := s.fab.waiting ++ [⟨.msg fs, s.cc⟩] } }
  else s.recvReq fs fun s f => s.msgArrive fs f

/-- The hub fabric queue goes on, in arrival order. -/
def State.drainMsgs (s : State) : State :=
  (s.fab.waiting.filter fun h => h.fabQueue == 3).foldl (fun s h => match h.input with
      | .msg fs => s.hubArrive fs
      | _ => s) { s with fab := { s.fab with waiting := s.fab.waiting.filter fun h => h.fabQueue != 3 } }

/-- MSG. -/
def execMsg (flits : List (List (BitVec 32))) (s : State) : Host.Outcome State Fault Refusal :=
  .next (s.flitInput (.msg flits) false (· == 5) flits fun s => s.hubArrive flits)

/-! ### DEPART (R323 to R326) -/

/-- Whether a flit of a TYPE is a DEPART of one KIND. -/
def isDepart (kind : Nat) (f : List Word) (t : Nat) : Bool := t == 6 && pf f 3 1 0 == kind

/-- LEAVE: the sender is no member any more, and traffic to it fails. -/
def State.departLeave (s : State) (f : List Word) : State :=
  let d := fld f Fl.SRC_DEV
  ((s.setMember d false).failTraffic (· == d)).replyFlit f false []

/-- LOST (R326). -/
def State.departLost (s : State) (f : List Word) : State :=
  let d := pf f 4 11 0
  let s := (s.setMember d false).failTraffic (· == d)
  let s := (s.gs.launches.filter fun l => l.round.isSome && s.live l.slot).foldl (fun s l => s.killWith l.slot E.REMOTE_DEPARTED 0) s
  ((List.range 256).filter fun k =>
      (s.shv k Sh.STATE == 1 && s.shv k Sh.HOME_DEV == s.self && s.shv k Sh.DEVICES != 0) ||
        (s.shv k Sh.STATE != 3 && s.shv k Sh.HOME_DEV == d)).foldl
    (fun s k => s.faultSheaf k E.REMOTE_DEPARTED) s

/-- JOIN (R325). -/
def State.departJoin (s : State) (f : List Word) : State :=
  let d := fld f Fl.SRC_DEV
  if s.rb Reg.DR_DOMAIN_CFG_ACCEPT_JOIN ∨ s.member d then (s.setMember d true).replyFlit f false []
  else s.replyFlit f true [BitVec.ofNat 32 E.DOMAIN_JOIN.code]

/-- DEPART_LEAVE. -/
def execDepartLeave (flit : List (BitVec 32)) (s : State) : Host.Outcome State Fault Refusal :=
  .next (s.flitInput (.departLeave flit) false (isDepart 0 flit) [flit] fun s => s.recv [flit] State.departLeave)

/-- DEPART_LOST. -/
def execDepartLost (flit : List (BitVec 32)) (s : State) : Host.Outcome State Fault Refusal :=
  .next (s.flitInput (.departLost flit) false (isDepart 1 flit) [flit] fun s => s.recv [flit] State.departLost)

/-- DEPART_JOIN. -/
def execDepartJoin (flit : List (BitVec 32)) (s : State) : Host.Outcome State Fault Refusal :=
  .next (s.flitInput (.departJoin flit) false (isDepart 2 flit) [flit] fun s => s.recv [flit] State.departJoin)

/-! ### Replies -/

/-- A reply ends the request that it answers (R318, R180, R264, R265, R288, R324): the first of an EDGE_DEC, a SIGNAL, a sheaf flit, a MSG and a
DEPART that was sent to its source with its SEQ (notes/assumptions/17.md).  A reply that matches none is discarded. -/
def State.reply (s : State) (nack : Bool) (f : List Word) : State :=
  let q := fld f Fl.SEQ
  let d := fld f Fl.SRC_DEV
  let code := pf f 3 15 0
  match s.dr.sendQ.find? fun e => e.seq == some q && e.dev == d && e.resendGc.isNone with
  | some e =>
    if !nack then ({ s with dr := { s.dr with sendQ := s.dr.sendQ.filter (· != e) } }).tryRetire e.slot
    else if code = E.REMOTE_EARLY_FULL.code then
      { s with dr := { s.dr with sendQ := s.dr.sendQ.map fun x => if x == e then { x with resendGc := some s.now } else x } }
    else s.failEdge e ⟨code, 2⟩
  | none => match s.fe.signals.find? fun g => g.seq == q && g.dev == d with
    | some g => s.signalDone g (if nack then code else 0) (if nack then 0 else wide f 3)
    | none => match s.sm.msgs.find? fun m => m.seq == q && m.dev == d with
      | some m =>
        if nack then s.failSheafMsg m E.SHEAF_REMOTE false
        else { s with sm := { s.sm with msgs := s.sm.msgs.filter (· != m) } }
      | none => match s.mh.sends.find? fun x => x.seq == q && x.dev == d with
        | some x => if nack then s.endSend x 3 code else s.endSend x (pf f 3 2 0) 0
        | none => match s.dr.departs.find? fun x => x.seq == q && x.dev == d with
          | some x => s.endDepart x !nack
          | none => s

/-- ACK. -/
def execAck (flit : List (BitVec 32)) (s : State) : Host.Outcome State Fault Refusal :=
  .next (s.flitInput (.ack flit) true (· == 0x80) [flit] fun s => s.recv [flit] (State.reply · false))

/-- NACK. -/
def execNack (flit : List (BitVec 32)) (s : State) : Host.Outcome State Fault Refusal :=
  .next (s.flitInput (.nack flit) true (· == 0x81) [flit] fun s => s.recv [flit] (State.reply · true))

/-! ### Timers of remote edges (R318, R319) -/

/-- EDGE_DEC_RESEND (R318): 1 µs after a NACK with ERR_REMOTE_EARLY_FULL the flit is sent again with a new SEQ. -/
def execEdgeDecResend (seq : BitVec 32) (s : State) : Host.Outcome State Fault Refusal :=
  match s.dr.sendQ.find? fun e => e.seq == some seq.toNat && (match e.resendGc with
      | some t => s.due t 1000
      | none => false) with
  | none => .next s
  | some e =>
    let q := s.dr.remSeq
    let s := { s with dr := { s.dr with remSeq := (q + 1) % 2 ^ 32, sendQ := s.dr.sendQ.map fun x =>
      if x == e then { x with seq := some q, resendGc := none } else x } }
    let s := s.incRf (Reg.DR_EDGES_OUT e.part)
    .next (s.sendFlits false [s.flit 1 e.dev e.part 1 q true
      [BitVec.ofNat 32 (e.target + 2 ^ 20 * e.amount), BitVec.ofNat 32 e.round, BitVec.ofNat 32 e.tag]])

/-- REMOTE_EDGE_TIMEOUT (R318). -/
def execRemoteEdgeTimeout (seq : BitVec 32) (s : State) : Host.Outcome State Fault Refusal :=
  match s.dr.sendQ.find? fun e => e.seq == some seq.toNat && s.due e.sentGc (1000 * s.rf Reg.DR_DOMAIN_CTRL_EDGE_TIMEOUT) with
  | some e => .next (s.failEdge e E.REMOTE_EDGE_TIMEOUT)
  | none => .next s

/-- REMOTE_STALL (R319), at a check of R517. -/
def execRemoteStall (slot : Nat) (s : State) : Host.Outcome State Fault Refusal :=
  match s.launch? slot with
  | none => .next s
  | some l =>
    let t := s.rf Reg.DR_DOMAIN_CTRL_STALL_TIMEOUT
    let st := s.sl slot Sl.STATE
    if s.tb.check ∧ l.round.isSome ∧ (st = 2 ∨ st = 3) ∧ t ≠ 0 ∧ s.due l.lastProgressGc (1000 * t) ∧
        (s.nodesOf slot).any (fun n => s.nd n Nd.STATE == 3) then .next (s.killWith slot E.REMOTE_STALL 0)
    else .next s

end Sys2Proof.Machine
end

