-- ==== Sys2Proof/Machine/Tick.lean ====
section
/-! DEFINITION. What one core cycle brings by itself, with no command waiting (notes/assumptions/1.md): the local Global Count
(R71), the checks of R517, the start time of LAUNCH_AT (R179), the releases of sheaves (R261), the trace (R511), the snapshot
of the last cc (R504) and the flow-control outputs (R75). -/

namespace Sys2Proof.Machine

/-- The time base moves by one cc (R71): the count follows the estimate but never falls.  Before the first gc_sync it reads 0 (R483). -/
def TimeBase.tick (t : TimeBase) (gl : Bool) : TimeBase :=
  let est := if t.syncs = 0 then t.est else t.est + t.rate
  let count := max t.count est
  { t with est := est, count := count,
           check := !gl && decide (t.count / 2 ^ 32 / 1000 < count / 2 ^ 32 / 1000) }

/-- Whether some selectable link of a class lies in a cluster that the partition may use (R145). -/
def State.engineFor (s : State) (p cls : Nat) : Bool :=
  (List.range s.build.links).any fun i => s.selectable i && (s.link i).cls == cls && s.clusterOk p (i / 16)

/-- The sample of R145 at a check of R517: the condition of a READY task has held at every check since the time kept. -/
def State.sampleEngines (s : State) : State :=
  { s with dr := { s.dr with ready := s.dr.ready.map fun e =>
      if e.job.isNone then
        { e with noEngineSince := if s.engineFor (s.nd e.node Nd.PART) e.cls then none else some (e.noEngineSince.getD s.now) }
      else e } }

/-- The first cc in which START_GC of a LAUNCH_AT is reached (R179). -/
def State.reachStarts (s : State) : State :=
  { s with gs := { s.gs with launches := s.gs.launches.map fun l =>
      match l.startGc with
      | some g => if l.reachedCc.isNone ∧ g ≤ s.now then { l with reachedCc := some s.cc } else l
      | none => l } }

/-- Records of a trace beat are lost (R511). -/
def State.traceDropped (s : State) (n : Nat) : State :=
  let s := s.incRf Reg.DBG_TRACE_LOST n
  { s with dbg := { s.dbg with lostNow := s.dbg.lostNow + n } }

/-- An MM error on a ring write (R511): its records are lost, and ERR_TRACE_WRITE is raised once for each episode. -/
def State.traceWriteFailed (s : State) (n : Nat) : State :=
  let s := s.traceDropped n
  if s.inEpisode E.TRACE_WRITE.code 0 then s
  else (s.openEpisode E.TRACE_WRITE.code 0).report E.TRACE_WRITE none 0 0

/-- Write the beat under assembly to the trace ring, completed with PAD records (R508, R511).  TAIL advances by 64; a beat that finds the
ring full is lost. -/
def State.traceBeat (s : State) : State :=
  let beat := s.dbg.beat
  if beat = [] then s
  else
    let s := { s with dbg := { s.dbg with beat := [] } }
    let size := 2 ^ s.rf Reg.DBG_TRACE_CTRL_RING_LOG2
    let tail := s.rf Reg.DBG_TRACE_TAIL
    if size ≤ (2 ^ 32 + tail - s.rf Reg.DBG_TRACE_HEAD) % 2 ^ 32 then s.traceDropped beat.length
    else
      let recs := beat ++ List.replicate (8 - beat.length) (14 : BitVec 64)
      let base := 2 ^ 6 * s.rf Reg.DBG_TRACE_RING_LO + 2 ^ 32 * s.rf Reg.DBG_TRACE_RING_HI
      let s := s.setRf Reg.DBG_TRACE_TAIL (tail + 64)
      match s.mmWrite (base + tail % size) (recs.flatMap fun r => words64 r.toNat) (s.rf Reg.DBG_TRACE_CTRL_RING_PART) 1 7
          (.traceBeat beat.length) with
      | (s, true) => s
      | (s, false) => s.traceWriteFailed beat.length

/-- The trace FIFO's front record goes out: to the port one record at a time, to the ring eight at a time (R511).  What has been lost is told as
soon as there is room for it. -/
def State.traceDrain (s : State) : State :=
  let s := if s.dbgOn then s.traceLost else s
  match s.dbg.fifo with
  | [] => s
  | r :: rest =>
    let dest := s.rf Reg.DBG_TRACE_CTRL_DEST
    let s := { s with dbg := { s.dbg with fifo := rest } }
    let s := if dest = 1 then s else s.emit (.trace r)
    if dest = 0 then s
    else
      let beat := s.dbg.beat ++ [r]
      let s := { s with dbg := { s.dbg with beat := beat, beatGc := if s.dbg.beat = [] then s.gc else s.dbg.beatGc } }
      if beat.length < 8 then s else s.traceBeat

/-- The source of a watermark (R295). -/
def State.fcSource (s : State) (kind idx : Nat) : Nat :=
  match kind with
  | 1 => if idx < s.build.rxqs then s.rm (rxqRow idx) Rq.USED + s.ringBytes idx / 16 else 0
  | 2 => if idx < s.build.rxqs then s.ringBytes idx / 16 else 0
  | 3 => s.poolUsed
  | 4 => s.hubQueue
  | 5 => s.mh.sends.length
  | 6 => s.dr.walkQ.length
  | 7 => s.fe.slow.length
  | _ => 0

/-- The flow-control outputs (R75, R295). -/
def State.flowControl (s : State) : State :=
  let was := s.pins.fcOut
  { s with pins := { s.pins with fcOut := (List.range 8).filter fun k =>
      let kind := s.rf (Reg.MH_FC_SRC_KIND k)
      let v := s.fcSource kind (s.rf (Reg.MH_FC_SRC_INDEX k))
      kind != 0 && (if s.rf (Reg.MH_FC_THRESH_HI k) < v then true
        else if v ≤ s.rf (Reg.MH_FC_THRESH_LO k) then false else was.contains k) } }

/-- The image latched in this cc shows the values at the end of the cc (R506). -/
def State.relatch (s : State) : State :=
  if s.dbg.latchCc = some s.cc then { s with dbg := { s.dbg with latchCc := none, image := s.snapImage } } else s

/-- Zero the counters of the DBG: those of the levels, of the links and of the queues, and TRACE_LOST (R502). -/
def State.clearCounters (s : State) : State :=
  let levels := (List.range 8).flatMap fun k => [Reg.DBG_WAIT_LO_A k, Reg.DBG_WAIT_HI_A k, Reg.DBG_ISSUED_A k, Reg.DBG_WAIT_MAX_A k]
  let s := (levels ++ [Reg.DBG_TRACE_LOST_A]).foldl (fun s a => s.setReg a 0#32) s
  { s with sram := s.sram.filter fun e => e.1 / 2 ^ 24 != 0x40 && e.1 / 2 ^ 24 != 0x41, dbg := { s.dbg with clear := false } }

/-- Whether slice `k` is idle with work ready in a cc (R431): a candidate that it could have been dealt while no deal was made, or a
completion record that it has not taken. -/
def State.sliceIdle (s : State) (k : Nat) : Bool :=
  let free := fun (i : Nat) => s.selectable i && decide (0 < (s.link i).creditsNow)
  let task := decide (s.ds.dealtCc ≠ s.cc + 1) && !s.halted && !s.rb Reg.DC_STATUS_WAITING && s.dr.ready.any fun e =>
    decide ((s.dr.ready.filter fun x => x.level == e.level && x.cls == e.cls && decide (x.seq < e.seq)).length ≤ s.rf Reg.DS_SELECT_LOOKAHEAD) &&
      (match e.job with
       | some j => s.psc.jobs.any fun x => x.k == j && (match x.link with
         | some i => free i && i / 32 == k
         | none => false)
       | none => (sliceLinks k).any fun i => free i && (s.link i).cls == e.cls && s.clusterOk (s.nd e.node Nd.PART) (i / 16))
  let rec_ := !s.dr.bp && ((s.fifo (2 * k)) ++ (s.fifo (2 * k + 1))).any fun r => !r.held
  !(s.ds.issued.any fun x => x.1 == k && x.2 == s.cc) && (task || rec_)

/-- Count the cc for which each slice has been idle with work ready; the count is suspended during list rebuilds and DR restarts. -/
def State.countIdle (s : State) : State :=
  if !s.rb Reg.IFM_CTRL_WDOG_EN ∨ !s.unitEn U.IFM ∨ !s.unitEn U.DS ∨ !s.unitEn U.DR then { s with ds := { s.ds with idle := [] } }
  else if s.rb Reg.IFM_STATUS_REBUILD ∨ s.rb Reg.IFM_STATUS_DR_RESTART then s
  else { s with ds := { s.ds with idle := (List.range s.build.slices).filterMap fun k =>
      if !(bit (s.rf Reg.IFM_STATUS_SLICE_DOWN) k) && s.sliceIdle k then some (k, lookupD s.ds.idle k 0 + 1) else none } }

/-- What a core cycle does at its end: the counters are zeroed when asked for, the semaphores that changed are evaluated (R248), and the snapshot and
the watchdog see the cc. -/
def State.ccEnd (s : State) : State :=
  let s := if s.dbg.clear then s.clearCounters else s
  s.semEnd.relatch.countIdle

/-- The next core cycle begins: it is counted, the time base moves, and nothing has been done in it. -/
def State.ccNext (s : State) : State :=
  { s with cc := s.cc + 1, tb := s.tb.tick (s.rb Reg.DC_STATUS_RUNNING), cyc := Cyc.start }

/-- What a core cycle looks at as it begins: the samples of R145, the start times of R179, and the releases and the command of the SM (R248). -/
def State.ccBegin (s : State) : State :=
  let s := if s.tb.check then s.sampleEngines else s
  let s := if s.rb Reg.DC_STATUS_RUNNING then s else s.reachStarts
  s.semCycle

/-- What waits for a core cycle, as far as its rules admit: insertions, recovery bindings, skip marks, decrements, sheaf flits, messages and folds of
Stooks; and the steps that are over, and the route jobs whose tag has died, are removed. -/
def State.ccDrain (s : State) : State :=
  let s := if s.rb Reg.IFM_STATUS_REBUILD then s else s.drainInserts
  let s := if s.rb Reg.IFM_STATUS_REBUILD ∨ s.rb Reg.IFM_STATUS_DR_RESTART then s.placeRecovery else s
  s.drainSkips.drainEdges.drainSheaves.drainMsgs.foldStooks.settleStreams.dropDeadJobs

/-- One core cycle.  While the block is RETAINED its clocks are stopped (R485). -/
def State.tick (s : State) : State :=
  if s.thr.retained ∧ s.pins.retEn then s else s.ccEnd.ccNext.ccBegin.ccDrain.traceDrain.flowControl.settleCredits

/-- A command that the rules of this core cycle do not admit any more takes place in the next one. -/
def State.nextCcIf (s : State) (b : Bool) : State := if b then s.tick else s

/-- A message of a source of R279 reaches a queue in this cc, or in the next one when a message of a later source has reached one in this. -/
def State.hubTurn (s : State) (src : Nat) : State := s.nextCcIf (s.cyc.arrived.any fun a => decide (src < a.2))

end Sys2Proof.Machine
end

