-- ==== Sys2Proof/Machine/SemPort.lean ====
section
/-! DEFINITION. The operations on events and semaphores in the order of a core cycle (R173, R248): records and SIGNALs, SEM_OP packets at a head,
semaphore-post edges (R118, R244), and the sleep of a wake binding (R254). -/

namespace Sys2Proof.Machine

/-- An operation of step `k` takes place in this cc, or in the next one where R248 says so. -/
def State.semTurn (s : State) (k : Nat) : State := (s.nextCcIf (s.semFull k)).semOp k

/-- The place of a queue's command among the operations of step 5 of R248: class, then context index, then QSEQ. -/
def semOrder (c q n : Nat) : Nat := 2 ^ 74 * q + 2 ^ 64 * c + n % 2 ^ 64

/-- A local record takes its place among those of its cc (R173 step 2), or takes effect in the next cc. -/
def State.recordTurn (s : State) (c q n : Nat) : State :=
  let k := semOrder c q n
  let s := s.nextCcIf (decide (2 < s.cyc.evStep) || (decide (s.cyc.evStep = 2) && decide (k < s.cyc.evKey)))
  { s with cyc := { s.cyc with evStep := 2, evKey := k } }

/-- RECORD_EVENT (R168, R172). -/
def execRecordEvent (c q : Nat) (s : State) : Host.Outcome State Fault Refusal :=
  .next ((if (s.headPkt c q 4).isSome ∧ s.effectNow c q then s.recordTurn c q (s.headQseq c q) else s).recordHead c q)

/-- SIGNAL (R173 step 1, R180). -/
def execSignal (flit : List (BitVec 32)) (s : State) : Host.Outcome State Fault Refusal :=
  .next (s.flitInput (.signal flit) false (· == 2) [flit] fun s =>
    (s.nextCcIf (decide (1 < s.cyc.evStep))).recvReq [flit] State.signalFlit)

/-- A SEM_OP ADD or SUB takes effect in its place among those of its cc, or in the next cc. -/
def State.semTurnOf (s : State) (c q n : Nat) : State :=
  let k := semOrder c q n
  let s := s.nextCcIf (s.semFull 5 || (decide (s.cyc.semStep = 5) && decide (k < s.cyc.semKey)))
  ({ s with cyc := { s.cyc with semKey := k } }).semOp 5

/-- The turn of a SEM_OP at a head, if it takes effect there now. -/
def State.headTurn (s : State) (c q op : Nat) : State :=
  if (s.semPkt c q op).isSome ∧ s.smReady ∧ s.effectNow c q then s.semTurnOf c q (s.headQseq c q) else s

/-- SEM_OP ADD (R246). -/
def execSemOpAdd (c q : Nat) (s : State) : Host.Outcome State Fault Refusal := .next ((s.headTurn c q 0).semCount c q 0)

/-- SEM_OP SUB (R246). -/
def execSemOpSub (c q : Nat) (s : State) : Host.Outcome State Fault Refusal := .next ((s.headTurn c q 1).semCount c q 1)

/-- SEM_OP WAIT_GE (R246). -/
def execSemOpWaitGe (c q : Nat) (s : State) : Host.Outcome State Fault Refusal := .next (s.semWaitOp c q 2 false)

/-- SEM_OP WAIT_GE_SUB (R246). -/
def execSemOpWaitGeSub (c q : Nat) (s : State) : Host.Outcome State Fault Refusal := .next (s.semWaitOp c q 3 true)

/-- The launch of a post edge is killed, if it is still the launch that the edge belonged to. -/
def State.killPoster (s : State) (e : PostEnt) (code : Nat) : State :=
  if s.sl e.slot Sl.LAUNCH_ID = e.launchId then s.killLaunch e.slot code false else s

/-- A post edge reaches its semaphore (R118, R244, R246): a target outside its launch's partition range, or a damaged semaphore (R422), kills the
launch. -/
def State.applyPost (s : State) (e : PostEnt) : State :=
  if !s.semOf e.sem e.part then (s.reportNode E.SEM_POST_RANGE e.part e.poster e.launchId).killPoster e E.SEM_POST_RANGE.code
  else
    let (s, a) := s.semAdd e.sem e.amount
    match a.err with
    | some x => s.killPoster e x.code
    | none => s.reportSat e.sem a

/-- SEM_POST (R118): the oldest entry of the post queue is applied, unless the SM is being initialised (R243). -/
def execSemPost (s : State) : Host.Outcome State Fault Refusal :=
  match s.dr.postQ with
  | [] => .next s
  | e :: rest =>
    .next (if s.smInit then s
      else (({ s with dr := { s.dr with postQ := rest } }).semTurn 3).applyPost e)

/-- WAKE_BINDING_SLEEP (R254): after the waits of this cc on its semaphore have been evaluated. -/
def execWakeBindingSleep (index : Nat) (s : State) : Host.Outcome State Fault Refusal :=
  match s.sm.binds.find? fun b => b.idx == index with
  | some b => .next ((s.nextCcIf (s.sm.evals.any fun e => some e.sem == b.sem)).bindSleep b)
  | none => .next s

end Sys2Proof.Machine
end

