-- ==== Sys2Proof/Machine/Head.lean ====
section
/-! DEFINITION. Queue heads (R159 to R162), the Thresher's choice of a command (R516), the pending list (R164), shadow records (R158), wait cycles
(R174, R175) and the timeouts of the front end (R177, R181). -/

namespace Sys2Proof.Machine

/-! ### Grants (R160) -/

/-- The head that may be evicted: blocked on a wait for at least 2 µs, of the highest class number, blocked longest. -/
def State.evictable (s : State) : Option Head :=
  let ok := s.fe.heads.filter fun h => match h.cur with
    | some k => k.blocked && k.wait.isSome && decide (2000 + k.since ≤ s.now)
    | none => false
  let top := ok.foldl (fun a h => max a h.q) 0
  minBy (fun h => match h.cur with
    | some k => k.since
    | none => 0) (ok.filter fun h => h.q == top)

/-- Evict a blocked head (R160): its queue is PARKED and keeps its wait; the prefetched packets are discarded. -/
def State.evict (s : State) (h : Head) : State :=
  ((s.setQState h.ctx h.q .parked).updQueue h.ctx h.q fun x => { x with park := h.cur }).dropHead h.ctx h.q

/-- The PENDING queue that is granted next: class order, then the order in which the queues became PENDING. -/
def State.nextPending (s : State) : Option Queue :=
  minBy (fun x => 2 ^ 64 * x.q + x.pendOrder) (s.fe.queues.filter fun x => x.state == .pending)

/-- Grant a head to a queue: it is ACTIVE, and its first fetch is issued (R161). -/
def State.grant (s : State) (x : Queue) : State :=
  let h : Head := ⟨x.ctx, x.q, s.fe.grantNext, 0, [], 0, none⟩
  let s := { s with fe := { s.fe with heads := s.fe.heads ++ [h], grantNext := s.fe.grantNext + 1 } }
  (s.setQState x.ctx x.q .active).fetchMore x.ctx x.q

/-- Every ACTIVE head that has consumed 256 packets since its grant gives its head up while a queue of the same or a higher class is PENDING; its queue
becomes PENDING (R160). -/
def State.rotateHeads (s : State) : State :=
  (s.fe.heads.filter fun h => decide (256 ≤ h.consumed) && (s.queue? h.ctx h.q).any (·.state == .active) &&
      s.fe.queues.any fun y => y.state == .pending && decide (y.q ≤ h.q)).foldl
    (fun s h => (s.dropHead h.ctx h.q).makePending h.ctx h.q) s

/-- Grant a head to the queue that is next: a free one, or that of a blocked queue which is evicted. -/
def State.grantNextQueue (s : State) : State :=
  match s.nextPending with
  | none => s
  | some x =>
    if s.fe.heads.length < s.build.heads then s.grant x
    else match s.evictable with
      | none => s
      | some h => (s.evict h).grant x

/-- HEAD_GRANT (R160): heads rotate, and one is granted. -/
def execHeadGrant (s : State) : Host.Outcome State Fault Refusal :=
  .next (if s.halted ∨ !s.unitEn U.CFE then s else s.rotateHeads.grantNextQueue)

/-! ### Decoding (R162, R170) -/

/-- A Thresher-path packet enters the slow queue while it has room (R162). -/
def State.pushSlow (s : State) (c q : Nat) (pkt : List Word) : State :=
  if (s.slow? c q).isSome ∨ 64 ≤ s.fe.slow.length then s
  else { s with fe := { s.fe with slow := s.fe.slow ++ [(⟨c, q, pkt, .queued, 0⟩ : Slow)] } }

/-- Whether the CFE decodes packets: it consumes them, and neither the start of grain-locked mode (R376) nor a replay (R390) waits. -/
def State.feeding (s : State) : Bool := s.consuming && !s.rb Reg.DC_STATUS_WAITING

/-- The packet at the read index of a head becomes its head packet: it is checked (R170), and a Thresher-path packet, SIGNAL_REMOTE among them, blocks
the head as R159 and R166 say (notes/assumptions/36.md). -/
def State.decodeHead (s : State) (c q i : Nat) (pkt : List Word) : State :=
  let s := s.updHead c q fun h =>
    { h with fetched := h.fetched.filter (·.1 != i), cur := some ⟨pkt, false, s.now, none⟩ }
  match s.packetFault pkt with
  | some e => s.refuse c q pkt e
  | none => if slowOp (pf pkt 0 7 0) then (s.blockHead c q none).pushSlow c q pkt else s

/-- PACKET_DECODE (R162): the packet at a queue's read index is decoded and handed to its unit, or a Thresher-path packet that found the slow
queue full tries again. -/
def execPacketDecode (c q : Nat) (s : State) : Host.Outcome State Fault Refusal :=
  match s.queue? c q, s.head? c q with
  | some x, some h =>
    if !s.feeding ∨ (x.state ≠ .active ∧ x.state ≠ .blocked) then .next s
    else match h.cur with
      | some k => .next (if slowOp (pf k.pkt 0 7 0) then s.pushSlow c q k.pkt else s)
      | none =>
        match h.fetched.find? fun e => e.1 == x.read with
        | some (i, pkt) => .next (s.decodeHead c q i pkt)
        | none => .next (s.fetchMore c q)
  | _, _ => .next s

/-! ### The Thresher (R169, R516) -/

/-- Whether a slow-queue entry may start (R169, R96): the template opcodes and QUERY need no earlier command complete; a patch or a free
waits for room in the retire list, and a patch for the end of an earlier patch of its template. -/
def State.mayStart (s : State) (e : Slow) : Bool :=
  let op := pf e.pkt 0 7 0
  if op = 0x12 ∨ op = 0x20 then true
  else if op = 0x21 ∨ op = 0x22 then
    match s.tmplOf (pf e.pkt 1 31 0) (s.ctx e.ctx).part with
    | .error _ => true
    | .ok i => decide (s.retireUsed < 16) && (op == 0x22 || !s.gs.jobs.any fun j => j.patch && j.tmpl == i)
  else s.effectNow e.ctx e.q

/-- THRESHER_COMMAND_START (R516): while the processor is free, the oldest entry that may start is carried out. -/
def execThresherCommandStart (s : State) : Host.Outcome State Fault Refusal :=
  if !s.unitEn U.THR ∨ s.halted ∨ s.ifm.thrHold ∨ s.fe.slow.any (fun e => e.phase == .running) then .next s
  else match s.fe.slow.find? fun e => e.phase == .queued && s.mayStart e with
    | none => .next s
    | some e => .next { s with fe := { s.fe with slow := s.fe.slow.map fun x => if x == e then { x with phase := .running } else x } }

/-! ### Pending list and shadow records (R164, R158) -/

/-- PENDING_TAKE_EFFECT (R164): the oldest command of a queue's pending list takes effect once every earlier command has completed.  A disabled CFE
keeps its pending lists (R484). -/
def execPendingTakeEffect (c q : Nat) (s : State) : Host.Outcome State Fault Refusal :=
  match s.queue? c q with
  | none => .next s
  | some x =>
    match x.pend with
    | [] => .next s
    | p :: rest =>
      if !s.unitEn U.CFE ∨ x.completed + 1 < p.qseq then .next s
      else
        let s := s.updQueue c q fun x => { x with pend := rest }
        .next (if pf p.pkt 0 7 0 = 4 then (s.recordTurn c q p.qseq).applyRecord c q p.qseq p.pkt else (s.semTurnOf c q p.qseq).applySem c q p.qseq p.pkt)

/-- SHADOW_RECORD_WRITE (R158): at most once per µs for each queue that has changed. -/
def execShadowRecordWrite (c q : Nat) (s : State) : Host.Outcome State Fault Refusal :=
  match s.queue? c q with
  | none => .next s
  | some x => if x.dirty ∧ 1000 + x.shadowGc ≤ s.now then .next (s.writeShadow c q) else .next s

/-! ### Wait cycles (R174, R175) -/

/-- The event that a queue's head is blocked on, if it is blocked on a WAIT_EVENT. -/
def State.waitedEvent (s : State) (c q : Nat) : Option Nat :=
  match s.queue? c q with
  | some x =>
    if x.state ≠ .blocked then none
    else match s.blockedPkt c q with
      | some k => match k.wait with
        | some (.event h _) => some h
        | _ => none
      | none => none
  | none => none

/-- Whether a head holds a pending record of an event: a RECORD_EVENT for it behind the head packet (R174). -/
def State.holdsRecord (s : State) (h : Head) (ev : Nat) : Bool :=
  let next := match s.queue? h.ctx h.q with
    | some x => x.read
    | none => 0
  (h.fetched.filter fun x => h.cur.isSome || x.1 != next).any fun x => pf x.2 0 7 0 == 4 && pf x.2 1 31 0 == ev

/-- The recorder of an event (R174): the single resident head with a pending record of it. -/
def State.recorder (s : State) (ev : Nat) : Option (Nat × Nat) :=
  match s.fe.heads.filter fun h => s.holdsRecord h ev with
  | [h] => some (h.ctx, h.q)
  | _ => none

/-- The chain of R175 from queue `a`, as far as it has been followed; answers its queues when it closes. -/
def State.chain (s : State) (a : Nat × Nat) : Nat → Nat × Nat → List (Nat × Nat) → Option (List (Nat × Nat))
  | 0, _, _ => none
  | hops + 1, q, seen =>
    match s.waitedEvent q.1 q.2 with
    | none => none
    | some ev =>
      match s.recorder ev with
      | none => none
      | some r => if r = a then some seen else if (s.waitedEvent r.1 r.2).isNone then none else State.chain s a hops r (seen ++ [r])

/-- EVENT_CYCLE_WALK (R175): the oldest walk runs; every queue of a chain that closes faults with ERR_EVENT_CYCLE.  It ends at once when its head is no
longer blocked on the packet for which it was started. -/
def execEventCycleWalk (s : State) : Host.Outcome State Fault Refusal :=
  match s.fe.walks with
  | [] => .next s
  | (c, q, n) :: rest =>
    let s := { s with fe := { s.fe with walks := rest } }
    .next (if s.headQseq c q ≠ n then s
      else match s.chain (c, q) 256 (c, q) [(c, q)] with
        | none => s
        | some qs => qs.foldl (fun s q => s.faultWith q.1 q.2 E.EVENT_CYCLE) s)

/-! ### Timeouts (R177, R181) -/

/-- HEAD_TIMEOUT (R177): at a check of R517, the packet that has been blocked or parked for the queue's limit completes with
ERR_QUEUE_TIMEOUT, and the queue faults. -/
def execHeadTimeout (c q : Nat) (s : State) : Host.Outcome State Fault Refusal :=
  match s.queue? c q, s.blockedPkt c q with
  | some x, some k =>
    if s.tb.check ∧ x.headTimeout ≠ 0 ∧ s.due k.since (1000 * x.headTimeout) then .next (s.faultWith c q E.QUEUE_TIMEOUT) else .next s
  | _, _ => .next s

/-- Whether the event waits or the SERIAL condition of a launch are unmet (R177). -/
def State.waitsUnmet (s : State) (l : Launch) : Bool := !s.waitsHold { l with startGc := none }

/-- WAIT_TIMEOUT (R177): a launch whose event waits or SERIAL condition stay unmet for the queue's limit from its acceptance is killed. -/
def execWaitTimeout (slot : Nat) (s : State) : Host.Outcome State Fault Refusal :=
  match s.launch? slot with
  | none => .next s
  | some l =>
    match s.queue? (s.sl slot Sl.CONTEXT) (s.sl slot Sl.QUEUE) with
    | none => .next s
    | some x =>
      if s.tb.check ∧ !l.step ∧ s.sl slot Sl.WAITS_CLEAR = 0 ∧ (s.sl slot Sl.STATE = 1 ∨ s.sl slot Sl.STATE = 2) ∧ x.waitTimeout ≠ 0 ∧
          s.waitsUnmet l ∧ s.due l.acceptGc (100000 * x.waitTimeout) then
        .next ((s.reportNode E.WAIT_TIMEOUT (s.sl slot Sl.PART) 0 l.launchId).killLaunch slot E.WAIT_TIMEOUT.code true)
      else .next s

/-- SIGNAL_TIMEOUT (R181): no reply to a SIGNAL has arrived within CFE_SIG_TIMEOUT. -/
def execSignalTimeout (seq : BitVec 32) (s : State) : Host.Outcome State Fault Refusal :=
  match s.fe.signals.find? fun g => g.seq == seq.toNat with
  | none => .next s
  | some g =>
    if s.due g.sentGc (1000 * max 1 (s.rf Reg.CFE_SIG_TIMEOUT)) then
      .next ((s.reportSignal (some g.who) g.part E.SIGNAL_TIMEOUT).signalDone g E.SIGNAL_TIMEOUT.code 0)
    else .next s

end Sys2Proof.Machine
end

