-- ==== Sys2Proof/Machine/Context.lean ====
section
/-! DEFINITION. Contexts (R150 to R154) and QUEUE_RESET (R178): the commands of CFE_CTX_CMD, as the writes of that register. -/

namespace Sys2Proof.Machine

/-- A CFE_CTX_CMD command begins: BUSY, with the outcome of the last one cleared (R183). -/
def State.ctxBusy (s : State) : State := s.setReg Reg.CFE_CTX_STATUS_A 1#32

/-- A CFE_CTX_CMD command is refused (R152, R153, R178): it has also finished, so that DONE is set beside REFUSED (notes/assumptions/35.md). -/
def State.ctxRefuse (s : State) (e : Err) (part : Option Nat) : State :=
  (s.reportPlain e part).setReg Reg.CFE_CTX_STATUS_A (packW [(1, 1), (2, 1), (16, e.code)])

/-- A CFE_CTX_CMD command has finished. -/
def State.ctxDone (s : State) : State := s.setReg Reg.CFE_CTX_STATUS_A 2#32

/-- Whether the last CFE_CTX_CMD command still runs. -/
def State.ctxRunning (s : State) : Bool := s.rb Reg.CFE_CTX_STATUS_BUSY

/-- The context that CFE_CTX_HANDLE names, or ERR_CTX_HANDLE (R153). -/
def State.ctxOf (s : State) : Option Context :=
  let h := s.rf Reg.CFE_CTX_HANDLE
  let c := s.ctx (hIdx h)
  if hIdx h < s.build.ctxs ∧ c.cstate = 1 ∧ c.gen = hGen h then some c else none

/-! ### CREATE (R151, R152) -/

/-- The descriptor of queue `q` within a context descriptor. -/
def queueDesc (d : List Word) (q : Nat) : List Word := (d.drop (16 + 8 * q)).take 8

/-- Whether the descriptor of an enabled queue passes R152. -/
def queueDescOk (w : List Word) : Bool :=
  decide (addr52 w 0 % 4096 = 0) && decide (4 ≤ pf w 1 24 20) && decide (pf w 1 24 20 ≤ 16) && rsvd w 1 31 25 &&
    decide (addr52 w 2 % 64 = 0) && rsvd w 3 31 20 && rsvd w 6 31 0 && rsvd w 7 31 0

/-- Whether a context descriptor passes R152. -/
def ctxDescOk (b : Build) (d : List Word) : Bool :=
  decide (pf d 1 31 0 = 1) && rsvd d 0 31 10 && zeroWords d 2 15 && decide (pf d 0 3 0 < b.partitions) && decide (pf d 0 9 4 ≠ 0) &&
    (bitList (pf d 0 9 4) 6).all fun q => queueDescOk (queueDesc d q)

/-- A queue as its descriptor sets it up. -/
def Queue.fresh (c q : Nat) (w : List Word) : Queue :=
  { ctx := c, q := q, ringBase := addr52 w 0, ringLog2 := pf w 1 24 20, shadow := addr52 w 2, headTimeout := pf w 4 15 0,
    waitTimeout := pf w 4 31 16, read := pf w 5 31 0, write := pf w 5 31 0, state := .empty, fault := 0, qseq := 0, completed := 0,
    done := [], pend := [], pendOrder := 0, park := none, blockGc := 0, dirty := false, shadowGc := 0 }

/-- The answer of the descriptor read (R152): the lowest FREE context is created, or the create is refused. -/
def State.ctxDescData (s : State) (ok : Bool) (d : List Word) : State :=
  let part := if ok ∧ pf d 0 3 0 < s.build.partitions then some (pf d 0 3 0) else none
  if !ok ∨ !ctxDescOk s.build d then s.ctxRefuse E.CTX_DESC part
  else if s.rb (Reg.PAU_PSTATUS_TEARING (pf d 0 3 0)) then s.ctxRefuse E.TEARDOWN part
  else match (List.range s.build.ctxs).find? fun i => (s.ctx i).cstate == 0 with
    | none => s.ctxRefuse E.CTX_NONE part
    | some i =>
      let g := ((s.ctx i).gen + 1) % 4096
      let x : Context := ⟨i, 1, pf d 0 3 0, pf d 0 9 4, g⟩
      let qs := (bitList (pf d 0 9 4) 6).map fun q => Queue.fresh i q (queueDesc d q)
      let s := { s with fe := { s.fe with ctxs := s.fe.ctxs.filter (fun (y : Context) => y.idx != i) ++ [x], queues := s.fe.queues ++ qs } }
      (s.setReg Reg.CFE_CTX_HANDLE_A (BitVec.ofNat 32 (mkHandle g i))).ctxDone

/-- CREATE, once it reaches the CFE. -/
def State.ctxCreate (s : State) : State :=
  if s.ctxRunning then s
  else if !s.unitEn U.CFE then s.ctxRefuse E.UNIT_DISABLED none
  else
    let a := 2 ^ 8 * s.rf Reg.CFE_CTX_DESC_LO + 2 ^ 32 * s.rf Reg.CFE_CTX_DESC_HI
    (s.ctxBusy.mmRead a 4 0 1 0 .ctxDesc).1

/-! ### DESTROY (R153, R196) -/

/-- The head of one queue of a context that is being destroyed: under DESTROY_KILL a blocked packet and the pending list complete with
ERR_CTX_DESTROYED. -/
def State.destroyQueue (s : State) (c q : Nat) (kill : Bool) : State :=
  match s.queue? c q with
  | none => s
  | some x =>
    let p := (s.ctx c).part
    let b := s.blockedPkt c q
    let s := s.endHeadCmd c q
    let s := match b with
      | some k => if kill then (s.reportCmd E.CTX_DESTROYED p c q (x.qseq + 1)).finishHead c q k.pkt E.CTX_DESTROYED.code else s
      | none => s
    let s := (s.setQState c q .draining).dropHead c q
    let s := s.updQueue c q fun x => { x with park := none }
    if kill then
      let s := s.updQueue c q fun x => { x with pend := [] }
      x.pend.foldl (fun s d => (s.reportCmd E.CTX_DESTROYED p c q d.qseq).complete c q p d.qseq (Rep.ofPkt d.pkt) E.CTX_DESTROYED.code) s
    else s

/-- A context has no consumed command left: it becomes FREE, and the destroy is DONE. -/
def State.ctxTryFree (s : State) (c : Nat) : State :=
  if (s.ctx c).cstate = 2 ∧ (s.fe.queues.filter fun x => x.ctx == c).all (fun x => decide (x.completed = x.qseq)) then
    let s := s.updCtx c fun x => { x with cstate := 0, part := 0, qmask := 0 }
    let s := { s with fe := { s.fe with queues := s.fe.queues.filter fun x => x.ctx != c } }
    if s.ctxRunning ∧ s.fe.ctxCmd ≠ 0 ∧ s.fe.ctxTarget = c then { s.ctxDone with fe := { s.fe with ctxCmd := 0 } } else s
  else s

/-- DESTROY_KILL ends a launch: the error is raised for the command that launched it (R184), unless it has been killed or has completed. -/
def State.destroyLaunch (s : State) (l : Launch) : State :=
  let k := l.slot
  let s := if !l.step ∧ s.sl k Sl.STATE ≠ 4 ∧ s.sl k Sl.STATE ≠ 5 then
      s.reportCmd E.CTX_DESTROYED (s.sl k Sl.PART) (s.sl k Sl.CONTEXT) (s.sl k Sl.QUEUE) l.qseq
    else s
  s.killLaunch k E.CTX_DESTROYED.code true

/-- A context is destroyed: it is DESTROYING, its queues are given up, and its streams and, under DESTROY_KILL, its launches end. -/
def State.destroyCtx (s : State) (c : Nat) (kill : Bool) : State :=
  let s := s.updCtx c fun x => { x with cstate := 2 }
  let s := (bitList (s.ctx c).qmask 6).foldl (fun s q => s.destroyQueue c q kill) s
  let ps := (s.st.streams.filter fun y => y.ctx == c).map (·.part)
  let s := ps.foldl (fun s p => if kill then s.killStream p E.CTX_DESTROYED.code else s.stopStream p) s
  let s := if kill then (s.gs.launches.filter fun l => s.sl l.slot Sl.CONTEXT == c).foldl (fun s l => s.destroyLaunch l) s else s
  s.ctxTryFree c

/-- DESTROY_DRAIN or DESTROY_KILL, once it reaches the CFE. -/
def State.ctxDestroy (s : State) (kill : Bool) : State :=
  if s.ctxRunning then s
  else match s.ctxOf with
    | none => s.ctxRefuse E.CTX_HANDLE none
    | some x =>
      let s := s.ctxBusy
      ({ s with fe := { s.fe with ctxCmd := if kill then 3 else 2, ctxTarget := x.idx } }).destroyCtx x.idx kill

/-! ### QUEUE_RESET (R178) -/

/-- QUEUE_RESET of queue class `q`, once it reaches the CFE. -/
def State.ctxReset (s : State) (q : Nat) : State :=
  if s.ctxRunning then s
  else match s.ctxOf with
    | none => s.ctxRefuse E.CTX_HANDLE none
    | some x =>
      let c := x.idx
      match s.queue? c q with
      | none => s.ctxRefuse E.QUEUE_STATE (some x.part)
      | some u =>
        if u.state ≠ .faulted then s.ctxRefuse E.QUEUE_STATE (some x.part)
        else
          let n := s.rf Reg.CFE_CTX_ARG
          let s := (s.setQState c q .empty).updQueue c q fun u => { u with read := n, write := n }
          (s.writeShadow c q).ctxDone

/-! ### Commands -/

/-- CONTEXT_CREATE (R152): a write of CREATE to CFE_CTX_CMD. -/
def execContextCreate (s : State) : Host.Outcome State Fault Refusal := .next (s.regInput .contextCreate State.ctxCreate)

/-- DESTROY_DRAIN (R153). -/
def execDestroyDrain (s : State) : Host.Outcome State Fault Refusal := .next (s.regInput .destroyDrain fun s => s.ctxDestroy false)

/-- DESTROY_KILL (R153). -/
def execDestroyKill (s : State) : Host.Outcome State Fault Refusal := .next (s.regInput .destroyKill fun s => s.ctxDestroy true)

/-- CONTEXT_FREE (R153): the last consumed command of a DESTROYING context has completed. -/
def execContextFree (ctx : Nat) (s : State) : Host.Outcome State Fault Refusal := .next (s.ctxTryFree ctx)

/-- QUEUE_RESET (R178). -/
def execQueueReset (q : Nat) (s : State) : Host.Outcome State Fault Refusal := .next (s.regInput (.queueReset q) fun s => s.ctxReset q)

end Sys2Proof.Machine
end

