-- ==== Sys2Proof/Machine/Hub.lean ====
section
/-! DEFINITION. The commands of the Message Hub: pops, sends, refills, Stooks and the timeout of a remote send. -/

namespace Sys2Proof.Machine

/-- MH_STOOK_STATUS after a command. -/
def State.stookStatus (s : State) (e : Option Err) : State :=
  s.setReg Reg.MH_STOOK_STATUS_A (packW [(0, 1), (1, b2n e.isSome), (16, (e.map (·.code)).getD 0)])

/-- Whether a Stook entry passes the check of OPEN (R291). -/
def State.stookOk (s : State) (k : Nat) : Bool :=
  let w := s.row (stookRow k) 16
  let p := s.sk k Sk.PART
  let q := s.sk k Sk.RESULT_RXQ
  let t := s.sk k Sk.TYPE
  let e := s.sk k Sk.ELEMS
  decide (t ≠ 3) && decide (1 ≤ e) && decide (e ≤ if t = 1 then 6 else 12) && decide (1 ≤ s.sk k Sk.N) && decide (s.sk k Sk.N ≤ 64) &&
    rsvd w 0 19 19 && rsvd w 1 31 12 && rsvd w 3 31 7 && (List.range 10).all (fun i => rsvd w (6 + i) 31 0) &&
    decide (q < s.build.rxqs) && decide (s.rq q Rq.VALID = 1) && decide (s.rq q Rq.PART = p)

/-- A command that names no Stook of the build is refused (R26), with the error that its chapter gives for a Stook that may not be opened. -/
def State.stookNone (s : State) : State := (s.reportPlain E.STOOK_CONFIG none).stookStatus (some E.STOOK_CONFIG)

/-- MH_STOOK_CMD OPEN (R291).  A Stook that is not IDLE is refused (notes/assumptions/16.md). -/
def State.stookOpen (s : State) (k : Nat) : State :=
  if !s.unitEn U.MH then s
  else if s.build.stooks ≤ k then s.stookNone
  else if s.sk k Sk.STATE ≠ 0 ∨ !s.stookOk k then
    (s.reportPlain E.STOOK_CONFIG (if s.partOk (s.sk k Sk.PART) then some (s.sk k Sk.PART) else none)).stookStatus (some E.STOOK_CONFIG)
  else
    let s := (s.clearRound k).setRm (stookRow k) Sk.ROUND 0
    (s.setRm (stookRow k) Sk.STATE 1).stookStatus none

/-- A Stook returns to IDLE: its held contributions are freed and nothing is delivered (R291). -/
def State.stookIdle (s : State) (k : Nat) : State :=
  (s.setRm (stookRow k) Sk.STATE 0).updStookX k fun _ => ⟨k, [], [], none⟩

/-- MH_STOOK_CMD CLOSE. -/
def State.stookClose (s : State) (k : Nat) : State :=
  if !s.unitEn U.MH then s else if s.build.stooks ≤ k then s.stookNone else (s.stookIdle k).stookStatus none

/-- MH_STOOK_CMD CLEAR_FAULT: CLOSE restricted to FAULTED. -/
def State.stookClear (s : State) (k : Nat) : State :=
  if !s.unitEn U.MH then s
  else if s.build.stooks ≤ k then s.stookNone
  else (if s.sk k Sk.STATE = 2 then s.stookIdle k else s).stookStatus none

/-- MH_STOOK_CMD by its OP; 0 does nothing. -/
def State.stookCmd (s : State) (k op : Nat) : State :=
  match op with
  | 1 => s.stookOpen k
  | 2 => s.stookClose k
  | 3 => s.stookClear k
  | _ => s

/-- An access takes place after the arrivals of this cc: a pop sees the queue as it stood when its cc began, so that one that follows an arrival takes
place in the next cc (R279). -/
def State.popTurn (s : State) (core : Nat) : State :=
  s.nextCcIf (s.cyc.arrived.any fun a => a.1 == wget (s.reg (Reg.CW_RX_Q_A core)) 11 0)

/-- RX_POP. -/
def execRxPop (core : Nat) (s : State) : Host.Outcome State Fault Refusal :=
  .next (s.regRead (.rxPop core) (Reg.CW_RX_POP_A core) fun s => (s.popTurn core).rxPop core)

/-- SEND_GO. -/
def execSendGo (core : Nat) (s : State) : Host.Outcome State Fault Refusal := .next (s.regInput (.sendGo core) fun s => s.sendGo core)

/-- OUT_POP. -/
def execOutPop (core : Nat) (s : State) : Host.Outcome State Fault Refusal := .next (s.regRead (.outPop core) (Reg.CW_OUT_POP_A core) fun s => s.outPop core)

/-- GRANARY_REFILL. -/
def execGranaryRefill (queue : Nat) (s : State) : Host.Outcome State Fault Refusal := .next (s.refill queue)

/-- STOOK_OPEN. -/
def execStookOpen (stook : Nat) (s : State) : Host.Outcome State Fault Refusal :=
  .next (s.regInput (.stookOpen stook) fun s => s.stookOpen stook)

/-- STOOK_CLOSE. -/
def execStookClose (stook : Nat) (s : State) : Host.Outcome State Fault Refusal :=
  .next (s.regInput (.stookClose stook) fun s => s.stookClose stook)

/-- STOOK_CLEAR_FAULT. -/
def execStookClearFault (stook : Nat) (s : State) : Host.Outcome State Fault Refusal :=
  .next (s.regInput (.stookClearFault stook) fun s => s.stookClear stook)

/-- STOOK_RESULT_RETRY (R294): 1 µs after its last refusal a result is offered again. -/
def execStookResultRetry (stook : Nat) (s : State) : Host.Outcome State Fault Refusal :=
  match (s.stookX stook).pending with
  | some t =>
    if s.sk stook Sk.STATE = 1 ∧ s.unitEn U.MH ∧ s.due t 1000 then
      .next (((s.hubTurn 2).updStookX stook fun x => { x with pending := none }).offerResult stook)
    else .next s
  | none => .next s

/-- MSG_REMOTE_TIMEOUT (R288). -/
def execMsgRemoteTimeout (seq : BitVec 32) (s : State) : Host.Outcome State Fault Refusal :=
  match s.mh.sends.find? fun x => x.seq == seq.toNat with
  | some x =>
    if s.due x.sentGc (1000 * s.rf Reg.MH_CTRL_REMOTE_TIMEOUT) then
      .next ((s.reportPlain E.MSG_REMOTE_TIMEOUT (some x.part)).endSend x 5 E.MSG_REMOTE_TIMEOUT.code)
    else .next s
  | none => .next s

end Sys2Proof.Machine
end

