-- ==== Sys2Proof/Machine/EraJob.lean ====
section
/-! DEFINITION. Route jobs (R218 to R235): selection, admission, what a job writes, its notices and loads; the published bias vectors; and
the banks of the bias and seed tables (R224, R225). -/

namespace Sys2Proof.Machine

/-! ### Banks -/

/-- Key of entry `i` of the bias table's bank `b`. -/
def biasKey (b i : Nat) : Nat := ramKey (0x0F + b) i
/-- Key of the low word of entry `i` of the seed table's bank `b`. -/
def seedKey (b i : Nat) : Nat := ramKey (0x11 + b) (2 * i)
/-- Key of the load counter of bias entry `i`. -/
def loadKey (i : Nat) : Nat := ramKey 0x13 i

/-- First bias entry of a layer. -/
def State.biasBase (s : State) (p l : Nat) : Nat := s.rf (Reg.ERA_BIAS_BIAS_BASE p) + s.lay p l Rl.BIAS_INDEX

/-- A synthesis begins (R224): a pending swap is committed, and with no step in flight a committed swap flips at once.  Answers the state and
the banks that the step is bound to. -/
def State.bindBanks (s : State) (p : Nat) (inFlight : Bool) : State × Nat × Nat :=
  let one := fun (s : State) (act pend com : RF) =>
    let s := if s.rb pend then (s.setRf pend 0).setRf com 1 else s
    if s.rb com then
      (if inFlight then (s, 1 - s.rf act) else
        let s := (s.setRf act (1 - s.rf act)).setRf com 0
        (s, s.rf act))
    else (s, s.rf act)
  let (s, b) := one s (Reg.ERA_BANK_BIAS_ACTIVE p) (Reg.ERA_BANK_BIAS_PEND p) (Reg.ERA_BANK_BIAS_COMMIT p)
  let (s, d) := one s (Reg.ERA_BANK_SEED_ACTIVE p) (Reg.ERA_BANK_SEED_PEND p) (Reg.ERA_BANK_SEED_COMMIT p)
  (s, b, d)

/-- A committed swap flips in step 5 of the boundary pass (R224). -/
def State.flipBanks (s : State) (p : Nat) : State :=
  let one := fun (s : State) (act com : RF) => if s.rb com then (s.setRf act (1 - s.rf act)).setRf com 0 else s
  one (one s (Reg.ERA_BANK_BIAS_ACTIVE p) (Reg.ERA_BANK_BIAS_COMMIT p)) (Reg.ERA_BANK_SEED_ACTIVE p) (Reg.ERA_BANK_SEED_COMMIT p)

/-- The number whose order is the order of binary32 values; a NaN is below every other, and the two zeros are equal. -/
def f32Rank (x : Nat) : Int :=
  if f32Nan x then -(2 ^ 40 : Int) else if f32Neg x then -((x % 2 ^ 31 : Nat) : Int) else ((x % 2 ^ 31 : Nat) : Int)

/-- Clamp a value to the range of R225: −CLAMP to +CLAMP; a NaN is kept. -/
def f32Clamp (x c : Nat) : Nat :=
  let lo := (2 ^ 31 + c) % 2 ^ 32
  if f32Nan x then x else if f32Rank c < f32Rank x then c else if f32Rank x < f32Rank lo then lo else x

/-- One layer of the bias loop (R225): its entries of the inactive bank. -/
def State.biasLayer (s : State) (p l act : Nat) : State :=
  let n := s.lay p l Rl.EXPERTS
  let b := s.biasBase p l
  let total := ((List.range n).map fun e => (s.ram (loadKey (b + e))).toNat).foldl (· + ·) 0
  let gamma := s.sh (Reg.ERA_GAMMA p)
  let clamp := s.sh (Reg.ERA_CLAMP p)
  (List.range n).foldl (fun s e =>
    let v := (s.ram (biasKey act (b + e))).toNat
    let w := (s.ram (loadKey (b + e))).toNat * n
    let v := if w < total then f32Add v gamma else if total < w then f32Add v ((2 ^ 31 + gamma) % 2 ^ 32) else v
    s.setRam (biasKey (1 - act) (b + e)) (BitVec.ofNat 32 (f32Clamp v clamp))) s

/-- The load counters of a layer are zeroed (R225). -/
def State.zeroLoads (s : State) (p l : Nat) : State :=
  (List.range (s.lay p l Rl.EXPERTS)).foldl (fun s e => s.setRam (loadKey (s.biasBase p l + e)) 0#32) s

/-- The bias loop, in every PERIOD-th boundary pass (R225). -/
def State.biasLoop (s : State) (p : Nat) : State :=
  let k := lookupD s.era.passes p 0 + 1
  let s := { s with era := { s.era with passes := assocSet s.era.passes p k } }
  if s.sh (Reg.ERA_LOOP_BIAS_AUTO p) = 0 ∨ k % s.sh (Reg.ERA_LOOP_PERIOD p) ≠ 0 ∨ s.rb (Reg.ERA_BANK_BIAS_PEND p) ∨
      s.rb (Reg.ERA_BANK_BIAS_COMMIT p) then s
  else
    let act := s.rf (Reg.ERA_BANK_BIAS_ACTIVE p)
    let base := s.rf (Reg.ERA_BIAS_BIAS_BASE p)
    let s := (List.range (s.rf (Reg.ERA_BIAS_BIAS_SIZE p))).foldl (fun s i =>
      s.setRam (biasKey (1 - act) (base + i)) (s.ram (biasKey act (base + i)))) s
    let ls := (s.layers p).filter fun l => s.lay p l Rl.MODE == 0
    let s := ls.foldl (fun s l => s.biasLayer p l act) s
    let s := ls.foldl (fun s l => s.zeroLoads p l) s
    s.setRf (Reg.ERA_BANK_BIAS_PEND p) 1

/-! ### Killing a step launch -/

/-- Kill the launch of a step, or, before it has a slot, fault its stream (R201). -/
def State.killStep (s : State) (tag : Nat) (e : Err) : State :=
  match s.step? tag with
  | none => s
  | some x =>
    match x.slot with
    | some k => if s.sl k Sl.STEP_TAG = tag then s.killWith k e 0 else s
    | none => (s.reportPlain e (some x.part)).streamFault x.part E.STEP_LAUNCH 0 false

/-! ### Publication (R221) -/

/-- Count of writes of an EraStep. -/
def State.eraOut (s : State) (tag : Nat) (pub : Bool) (n : Int) : State :=
  s.updEraStep tag fun x =>
    if pub then { x with pubOut := ((x.pubOut : Int) + n).toNat } else { x with writesOut := ((x.writesOut : Int) + n).toNat }

/-- Issue a write of the ERA for a step, counted until it is answered.  One that is not issued fails as an MM error would. -/
def State.eraWrite (s : State) (tag part : Nat) (pub : Bool) (addr beats : Nat) (data : List (List Word × Nat)) : State :=
  match s.mmStart true addr beats part 1 3 (.era (if pub then 3 else 2) tag) data with
  | (s, true) => s.eraOut tag pub 1
  | (s, false) => s.killStep tag E.ERA_WRITE

/-- The ERA reads `n` bank words from a key on, which are the entries from `i` on: single-bit errors are corrected (R426). -/
def State.bankRead (s : State) (key n p i : Nat) : State := (List.range n).foldl (fun s k => s.corrected (key + k) 1 (some p) 11 (i + k)) s

/-- Publish the bias vectors of a step whose launch has been submitted (R221). -/
def State.publish (s : State) (tag buf : Nat) : State :=
  match s.eraStep? tag with
  | none => s
  | some x =>
    if !s.unitEn U.ERA then s
    else ((s.layers x.part).filter fun l => s.lay x.part l Rl.MODE == 0 && s.lay x.part l Rl.PUB == 1).foldl (fun s l =>
      let b := s.biasBase x.part l
      let n := s.lay x.part l Rl.EXPERTS
      let s := s.bankRead (biasKey x.biasBank b) n x.part b
      let ws := (List.range n).map fun e => s.ram (biasKey x.biasBank (b + e))
      if s.eccBad (biasKey x.biasBank b) n then (s.reportRow E.ECC_UNCORRECTED 2 (some x.part) 11 (b + s.eccWord (biasKey x.biasBank b) n) 0).killStep tag E.ECC_UNCORRECTED
      else
        let bs := beatsOf 0 ws
        s.eraWrite tag x.part true (buf + 64 * s.lay x.part l Rl.PUB_OFFSET) bs.length bs) s

/-! ### Selection (R220 to R223) -/

/-- binary32 of an E4M3 value: bias 7, no infinity, one NaN in each sign (notes/assumptions/18.md). -/
def f32OfE4m3 (x : Nat) : Nat :=
  let e := bits x 6 3
  let m := bits x 2 0
  if e = 15 ∧ m = 7 then f32QNan
  else f32Round (bit x 7) (if e = 0 then m * 2 ^ 140 else (8 + m) * 2 ^ (e + 139))

/-- binary32 of an E5M2 value: bias 15, with infinities and NaNs. -/
def f32OfE5m2 (x : Nat) : Nat :=
  let e := bits x 6 2
  let m := bits x 1 0
  if e = 31 then (if m = 0 then b2n (bit x 7) * 2 ^ 31 + 255 * 2 ^ 23 else f32QNan)
  else f32Round (bit x 7) (if e = 0 then m * 2 ^ 133 else (4 + m) * 2 ^ (e + 132))

/-- A candidate's raw score as binary32. -/
def candScore (fmt : Nat) (w : Word) : Nat :=
  match fmt with
  | 0 => f32OfBf16 (wget w 31 16)
  | 1 => f32OfE4m3 (wget w 23 16)
  | _ => f32OfE5m2 (wget w 23 16)

/-- Insert by an order: `before x y` says that `x` comes before `y`. -/
def insertBy {α : Type} (before : α → α → Bool) (x : α) : List α → List α
  | [] => [x]
  | y :: t => if before y x then y :: insertBy before x t else x :: y :: t

/-- Sort by an order, the first of two equals staying first. -/
def sortBy {α : Type} (before : α → α → Bool) (l : List α) : List α := l.foldl (fun acc x => insertBy (fun a b => !before b a) x acc) []

/-- The candidates of one token: (j, expert, key), or nothing when its record is malformed (R222). -/
def State.eraCands (s : State) (x : EraStep) (l : Nat) (ws : List Word) : Option (List (Nat × Nat × Nat)) :=
  let fmt := s.lay x.part l Rl.FMT
  let n := s.lay x.part l Rl.EXPERTS
  let es := ws.map fun w => wget w 8 0
  if ws.any (fun w => wget w 15 9 != 0 || (fmt != 0 && wget w 31 24 != 0)) ∨ es.any (fun e => decide (n ≤ e)) ∨ es.eraseDups.length ≠ es.length then
    none
  else
    let b := s.biasBase x.part l
    some ((ws.zip (List.range ws.length)).map fun (w, j) =>
      (j, wget w 8 0, f32Add (candScore fmt w) (s.ram (biasKey x.biasBank (b + wget w 8 0))).toNat))

/-- SCORE selection (R221): the K best candidates by key, as (expert, candidate index) by rank. -/
def selectScore (k : Nat) (cs : List (Nat × Nat × Nat)) : List (Nat × Nat) :=
  let before := fun (a b : Nat × Nat × Nat) =>
    decide (f32Rank b.2.2 < f32Rank a.2.2) || (decide (f32Rank a.2.2 = f32Rank b.2.2) && decide (a.2.1 < b.2.1))
  ((sortBy before cs).take k).map fun c => (c.2.1, c.1)

/-- The first expert from `e` on, cyclically, that is not yet chosen; the count is the fuel. -/
def nextFree (n : Nat) (chosen : List Nat) : Nat → Nat → Nat
  | 0, e => e
  | fuel + 1, e => if chosen.contains e then nextFree n chosen fuel ((e + 1) % n) else e

/-- HASH selection (R223). -/
def selectHash (seed layer n k id : Nat) : List (Nat × Nat) :=
  ((List.range k).foldl (fun (acc : List Nat) r =>
    let x := (wordAt (philox seed id layer (r / 4) 0) (r % 4)).toNat
    acc ++ [nextFree n acc n (x * n / 2 ^ 32)]) []).zip (List.range k)

/-! ### Admission (R227, R228) -/

/-- What admission has done so far: the lists by expert, newest entry first, the outcome bytes, newest first, and the experts whose list the
last token has filled a beat of, in rank order. -/
structure Admission where
  lists : List (List Word)
  outs : List Nat
  full : List Nat
  bad : Bool
deriving DecidableEq, Repr

/-- The row of each token of a step: whether it is live in the snapshot. -/
def tokenRows (rows : List (Nat × Bool)) : List Bool := rows.flatMap fun (n, live) => List.replicate n live

/-- The capacity of a layer (R227). -/
def State.capacity (s : State) (x : EraStep) (l : Nat) : Nat :=
  let c := s.lay x.part l Rl.CAPACITY
  let live := (x.rows.map fun (n, b) => if b then n else 0).foldl (· + ·) 0
  min (if s.lay x.part l Rl.CAP_MODE = 0 then c else ceilDiv (c * live * s.lay x.part l Rl.K) (256 * s.lay x.part l Rl.EXPERTS))
    (s.lay x.part l Rl.LIST_MAX)

/-- The choices of token `t`, or nothing when its record is malformed. -/
def State.choices (s : State) (x : EraStep) (j : EraJob) (t : Nat) : Option (List (Nat × Nat)) :=
  let l := j.layer
  let k := s.lay x.part l Rl.K
  if s.lay x.part l Rl.MODE = 1 then
    let seed := s.ram64 (seedKey x.seedBank (s.rf (Reg.ERA_SEED_SEED_BASE x.part) + s.lay x.part l Rl.SEED_INDEX))
    some (selectHash seed l (s.lay x.part l Rl.EXPERTS) k (wordAt j.inp t).toNat)
  else
    let n := s.lay x.part l Rl.CAND
    (s.eraCands x l ((j.inp.drop (n * t)).take n)).map (selectScore k)

/-- Admit one token (R228). -/
def State.admitToken (s : State) (x : EraStep) (j : EraJob) (cap : Nat) (a : Admission) (t : Nat) (live : Bool) : Admission :=
  let a := { a with full := [] }
  let skip := s.lay x.part j.layer Rl.TSKIP_OFFSET != 0 && bit (wordAt j.tskip (t / 32)).toNat (t % 32)
  if !live then { a with outs := 3 :: a.outs }
  else if skip then { a with outs := 2 :: a.outs }
  else match s.choices x j t with
    | none => { a with bad := true, outs := 3 :: a.outs }
    | some cs =>
      if cs.any fun c => decide (cap ≤ (a.lists.getD c.1 []).length) then { a with outs := 1 :: a.outs }
      else
        { a with outs := 0 :: a.outs,
                 lists := (cs.zip (List.range cs.length)).foldl (fun ls (c, r) =>
                   ls.set c.1 (packW [(0, t), (16, r), (19, c.2)] :: ls.getD c.1 [])) a.lists,
                 full := (cs.map (·.1)).filter fun e => ((a.lists.getD e []).length + 1) % 16 == 0 }

/-! ### The job -/

/-- The state with the running job changed. -/
def State.updEraJob (s : State) (f : EraJob → EraJob) : State :=
  match s.era.jobs with
  | [] => s
  | j :: rest => { s with era := { s.era with jobs := f j :: rest } }

/-- Whether a transfer reads for the running job. -/
def MmXfer.eraRead (x : MmXfer) : Bool :=
  match x.use with
  | .era w _ => decide (w ≤ 1)
  | _ => false

/-- The running job ends: it issues no further read, and the data of the reads that are out are one Chaff return of its partition (R238, R514). -/
def State.endEraJob (s : State) : State :=
  let first := (s.mm.busy.find? MmXfer.eraRead).map (·.tag)
  let stop := fun (x : MmXfer) => if x.eraRead then { x with use := if first = some x.tag then .era 4 x.part else .dropped, left := x.beats } else x
  { s with era := { s.era with jobs := s.era.jobs.tail },
           mm := { busy := s.mm.busy.map stop, waiting := s.mm.waiting.filter fun x => !x.eraRead } }

/-- A job fails: it ends and its step launch is killed. -/
def State.failEraJob (s : State) (tag : Nat) (e : Err) : State := s.endEraJob.killStep tag e

/-- Start the job at the head of the queue (R218): its regions are checked, and its input is read. -/
def State.startEraJob (s : State) (j : EraJob) : State :=
  match s.eraStep? j.tag with
  | none => s.endEraJob
  | some x =>
    let p := j.part
    let l := j.layer
    let t := (x.rows.map (·.1)).foldl (· + ·) 0
    let base := addr52 (s.row (slotRow j.slot) 16) 6
    let lim := s.sl j.slot Sl.ARG_LIMIT
    let inWords := if s.lay p l Rl.MODE = 1 then t else s.lay p l Rl.CAND * t
    let tsk := s.lay p l Rl.TSKIP_OFFSET
    let beyond := fun (o n : Nat) => lim != 0 && decide (lim < o + n)
    if beyond (s.lay p l Rl.IN_OFFSET) (ceilDiv inWords 16) ||
        beyond (s.lay p l Rl.LIST_OFFSET) (s.lay p l Rl.EXPERTS * ceilDiv (s.lay p l Rl.LIST_MAX) 16) ||
        beyond (s.lay p l Rl.OUT_OFFSET) (ceilDiv t 64) || (tsk != 0 && beyond tsk (ceilDiv t 512)) then s.failEraJob j.tag E.ERA_RANGE
    else
      let s := s.updEraJob fun j => { j with phase := .reading, reads := if tsk = 0 then 1 else 2 }
      let read := fun (s : State) (what o n : Nat) => (s.mmRead ((base + 64 * o) % 2 ^ 52) n p 1 3 (.era what j.tag)).1
      let s := read s 0 (s.lay p l Rl.IN_OFFSET) (ceilDiv inWords 16)
      if tsk = 0 then s else read s 1 tsk (ceilDiv t 512)

/-- The beats of a write of `n` bytes that starts at a beat, one byte of each number, with strobes for the bytes written. -/
def byteBeats (bs : List Nat) : List (List Word × Nat) :=
  (List.range (ceilDiv bs.length 64)).map fun b =>
    ((List.range 16).map fun i => packW ((List.range 4).map fun k => (8 * k, bs.getD (64 * b + 4 * i + k) 0)),
     2 ^ min 64 (bs.length - 64 * b) - 1)

/-- The argument base of a job's launch. -/
def State.jobBase (s : State) (j : EraJob) : Nat := addr52 (s.row (slotRow j.slot) 16) 6

/-- Write beat `b` of expert `e`'s list, as far as its entries go (R233, R234). -/
def State.writeList (s : State) (j : EraJob) (es : List Word) (e b : Nat) : State :=
  let stride := 64 * ceilDiv (s.lay j.part j.layer Rl.LIST_MAX) 16
  let bs := beatsOf 0 ((es.reverse.drop (16 * b)).take 16)
  s.eraWrite j.tag j.part false ((s.jobBase j + 64 * s.lay j.part j.layer Rl.LIST_OFFSET + e * stride + 64 * b) % 2 ^ 52) bs.length bs

/-- Write beat `b` of the outcomes, as far as they go (R233, R234). -/
def State.writeOuts (s : State) (j : EraJob) (outs : List Nat) (b : Nat) : State :=
  let bs := byteBeats ((outs.reverse.drop (64 * b)).take 64)
  s.eraWrite j.tag j.part false ((s.jobBase j + 64 * s.lay j.part j.layer Rl.OUT_OFFSET + 64 * b) % 2 ^ 52) bs.length bs

/-- Admit one token, and write the beats that it fills (R228, R234); none after a malformed record. -/
def State.runToken (x : EraStep) (j : EraJob) (cap : Nat) (acc : State × Admission) (t : Nat) (live : Bool) : State × Admission :=
  let (s, a) := acc
  if a.bad then acc
  else
    let a := s.admitToken x j cap a t live
    if a.bad then (s, a)
    else
      let s := a.full.foldl (fun s e =>
        let es := a.lists.getD e []
        s.writeList j es e (es.length / 16 - 1)) s
      (if (t + 1) % 64 = 0 then s.writeOuts j a.outs (t / 64) else s, a)

/-- Admission over all tokens, in token order, with the beats that fill on the way. -/
def State.admitAll (s : State) (x : EraStep) (j : EraJob) : State × Admission :=
  let ts := tokenRows x.rows
  let cap := s.capacity x j.layer
  (ts.zip (List.range ts.length)).foldl (fun acc (live, t) => State.runToken x j cap acc t live)
    (s, ⟨List.replicate (s.lay x.part j.layer Rl.EXPERTS) [], [], [], false⟩)

/-- Write the partial beats (R234): the lists' in expert order, then the outcomes'. -/
def State.writeRests (s : State) (j : EraJob) (a : Admission) : State :=
  let s := (a.lists.zip (List.range a.lists.length)).foldl (fun s (es, e) =>
    if es.length % 16 = 0 then s else s.writeList j es e (es.length / 16)) s
  if a.outs.length % 64 = 0 then s else s.writeOuts j a.outs (a.outs.length / 64)

/-- Mark the tiles that hold no admitted token (R232). -/
def State.markTiles (s : State) (j : EraJob) (outs : List Nat) : State :=
  let p := j.part
  let g := s.lay p j.layer Rl.TILE_LOG2
  let b := s.sl j.slot Sl.NODE_BASE + s.lay p j.layer Rl.TILE_BASE
  (List.range (s.lay p j.layer Rl.TILE_COUNT)).foldl (fun s i =>
    if ((outs.drop (i * 2 ^ g)).take (2 ^ g)).any (· == 0) ∨
        s.sl j.slot Sl.NODE_COUNT ≤ s.lay p j.layer Rl.TILE_BASE + i then s
    else s.markSkip (b + i)) s

/-- What the ERA finds when it reads a job's bank words (R422): the first of them that is uncorrectable, as the entry and its word. -/
def State.jobBankBad (s : State) (x : EraStep) (j : EraJob) : Option (Nat × Nat) :=
  let n := s.lay j.part j.layer Rl.EXPERTS
  let b := s.biasBase j.part j.layer
  let sd := s.rf (Reg.ERA_SEED_SEED_BASE j.part) + s.lay j.part j.layer Rl.SEED_INDEX
  if s.lay j.part j.layer Rl.MODE = 1 then
    if s.eccBad (seedKey x.seedBank sd) 2 then some (sd, s.eccWord (seedKey x.seedBank sd) 2) else none
  else if s.eccBad (biasKey x.biasBank b) n then some (b + s.eccWord (biasKey x.biasBank b) n, 0)
  else none

/-- The ERA reads a job's bank words: their single-bit errors are corrected (R426). -/
def State.readJobBank (s : State) (x : EraStep) (j : EraJob) : State :=
  let b := s.biasBase j.part j.layer
  let sd := s.rf (Reg.ERA_SEED_SEED_BASE j.part) + s.lay j.part j.layer Rl.SEED_INDEX
  if s.lay j.part j.layer Rl.MODE = 1 then s.corrected (seedKey x.seedBank sd) 2 (some j.part) 11 sd
  else s.bankRead (biasKey x.biasBank b) (s.lay j.part j.layer Rl.EXPERTS) j.part b

/-- All of a job's input is there: the tokens are admitted, the lists and the outcomes are written, and the tiles marked (R228 to R234). -/
def State.runEraJob (s : State) (j : EraJob) : State :=
  match s.eraStep? j.tag with
  | none => s.endEraJob
  | some x =>
    let p := j.part
    let s := s.readJobBank x j
    match s.jobBankBad x j with
    | some (i, w) => (s.reportRow E.ECC_UNCORRECTED 2 (some p) 11 i w).failEraJob j.tag E.ECC_UNCORRECTED
    | none =>
      let (s, a) := s.admitAll x j
      if a.bad then s.failEraJob j.tag E.ERA_CAND
      else
        let s := s.writeRests j a
        let outs := a.outs.reverse
        let cnt := fun k => (outs.filter (· == k)).length
        let s := s.incRf (Reg.ERA_ADMITTED p) (cnt 0)
        let s := s.incRf (Reg.ERA_CAP_SKIPS p) (cnt 1)
        let s := s.incRf (Reg.ERA_TOKEN_SKIPS p) (cnt 2 + cnt 3)
        let s := s.updEraJob fun j => { j with phase := .written, counts := a.lists.map (·.length), capSkips := cnt 1 }
        s.markTiles j outs

/-- The answer of a read of the running job (what: 0 its input, 1 the bitmap).  With a dead tag it is Chaff, and the job is over (R238). -/
def State.eraData (s : State) (what tag : Nat) (ok : Bool) (ws : List Word) : State :=
  match s.era.jobs with
  | [] => s
  | j :: _ =>
    if j.tag ≠ tag ∨ j.phase ≠ .reading then s
    else if s.tagDead tag then s.endEraJob.chaff j.part 1
    else if !ok then s.failEraJob tag E.ERA_READ
    else
      let j := { j with reads := j.reads - 1, inp := if what = 0 then ws else j.inp, tskip := if what = 1 then ws else j.tskip }
      let s := s.updEraJob fun _ => j
      if j.reads = 0 then s.runEraJob j else s

/-- A write of the ERA has been answered (what: 2 of a job, 3 of a publication). -/
def State.eraWritten (s : State) (what tag : Nat) (ok : Bool) : State :=
  let s := s.eraOut tag (what == 3) (-1)
  if ok then s else s.killStep tag E.ERA_WRITE

/-- The notice of expert `e` (R235), as the hub carries it (R282). -/
def State.eraNotice (s : State) (j : EraJob) (e : Nat) : List Word :=
  mkRec 8 [(Ms.KIND, 4), (Ms.UNITS, 1), (Ms.DST, s.lay j.part j.layer Rl.RXQ_BASE + e), (Ms.DST_DEV, s.self), (Ms.STEP_TAG, j.tag),
    (Ms.SRC_DEV, s.self), (Ms.SYS, 1), (⟨4, 15, 0⟩, j.tag), (⟨4, 22, 16⟩, j.layer), (⟨5, 8, 0⟩, e), (⟨6, 16, 0⟩, j.counts.getD e 0),
    (⟨7, 16, 0⟩, j.capSkips)]

/-- Post the notices in expert order; the first that the hub refuses stops them. -/
def State.postNotices (s : State) (j : EraJob) (es : List Nat) : State × Bool :=
  es.foldl (fun (s, ok) e =>
    if !ok then (s, ok)
    else
      let (s, a) := s.deliver j.part (s.lay j.part j.layer Rl.RXQ_BASE + e) (s.eraNotice j e)
      (s, a.err.isNone)) (s, true)

/-- The end of a job (R235, R226): its notices, then its loads. -/
def State.finishEraJob (s : State) (j : EraJob) : State :=
  let n := s.lay j.part j.layer Rl.EXPERTS
  match s.postNotices j (List.range n) with
  | (s, false) => s.failEraJob j.tag E.ERA_NOTICE
  | (s, true) =>
    let b := s.biasBase j.part j.layer
    let s := if s.lay j.part j.layer Rl.MODE = 1 then s else (List.range n).foldl (fun s e =>
      s.setRam (loadKey (b + e)) (BitVec.ofNat 32 (min ((s.ram (loadKey (b + e))).toNat + j.counts.getD e 0) (2 ^ 32 - 1)))) s
    (s.incRf (Reg.ERA_JOBS j.part)).endEraJob

end Sys2Proof.Machine
end

