-- ==== Sys2Proof/Machine/DcOps.lean ====
section
/-! DEFINITION. The Determinism Controller as the other units meet it: the replay log (R385, R386), the digests of a step (R387, R388),
and the checkpoint of a partition (R391). -/

namespace Sys2Proof.Machine

/-! ### The replay log (R385, R386) -/

/-- Whether the replay log is written: while the DC is enabled, and up to the last boundary after it has been disabled (R384). -/
def State.logging (s : State) : Bool := (s.unitEn U.DC || s.rb Reg.DC_STATUS_RUNNING) && s.rb Reg.DC_CTRL_LOG_EN

/-- Whether the log ring has room for one more record. -/
def State.logRoom (s : State) : Bool :=
  decide ((2 ^ 32 + s.rf Reg.DC_LOG_TAIL - s.rf Reg.DC_LOG_HEAD) % 2 ^ 32 + 32 ≤ 2 ^ s.rf Reg.DC_LOG_CFG_LOG_LOG2)

/-- A record is dropped: it is counted, and ERR_LOG_GAP is raised once (R386). -/
def State.logDrop (s : State) : State :=
  let s := s.incRf Reg.DC_LOST
  let s := { s with dc := { s.dc with lost := s.dc.lost + 1 } }
  let s := s.setRf Reg.DC_STATUS_LOG_GAP 1
  if s.inEpisode E.LOG_GAP.code 0 then s else (s.openEpisode E.LOG_GAP.code 0).reportPlain E.LOG_GAP none

/-- The write of a record failed (R386). -/
def State.logFailed (s : State) : State := (s.reportPlain E.LOG_WRITE none).logDrop

/-- Write one record at LOG_TAIL. -/
def State.logPut (s : State) (ws : List Word) : State :=
  let t := s.rf Reg.DC_LOG_TAIL
  let base := 2 ^ 6 * s.rf Reg.DC_LOG_BASE_LO_LOG_LO + 2 ^ 32 * s.rf Reg.DC_LOG_BASE_HI_LOG_HI
  let s := s.setRf Reg.DC_LOG_TAIL ((t + 32) % 2 ^ 32)
  match s.mmWrite ((base + t % 2 ^ s.rf Reg.DC_LOG_CFG_LOG_LOG2) % 2 ^ 52) ws (s.rf Reg.DC_LOG_CFG_LOG_PART) 1 8 .dcLog with
  | (s, true) => s
  | (s, false) => s.logFailed

/-- The GAP record of the records lost since the last one written (R385). -/
def State.gapRec (s : State) : List Word := [9#32] ++ words64 s.epoch ++ [BitVec.ofNat 32 s.dc.lost] ++ zeros 4

/-- If records have been lost, the next record written is a GAP record (R386). -/
def State.logGap (s : State) : State :=
  if s.dc.lost = 0 ∨ s.dc.logQ ≠ [] ∨ !s.logRoom then s
  else ({ s with dc := { s.dc with lost := 0 } }).logPut s.gapRec

/-- The records that wait are written while the ring has room; with LOG_STALL = 0 the rest is dropped. -/
def State.logFlush (s : State) : State :=
  let q := s.dc.logQ
  q.foldl (fun s ws =>
    let s := s.logGap
    if s.dc.logQ = [] ∧ s.dc.lost = 0 ∧ s.logRoom then s.logPut ws
    else if s.rb Reg.DC_CTRL_LOG_STALL then { s with dc := { s.dc with logQ := s.dc.logQ ++ [ws] } }
    else s.logDrop) { s with dc := { s.dc with logQ := [] } }

/-- Write a record, behind those that wait (R386). -/
def State.logEmit (s : State) (ws : List Word) : State := { s with dc := { s.dc with logQ := s.dc.logQ ++ [ws] } }.logFlush

/-- Word 0 of a record (R385): its kind and its partition, or 0. -/
def recHead (kind : Nat) (part : Option Nat) : Word := packW [(0, kind), (8, part.getD 0)]

/-- Whether the log hides what belongs to a partition: it is locked and the log lies in another one (R385). -/
def State.logHides (s : State) (p : Nat) : Bool := s.locked p && p != s.rf Reg.DC_LOG_CFG_LOG_PART

/-- Words 3 to 7 of a record: the payload, of which a hidden partition keeps only a CRC-32C (R385). -/
def State.recBody (s : State) (part : Option Nat) (payload : List Word) : List Word :=
  let pay := (payload ++ zeros 5).take 5
  match part with
  | some p => if s.logHides p then BitVec.ofNat 32 (crc32c pay) :: zeros 4 else pay
  | none => pay

/-- A record of the log (R385): its kind, its partition if it has one, and the payload of words 3 to 7. -/
def State.logRec (s : State) (kind : Nat) (part : Option Nat) (payload : List Word) : State :=
  if !s.logging then s else s.logEmit ([recHead kind part] ++ words64 s.epoch ++ s.recBody part payload)

/-! ### Replay (R390) -/

/-- Replay diverges: it ends at the next boundary (R390). -/
def State.diverge (s : State) : State :=
  if !s.rb Reg.DC_STATUS_REPLAYING ∨ s.rb Reg.DC_STATUS_DIVERGED then s
  else
    let s := (s.reportPlain E.REPLAY_DIVERGE none).setRf Reg.DC_STATUS_DIVERGED 1
    let s := s.setReg64 Reg.DC_DIVERGE_LO_A Reg.DC_DIVERGE_HI_A s.epoch
    { s with dc := { s.dc with stop := true } }

/-- The 64-bit epoch of a replay record. -/
def recEpoch (r : List Word) : Nat := wide r 1

/-- Whether a replay record names an input or a digest that can be used: no GAP, no reserved KIND, and none of a hidden partition's, which
cannot be replayed (R385). -/
def State.usableRec (s : State) (r : List Word) : Bool :=
  let k := pf r 0 7 0
  decide (k ≤ 8) && !([1, 2, 4, 5, 6].contains k && s.logHides (pf r 0 11 8))

/-- The replay records have been read (R389); a failure ends replay (R390). -/
def State.replayData (s : State) (ok : Bool) (ws : List Word) : State :=
  let n := s.rf Reg.DC_REPLAY_RECORDS
  if ok then { s with dc := { s.dc with replay := (groups 8 n ws).filter s.usableRec, loaded := true } }
  else { s.reportPlain E.REPLAY_READ none with dc := { s.dc with stop := true } }

/-- Use up the first pending replay record that satisfies `f`. -/
def State.takeReplay (s : State) (f : List Word → Bool) : State × Option (List Word) :=
  match s.dc.replay.find? f with
  | none => (s, none)
  | some r => ({ s with dc := { s.dc with replay := s.dc.replay.erase r } }, some r)

/-! ### Digests (R387, R388) -/

/-- The composition digest of a step: its header's words 0 to 5, then words 0 to 3 of each row (R387). -/
def compDigest (header : List Word) (rows : List (List Word)) : Nat :=
  crc32c (header.take 6 ++ rows.flatMap fun r => r.take 4)

/-- The digests of a step are latched and its STEP record is written (R388); in replay mode they are compared with the recorded ones
(R390). -/
def State.latchDigests (s : State) (x : Step) : State :=
  let p := x.part
  let issue := Nat.xor (lookupD s.dc.digests x.tag 0xFFFFFFFF) 0xFFFFFFFF
  let s := { s with dc := { s.dc with digests := assocDel s.dc.digests x.tag } }
  if !s.unitEn U.DC then s
  else
    let s := s.setRf (Reg.DC_LAST_COMP p) x.comp
    let s := s.setRf (Reg.DC_LAST_ISSUE p) issue
    let s := s.setRf (Reg.DC_LAST_STEP p) (lo32 x.n)
    let tokens := (x.rows.map (·.ntok)).foldl (· + ·) 0
    let pay := [BitVec.ofNat 32 x.n, BitVec.ofNat 32 x.tag, BitVec.ofNat 32 tokens, BitVec.ofNat 32 x.comp, BitVec.ofNat 32 issue]
    let s := s.logRec 8 (some p) pay
    if !s.rb Reg.DC_STATUS_REPLAYING then s
    else match s.takeReplay fun r => pf r 0 7 0 == 8 && pf r 0 11 8 == p with
      | (s, none) => s.diverge
      | (s, some r) => if r.drop 3 = pay then s else s.diverge

/-! ### Checkpoints (R391) -/

/-- The image of a checkpoint of a partition at step `n`. -/
def State.ckptImage (s : State) (p n : Nat) : List Word :=
  let qs := (List.range s.build.seqs).filter fun i => s.rm (seqRow i) Sq.STATE != 0 && s.rm (seqRow i) Sq.PART == p
  let bb := s.rf (Reg.ERA_BIAS_BIAS_BASE p)
  let bn := s.rf (Reg.ERA_BIAS_BIAS_SIZE p)
  let sb := s.rf (Reg.ERA_SEED_SEED_BASE p)
  let sn := s.rf (Reg.ERA_SEED_SEED_SIZE p)
  let body := (qs.flatMap fun i => [BitVec.ofNat 32 i, 0#32] ++ s.row (seqRow i) 16) ++
    ((List.range 16).map fun k => s.reg (Reg.ST_DEC_ROWS_A p + 4 * k)) ++
    ((List.range bn).map fun i => s.ram (biasKey (s.rf (Reg.ERA_BANK_BIAS_ACTIVE p)) (bb + i))) ++
    ((List.range bn).map fun i => s.ram (loadKey (bb + i))) ++
    ((List.range (2 * sn)).map fun i => s.ram (seedKey (s.rf (Reg.ERA_BANK_SEED_ACTIVE p)) sb + i)) ++
    [BitVec.ofNat 32 (s.rf (Reg.DR_ROUND_NEXT p)), BitVec.ofNat 32 (s.rf (Reg.GS_LAUNCH_ID_NEXT p)),
     BitVec.ofNat 32 (lookupD s.st.admitNo p 1), BitVec.ofNat 32 (s.rf (Reg.ST_KV_FREE p)), BitVec.ofNat 32 (s.rf (Reg.ST_DEC_NEXT p))]
  [1#32, BitVec.ofNat 32 p] ++ words64 n ++ words64 (if s.rb Reg.DC_STATUS_RUNNING then s.epoch else 0) ++
    [BitVec.ofNat 32 qs.length, BitVec.ofNat 32 (64 + 4 * body.length)] ++ zeros 8 ++ body

/-- A checkpoint has been written, or has failed (R391). -/
def State.ckptEnd (s : State) (p : Nat) (ok : Bool) : State :=
  let s := { s with dc := { s.dc with ckpts := assocSet s.dc.ckpts p 0 } }
  if ok then s.setReg (Reg.DC_CKPT_STATUS_A p) 2#32
  else (s.reportPlain E.CKPT_WRITE (some p)).setReg (Reg.DC_CKPT_STATUS_A p) (packW [(2, 1), (16, E.CKPT_WRITE.code)])

/-- Write the checkpoint of a partition whose boundary pass has reached step 6. -/
def State.ckptStart (s : State) (p n : Nat) : State :=
  let s := { s with dc := { s.dc with ckpts := assocSet s.dc.ckpts p 1 } }
  match s.mmWrite (2 ^ 6 * s.rf (Reg.DC_CKPT_LO p) + 2 ^ 32 * s.rf (Reg.DC_CKPT_HI p)) (s.ckptImage p n) p 1 6 (.ckpt p) with
  | (s, true) => s
  | (s, false) => s.ckptEnd p false

end Sys2Proof.Machine
end

