-- ==== Sys2Proof/Machine/SeqOps.lean ====
section
/-! DEFINITION. Sequences as their commands and the step stream share them: handles (R188), dead rows (R208, R210), finish records
(R209), damaged entries (R186, R422), the moments of a synthesis (R197), and the SH values (R459). -/

namespace Sys2Proof.Machine

/-! ### The stream -/

/-- The state with the stream of a partition due for a synthesis, when it holds no step in flight (R197). -/
def State.nudge (s : State) (p : Nat) : State :=
  if (s.stepsOf p).all fun x => x.phase == .dead then s.updStream p fun x => { x with due := true } else s

/-- Whether a synthesis of a partition is running (R192). -/
def State.synthBusy (s : State) (p : Nat) : Bool := (s.stepsOf p).any fun x => x.phase == .writing

/-- The registers with SH fields of a partition (R214, R241). -/
def shRegs (p : Nat) : List Nat :=
  [Reg.ST_DEC_ROWS_A p, Reg.ST_TOKENS_MAX_A p, Reg.ST_CHUNK_A p, Reg.ST_PLAN_A p, (Reg.ERA_LOOP_BIAS_AUTO p).addr,
   (Reg.ERA_GAMMA p).addr, (Reg.ERA_CLAMP p).addr] ++ (List.range 4).map fun j => (Reg.ERA_LAYER_SKIP p j).addr

/-- The values last written to a partition's SH fields are put in force (R459). -/
def State.applySh (s : State) (p : Nat) : State :=
  { s with shf := (shRegs p).foldl (fun t a => Tab.set (regReset s.build) t a (s.reg a)) s.shf }

/-- Whether SH values change in the cc after the write (R459): the stream holds no step that is launched and not yet applied. -/
def State.shFree (s : State) (p : Nat) : Bool :=
  (s.stepsOf p).all fun x => x.phase != .launched && x.phase != .reading

/-- A write has reached an SH field of a partition (R459, R197). -/
def State.shWritten (s : State) (p : Nat) : State := if s.shFree p then (s.applySh p).nudge p else s

/-- The argument base of step `n` (R203). -/
def bufOf (d : List Word) (n : Nat) : Nat := addr52 d (if n % 2 = 0 then 6 else 8)

/-- The address of row `r` of step `n` (R203). -/
def rowAddr (d : List Word) (n r : Nat) : Nat := bufOf d n + 64 * (fld d Str.WL_OFFSET + 1 + r)

/-! ### Rows -/

/-- Word 2 of a row (R203). -/
def rowWord2 (r : StepRow) (dead : Bool) : Word := packW [(0, r.ntok), (24, b2n r.prefill), (25, b2n r.last), (26, b2n dead)]

/-- Make one live row of a step dead (R208, R210): its live bit is cleared, its tokens and the row are subtracted, and DEAD is written. -/
def State.deadRow (s : State) (x : Step) (i : Nat) (r : StepRow) (u : MmUse) : State :=
  let s := s.updStep x.tag fun y => { y with rows := y.rows.set i { r with live := false } }
  let s := (s.dropRow r).incRf (Reg.ST_DEAD_ROWS x.part)
  match s.stream? x.part with
  | none => s
  | some t => (s.mmWrite (rowAddr t.desc x.n i + 8) [rowWord2 r true] x.part 1 3 u).1

/-- Make every live row of some sequences dead in the steps that satisfy `f`.  Answers how many rows. -/
def State.makeDead (s : State) (p : Nat) (seqs : List Nat) (f : Step → Bool) (u : MmUse) : State × Nat :=
  ((s.stepsOf p).filter fun x => x.phase != .dead && f x).foldl (fun (s, n) x =>
    (x.rows.zip (List.range x.rows.length)).foldl (fun (s, n) (r, i) =>
      if r.live && seqs.contains r.seq then (s.deadRow x i r u, n + 1) else (s, n)) (s, n)) (s, 0)

/-! ### Sequences -/

/-- The POS of a sequence with its complement, written in one write (R186). -/
def State.setPos (s : State) (i v : Nat) : State := (s.setSq i Sq.POS v).setSq i Sq.POS_N (2 ^ 24 - 1 - v % 2 ^ 24)

/-- A sequence becomes ENDING (R187). -/
def State.endSeq (s : State) (i reason : Nat) : State :=
  if s.sq i Sq.STATE = 3 then s else (s.setSq i Sq.STATE 3).setSq i Sq.REASON reason

/-- What a read of a sequence by the Sower finds (R186, R421). -/
def State.seqBad (s : State) (i : Nat) : Option Err :=
  if s.eccBad (seqRow i) 16 then some E.ECC_UNCORRECTED
  else if s.sq i Sq.POS + s.sq i Sq.POS_N = 2 ^ 24 - 1 then none else some E.HUSK

/-- A damaged entry (R422): it is ENDING with REASON 5 and POS 0xFF_FFFF, and its rows are made dead. -/
def State.damageSeq (s : State) (i : Nat) (e : Err) : State :=
  let p := s.sq i Sq.PART
  let s := s.reportRow e 2 (some p) 4 i (if s.eccBad (seqRow i) 16 then s.eccWord (seqRow i) 16 else 4)
  let s := s.setRow (seqRow i) (s.row (seqRow i) 16)
  let s := ((s.setSq i Sq.STATE 3).setSq i Sq.REASON 5).setPos i (2 ^ 24 - 1)
  (s.makeDead p [i] (fun _ => true) (.st p 6 0)).1

/-- The Sower reads a sequence (R186, R426): a single-bit error is corrected, and a damaged entry is dealt with. -/
def State.checkSeq (s : State) (i : Nat) : State :=
  let s := s.corrected (seqRow i) 16 (some (s.sq i Sq.PART)) 4 i
  match s.seqBad i with
  | some e => s.damageSeq i e
  | none => s

/-- An entry becomes FREE: it keeps its GEN. -/
def State.freeSeq (s : State) (i : Nat) : State :=
  let p := s.sq i Sq.PART
  let s := s.setRow (seqRow i) (mkRec 16 [(Sq.GEN, s.sq i Sq.GEN), (Sq.POS_N, 2 ^ 24 - 1)])
  s.setRf (Reg.ST_SEQ_USE p) (s.rf (Reg.ST_SEQ_USE p) - 1)

/-- The finish record of a sequence (R209). -/
def State.finishWords (s : State) (i : Nat) : List Word :=
  let p := s.sq i Sq.PART
  [BitVec.ofNat 32 (mkHandle (s.sq i Sq.GEN) i), BitVec.ofNat 32 (s.sq i Sq.REASON), BitVec.ofNat 32 (s.sq i Sq.POS),
   BitVec.ofNat 32 (s.sq i Sq.KV_BLOCKS), BitVec.ofNat 32 (s.sq i Sq.USER)] ++
    words64 (s.reg64 (Reg.ST_STEP_LO_A p) (Reg.ST_STEP_HI_A p)) ++ [0#32]

/-- An ENDING sequence without rows is read once more (R186), gets its finish record and becomes FREE (R208, R209).  Answers how many writes were
issued: none when no stream of the partition has ever had a finish ring. -/
def State.finishSeq (s : State) (i : Nat) (u : MmUse) : State × Nat :=
  let s := s.checkSeq i
  let p := s.sq i Sq.PART
  match s.stream? p with
  | none => (s.freeSeq i, 0)
  | some x =>
    let k := s.rf (Reg.ST_FIN_COUNT p)
    let w := s.finishWords i
    let s := (s.setRf (Reg.ST_FIN_COUNT p) ((k + 1) % 2 ^ 32)).freeSeq i
    ((s.mmWrite (addr52 x.desc 15 + 32 * (k % 2 ^ fld x.desc Str.FINISH_LOG2)) w p 1 3 u).1, 1)

/-- The entries of a partition in the states that satisfy `f`, rising. -/
def State.seqsOf (s : State) (p : Nat) (f : Nat → Bool) : List Nat :=
  (List.range s.build.seqs).filter fun i => f (s.sq i Sq.STATE) && s.sq i Sq.PART == p

/-- The sequence that a handle names for a partition (R188). -/
def State.seqOf (s : State) (h p : Nat) : Option Nat :=
  let i := hIdx h
  if i < s.build.seqs ∧ s.sq i Sq.STATE ≠ 0 ∧ s.sq i Sq.GEN = hGen h ∧ s.sq i Sq.PART = p then some i else none

end Sys2Proof.Machine
end

