-- ==== Sys2Proof/Machine/Pau.lean ====
section
/-! DEFINITION. The Partition and Attestation Unit (R400 to R412): the enclave lock, the measurements, the quote, and the teardown. -/

namespace Sys2Proof.Machine

/-! ### Measurements (R404, R409) -/

/-- The number of extends of a measurement. -/
def State.measCount (s : State) (i : Nat) : Nat := (s.ram (measRow i + 12)).toNat

/-- The 48 bytes of a measurement. -/
def State.measBytes (s : State) (i : Nat) : List Nat := bytesOf (s.row (measRow i) 12)

/-- Extend a measurement with a digest (R404). -/
def State.extend (s : State) (i : Nat) (d : List Nat) : State :=
  let m := wordsOf (sha384 (s.measBytes i ++ d))
  s.setRow (measRow i) (m ++ [BitVec.ofNat 32 (s.measCount i + 1), s.ram (measRow i + 13), 0#32, 0#32])

/-- FINAL of a measurement. -/
def State.setFinal (s : State) (i : Nat) (b : Bool) : State := s.setRam (measRow i + 13) (BitVec.ofNat 32 (b2n b))

/-- The status of a quote (R409). -/
def State.quoteStatus (s : State) (sel : Nat) : Nat :=
  if sel = 0 then (if s.ram (measRow 0 + 13) = 1#32 then 0 else 2)
  else if (16 ≤ sel ∧ sel < 48) then
    let p := sel % 16
    if !s.partOk p then 1 else if s.locked p then 0 else 2
  else 1

/-- AT_REQUEST (R73, R409): the quote of the measurement that at_sel names. -/
def execAtRequest (sel : Nat) (nonce : List (BitVec 32)) (s : State) : Host.Outcome State Fault Refusal :=
  if !s.portOn .reg then .next s
  else
    let sel := sel % 64
    let st := s.quoteStatus sel
    let n := s.measCount sel
    let str := [sel, 0, 0, 0] ++ wordBytes (BitVec.ofNat 32 n) ++ s.measBytes sel ++ bytesOf ((nonce ++ zeros 8).take 8)
    let d := if st = 0 then wordsOf (sha384 str) else zeros 12
    .next (s.emit (.atAnswer st d n))

/-- TMPL_EXTEND_DONE (R408): the template extend at the front of the queue is applied. -/
def execTmplExtendDone (s : State) : Host.Outcome State Fault Refusal :=
  match s.pau.tmplQ with
  | [] => .next s
  | x :: rest =>
    if !s.unitEn U.PAU then .next s
    else
      let s := { s with pau := { s.pau with tmplQ := rest } }
      let head := [BitVec.ofNat 32 x.handle, BitVec.ofNat 32 (b2n x.patch), BitVec.ofNat 32 x.nodeCount, BitVec.ofNat 32 x.edgeCount]
      .next (s.extend (32 + x.part) (sha384 (bytesOf (head ++ x.words))))

/-! ### The configuration image (R407) -/

/-- The six words of the identity record (R405). -/
def State.identity (s : State) : List Word :=
  [s.reg Reg.GLB_BLOCK_VERSION_A, s.reg Reg.GLB_FW_VERSION_A, s.build.capGraph, s.build.capDispatch, s.build.capCtrl, s.reg Reg.GLB_CAP_EXT_A]

/-- A register word with its RO and WO fields as 0. -/
def State.cfgWord (s : State) (a : Nat) : Word :=
  (regFields s.build a).foldl (fun acc f =>
    if f.acc = .ro ∨ f.acc = .wo then acc else wput acc f.hi f.lo (wget (s.reg a) f.hi f.lo)) 0#32

/-- The partition register blocks of `p` in pages 0x1 to 0xC. -/
def State.partWords (s : State) (p : Nat) : List Word :=
  ((List.range 12).flatMap fun u => (List.range 1024).filterMap fun i =>
    let a := (u + 1) * 0x10000 + 4 * i
    if partReg p a then some a else none).map fun a =>
      if a = (Reg.PAU_ACCT_HEAD p).addr then 0#32 else s.cfgWord a

/-- Table items, each preceded by its index (R407, notes/assumptions/19.md). -/
def indexed (is : List Nat) (f : Nat → List Word) : List Word := is.flatMap fun i => BitVec.ofNat 32 i :: f i

/-- The configuration image of `p`. -/
def State.cfgImage (s : State) (p : Nat) : List Word :=
  let words := fun (k : Nat) (ws : List Nat) => ws.map fun w => s.shown (k + w)
  let bias := (List.range (s.rf (Reg.ERA_BIAS_BIAS_SIZE p))).map (· + s.rf (Reg.ERA_BIAS_BIAS_BASE p))
  let seed := (List.range (s.rf (Reg.ERA_SEED_SEED_SIZE p))).map (· + s.rf (Reg.ERA_SEED_SEED_BASE p))
  [1#32, BitVec.ofNat 32 p] ++ s.identity ++ zeros 8 ++ s.partWords p ++
    ((List.range s.build.ccores).filter fun c => s.rf (Reg.MH_CORE_CFG_PART c) == p).map (fun c => s.reg (Reg.MH_CORE_CFG_A c)) ++
    indexed (List.range 256) (fun i => words (saveRow p i) [0, 1]) ++
    indexed (List.range 128) (fun l => words (layerRow p l) (List.range 16)) ++
    indexed bias (fun i => [s.ram (biasKey (s.rf (Reg.ERA_BANK_BIAS_ACTIVE p)) i)]) ++
    indexed seed (fun i => words (seedKey (s.rf (Reg.ERA_BANK_SEED_ACTIVE p)) i) [0, 1]) ++
    indexed ((List.range s.build.rxqs).filter fun q => s.rq q Rq.VALID == 1 && s.rq q Rq.PART == p) (fun q => words (rxqRow q) [0, 1, 2]) ++
    indexed ((List.range 4096).filter fun r => s.rm (routeRow r) Rt.VALID == 1 && s.rm (routeRow r) Rt.PART == p)
      (fun r => words (routeRow r) [0, 2]) ++
    indexed ((List.range s.build.stooks).filter fun k => s.sk k Sk.PART == p) (fun k => words (stookRow k) [0, 1]) ++
    indexed ((List.range 256).filter fun k => s.shv k Sh.PART == p) (fun k => words (sheafRow k) (List.range 5)) ++
    indexed (List.range 24) (fun i => words (regulatorRow p i) [0, 1])

/-! ### The lock (R400, R401) -/

/-- Granary region of a partition: base and end. -/
def State.granary (s : State) (p : Nat) : Nat × Nat :=
  let b := 2 ^ 16 * s.rf (Reg.PAU_GR_BASE_LO p) + 2 ^ 32 * s.rf (Reg.PAU_GR_BASE_HI p)
  (b, b + 2 ^ 16 * s.rf (Reg.PAU_GR_GR_UNITS p))

/-- Whether two partitions' Granary regions overlap; an empty region overlaps none (R400). -/
def State.granaryClash (s : State) (p q : Nat) : Bool :=
  s.rf (Reg.PAU_GR_GR_UNITS p) != 0 && s.rf (Reg.PAU_GR_GR_UNITS q) != 0 &&
    decide ((s.granary p).1 < (s.granary q).2) && decide ((s.granary q).1 < (s.granary p).2)

/-- Whether a lock of `p` is refused (R400). -/
def State.lockBad (s : State) (p : Nat) : Bool :=
  let others := (List.range s.build.partitions).filter (· != p)
  !s.partOk p || s.locked p || s.rb (Reg.PAU_PSTATUS_TEARING p) ||
    s.fe.ctxs.any (fun c => c.cstate != 0 && c.part == p) || s.gs.launches.any (fun l => s.sl l.slot Sl.PART == p) ||
    s.rf (Reg.PAU_GR_GR_UNITS p) == 0 || others.any (fun q => s.granaryClash p q) ||
    s.rf (Reg.PAU_PCFG_CLUSTERS p) == 0 ||
    others.any fun q => (List.range s.build.clusters).any fun c => bit (s.rf (Reg.PAU_PCFG_CLUSTERS p)) c && bit (s.rf (Reg.PAU_PCFG_CLUSTERS q)) c

/-- PAU_ENCL_STATUS when a command has ended: SCRUB_FAIL, and the error when it is REFUSED. -/
def State.enclEnd (s : State) (fail : Bool) (e : Option Err) : State :=
  s.setReg Reg.PAU_ENCL_STATUS_A (packW [(1, 1), (2, b2n e.isSome), (3, b2n fail), (16, (e.map (·.code)).getD 0)])

/-- PAU_ENCL_CMD LOCK. -/
def State.enclLock (s : State) (p : Nat) : State :=
  if s.rb Reg.PAU_ENCL_STATUS_BUSY then s
  else if s.lockBad p then
    (s.reportPlain E.ENCLAVE_LOCK (if s.partOk p then some p else none)).enclEnd false (some E.ENCLAVE_LOCK)
  else { s.setReg Reg.PAU_ENCL_STATUS_A 1#32 with pau := { s.pau with locking := some p } }

/-- ENCLAVE_LOCK (R400, R401). -/
def execEnclaveLock (part : Nat) (s : State) : Host.Outcome State Fault Refusal :=
  .next (s.regInput (.enclaveLock part) fun s => s.enclLock part)

/-- Set or clear LOCKED of a partition, in both places that show it. -/
def State.setLocked (s : State) (p : Nat) (b : Bool) : State :=
  (s.setRf Reg.PAU_LOCKED (setBit (s.rf Reg.PAU_LOCKED) p b)).setRf (Reg.PAU_PSTATUS_LOCKED p) (b2n b)

/-- ENCLAVE_LOCK_DONE (R401, R406): the configuration measurement is extended, and the partition is locked. -/
def execEnclaveLockDone (s : State) : Host.Outcome State Fault Refusal :=
  match s.pau.locking with
  | none => .next s
  | some p =>
    if !s.unitEn U.PAU then .next s
    else
      let s := (s.extend (16 + p) (sha384 (bytesOf (s.cfgImage p)))).setFinal (16 + p) true
      let s := ((s.setFinal (32 + p) true).setLocked p true).enclEnd false none
      .next { s with pau := { s.pau with locking := none } }

/-! ### Teardown (R410 to R412) -/

/-- PAU_ENCL_CMD TEARDOWN: steps 1 and 2.  A context that is being drained is destroyed too. -/
def State.enclTeardown (s : State) (p : Nat) : State :=
  if s.rb Reg.PAU_ENCL_STATUS_BUSY then s
  else if !s.partOk p ∨ s.rb (Reg.PAU_PSTATUS_TEARING p) ∨ s.pau.locking = some p then
    (s.reportPlain E.TEARDOWN (if s.partOk p then some p else none)).enclEnd false (some E.TEARDOWN)
  else
    let s := s.setReg Reg.PAU_ENCL_STATUS_A 1#32
    let s := (s.setRf (Reg.PAU_PSTATUS_TEARING p) 1).setRf (Reg.PAU_PSTATUS_SCRUB_FAIL p) 0
    let s := { s with pau := { s.pau with tear := some ⟨p, .emptying, 0, 0, false⟩ } }
    (s.fe.ctxs.filter fun c => c.cstate != 0 && c.part == p).foldl (fun s c => s.destroyCtx c.idx true) s

/-- TEARDOWN (R410). -/
def execTeardown (part : Nat) (s : State) : Host.Outcome State Fault Refusal :=
  .next (s.regInput (.teardown part) fun s => s.enclTeardown part)

/-- Whether nothing of a partition is outstanding any more (R410 step 3). -/
def State.emptied (s : State) (p : Nat) : Bool :=
  !s.fe.ctxs.any (fun c => c.cstate != 0 && c.part == p) && !s.gs.launches.any (fun l => s.sl l.slot Sl.PART == p) &&
    !s.ds.links.any (fun l => l.tasks.any fun t => t.part == p) && !s.psc.jobs.any (fun j => j.part == p) &&
    !(s.mm.busy ++ s.mm.waiting).any (fun x => x.part == p) && !s.fe.signals.any (fun g => g.part == p) &&
    !s.dr.sendQ.any (fun e => e.part == p) && !s.mh.sends.any (fun x => x.part == p) &&
    !s.sm.msgs.any fun m => s.shv m.sheaf Sh.PART == p

/-- Scrub the templates of a partition, with their extents. -/
def State.scrubTmpls (s : State) (p : Nat) : State :=
  let gs := s.gs.gens.filter fun g => g.part == p
  let s := gs.foldl (fun s g =>
    let s := (List.range g.edgeCount).foldl (fun s j => s.setRow (edgeRow (g.edgeBase + j)) (zeros 2)) s
    s.releaseTmpl p g.nodeBase g.nodeCount g.edgeBase g.edgeCount) s
  let s := { s with gs := { s.gs with gens := s.gs.gens.filter fun g => g.part != p } }
  ((List.range s.build.tmpls).filter fun i => s.dir i Dir.STATE != 0 && s.dir i Dir.PART == p).foldl (fun s i =>
    s.setRow (dirRow i) (mkRec 8 [(Dir.GEN, s.dir i Dir.GEN)])) s

/-- Scrub the semaphores of a partition's range, its watches, wake bindings and sheaves. -/
def State.scrubSems (s : State) (p : Nat) : State :=
  let s := ((s.sm.binds.filter fun b => b.part == p).map (·.idx)).foldl (fun s i => s.freeBind i) s
  let s := (s.sm.watches.filter fun w => s.semPart w.sem == some p).foldl (fun s w => s.dropWait (.watch w.idx)) s
  let gone := fun (w : Watch) => s.semPart w.sem == some p
  let s := { s with sm := { s.sm with watches := s.sm.watches.filter fun w => !gone w } }
  let s := ((List.range 256).filter fun k => s.shv k Sh.PART == p).foldl (fun s k => 
    let s := s.idleSheaf k
    s.setRow (sheafRow k) (mkRec 16 [(Sh.GEN, s.shv k Sh.GEN)])) s
  let base := s.rf (Reg.SM_SEM_BASE p)
  (List.range (s.rf (Reg.SM_SEM_COUNT p))).foldl (fun s i => s.setRow (semRow (base + i)) [0#32, 0xFFFFFFFF#32, 0#32, 0#32]) s

/-- Scrub the receive queues, routes and Stooks of a partition. -/
def State.scrubHub (s : State) (p : Nat) : State :=
  let s := ((List.range s.build.rxqs).filter fun q => s.rq q Rq.PART == p).foldl (fun s q => (s.closeRxq q).setRow (rxqRow q) (zeros 8)) s
  let s := ((List.range 4096).filter fun r => s.rm (routeRow r) Rt.PART == p).foldl (fun s r =>
    s.setRow (routeRow r) (mkRec 8 [(Rt.GEN, s.rm (routeRow r) Rt.GEN)])) s
  ((List.range s.build.stooks).filter fun k => s.sk k Sk.PART == p).foldl (fun s k =>
    { s.setRow (stookRow k) (zeros 16) with mh := { s.mh with stooks := s.mh.stooks.filter fun x => x.idx != k } }) s

/-- Scrub a partition's ERA areas, save sets, early-store entries, telemetry, credit and accounts. -/
def State.scrubRest (s : State) (p : Nat) : State :=
  let bb := s.rf (Reg.ERA_BIAS_BIAS_BASE p)
  let sb := s.rf (Reg.ERA_SEED_SEED_BASE p)
  let s := (List.range (s.rf (Reg.ERA_BIAS_BIAS_SIZE p))).foldl (fun s i =>
    ((s.setRow (biasKey 0 (bb + i)) [0#32]).setRow (biasKey 1 (bb + i)) [0#32]).setRow (loadKey (bb + i)) [0#32]) s
  let s := (List.range (s.rf (Reg.ERA_SEED_SEED_SIZE p))).foldl (fun s i =>
    (s.setRow (seedKey 0 (sb + i)) (zeros 2)).setRow (seedKey 1 (sb + i)) (zeros 2)) s
  let s := (List.range 128).foldl (fun s l => s.setRow (layerRow p l) (zeros 16)) s
  let s := (List.range 256).foldl (fun s i => s.setRow (saveRow p i) (zeros 2)) s
  let s := { s with dr := { s.dr with early := s.dr.early.filter fun e => e.part != p },
                    mh := { s.mh with telem := s.mh.telem.filter fun t => t.part != p },
                    st := { s.st with streams := s.st.streams.filter fun x => x.part != p } }
  let s := s.updBg p fun x => { x with credit := 0, creditN := ~~~0, lent := 0, lentN := ~~~0 }
  (List.range s.build.memStacks).foldl (fun s i => s.setLevel p i (s.rm (regulatorRow p i) Ra.BURST)) s

/-- Scrub every on-chip row of a partition (R411). -/
def State.scrubRows (s : State) (p : Nat) : State :=
  let s := s.scrubTmpls p
  let s := ((List.range s.build.seqs).filter fun i => s.sq i Sq.STATE != 0 && s.sq i Sq.PART == p).foldl (fun s i => s.freeSeq i) s
  let clear := fun (e : Event) => if e.part = p ∧ e.live then { e with live := false, part := 0, remoteOk := false, val := 0, valN := ~~~0 } else e
  let s := { s with fe := { s.fe with events := s.fe.events.map clear } }
  ((s.scrubSems p).scrubHub p).scrubRest p

/-- The state with the running teardown changed. -/
def State.updTear (s : State) (f : Tear → Tear) : State := { s with pau := { s.pau with tear := s.pau.tear.map f } }

/-- A scrub write has failed (R412): the scrub goes on. -/
def State.scrubBad (s : State) (p : Nat) : State :=
  (s.reportPlain E.SCRUB_WRITE (some p)).setRf (Reg.PAU_PSTATUS_SCRUB_FAIL p) 1

/-- Scrub the next beats of the Granary region, if any are left (R410 step 6).  A write that R398 does not let out is one that has failed, and the
next follows it; the count is the fuel. -/
def State.scrubGo : Nat → State → State
  | 0, s => s
  | fuel + 1, s =>
    match s.pau.tear with
    | none => s
    | some t =>
      if t.left = 0 then s.updTear fun t => { t with out := false }
      else
        let n := min 4 t.left
        let s := s.updTear fun t => { t with addr := t.addr + 64 * n, left := t.left - n, out := true }
        match s.mmStart true t.addr n t.part 1 5 (.scrub t.part) (List.replicate n (zeros 16, 2 ^ 64 - 1)) with
        | (s, true) => s
        | (s, false) => State.scrubGo fuel (s.scrubBad t.part)

/-- The scrub goes on with its next write, or has none left. -/
def State.scrubNext (s : State) : State :=
  match s.pau.tear with
  | none => s
  | some t => State.scrubGo (t.left + 1) s

/-- A scrub write has been answered (R412). -/
def State.scrubbed (s : State) (p : Nat) (ok : Bool) : State := (if ok then s else s.scrubBad p).scrubNext

/-- TEARDOWN_SCRUB (R410 steps 3 to 6): the partition is empty, so its final accounting record is written; and, that answered, its rows are
scrubbed and the scrub of its Granary region begins. -/
def execTeardownScrub (s : State) : Host.Outcome State Fault Refusal :=
  match s.pau.tear with
  | none => .next s
  | some t =>
    let p := t.part
    let out := s.pau.acctOut.any fun x => x.1 == p
    if !s.unitEn U.PAU ∨ out then .next s
    else match t.phase with
      | .emptying => if s.emptied p then .next ((s.updTear fun t => { t with phase := .record }).acctWrite p true) else .next s
      | .record =>
        let s := s.scrubRows p
        let n := if s.locked p ∨ s.rb (Reg.PAU_GR_SCRUB_GR p) then 1024 * s.rf (Reg.PAU_GR_GR_UNITS p) else 0
        .next ((s.updTear fun t => { t with phase := .scrub, addr := (s.granary p).1, left := n }).scrubNext)
      | .scrub => .next s

/-- Begin the scrub of the next partition that a block restart has left (R435), if no other runs. -/
def State.nextTear (s : State) : State :=
  match s.pau.tear, s.pau.tearQ with
  | none, p :: rest =>
    let t : Tear := ⟨p, .scrub, (s.granary p).1, 1024 * s.rf (Reg.PAU_GR_GR_UNITS p), false⟩
    let s := s.setReg Reg.PAU_ENCL_STATUS_A 1#32
    { s with pau := { s.pau with tear := some t, tearQ := rest } }.scrubNext
  | _, _ => s

/-- TEARDOWN_DONE (R410 step 7, R412). -/
def execTeardownDone (s : State) : Host.Outcome State Fault Refusal :=
  match s.pau.tear with
  | none => .next s
  | some t =>
    if t.phase ≠ .scrub ∨ t.out then .next s
    else
      let p := t.part
      let s := (s.setRow (measRow (16 + p)) (zeros 16)).setRow (measRow (32 + p)) (zeros 16)
      let s := (s.setLocked p false).setRf (Reg.PAU_PSTATUS_TEARING p) 0
      let s := s.updBg p fun x => { x with estRem := 0 }
      let s := { s.acctClear p with pau := { s.pau with tear := none, late := s.pau.late.filter (· != p), tmplQ := s.pau.tmplQ.filter fun x => x.part != p } }
      let bad := s.rb (Reg.PAU_PSTATUS_SCRUB_FAIL p)
      .next (s.enclEnd bad (if bad then some E.SCRUB_WRITE else none)).nextTear

end Sys2Proof.Machine
end

