-- ==== Sys2Proof/Machine/Seq.lean ====
section
/-! DEFINITION. The sequence commands (R189 to R192) and the Winnow (R210 to R212). -/

namespace Sys2Proof.Machine

/-! ### SEQ_ADMIT (R189) -/

/-- Take an entry for the sequence that a packet describes (R189). -/
def State.admitSeq (s : State) (i p : Nat) (pkt : List Word) : State :=
  let g := (s.sq i Sq.GEN + 1) % 4096
  let no := lookupD s.st.admitNo p 1
  let pos := fld pkt Adm.POS
  let row := mkRec 16 [(Sq.STATE, 1), (Sq.PART, p), (Sq.CLASS, fld pkt Adm.CLASS), (Sq.HOLD, fld pkt Adm.HOLD), (Sq.GEN, g), (Sq.ADMIT_NO, no),
    (Sq.PROMPT_LEN, fld pkt Adm.PROMPT_LEN), (Sq.MAX_LEN, fld pkt Adm.MAX_LEN), (Sq.POS, pos), (Sq.POS_N, 2 ^ 24 - 1 - pos),
    (Sq.KV_BLOCKS, fld pkt Adm.KV_BLOCKS), (Sq.KV_CONF, fld pkt Adm.KV_BLOCKS), (Sq.USER, fld pkt Adm.USER)]
  let row := ((((((row.set 6 (wordAt pkt 5)).set 7 (wordAt pkt 6)).set 8 (wordAt pkt 7)).set 9 (wordAt pkt 8)).set 11 (wordAt pkt 10)).set 12
    (wordAt pkt 11))
  let s := s.setRow (seqRow i) row
  let s := { s with st := { s.st with admitNo := assocSet s.st.admitNo p ((no + 1) % 2 ^ 32) } }
  (s.setRf (Reg.ST_SEQ_USE p) (s.rf (Reg.ST_SEQ_USE p) + 1)).nudge p

/-- The greatest age of an ADMIT_NO of a partition (R393): the admission counter minus the ADMIT_NO of a sequence that is not FREE. -/
def State.admitAge (s : State) (p : Nat) : Nat :=
  (((List.range s.build.seqs).filter fun i => s.sq i Sq.STATE != 0 && s.sq i Sq.PART == p).map fun i =>
    (2 ^ 32 + lookupD s.st.admitNo p 1 - s.sq i Sq.ADMIT_NO) % 2 ^ 32).foldl max 0

/-- SEQ_ADMIT (R189): the field check, then capacity, then the lowest FREE entry. -/
def execSeqAdmit (c q : Nat) (s : State) : Host.Outcome State Fault Refusal :=
  match s.slowRun c q 0x30 with
  | none => .next s
  | some pkt =>
    let p := (s.ctx c).part
    if s.synthBusy p then .next s
    else if ¬ (fld pkt Adm.POS < fld pkt Adm.PROMPT_LEN ∧ fld pkt Adm.PROMPT_LEN < fld pkt Adm.MAX_LEN ∧
        ceilDiv (fld pkt Adm.POS) (2 ^ s.sh (Reg.ST_PLAN_BLOCK_LOG2 p)) ≤ fld pkt Adm.KV_BLOCKS) then .next (s.refuse c q pkt E.SEQ_DESC)
    else if s.inEpisode E.TAG_WINDOW.code (windowKey 2 p) ∧ tagWindow ≤ s.admitAge p then .next (s.refuse c q pkt E.TAG_WINDOW)
    else if s.rf (Reg.ST_SEQ_QUOTA p) ≤ s.rf (Reg.ST_SEQ_USE p) then .next (s.refuse c q pkt E.SEQ_QUOTA)
    else match (List.range s.build.seqs).find? fun i => s.sq i Sq.STATE == 0 with
      | none => .next (s.refuse c q pkt E.SEQ_FULL)
      | some i =>
        let s := s.admitSeq i p pkt
        .next (s.finishHead c q pkt 0 (mkHandle (s.sq i Sq.GEN) i))

/-! ### SEQ_UPDATE (R190) -/

/-- SEQ_UPDATE of an OP: the handle is checked, a damaged entry dealt with, and an ENDING one refused; `f` is the effect on a sequence. -/
def State.seqUpdate (s : State) (c q op : Nat) (f : State → Nat → Nat → State) : State :=
  match s.slowRun c q 0x31 with
  | none => s
  | some pkt =>
    let p := (s.ctx c).part
    if pf pkt 2 2 0 ≠ op ∨ s.synthBusy p then s
    else match s.seqOf (pf pkt 1 31 0) p with
      | none => s.refuse c q pkt E.SEQ_HANDLE
      | some i =>
        let s := s.checkSeq i
        if s.sq i Sq.STATE = 3 then s.refuse c q pkt E.SEQ_STATE
        else (f s i (pf pkt 3 31 0)).finishHead c q pkt 0 (pf pkt 1 31 0)

/-- SET_CLASS (R190). -/
def execSetClass (c q : Nat) (s : State) : Host.Outcome State Fault Refusal :=
  .next (s.seqUpdate c q 0 fun s i v => s.setSq i Sq.CLASS v)

/-- HOLD (R190). -/
def execHold (c q : Nat) (s : State) : Host.Outcome State Fault Refusal :=
  .next (s.seqUpdate c q 1 fun s i _ => s.setSq i Sq.HOLD 1)

/-- UNHOLD (R190, R197). -/
def execUnhold (c q : Nat) (s : State) : Host.Outcome State Fault Refusal :=
  .next (s.seqUpdate c q 2 fun s i _ => (s.setSq i Sq.HOLD 0).nudge (s.sq i Sq.PART))

/-- SET_MAX_LEN (R190): an operand at or below the projected position ends the sequence. -/
def execSetMaxLen (c q : Nat) (s : State) : Host.Outcome State Fault Refusal :=
  .next (s.seqUpdate c q 3 fun s i v =>
    let s := s.setSq i Sq.MAX_LEN v
    if v ≤ s.projected i then s.endSeq i 2 else s)

/-- SET_USER (R190). -/
def execSetUser (c q : Nat) (s : State) : Host.Outcome State Fault Refusal :=
  .next (s.seqUpdate c q 4 fun s i v => s.setSq i Sq.USER v)

/-! ### SEQ_CANCEL and the Winnow (R191, R210, R211) -/

/-- The packet of a SEQ_CANCEL of a MODE that can start its sweep: no synthesis of the partition runs (R192), and no other sweep. -/
def State.cancelPkt (s : State) (c q mode : Nat) : Option (List Word) :=
  match s.slowRun c q 0x32 with
  | none => none
  | some pkt => if pf pkt 2 1 0 = mode ∧ !s.synthBusy (s.ctx c).part ∧ s.st.winnow.isNone then some pkt else none

/-- A sweep runs for a command, which leaves the processor. -/
def State.startWinnow (s : State) (w : Winnow) : State :=
  let s := { s with st := { s.st with winnow := some w } }
  (s.setRf Reg.ST_WINNOW_BUSY 1).slowAway w.ctx w.q

/-- A sweep that ends sequences (R210): each becomes ENDING with REASON 3, and its live rows are made dead. -/
def State.winnowSeqs (s : State) (c q mode : Nat) (seqs : List Nat) : State :=
  let p := (s.ctx c).part
  let s := seqs.foldl (fun s i => s.endSeq i 3) s
  let (s, n) := s.makeDead p seqs (fun _ => true) (.st p 4 0)
  s.startWinnow ⟨c, q, mode, p, seqs, n, [], n⟩

/-- SEQ_CANCEL MODE 0 (R210). -/
def execSeqCancelSeq (c q : Nat) (s : State) : Host.Outcome State Fault Refusal :=
  match s.cancelPkt c q 0 with
  | none => .next s
  | some pkt =>
    match s.seqOf (pf pkt 1 31 0) (s.ctx c).part with
    | none => .next (s.refuse c q pkt E.SEQ_HANDLE)
    | some i => .next ((s.checkSeq i).winnowSeqs c q 0 [i])

/-- SEQ_CANCEL MODE 1 (R211): the steps in flight are cancelled. -/
def execSeqCancelStep (c q : Nat) (s : State) : Host.Outcome State Fault Refusal :=
  match s.cancelPkt c q 1 with
  | none => .next s
  | some _ =>
    let p := (s.ctx c).part
    let (s, n, tags) := s.cancelSteps p 0
    .next (s.startWinnow ⟨c, q, 1, p, [], n, tags, 0⟩)

/-- SEQ_CANCEL MODE 2 (R210): every PREFILL and DECODE entry of the partition, in one sweep. -/
def execSeqCancelAll (c q : Nat) (s : State) : Host.Outcome State Fault Refusal :=
  match s.cancelPkt c q 2 with
  | none => .next s
  | some _ =>
    let p := (s.ctx c).part
    let s := (s.seqsOf p fun st => st == 1 || st == 2).foldl (fun s i => s.checkSeq i) s
    .next (s.winnowSeqs c q 2 (s.seqsOf p fun st => st == 1 || st == 2))

/-- The number that the next step takes after a cancellation (R211): the one after the last step applied. -/
def State.rewindStream (s : State) (p : Nat) : State :=
  s.updStream p fun x =>
    { x with due := true, next := match x.lastApplied with
      | some n => n + 1
      | none => wide x.desc 2 }

/-- What a sweep still waits for: its writes, or the kills of the steps that it cancelled. -/
def State.winnowWaits (s : State) (w : Winnow) : Bool :=
  w.out != 0 || s.st.steps.any fun x => w.tags.contains x.tag && !s.stepOver x

/-- WINNOW_DONE (R210, R211): the sweep's writes are answered and its kills complete; its sequences get their finish records, or the stream
goes on after the last step applied; and its command completes with the rows made dead. -/
def execWinnowDone (s : State) : Host.Outcome State Fault Refusal :=
  match s.st.winnow with
  | none => .next s
  | some w =>
    if s.winnowWaits w then .next s
    else
      let s := { s with st := { s.st with winnow := none } }
      let s := s.setRf Reg.ST_WINNOW_BUSY 0
      let s := w.seqs.foldl (fun s i =>
        if s.sq i Sq.STATE = 3 ∧ s.sq i Sq.PEND_ROWS = 0 ∧ s.sq i Sq.PART = w.part then
          (s.finishSeq i (.st w.part 5 (8 * w.ctx + w.q))).1 else s) s
      let s := if w.mode = 1 then ((s.sweepSteps w.part).rewindStream w.part).settleStream w.part else s
      .next (if w.ctx < s.build.ctxs then s.finishHead w.ctx w.q (s.slowPkt w.ctx w.q) 0 w.rows else s)

end Sys2Proof.Machine
end

