-- ==== Sys2Proof/Machine/Stream.lean ====
section
/-! DEFINITION. Step streams: STEP_RUN (R193 to R196), synthesis (R197 to R205), the step launch (R201), and the boundary pass (R207,
R208). -/

namespace Sys2Proof.Machine

/-! ### STEP_RUN (R193, R194) -/

/-- The row cap of a descriptor (R203); nothing when neither region ends and they lie apart without limit. -/
def rowCap (d : List Word) : Nat :=
  let wl := fld d Str.WL_OFFSET
  let res := fld d Str.RES_OFFSET
  let lim := fld d Str.ARG_LIMIT
  let a := if wl < res then res - wl - 1 else 8 * (wl - res)
  if lim = 0 then a else min a (min (lim - wl - 1) (8 * (lim - res)))

/-- Whether the work list and the results of a descriptor overlap whatever the number of rows (R194). -/
def regionsOverlap (d : List Word) : Bool :=
  let wl := fld d Str.WL_OFFSET
  let res := fld d Str.RES_OFFSET
  wl == res || res == wl + 1

/-- Whether a stream descriptor passes R194. -/
def State.streamDescOk (s : State) (p : Nat) (d : List Word) : Bool :=
  fld d Str.DESC_VER == 1 && rsvd d 5 31 8 && rsvd d 7 31 20 && rsvd d 9 31 20 && rsvd d 14 31 20 && rsvd d 16 31 20 && zeroWords d 19 31 &&
    decide (fld d Str.LEVEL ≤ 5) && decide (4 ≤ fld d Str.FINISH_LOG2) && decide (fld d Str.FINISH_LOG2 ≤ 16) &&
    decide (addr52 d 6 % 64 = 0) && decide (addr52 d 8 % 64 = 0) && decide (addr52 d 13 % 64 = 0) && decide (addr52 d 15 % 64 = 0) &&
    (match s.tmplUse (fld d Str.TEMPLATE) p with
     | .ok _ => true
     | .error _ => false) &&
    (s.eventFault (fld d Str.STEP_EVENT) p).isNone && !regionsOverlap d

/-- Whether the descriptor of a START of this partition is being read. -/
def State.startOut (s : State) (p : Nat) : Bool :=
  (s.mm.busy ++ s.mm.waiting).any fun x => match x.use with
    | .st a 0 _ => a == p
    | _ => false

/-- Whether a boundary pass of a partition has applied its results and still runs (R208). -/
def State.passRuns (s : State) (p : Nat) : Bool := (s.stepsOf p).any fun x => x.phase == .applied

/-- STEP_RUN START (R193, R194): the descriptor is read, and the command leaves the processor.  On a FAULTED stream it waits for a boundary pass
that still runs (notes/assumptions/45.md). -/
def execStepRunStart (c q : Nat) (s : State) : Host.Outcome State Fault Refusal :=
  match s.slowRun c q 0x33 with
  | none => .next s
  | some pkt =>
    let p := (s.ctx c).part
    if pf pkt 1 1 0 ≠ 0 ∨ s.startOut p ∨ s.passRuns p then .next s
    else if s.rf (Reg.ST_STREAM_STATUS_SSTATE p) = 1 ∨ s.rf (Reg.ST_STREAM_STATUS_SSTATE p) = 2 then .next (s.refuse c q pkt E.STREAM_STATE)
    else .next ((s.slowAway c q).mmRead (addr52 pkt 2) 2 p 1 3 (.st p 0 (8 * c + q))).1

/-- The answer of the descriptor read: the stream is RUNNING, due for its first synthesis, or the command is refused (R194).  A STOP that was
accepted while the stream was FAULTED waits on until it is IDLE (R193). -/
def State.streamDesc (s : State) (p arg : Nat) (ok : Bool) (d : List Word) : State :=
  let c := arg / 8
  let q := arg % 8
  if !ok ∨ !s.streamDescOk p d then s.refuse c q (s.slowPkt c q) E.STREAM_DESC
  else
    let stops := match s.stream? p with
      | some y => y.stopCmds
      | none => []
    let x : Stream := ⟨p, c, d, wide d 2, 0, none, true, some (c, q), stops, 0⟩
    let s := { s with st := { s.st with streams := x :: s.st.streams.filter fun y => y.part != p } }
    (s.setRf (Reg.ST_STREAM_STATUS_SSTATE p) 1).setRf (Reg.ST_KV_FREE p) (fld d Str.KV_FREE)

/-- STEP_RUN STOP (R193, R195): it completes when the stream is IDLE. -/
def execStepRunStop (c q : Nat) (s : State) : Host.Outcome State Fault Refusal :=
  match s.slowRun c q 0x33 with
  | none => .next s
  | some pkt =>
    let p := (s.ctx c).part
    if pf pkt 1 1 0 ≠ 1 then .next s
    else if s.rf (Reg.ST_STREAM_STATUS_SSTATE p) = 0 then .next (s.refuse c q pkt E.STREAM_STATE)
    else match s.stream? p with
      | none => .next s
      | some x =>
        if x.startCmd.isSome then .next s
        else .next (((s.slowAway c q).updStream p fun x => { x with stopCmds := x.stopCmds ++ [(c, q)] }).stopStream p)

/-- STEP_RUN KV_ADD (R193): KV_FREE saturates. -/
def execStepRunKvAdd (c q : Nat) (s : State) : Host.Outcome State Fault Refusal :=
  match s.slowRun c q 0x33 with
  | none => .next s
  | some pkt =>
    let p := (s.ctx c).part
    if pf pkt 1 1 0 ≠ 2 ∨ s.synthBusy p then .next s
    else
      let s := (s.incRf (Reg.ST_KV_FREE p) (pf pkt 4 31 0)).nudge p
      .next (s.finishHead c q pkt 0 (s.rf (Reg.ST_KV_FREE p)))

/-! ### Selection (R199) -/

/-- What selection has done so far: the rows taken as (sequence, NTOK, prefill), the counts, the tokens, the KV blocks left, the sequences
deferred, the last decode row, and whether the loop has been left. -/
structure Pick where
  rows : List (Nat × Nat × Bool)
  dec : Nat
  pf : Nat
  tokens : Nat
  kv : Nat
  defers : List Nat
  lastDec : Option Nat
  left : Bool
deriving DecidableEq, Repr

/-- KV blocks that a sequence needs to grow by `t` tokens. -/
def State.growth (s : State) (p i t : Nat) : Nat :=
  ceilDiv (s.projected i + t) (2 ^ s.sh (Reg.ST_PLAN_BLOCK_LOG2 p)) - s.sq i Sq.KV_BLOCKS

/-- The next prefill chunk of a sequence. -/
def State.chunk (s : State) (p i : Nat) : Nat :=
  min (s.sh (Reg.ST_CHUNK p)) (s.sq i Sq.PROMPT_LEN - s.projected i)

/-- One turn of the decode loop. -/
def State.pickDec (s : State) (p room reserve : Nat) (k : Pick) (i : Nat) : Pick :=
  if k.left then k
  else if k.dec = s.sh (Reg.ST_DEC_ROWS p) ∨ k.rows.length = room ∨ s.sh (Reg.ST_TOKENS_MAX p) < k.tokens + 1 + reserve then { k with left := true }
  else if k.kv < s.growth p i 1 then { k with defers := i :: k.defers }
  else { k with rows := (i, 1, false) :: k.rows, dec := k.dec + 1, tokens := k.tokens + 1, kv := k.kv - s.growth p i 1, lastDec := some i }

/-- One turn of the prefill loop. -/
def State.pickPf (s : State) (p room : Nat) (k : Pick) (i : Nat) : Pick :=
  let n := s.chunk p i
  if k.left then k
  else if k.pf = s.sh (Reg.ST_PLAN_PF_CHUNKS p) ∨ k.rows.length = room ∨ s.sh (Reg.ST_TOKENS_MAX p) < k.tokens + n then { k with left := true }
  else if k.kv < s.growth p i n then { k with defers := i :: k.defers }
  else { k with rows := (i, n, true) :: k.rows, pf := k.pf + 1, tokens := k.tokens + n, kv := k.kv - s.growth p i n }

/-- Selection (R199) among the entries of a partition, with `room` for rows. -/
def State.select (s : State) (p room : Nat) : Pick :=
  let n := s.build.seqs
  let live := (s.seqsOf p fun st => st == 1 || st == 2).filter fun i => s.sq i Sq.HOLD == 0
  let count := lookupD s.st.admitNo p 1
  let next := s.rf (Reg.ST_DEC_NEXT p)
  let pfKey := fun (i : Nat) => 2 ^ 32 * s.sq i Sq.CLASS + (2 ^ 32 + s.sq i Sq.ADMIT_NO - count) % 2 ^ 32
  let decKey := fun (i : Nat) => 2 ^ 32 * s.sq i Sq.CLASS + (i + n - next % n) % n
  let pfs := sortBy (fun a b => decide (pfKey a < pfKey b)) (live.filter fun i => s.sq i Sq.STATE == 1)
  let decs := sortBy (fun a b => decide (decKey a < decKey b))
    (live.filter fun i => s.sq i Sq.STATE == 2 && decide (s.projected i < s.sq i Sq.MAX_LEN))
  let reserve := ((pfs.take (s.sh (Reg.ST_PLAN_PF_MIN p))).map (s.chunk p)).foldl (· + ·) 0
  let k := decs.foldl (s.pickDec p room reserve) ⟨[], 0, 0, 0, s.rf (Reg.ST_KV_FREE p), [], none, false⟩
  pfs.foldl (s.pickPf p room) { k with left := false }

/-! ### Emission (R198, R200 to R203) -/

/-- Emit the row of a sequence: the entry is updated and its row made.  Answers the row as the row store keeps it and its words. -/
def State.emitRow (s : State) (p n tokenIdx : Nat) (r : Nat × Nat × Bool) : State × StepRow × List Word :=
  let (i, t, isPf) := r
  let pos := s.projected i
  let kv := s.sq i Sq.KV_BLOCKS + s.growth p i t
  let last := isPf && decide (pos + t = s.sq i Sq.PROMPT_LEN)
  let row : StepRow := ⟨i, s.sq i Sq.GEN, pos, t, kv, isPf, last, true⟩
  let e := s.row (seqRow i) 16
  let w := [BitVec.ofNat 32 (mkHandle (s.sq i Sq.GEN) i), BitVec.ofNat 32 pos, rowWord2 row false, BitVec.ofNat 32 tokenIdx,
    wordAt e 8, BitVec.ofNat 32 (pf e 9 19 0), BitVec.ofNat 32 kv, BitVec.ofNat 32 (s.sq i Sq.KV_CONF),
    wordAt e 11, BitVec.ofNat 32 (pf e 12 19 0), wordAt e 6, wordAt e 7] ++ philox (wide e 6) (lo32 n) 0 (hi32 n) 0
  let s := s.setSq i Sq.PEND_TOK (s.sq i Sq.PEND_TOK + t)
  let s := s.setSq i Sq.PEND_ROWS (s.sq i Sq.PEND_ROWS + 1)
  ((s.setSq i Sq.KV_BLOCKS kv).recomputeSeq i, row, w)

/-- Emit the rows in ascending sequence index. -/
def State.emitRows (s : State) (p n : Nat) (rs : List (Nat × Nat × Bool)) : State × List StepRow × List (List Word) :=
  let (s, rows, ws, _) := rs.foldl (fun (x : State × List StepRow × List (List Word) × Nat) r =>
    let (s, row, w) := x.1.emitRow p n x.2.2.2 r
    (s, x.2.1 ++ [row], x.2.2.1 ++ [w], x.2.2.2 + r.2.1)) (s, [], [], 0)
  (s, rows, ws)

/-- Whether a step tag is still held (R205, R290). -/
def State.tagBusy (s : State) (t : Nat) : Bool :=
  s.st.steps.any (fun x => x.tag == t && !s.stepOver x) || s.gs.launches.any (fun l => s.sl l.slot Sl.STEP_TAG == t) || s.tagHeld t

/-- The START that waits for the first synthesis completes (R193). -/
def State.startDone (s : State) (p : Nat) : State :=
  match s.stream? p with
  | none => s
  | some x => match x.startCmd with
    | none => s
    | some (c, q) => (s.updStream p fun x => { x with startCmd := none }).finishHead c q (s.slowPkt c q) 0 (lo32 (wide x.desc 2))

/-- The synthesis of step `n` of a stream (R198): the scan, the selection, the rows, and the writes. -/
def State.synthesise (s : State) (x : Stream) : State :=
  let p := x.part
  let n := x.next
  let s := s.updStream p fun x => { x with due := false }
  let (s, bias, seed) := s.bindBanks p ((s.stepsOf p).any fun y => y.phase != .dead && y.phase != .applied)
  let s := (s.seqsOf p fun st => st != 0).foldl (fun s i => s.checkSeq i) s
  let s := (s.seqsOf p fun st => st != 0).foldl (fun s i => s.setSq i Sq.KV_DEFER 0) s
  let k := s.select p (min (rowCap x.desc) (131072 - s.rowsHeld))
  let s := k.defers.foldl (fun s i => s.setSq i Sq.KV_DEFER 1) s
  let s := s.incRf (Reg.ST_DEFER_COUNT p) k.defers.length
  let s := match k.lastDec with
    | some i => s.setRf (Reg.ST_DEC_NEXT p) ((i + 1) % s.build.seqs)
    | none => s
  let s := s.setRf (Reg.ST_KV_FREE p) k.kv
  if k.rows = [] then s.setRf (Reg.ST_SYNTH_NS p) 0
  else
    let tag := s.rf Reg.ST_TAG_TAG_NEXT
    let s := s.setRf Reg.ST_TAG_TAG_NEXT (if tag = 65535 then 1 else tag + 1)
    let s := s.setTagDead tag false
    let (s, rows, ws) := s.emitRows p n (sortBy (fun a b => decide (a.1 < b.1)) k.rows)
    let i := hIdx (fld x.desc Str.TEMPLATE)
    let header := words64 n ++ [BitVec.ofNat 32 tag, BitVec.ofNat 32 rows.length, BitVec.ofNat 32 k.dec, BitVec.ofNat 32 k.tokens] ++
      words64 s.gc ++ [BitVec.ofNat 32 (mkHandle (s.dir i Dir.GEN) i)] ++ zeros 7
    let buf := bufOf x.desc n
    let st : Step := ⟨p, n, tag, rows, .writing, none, 2, s.gc, compDigest header ws⟩
    let es : EraStep := ⟨tag, p, bias, seed, 0, rows.map fun r => (r.ntok, true), [], 0, 0⟩
    let s := { s with st := { s.st with steps := s.st.steps ++ [st] }, era := { s.era with steps := s.era.steps ++ [es] } }
    let s := s.updStream p fun x => { x with next := n + 1 }
    let s := (s.mmWrite (buf + 64 * fld x.desc Str.WL_OFFSET) (header ++ ws.flatten) p 1 3 (.st p 1 tag)).1
    (s.mmWrite (addr52 x.desc 13 + 64 * (n % 2)) (words64 buf ++ [BitVec.ofNat 32 (fld x.desc Str.ARG_LIMIT), 1#32] ++ zeros 12) p 1 3 (.st p 1 tag)).1

/-- Raise an error once while a synthesis waits. -/
def State.synthWaits (s : State) (p : Nat) (e : Err) : State :=
  if s.inEpisode e.code p then s else (s.openEpisode e.code p).reportPlain e (some p)

/-- SYNTHESIS_START (R197, R198): the stream is RUNNING and a moment of R197 has come; it waits while the next tag is held or no row is
free (R205). -/
def execSynthesisStart (part : Nat) (s : State) : Host.Outcome State Fault Refusal :=
  let s' := s.settleStreams
  match s'.stream? part with
  | none => .next s
  | some x =>
    if !x.due ∨ s.rf (Reg.ST_STREAM_STATUS_SSTATE part) ≠ 1 ∨ !s.unitEn U.ST ∨ s.halted ∨ 2 ≤ (s'.stepsOf part).length ∨
        (s'.stepsOf part).any (fun y => y.phase == .dead || y.phase == .writing) ∨
        s.st.winnow.any (fun w => w.part == part && w.mode == 1) then .next s
    else
      let s := s'.startDone part
      if s.tagBusy (s.rf Reg.ST_TAG_TAG_NEXT) then .next (s.synthWaits part E.STEP_TAG_BUSY)
      else if 131072 ≤ s.rowsHeld then .next (s.synthWaits part E.ROWSTORE_FULL)
      else
        let s := (s.closeEpisode E.STEP_TAG_BUSY.code part).closeEpisode E.ROWSTORE_FULL.code part
        .next (s.synthesise x)

/-- A write of a work list or a parameter descriptor has been answered (R198). -/
def State.workWritten (s : State) (p tag : Nat) (ok : Bool) : State :=
  let s := s.updStep tag fun x => { x with out := x.out - 1 }
  if ok then s
  else match s.step? tag with
    | some x => if x.phase = .dead then s else s.streamFault p E.STEP_WRITE 0 false
    | none => s

/-! ### The step launch (R201) -/

/-- The LAUNCH_GRAPH of a step (R201). -/
def stepPacket (x : Stream) (h n : Nat) : List Word :=
  let wait := decide (wide x.desc 2 < n)
  let d := addr52 x.desc 13 + 64 * (n % 2)
  [packW [(0, 2), (11, b2n wait)], BitVec.ofNat 32 h] ++ words64 d ++ [0#32] ++
    (if wait then BitVec.ofNat 32 (fld x.desc Str.STEP_EVENT) :: words64 (n - 1) else zeros 3) ++ zeros 8

/-- Why the launch of a step is refused at once, if it is (R98, R201). -/
def State.stepRefusal (s : State) (x : Stream) (pkt : List Word) : Option Err :=
  match (launchWaits pkt).findSome? fun w => s.eventFault w.1 x.part with
  | some e => some e
  | none => s.arrivalTest pkt x.part

/-- STEP_LAUNCH_SUBMIT (R198 step 5, R201): the last write response has arrived, and the step launch is submitted with the current handle of
the template index. -/
def execStepLaunchSubmit (part : Nat) (s : State) : Host.Outcome State Fault Refusal :=
  match (s.stepsOf part).find? fun x => x.phase == .writing && x.out == 0, s.stream? part with
  | some y, some x =>
    let i := hIdx (fld x.desc Str.TEMPLATE)
    let pkt := stepPacket x (mkHandle (s.dir i Dir.GEN) i) y.n
    let s := (s.setRf (Reg.ST_SYNTH_NS part) (min (s.gc - y.synthGc) 65535)).dirRead i
    match s.stepRefusal x pkt with
    | some e => .next ((s.reportPlain e (some part)).streamFault part E.STEP_LAUNCH 0 false)
    | none =>
      let w : Waiting := ⟨s.cc, x.ctx, fld x.desc Str.LEVEL, part, true, y.tag, pkt⟩
      let s := { s with gs := { s.gs with waiting := s.gs.waiting ++ [w] } }
      let s := s.updStep y.tag fun y => { y with phase := .launched }
      let s := s.updStream part fun x => { x with launched := x.launched + 1 }
      let s := s.publish y.tag (bufOf x.desc y.n)
      .next (if fld x.desc Str.STEP_COUNT ≠ 0 ∧ x.launched + 1 = fld x.desc Str.STEP_COUNT then s.stopStream part else s)
  | _, _ => .next s

/-! ### The boundary pass (R207, R208) -/

/-- Whether the launch of a step has entered RETIRING: its sink has completed. -/
def State.stepRetired (s : State) (x : Step) : Bool :=
  match x.slot with
  | none => false
  | some k => s.sl k Sl.STEP_TAG != x.tag || s.sl k Sl.STATE == 4

/-- Apply the result of one live row (R208 step 2).  Answers whether the sequence has ended. -/
def State.applyRow (s : State) (x : Step) (r : StepRow) (res : Nat) : State × Bool :=
  let was := s.sq r.seq Sq.STATE
  let s := s.setPos r.seq (s.sq r.seq Sq.POS + r.ntok)
  let s := (s.dropRow r).setSq r.seq Sq.KV_CONF r.kv
  if res % 2 ^ 16 ≠ x.tag then ((s.reportPlain E.STEP_RESULT (some x.part)).endSeq r.seq 4, was != 3)
  else if bit res 16 then (s.endSeq r.seq 1, was != 3)
  else if s.sq r.seq Sq.POS = s.sq r.seq Sq.MAX_LEN then (s.endSeq r.seq 2, was != 3)
  else (s, false)

/-- Steps 2 to 5 of a boundary pass, with the results of the rows. -/
def State.applyStep (s : State) (tag : Nat) (ws : List Word) : State :=
  match s.step? tag with
  | none => s
  | some x =>
    let p := x.part
    let s := (x.rows.filter (·.live)).foldl (fun s r => s.checkSeq r.seq) s
    let rows := match s.step? tag with
      | some y => y.rows
      | none => []
    let (s, ended) := (rows.zip (List.range rows.length)).foldl (fun (acc : State × List Nat) (r, i) =>
      if !r.live then acc
      else
        let (s, e) := acc.1.applyRow x r (wide ws (2 * i))
        (s, if e then r.seq :: acc.2 else acc.2)) (s, [])
    let s := s.setReg64 (Reg.ST_STEP_LO_A p) (Reg.ST_STEP_HI_A p) x.n
    let s := s.updStream p fun y => { y with lastApplied := some x.n }
    let s := s.updStep tag fun y => { y with phase := .applied, rows := y.rows.map fun r => { r with live := false } }
    let (s, k) := s.makeDead p ended (fun y => y.n == x.n + 1) (.st p 3 tag)
    let busy := match s.st.winnow with
      | some w => w.seqs
      | none => []
    let done := (s.seqsOf p fun st => st == 3).filter fun i => s.sq i Sq.PEND_ROWS == 0 && !busy.contains i
    let (s, k) := done.foldl (fun (acc : State × Nat) i =>
      let (s, m) := acc.1.finishSeq i (.st p 3 tag)
      (s, acc.2 + m)) (s, k)
    let s := s.updStep tag fun y => { y with out := k }
    ((s.applySh p).flipBanks p).biasLoop p

/-- BOUNDARY_PASS (R208): the step launch has entered RETIRING; the results of the live rows are read, or there is none to read. -/
def execBoundaryPass (part : Nat) (s : State) : Host.Outcome State Fault Refusal :=
  match (s.stepsOf part).find? fun x => x.phase == .launched && s.stepRetired x, s.stream? part with
  | some x, some t =>
    if x.rows.any (·.live) then
      let s := s.updStep x.tag fun y => { y with phase := .reading, out := 1 }
      .next (s.mmRead (bufOf t.desc x.n + 64 * fld t.desc Str.RES_OFFSET) (ceilDiv (8 * x.rows.length) 64) part 1 3 (.st part 2 x.tag)).1
    else .next (s.applyStep x.tag [])
  | _, _ => .next s

/-- The results of a step have been read, or a read has failed (R208 step 1). -/
def State.resultsRead (s : State) (p tag : Nat) (ok : Bool) (ws : List Word) : State :=
  let s := s.updStep tag fun x => { x with out := x.out - 1 }
  match s.step? tag with
  | none => s
  | some x =>
    if x.phase ≠ .reading then s
    else if ok then s.applyStep tag ws
    else s.streamFault p E.STEP_READ 0 false

/-- A write of a boundary pass, of a sweep or of a damaged entry has been answered (R208 step 6, R210). -/
def State.passWritten (s : State) (p what arg : Nat) (ok : Bool) : State :=
  let s :=
    if what = 3 then s.updStep arg fun x => { x with out := x.out - 1 }
    else if what = 4 ∧ arg = 0 then { s with st := { s.st with winnow := s.st.winnow.map fun w => { w with out := w.out - 1 } } }
    else s
  if ok then s else s.writeFault p

/-- Latch the telemetry of a step (R296). -/
def State.latchTelem (s : State) (x : Step) : State :=
  let p := x.part
  let t : Telem := match s.mh.telem.find? fun t => t.tag == x.tag && t.part == p with
    | some t => t
    | none => ⟨x.tag, p, 0, 0, 0, 0⟩
  let s := { s with mh := { s.mh with telem := s.mh.telem.filter fun t => !(t.tag == x.tag && t.part == p) } }
  let s := s.setRf (Reg.MH_TELEM_STEP p) (lo32 x.n)
  let s := s.setRf (Reg.MH_TELEM_COUNT p) (min t.count (2 ^ 32 - 1))
  let s := s.setReg64 (Reg.MH_TELEM_SUM_LO_A p) (Reg.MH_TELEM_SUM_HI_A p) t.sum
  let s := s.setRf (Reg.MH_TELEM_TELEM_MAX p) t.max
  s.setRf (Reg.MH_TELEM_TELEM_BAD p) (min t.bad 65535)

/-- Record STEP_EVENT with MAX and the step's number (R208 step 6). -/
def State.recordStep (s : State) (p h n : Nat) : State :=
  match s.eventOf h p with
  | .error e => s.reportPlain e (some p)
  | .ok ev =>
    match s.checkEvent ev with
    | (s, some _) => s
    | (s, none) => s.storeEvent ev (recordValue ev.val.toNat true n).1

/-- BOUNDARY_PASS_END (R208 step 6, R391): every write has been answered; a checkpoint that is asked for is written first; then the rows are
freed, telemetry and digests are latched, and STEP_EVENT is recorded. -/
def execBoundaryPassEnd (part : Nat) (s : State) : Host.Outcome State Fault Refusal :=
  match (s.stepsOf part).find? fun x => x.phase == .applied && x.out == 0, s.stream? part with
  | some x, some t =>
    if lookupD s.dc.ckpts part 0 = 1 then .next s
    else if s.rb (Reg.DC_CKPT_STATUS_BUSY part) ∧ s.dc.ckpts.all (fun c => c.1 != part) then .next (s.ckptStart part x.n)
    else
      let s := { s with dc := { s.dc with ckpts := assocDel s.dc.ckpts part } }
      let s := { s with st := { s.st with steps := s.st.steps.filter fun y => y.tag != x.tag } }
      let s := s.latchTelem x
      let s := s.latchDigests x
      let s := s.dropEraSteps (· == x.tag)
      let s := s.trace 9 (some part) (2 ^ 22 * x.tag + 2 ^ 38 * (x.n % 2 ^ 22)) (2 ^ 22 * x.tag)
      let s := s.recordStep part (fld t.desc Str.STEP_EVENT) x.n
      let s := s.updStream part fun y => { y with restarts := 0 }
      .next ((s.settleStream part).nudge part)
  | _, _ => .next s

end Sys2Proof.Machine
end

