-- ==== Sys2Proof/Machine/BootOps.lean ====
section
/-! DEFINITION. What clears, restarts and quiesces the block as a whole: CLEAR (R480), the block restart (R435), the Thresher restart
(R434) and the start of a quiesce (R486). -/

namespace Sys2Proof.Machine

/-! ### CLEAR (R435, R480) -/

/-- Nobody waits for the answer of a transfer any more. -/
def MmXfer.orphan (x : MmXfer) : MmXfer := { x with use := .dropped, left := x.beats, rest := [] }

/-- A link as CLEAR leaves it: nothing is known of it but that its engine is present, and for how long. -/
def Link.cleared (l : Link) : Link :=
  { Link.fresh l.id with pin := l.pin, present := l.present, presentCc := l.presentCc, stale := true }

/-- The register fields that show what the cleared tables held, at no work (notes/assumptions/20.md).  Every other register keeps its value. -/
def State.clearShown (s : State) : State :=
  let zero := fun (s : State) (f : RF) => s.setRf f 0
  let s := [Reg.DS_LINK_CMD_STATUS_BUSY, Reg.DR_DOMAIN_STATUS_BUSY, Reg.CFE_CTX_STATUS_BUSY, Reg.ST_WINNOW_BUSY, Reg.PAU_ENCL_STATUS_BUSY,
    Reg.IFM_STATUS_REBUILD, Reg.IFM_STATUS_DR_RESTART, Reg.IFM_STATUS_THR_RESTART, Reg.IFM_STATUS_SLICE_DOWN, Reg.DC_STATUS_RUNNING,
    Reg.DC_STATUS_STALLED, Reg.DC_STATUS_REPLAYING].foldl zero s
  let s := s.setRf Reg.DC_STATUS_WAITING (b2n (s.unitEn U.DC && s.glMode))
  (List.range s.build.partitions).foldl (fun s p =>
    let s := [Reg.GS_USE_SLOTS p, Reg.GS_USE_NODES p, Reg.GS_USE_TMPL p, Reg.ST_SEQ_USE p, Reg.ST_STREAM_STATUS_SSTATE p,
      Reg.DC_CKPT_STATUS_BUSY p].foldl zero s
    (s.setRf (Reg.GS_LAUNCH_ID_OLDEST p) (s.rf (Reg.GS_LAUNCH_ID_NEXT p))).applySh p) s

/-- Every table and every queue of the units is as after CLEAR, but for Thresher memory: the SRAM zero with its Husk complements, nothing outstanding on a link or on the
fabric, and no answer of the memory port awaited.  The Gleaner's intake, the trace and the register words stay. -/
def State.clearUnits (s : State) : State :=
  let s := s.lowerIrqs
  let r := State.reset
  let s : State := { s with
    sram := [], ecc := s.ecc.filter (fun e => e.1 / 2 ^ 24 == 0x50), eps := [], fe := r.fe, gs := r.gs, dr := r.dr, ds := { r.ds with links := s.ds.links.map Link.cleared },
    sm := r.sm, mh := r.mh, st := r.st, era := r.era, psc := r.psc, dc := { r.dc with mmNo := s.dc.mmNo, taskNo := s.dc.taskNo },
    pau := r.pau, mm := { busy := s.mm.busy.map MmXfer.orphan, waiting := [] }, ifm := { s.ifm with log := [] },
    bg := { r.bg with epochNo := s.now / (1000 * s.rf Reg.BG_CTRL_EPOCH_US), refillNo := s.now / 1000 },
    fab := { s.fab with reqQ := [], repQ := [] } }
  s.clearShown

/-! ### Restarts (R434, R435) -/

/-- A block restart: ERR_BLOCK_RESTART is raised, everything outstanding ends without an answer, and the boot sequence runs again from CLEAR.
A partition that was locked, or being torn down, is left TEARING, its Granary to be scrubbed afterwards. -/
def State.blockRestart (s : State) : State :=
  if s.thr.restart then s
  else
    let s := s.reportPlain E.BLOCK_RESTART none
    let ps := (List.range s.build.partitions).filter fun p => s.locked p || s.rb (Reg.PAU_PSTATUS_TEARING p)
    let s := s.clearUnits
    let s := ps.foldl (fun s p => (s.setRf (Reg.PAU_PSTATUS_TEARING p) 1).setRf (Reg.PAU_PSTATUS_SCRUB_FAIL p) 0) s
    let s := if ps = [] then s else s.setRf Reg.PAU_ENCL_STATUS_BUSY 1
    { s.setRf Reg.THR_BOOT_STATUS_PHASE 1 with
      pau := { s.pau with tearQ := ps }, thr := { s.thr with restart := true }, ifm := { s.ifm with thrHold := true } }

/-- A Thresher restart, steps 1 and 2: the processor is held in reset, and every command in progress completes with ERR_THRESHER_RESTART. -/
def State.thrRestart (s : State) : State :=
  if s.rb Reg.IFM_STATUS_THR_RESTART ∨ !s.thrRuns then s
  else
    let s := s.setRf Reg.IFM_STATUS_THR_RESTART 1
    let s := { s with ifm := { s.ifm with thrHold := true } }
    (s.fe.slow.filter fun e => decide (e.phase ≠ .queued)).foldl (fun s e =>
      (s.endHeadCmd e.ctx e.q).refuse e.ctx e.q e.pkt E.THRESHER_RESTART) s

/-- Word `k` of the firmware image in Thresher memory. -/
def State.fwWord (s : State) (k : Nat) : Word := s.tableWord 0x50 k

/-- Words `a` to `a + n - 1` of the image. -/
def State.fwWords (s : State) (a n : Nat) : List Word := (List.range n).map fun i => s.fwWord (a + i)

/-- LENGTH of the image (R481). -/
def State.fwLength (s : State) : Nat := (s.fwWord 2).toNat

/-- The SHA-384 digest of the signed message: bytes 0 to 159 of the header and the body. -/
def State.fwDigest (s : State) : List Nat := sha384 (bytesOf (s.fwWords 0 40 ++ s.fwWords 64 (s.fwLength / 4)))

/-- Whether a word of the signed message is uncorrectable. -/
def State.signedBad (s : State) : Bool := s.eccBad (ramKey 0x50 0) 40 || s.eccBad (ramKey 0x50 64) (s.fwLength / 4)

/-- Whether a word of the image, its signature among them, is uncorrectable. -/
def State.imageBad (s : State) : Bool := s.eccBad (ramKey 0x50 0) (64 + s.fwLength / 4)

/-! ### Quiescing (R486, R492) -/

/-- Whether a restart runs for which quiescing waits. -/
def State.restarting (s : State) : Bool :=
  s.thr.restart || s.thr.mbist || s.rb Reg.IFM_STATUS_DR_RESTART || s.rb Reg.IFM_STATUS_THR_RESTART

/-- Quiescing starts when pwr_req is high, the boot sequence is over and no restart runs. -/
def State.maybeQuiesce (s : State) : State :=
  if s.pins.pwrReq ∧ s.rf Reg.THR_PWR_STATUS_PSTATE = 0 ∧ 5 ≤ s.rf Reg.THR_BOOT_STATUS_PHASE ∧ !s.restarting then
    let s := s.setRf Reg.THR_PWR_STATUS_PSTATE 1
    { s with thr := { s.thr with quiesceGc := s.gc, quiesceKilled := false } }
  else s

end Sys2Proof.Machine
end

