-- ==== Sys2Proof/Machine/Ecdsa.lean ====
section
/-! DEFINITION. The ECDSA verification of FIPS 186-5 over curve P-384, by which the boot sequencer checks the firmware image
(R481).  A point is `none` for the point at infinity, else its affine coordinates. -/

namespace Sys2Proof.Machine

/-- The prime of P-384. -/
def p384p : Nat := 2 ^ 384 - 2 ^ 128 - 2 ^ 96 + 2 ^ 32 - 1

/-- The order of the base point. -/
def p384n : Nat := 0xFFFFFFFFFFFFFFFFFFFFFFFFFFFFFFFFFFFFFFFFFFFFFFFFC7634D81F4372DDF581A0DB248B0A77AECEC196ACCC52973

/-- The coefficient b of P-384; a is −3. -/
def p384b : Nat := 0xB3312FA7E23EE7E4988E056BE3F82D19181D9C6EFE8141120314088F5013875AC656398D8A2ED19D2A85C8EDD3EC2AEF

/-- The base point of P-384. -/
def p384g : Nat × Nat :=
  (0xAA87CA22BE8B05378EB1C71EF320AD746E1D3B628BA79B9859F741E082542A385502F25DBF55296C3A545E3872760AB7,
   0x3617DE4A96262C6F5D9E98BF9292DC29F8F41DBD289A147CE9DA3113B5F0B8C00A60B1CE1D7E819D7A431D7C90EA0E5F)

/-- The bits of a 384-bit number, the highest first. -/
def bits384 (k : Nat) : List Bool := ((List.range 384).map (bit k)).reverse

/-- `a ^ k` modulo `m`. -/
def powMod (m a k : Nat) : Nat := (bits384 k).foldl (fun r b => let s := r * r % m; if b then s * a % m else s) (1 % m)

/-- The inverse of `a` modulo a prime `m`. -/
def invMod (m a : Nat) : Nat := powMod m a (m - 2)

/-- `a − b` modulo `p384p`, for reduced numbers. -/
def subP (a b : Nat) : Nat := (a + p384p - b) % p384p

/-- The third point on the line of slope `l` through (x1, y1) and a point with first coordinate x2, reflected. -/
def p384line (l x1 y1 x2 : Nat) : Nat × Nat :=
  let x := subP (subP (l * l % p384p) x1) x2
  (x, subP (l * subP x1 x % p384p) y1)

/-- The sum of two points. -/
def p384add : Option (Nat × Nat) → Option (Nat × Nat) → Option (Nat × Nat)
  | none, q => q
  | p, none => p
  | some (x1, y1), some (x2, y2) =>
    if x1 = x2 then
      if (y1 + y2) % p384p = 0 then none
      else some (p384line (subP (3 * x1 * x1 % p384p) 3 * invMod p384p (2 * y1 % p384p) % p384p) x1 y1 x2)
    else some (p384line (subP y2 y1 * invMod p384p (subP x2 x1) % p384p) x1 y1 x2)

/-- `k` times a point. -/
def p384mul (k : Nat) (q : Option (Nat × Nat)) : Option (Nat × Nat) :=
  (bits384 k).foldl (fun r b => let d := p384add r r; if b then p384add d q else d) none

/-- Whether a pair is a point of the curve: y² = x³ − 3x + b, with reduced coordinates. -/
def p384on (x y : Nat) : Bool :=
  decide (x < p384p) && decide (y < p384p) && decide (y * y % p384p = (x * x * x + (p384p - 3) * x + p384b) % p384p)

/-- The verification: key (x, y), signature (r, s), and the digest as a number. -/
def ecdsaOk (x y r s e : Nat) : Bool :=
  let w := invMod p384n s
  p384on x y && decide (0 < r) && decide (r < p384n) && decide (0 < s) && decide (s < p384n) &&
    (match p384add (p384mul (e * w % p384n) (some p384g)) (p384mul (r * w % p384n) (some (x, y))) with
     | none => false
     | some (v, _) => v % p384n == r)

end Sys2Proof.Machine
end

