-- ==== Sys2Proof/Machine/Completion.lean ====
section
/-! DEFINITION. Completion records (R51 to R56, R112 to R114, R131, R139, R141): arrival at the pin, and what a slice does with
each KIND. -/

namespace Sys2Proof.Machine

/-- Whether a record of a link is applied or judged: every record of an engine that is present.  Of a link that was up and has been lost,
only the answer to a new offer counts until that answer has come (R63), and the records that settle a task accepted before the loss. -/
def State.takesRec (s : State) (r : CmpRec) : Bool :=
  let l := s.link r.link
  if l.stale then (l.present && l.offerOut && r.kind == 15) || l.tasks.any (fun t => r.names t) else l.present

/-- Accept a record at the pin (R56): it is stamped and queued.  A record that finds the FIFO full was sent without a completion
credit (R64); a record of an absent engine, or of a lost link that has no offer out, is ignored (R63). -/
def State.acceptRec (s : State) (link : Nat) (w0 w1 : Word) : State :=
  let c := link / 16
  let l := s.link link
  if s.build.links ≤ link ∨ !l.present ∨ (l.stale ∧ !l.offerOut) then s
  else if 64 ≤ (s.fifo c).length then s.relinkLost link E.LINK_PROTOCOL Reg.DS_LINK_CMD_STATUS_LOST
  else s.setFifo c (s.fifo c ++ [⟨link, w0, w1, s.gc, 2 ^ 20 * s.gc + link, s.holds, s.cc⟩])

/-- The records that a slice may take, in both clusters. -/
def State.sliceRecs (s : State) (slice : Nat) : List CmpRec :=
  ((s.fifo (2 * slice)) ++ (s.fifo (2 * slice + 1))).filter fun r => !r.held && s.takesRec r

/-- The record that a slice takes next: the earliest stamp, and on equal stamps the lower link (R112). -/
def State.frontRec (s : State) (slice : Nat) : Option CmpRec := minBy CmpRec.order (s.sliceRecs slice)

/-- A record leaves its FIFO, together with the records ahead of it that are ignored. -/
def State.popRec (s : State) (r : CmpRec) : State :=
  let c := r.link / 16
  s.setFifo c (((s.fifo c).erase r).filter fun x => x.held || s.takesRec x || decide (r.order < x.order))

/-- The slice has taken its record of this cc (R112). -/
def State.setTaken (s : State) (slice : Nat) : State := { s with cyc := { s.cyc with taken := slice :: s.cyc.taken } }

/-- The next record of a slice, taken if its KIND is one of those named, or reserved (R64).  A slice takes at most one record in a cc, so a further
one is taken in the next cc (R112); none is taken while the walk queue holds completions (R138). -/
def State.takeRec (s : State) (slice : Nat) (kinds : List Nat) (f : State → CmpRec → State) : State :=
  let s := (s.nextCcIf (s.cyc.taken.contains slice)).sliceChecks slice
  if s.dr.bp then s
  else match s.frontRec slice with
    | none => s
    | some r =>
      if 6 ≤ r.kind ∧ r.kind ≤ 14 then ((s.setTaken slice).popRec r).relinkLost r.link E.LINK_PROTOCOL Reg.DS_LINK_CMD_STATUS_LOST
      else if kinds.contains r.kind then f ((s.setTaken slice).popRec r) r
      else s

/-- A protocol error of a record (R64). -/
def State.protocolErr (s : State) (r : CmpRec) : State := s.relinkLost r.link E.LINK_PROTOCOL Reg.DS_LINK_CMD_STATUS_LOST

/-- A task has left its link: a DRAIN that waits for it counts its time from now (R142), the next control record may go, and a KILL that the
record answers is over. -/
def State.leaveLink (s : State) (r : CmpRec) : State :=
  let s := s.dropTask r.link r.node r.ngen
  let s := s.updLink r.link fun l => { l with ctrl := l.ctrl.map fun c =>
    let rest := c.mustDrain.filter fun x => !(x.1 == r.node && x.2 == r.ngen)
    { c with gc := if c.mustDrain ≠ [] ∧ rest = [] then s.now else c.gc, mustDrain := rest } }
  let answered := r.kind == 3 && (match (s.link r.link).ctrl with
    | some c => c.rectype == 1 && c.node == r.node && c.ngen == r.ngen
    | none => false)
  if answered then (s.updLink r.link fun l => { l with ctrl := none }).nextCtrl r.link else s

/-- Whether a terminal record ends its task well: DONE or DONE_STAT with VALUE 0 (R413). -/
def CmpRec.ok (r : CmpRec) : Bool := decide (r.kind ≤ 1) && r.value == 0

/-- The COMPLETE record of the trace (R508), stamped as R56 says. -/
def State.traceComplete (s : State) (r : CmpRec) (part : Nat) : State :=
  s.traceAt 3 (some part) (2 ^ 22 * r.link + 2 ^ 31 * b2n r.ok + 2 ^ 32 * r.node + 2 ^ 52 * r.ngen) 0 r.gc

/-- The telemetry VALUE of a DONE_STAT record joins the accumulator of its step tag (R296). -/
def State.telemetry (s : State) (part tag v : Nat) : State :=
  if tag = 0 ∨ s.tagDead tag ∨ (s.step? tag).isNone then s
  else
    let t : Telem := match s.mh.telem.find? fun t => t.tag == tag && t.part == part with
      | some t => t
      | none => ⟨tag, part, 0, 0, 0, 0⟩
    let bad := s.build.isFull && (bit v 15 || bits v 14 7 == 255)
    let t := { t with max := Nat.max t.max v }
    let t := if bad then { t with bad := t.bad + 1 }
      else { t with count := t.count + 1, sum := if s.build.isFull then f32Add t.sum (f32OfBf16 v) else (t.sum + v) % 2 ^ 64 }
    { s with mh := { s.mh with telem := t :: s.mh.telem.filter fun x => !(x.tag == tag && x.part == part) } }

/-- A task of a link ended badly (R113, R436): its node is FAULTED and its launch is killed. -/
def State.taskFault (s : State) (link : Nat) (t : OutTask) (code : Nat) : State :=
  let s := s.setNd t.node Nd.STATE 8
  let s := s.report E.TASK_FAULT (some t.part) (mkTag t.node t.ngen) (code + 2 ^ 16 * link)
  s.killLaunch t.slot E.TASK_FAULT.code false

/-- The node of a task that completed enters WALKING (R113). -/
def State.taskWalks (s : State) (t : OutTask) : State := (s.progress t.slot).enterWalk t.node false

/-- A terminal record is accepted for an outstanding task: it leaves the link, its credit goes back and its time is charged. -/
def State.intake (s : State) (r : CmpRec) (t : OutTask) : State :=
  let s := (s.leaveLink r).cmpCredit r.link 1
  let s := s.chargeTask r.link t r.gc r.ok true
  s.traceComplete r t.part

/-- A record that carries a dead step tag is counted as Chaff (R238). -/
def State.chaffRec (s : State) (r : CmpRec) (t : OutTask) : State := if s.tagDead r.stepTag then s.chaff t.part 1 else s

/-- A terminal record (R112 to R114).  `f` is what a record of this KIND does to a node in ISSUED of a RUNNING launch. -/
def State.terminal (s : State) (r : CmpRec) (f : State → OutTask → State) : State :=
  match (s.link r.link).task? r.node r.ngen with
  | none => s.protocolErr r
  | some t =>
    let s := (s.intake r t).chaffRec r t
    match t.job with
    | some k => if r.ok ∧ t.killSent = 0 then s.jobDone k t.ngen else s.failJob k t.ngen
    | none =>
      match s.sl t.slot Sl.STATE with
      | 3 => (f s t).tryFinishKill t.slot
      | 5 => (s.setNd t.node Nd.STATE 9).tryFinishKill t.slot
      | _ => (s.setNd t.node Nd.STATE 9).settleDone t.slot

/-- A DONE record. -/
def State.onDone (s : State) (r : CmpRec) : State :=
  s.terminal r fun s t => if r.value = 0 then s.taskWalks t else s.taskFault r.link t r.value

/-- A DONE_STAT record. -/
def State.onDoneStat (s : State) (r : CmpRec) : State :=
  s.terminal r fun s t => (s.telemetry t.part r.stepTag r.value).taskWalks t

/-- A FAULT record. -/
def State.onFault (s : State) (r : CmpRec) : State := s.terminal r fun s t => s.taskFault r.link t r.value

/-- A KILLED record (R113): after the KILL of a task timeout its node is FAULTED and the launch is killed; after another KILL the node is
KILLED; without a KILL it is a fault with code 0. -/
def State.onKilled (s : State) (r : CmpRec) : State :=
  s.terminal r fun s t =>
    match t.killSent with
    | 0 => s.taskFault r.link t 0
    | 1 => (s.setNd t.node Nd.STATE 8).killLaunch t.slot E.TASK_TIMEOUT.code false
    | _ => s.setNd t.node Nd.STATE 9

/-- A SPAWN record (R64, R131, R132, R136): its descriptor is read, with its place in the spawn queue. -/
def State.onSpawn (s : State) (r : CmpRec) : State :=
  match (s.link r.link).task? r.node r.ngen with
  | none => s.protocolErr r
  | some t =>
    if (s.link r.link).proto = 1 then s.protocolErr r
    else
      let s := (s.cmpCredit r.link 1).chaffRec r t
      match t.job with
      | some k => (s.reportPlain E.SPAWN_DENIED (some t.part)).failJob k t.ngen
      | none =>
        if s.sl t.slot Sl.STATE ≠ 3 then s
        else
          let tag := mkTag t.node t.ngen
          if !t.spawnEn ∨ !(s.link r.link).spawn ∨ s.poolSize = 0 then s.killWith t.slot E.SPAWN_DENIED tag
          else if 1024 ≤ s.dr.spawnQ.length then s.killWith t.slot E.SPAWN_OVERFLOW tag
          else
            let id := s.dr.spawnNext
            let w : Spawn := ⟨id, t.node, t.slot, t.launchId, none⟩
            let s := { s with dr := { s.dr with spawnQ := s.dr.spawnQ ++ [w], spawnNext := id + 1 } }
            let base := 2 ^ 6 * s.rf (Reg.DR_SPAWN_BASE_LO t.part) + 2 ^ 32 * s.rf (Reg.DR_SPAWN_BASE_HI t.part)
            (s.mmRead (base + 64 * r.value) 1 t.part 1 2 (.spawn id)).1

/-- A link returns to UP (R143): a wake binding on it is over (R254). -/
def State.backUp (s : State) (i : Nat) : State :=
  let s := s.updLink i fun l => { l with lstate := 2, ctrl := none }
  let s := match s.bindOf i with
    | some b => s.freeBind b.idx
    | none => s
  s.nextCtrl i

/-- A CTRL_ACK completes the link's outstanding control record (R113, R139, R142).  That of a KILL says, by VALUE 1, that the terminal record is on
its way: its time goes on from the KILL (R141), whatever VALUE is (notes/assumptions/26.md). -/
def State.onAck (s : State) (r : CmpRec) : State :=
  let i := r.link
  match (s.link i).ctrl with
  | none => s.protocolErr r
  | some c =>
    match c.rectype with
    | 14 =>
      let s := s.cmpCredit i 4
      s.updLink i fun l => { l with lstate := 2, ctrl := none, creditsAdv := l.adv, creditsNow := l.adv, proto := l.agreed, offers := 0 }
    | 1 =>
      let s := s.cmpCredit i 1
      (s.updLink i fun l => { l with ctrl := none }).nextCtrl i
    | 4 =>
      let s := s.cmpCredit i 1
      let s := if c.byCmd then s.endLinkCmd i Reg.DS_LINK_CMD_STATUS_ACKED else s
      (s.updLink i fun l => { l with ctrl := none }).nextCtrl i
    | 2 =>
      let s := s.cmpCredit i 1
      let s := if c.byCmd then s.endLinkCmd i Reg.DS_LINK_CMD_STATUS_ACKED else s
      s.backUp i
    | _ =>
      let s := s.cmpCredit i 1
      let s := if (s.link i).wakeCmd then s.endLinkCmd i Reg.DS_LINK_CMD_STATUS_ACKED else s
      (s.updLink i fun l => { l with wakeCmd := false }).backUp i

/-- A LINKUP_REPLY (R60, R61, R64): CLASS and CREDITS are checked first; a reply that passes returns its credit and is confirmed. -/
def State.onReply (s : State) (r : CmpRec) : State :=
  let i := r.link
  if !(s.link i).offerOut then s.protocolErr r
  else
    let w := [r.w0, r.w1]
    let mx := pf w 0 7 0
    let mn := pf w 0 15 8
    let cls := pf w 0 19 16
    let cr := pf w 0 23 20
    let agreed := Nat.min mx 2
    let s := s.updLink i fun l =>
      { l with stale := false, offerOut := false, cls := cls, adv := cr, telem := pf w 0 24 24 == 1, spawn := pf w 0 25 25 == 1, engineId := r.w1.toNat }
    let failed := fun (e : Err) => (s.updLink i fun l => { l with lstate := 6 }).reportLink e i
    if cls = 7 ∨ (cls = 6 ∧ agreed = 1) ∨ cr = 0 ∨ 8 < cr then failed E.LINK_CLASS
    else if agreed < Nat.max mn 1 then failed E.LINK_VERSION
    else
      let s := s.cmpCredit i 1
      let s := s.updLink i fun l => { l with agreed := agreed }
      s.driveCtrl i ⟨14, 0, 0, false, s.now, []⟩

/-- What a slice does with a record of any KIND. -/
def State.onRec (s : State) (r : CmpRec) : State :=
  match r.kind with
  | 0 => s.onDone r
  | 1 => s.onDoneStat r
  | 2 => s.onFault r
  | 3 => s.onKilled r
  | 4 => s.onSpawn r
  | 5 => s.onAck r
  | 15 => s.onReply r
  | _ => s.protocolErr r

/-! ### Commands -/

/-- COMPLETION_ARRIVE (R56). -/
def execCompletionArrive (link : Nat) (w0 w1 : BitVec 32) (s : State) : Host.Outcome State Fault Refusal :=
  .next (if s.portOn .eng then s.acceptRec link w0 w1 else s)

/-- COMPLETION_DONE (R113). -/
def execCompletionDone (slice : Nat) (s : State) : Host.Outcome State Fault Refusal := .next (s.takeRec slice [0] State.onDone)

/-- COMPLETION_DONE_STAT (R113, R296). -/
def execCompletionDoneStat (slice : Nat) (s : State) : Host.Outcome State Fault Refusal := .next (s.takeRec slice [1] State.onDoneStat)

/-- COMPLETION_FAULT (R113). -/
def execCompletionFault (slice : Nat) (s : State) : Host.Outcome State Fault Refusal := .next (s.takeRec slice [2] State.onFault)

/-- COMPLETION_KILLED (R113). -/
def execCompletionKilled (slice : Nat) (s : State) : Host.Outcome State Fault Refusal := .next (s.takeRec slice [3] State.onKilled)

/-- COMPLETION_SPAWN (R131 to R136). -/
def execCompletionSpawn (slice : Nat) (s : State) : Host.Outcome State Fault Refusal := .next (s.takeRec slice [4] State.onSpawn)

/-- CTRL_ACK (R139). -/
def execCtrlAck (slice : Nat) (s : State) : Host.Outcome State Fault Refusal := .next (s.takeRec slice [5] State.onAck)

/-- LINKUP_REPLY (R61). -/
def execLinkupReply (slice : Nat) (s : State) : Host.Outcome State Fault Refusal := .next (s.takeRec slice [15] State.onReply)

end Sys2Proof.Machine
end

