-- ==== Sys2Proof/Machine/Link.lean ====
section
/-! DEFINITION. A dispatch link comes up and goes down (R54, R57, R59, R62, R63). -/

namespace Sys2Proof.Machine

/-- dl_present rises: the count of R59 begins. -/
def Link.rise (cc : Nat) (l : Link) : Link := if l.present then l else { l with present := true, presentCc := cc }

/-- The block sees dl_present rise. -/
def State.presentRise (s : State) (i : Nat) : State := if s.build.links ≤ i then s else s.updLink i (Link.rise s.cc)

/-- The records of a link that were accepted before dl_present fell are applied (R63). -/
def State.drainRecs (s : State) (i : Nat) : State :=
  ((s.fifo (i / 16)).filter fun r => r.link == i && !r.held).foldl (fun s r => if s.takesRec r then (s.popRec r).onRec r else s) s

/-- A link that is not up goes back to DOWN without an error: a link-up in progress is abandoned and the offer count starts again (R63). -/
def Link.toDown (l : Link) : Link :=
  { l with lstate := 0, offerOut := false, offers := 0, reoffer := false, ctrl := none, ctrlQ := [] }

/-- A link whose engine is no longer seen: one that was up is lost, after the records accepted before have been applied (R63, R479). -/
def State.linkAway (s : State) (i : Nat) : State :=
  if s.linkUp i then (s.drainRecs i).loseLink i E.LINK_LOST Reg.DS_LINK_CMD_STATUS_LOST
  else (s.endLinkCmd i Reg.DS_LINK_CMD_STATUS_LOST).updLink i Link.toDown

/-- The block sees dl_present fall (R63). -/
def State.presentFall (s : State) (i : Nat) : State :=
  if !(s.link i).present then s else (s.linkAway i).updLink i fun l => { l with present := false }

/-- One issue credit comes back (R54, R57, R64). -/
def State.issCredit (s : State) (i : Nat) : State :=
  if !s.linkUp i then s
  else
    let l := s.link i
    let s := match l.irqOut with
      | [] => s
      | _ :: rest =>
        let s := s.updLink i fun l => { l with irqOut := rest }
        if rest = [] then s.emit (.dlIrq i false) else s
    if l.creditsAdv ≤ l.creditsNow then s.relinkLost i E.LINK_PROTOCOL Reg.DS_LINK_CMD_STATUS_LOST
    else s.updLink i fun l => { l with creditsNow := l.creditsNow + 1 }

/-! ### Commands -/

/-- The level at dl_present of a link.  While the link's inputs are ignored nothing else is noted of it (R79, R479). -/
def State.setPresentPin (s : State) (i : Nat) (b : Bool) : State :=
  if s.build.links ≤ i then s else s.updLink i fun l => { l with pin := b }

/-- The links' inputs are seen again, after isolation or a reset: each link is at the level of its pin, and the count of R59 begins again for
every link that is not up; a link that was up and whose engine has gone is lost. -/
def State.seeLinks (s : State) : State :=
  if !s.portOn .eng then s
  else
    let s := ((s.ds.links.filter fun l => l.present && !l.pin).map (·.id)).foldl (fun s i => s.presentFall i) s
    s.updLinks fun l => if 2 ≤ l.lstate ∧ l.lstate ≤ 5 then l else { l with present := l.pin, presentCc := s.cc }

/-- The ec for which dl_present must have been high before link-up (R59), in core cycles: two ec in each at the nominal clocks (R23). -/
def presentCcs : Nat := 256 / 2

/-- DL_PRESENT_RISE (R59). -/
def execDlPresentRise (link : Nat) (s : State) : Host.Outcome State Fault Refusal :=
  .next ((s.setPresentPin link true).input .eng (.dlPresentRise link) fun s => s.presentRise link)

/-- A rise of dl_present that is still held when it falls again is never admitted (R35, R378). -/
def State.dropRise (s : State) (i : Nat) : State :=
  { s with dc := { s.dc with held := s.dc.held.filter fun h => h.input != .dlPresentRise i } }

/-- In grain-locked mode the DC logs the fall of dl_present with the epoch that runs (R384, R385). -/
def State.logFall (s : State) (i : Nat) : State :=
  if s.holds ∧ (s.link i).present then s.logRec 7 none [BitVec.ofNat 32 (2 ^ 12 + i)] else s

/-- In replay mode a live fall of dl_present uses up its LINK record; without one replay diverges (R390). -/
def State.replayFall (s : State) (i : Nat) : State :=
  if !s.replaying ∨ !(s.link i).present then s
  else match s.takeReplay fun r => pf r 0 7 0 == 7 && pf r 3 15 12 == 1 && pf r 3 8 0 == i with
    | (s, some _) => s
    | (s, none) => s.diverge

/-- DL_PRESENT_FALL (R63, R384): the link leaves selection at once in every mode. -/
def execDlPresentFall (link : Nat) (s : State) : Host.Outcome State Fault Refusal :=
  let s := s.setPresentPin link false
  .next (if s.portOn .eng then (((s.logFall link).dropRise link).replayFall link).presentFall link else s)

/-- LINKUP_START (R59): a DOWN link that has been present for 256 ec is offered link-up while the DS is enabled. -/
def execLinkupStart (link : Nat) (s : State) : Host.Outcome State Fault Refusal :=
  .next (if s.portOn .eng ∧ s.unitEn U.DS ∧ !s.noOffers ∧ (s.link link).present ∧ (s.link link).presentCc + presentCcs ≤ s.cc ∧
      (s.link link).lstate = 0 then
      (s.updLink link fun l => { l with offers := 0 }).offerLink link
    else s)

/-- LINKUP_TIMEOUT (R62): an offer that no reply has answered for 10 µs; the third leaves the link FAILED. -/
def execLinkupTimeout (link : Nat) (s : State) : Host.Outcome State Fault Refusal :=
  let l := s.link link
  .next (if l.lstate = 1 ∧ l.offerOut ∧ s.due l.offerGc 10000 ∧ !((s.fifo (link / 16)).any fun r => r.link == link && r.kind == 15) then
      let s := s.reportLink E.LINK_TIMEOUT link
      s.updLink link fun l =>
        if 3 ≤ l.offers then { l with lstate := 6, offerOut := false } else { l with offerOut := false, reoffer := true }
    else s)

/-- LINKUP_REOFFER (R62): 1 ms after an unanswered offer. -/
def execLinkupReoffer (link : Nat) (s : State) : Host.Outcome State Fault Refusal :=
  let l := s.link link
  .next (if s.portOn .eng ∧ l.lstate = 1 ∧ l.reoffer ∧ l.present ∧ s.due l.offerGc 1000000 ∧ !s.noOffers then s.offerLink link else s)

/-- DL_ISS_CREDIT (R54). -/
def execDlIssCredit (link : Nat) (s : State) : Host.Outcome State Fault Refusal :=
  .next (if s.portOn .eng then s.issCredit link else s)

end Sys2Proof.Machine
end

