-- ==== Sys2Proof/Machine/Boot.lean ====
section
/-! DEFINITION. Bring-up, resets and power (R477 to R492). -/

namespace Sys2Proof.Machine

/-! ### The boot sequence (R478, R480 to R482) -/

/-- The step of the boot sequence that runs. -/
def State.phase (s : State) : Nat := s.rf Reg.THR_BOOT_STATUS_PHASE

/-- The state with the next step of the boot sequence running. -/
def State.setPhase (s : State) (n : Nat) : State := s.setRf Reg.THR_BOOT_STATUS_PHASE n

/-- BOOT_START (R478). -/
def execBootStart (s : State) : Host.Outcome State Fault Refusal :=
  .next (if s.phase = 0 ∧ !s.pins.isoEn ∧ !s.pins.rstCore ∧ !s.pins.rstReg then s.setPhase 1 else s)

/-- BOOT_CLEAR_DONE (R480, R482): a block restart keeps Thresher memory and skips COPY. -/
def execBootClearDone (s : State) : Host.Outcome State Fault Refusal :=
  .next (if s.phase ≠ 1 ∨ s.rb Reg.THR_MBIST_STATUS_RUNNING then s
    else if s.thr.restart then s.setPhase 3
    else
      let s := s.clearUnits.setPhase 2
      { s with ecc := [], thr := { s.thr with mem := .zero, mbist := false } })

/-- BOOT_COPY_DONE (R480). -/
def execBootCopyDone (s : State) : Host.Outcome State Fault Refusal :=
  .next (if s.phase = 2 then { s.setPhase 3 with thr := { s.thr with mem := .rom } } else s)

/-- A big-endian number. -/
def beNat (bs : List Nat) : Nat := bs.foldl (fun a b => a * 256 + b) 0

/-- The 48-byte big-endian number in 12 words of the image. -/
def State.fwNum (s : State) (a : Nat) : Nat := beNat (bytesOf (s.fwWords a 12))

/-- Whether MAGIC, LENGTH and ENTRY are as stated and the reserved words 0. -/
def State.fwFormatOk (s : State) : Bool :=
  let n := s.fwLength
  let e := (s.fwWord 3).toNat
  s.fwWord 0 == 0x54484657#32 && n % 128 == 0 && decide (128 ≤ n) && decide (n ≤ 524032) && e % 4 == 0 && decide (e < n) &&
    (s.fwWords 4 12).all (· == 0#32)

/-- The first check of R481 that fails. -/
def State.fwFault (s : State) : Option Err :=
  if !s.fwFormatOk then some E.FW_FORMAT
  else if wget (s.fwWord 1) 31 24 ≠ wget (s.reg Reg.GLB_BLOCK_VERSION_A) 31 24 then some E.FW_VERSION
  else if sha384 (bytesOf (s.fwWords 16 24)) ≠ bytesOf ((List.range 12).map Config.keyDigest) then some E.FW_KEY
  else if s.imageBad ∨ !ecdsaOk (s.fwNum 16) (s.fwNum 28) (s.fwNum 40) (s.fwNum 52) (beNat s.fwDigest) then some E.FW_SIGNATURE
  else none

/-- BOOT_VERIFY_DONE (R481, R482). -/
def execBootVerifyDone (s : State) : Host.Outcome State Fault Refusal :=
  .next (if s.phase ≠ 3 then s
    else match s.fwFault with
      | some e => (((s.setPhase 6).setRf Reg.THR_BOOT_STATUS_CODE e.code).reportPlain e none).maybeQuiesce
      | none => (s.setPhase 4).setRf Reg.THR_FW_BYTES (160 + s.fwLength))

/-- The identity record of R405: its FW_VERSION is that of the image, which GLB_FW_VERSION will show (notes/assumptions/21.md). -/
def State.bootIdentity (s : State) : List Word := (s.identity.set 1 (s.fwWord 1)) ++ zeros 10

/-- BOOT_MEASURE_DONE (R405, R480): the two extends, and the Thresher starts.  After a block restart the scrubs of its locked partitions
begin (R435). -/
def execBootMeasureDone (s : State) : Host.Outcome State Fault Refusal :=
  .next (if s.phase ≠ 4 then s
    else
      let s := (((s.extend 0 s.fwDigest).extend 0 (sha384 (bytesOf s.bootIdentity))).setFinal 0 true).setPhase 5
      let s := { s with thr := { s.thr with restart := false, digest := s.fwDigest }, ifm := { s.ifm with thrHold := false, hbGc := s.now } }
      s.nextTear.maybeQuiesce)

/-- FIRMWARE_START (R39, R480). -/
def execFirmwareStart (s : State) : Host.Outcome State Fault Refusal :=
  .next (if s.phase = 5 ∧ !s.thr.mbist ∧ s.reg Reg.GLB_FW_VERSION_A = 0#32 then s.setReg Reg.GLB_FW_VERSION_A (s.fwWord 1) else s)

/-! ### Resets (R479) -/

/-- Set or clear the reset pin of a clock domain. -/
def Pins.setReset (p : Pins) (d : ResetDom) (b : Bool) : Pins :=
  match d with
  | .core => { p with rstCore := b }
  | .eng => { p with rstEng := b }
  | .noc => { p with rstNoc := b }
  | .fab => { p with rstFab := b }
  | .reg => { p with rstReg := b }

/-- The block as at power-on: what stays is the build, the levels at its inputs, the TAP, and what has been driven. -/
def State.powerOn (s : State) : State :=
  let r := State.reset
  { r with build := s.build, cc := s.cc, tb := { r.tb with sinceCc := s.cc }, pins := { s.pins with pwrAck := false, fcOut := [] },
           tap := s.tap, free := s.free, out := s.out, pending := s.pending,
           ds := { r.ds with links := s.ds.links.map Link.cleared }, fab := Fabric.off s.fab.present }

/-- Whether one of the resets of R479's last row is asserted. -/
def Pins.coldReset (p : Pins) : Bool := p.rstCore || p.rstNoc || p.rstReg

/-- RESET_ASSERT (R479). -/
def execResetAssert (dom : ResetDom) (s : State) : Host.Outcome State Fault Refusal :=
  if s.pins.inReset dom then .next s
  else
    let set := fun (s : State) => { s with pins := s.pins.setReset dom true }
    .next (match dom with
      | .eng => (s.ds.links.map (·.id)).foldl (fun s i => s.presentFall i) (set s.lowerIrqs)
      | .fab => (set s).fpFall
      | _ => (set s.lowerIrqs).powerOn)

/-- RESET_RELEASE (R479). -/
def execResetRelease (dom : ResetDom) (s : State) : Host.Outcome State Fault Refusal :=
  if !s.pins.inReset dom then .next s
  else
    let s := { s with pins := s.pins.setReset dom false }
    .next s.seeLinks.seeFabric

/-! ### Quiescing (R486, R487, R492) -/

/-- PWR_REQ_RISE (R486). -/
def execPwrReqRise (s : State) : Host.Outcome State Fault Refusal :=
  .next { s with pins := { s.pins with pwrReq := true } }.maybeQuiesce

/-- Kill the ISSUED tasks of every launch that has one, and those of the PSC (R486 step 3). -/
def State.quiesceKill (s : State) : State :=
  let ts := s.ds.links.flatMap fun l => l.tasks.map fun t => (l.id, t)
  let slots := ((ts.filter fun x => x.2.job.isNone).map fun x => x.2.slot).eraseDups
  let s := (slots.filter fun k => s.live k && s.sl k Sl.STATE != 5).foldl (fun s k =>
    (s.reportNode E.QUIESCE_KILL (s.sl k Sl.PART) 0 (s.sl k Sl.LAUNCH_ID)).killLaunch k E.QUIESCE_KILL.code true) s
  ts.foldl (fun s x => s.killTask x.2.node x.2.ngen 2) s

/-- Every fabric request without a reply fails as timed out. -/
def State.fabTimedOut (s : State) : State :=
  let s := (s.dr.sendQ.filter fun e => e.seq.isSome).foldl (fun s e => s.failEdge e E.REMOTE_EDGE_TIMEOUT) s
  let s := s.fe.signals.foldl (fun s g => (s.reportSignal (some g.who) g.part E.SIGNAL_TIMEOUT).signalDone g E.SIGNAL_TIMEOUT.code 0) s
  let s := s.mh.sends.foldl (fun s x => (s.reportPlain E.MSG_REMOTE_TIMEOUT (some x.part)).endSend x 5 E.MSG_REMOTE_TIMEOUT.code) s
  let s := s.sm.msgs.foldl (fun s m => s.failSheafMsg m E.SHEAF_REMOTE false) s
  s.dr.departs.foldl (fun s d => s.endDepart d false) s

/-- QUIESCE_TIMEOUT (R486 step 3). -/
def execQuiesceTimeout (s : State) : Host.Outcome State Fault Refusal :=
  let us := s.rf Reg.THR_CTRL_QUIESCE_US
  .next (if s.rf Reg.THR_PWR_STATUS_PSTATE = 1 ∧ us ≠ 0 ∧ !s.thr.quiesceKilled ∧ s.thr.quiesceGc + 1000 * us ≤ s.gc then
      { s with thr := { s.thr with quiesceKilled := true } }.quiesceKill.fabTimedOut
    else s)

/-- Whether everything of R486 step 2 holds, the DC is disabled, and no restart runs (R492). -/
def State.quiet (s : State) : Bool :=
  s.ds.links.all (fun l => l.tasks.isEmpty) && s.mm.busy.isEmpty && s.mm.waiting.isEmpty &&
    s.fe.signals.isEmpty && s.mh.sends.isEmpty && s.sm.msgs.isEmpty && s.dr.departs.isEmpty &&
    s.drEmpty &&
    !s.fe.slow.any (fun e => decide (e.phase = .running)) && s.pau.locking.isNone && s.pau.tear.isNone && s.pau.tearQ.isEmpty &&
    s.unitOff U.DC && !s.restarting && !s.rb Reg.IFM_STATUS_REBUILD && decide (s.rf Reg.IFM_STATUS_SLICE_DOWN = 0)

/-- QUIESCE_DONE (R486 step 4). -/
def execQuiesceDone (s : State) : Host.Outcome State Fault Refusal :=
  .next (if s.rf Reg.THR_PWR_STATUS_PSTATE = 1 ∧ s.quiet then
      { s.setRf Reg.THR_PWR_STATUS_PSTATE 2 with pins := { s.pins with pwrAck := true } }
    else s)

/-- A link's timeouts start again. -/
def Link.restamp (t : Nat) (l : Link) : Link :=
  { l with offerGc := t, wakeGc := t, ctrl := l.ctrl.map fun c => { c with gc := t },
           tasks := l.tasks.map fun x => { x with issueNow := t, killGc := if x.killGc = 0 then 0 else t + 1 } }

/-- Every timeout that was running when pwr_ack rose starts again from zero (R487). -/
def State.restamp (s : State) : State :=
  let t := s.now
  let cur := fun (c : Cur) => { c with since := t }
  let at_ := fun (o : Option Nat) => o.map fun _ => t
  { s with
    tb := { s.tb with sinceCc := s.cc },
    fe := { s.fe with
      signals := s.fe.signals.map fun g => { g with sentGc := t },
      queues := s.fe.queues.map fun (x : Queue) => { x with park := x.park.map cur },
      heads := s.fe.heads.map fun (h : Head) => { h with cur := h.cur.map cur } },
    gs := { s.gs with launches := s.gs.launches.map fun l => { l with acceptGc := t, lastProgressGc := t } },
    dr := { s.dr with
      ready := s.dr.ready.map fun e => { e with noEngineSince := at_ e.noEngineSince },
      sendQ := s.dr.sendQ.map fun e => { e with sentGc := t, resendGc := at_ e.resendGc },
      departs := s.dr.departs.map fun d => { d with sentGc := t } },
    ds := { s.ds with links := s.ds.links.map (Link.restamp t), sliceDown := s.ds.sliceDown.map fun x => (x.1, t) },
    sm := { s.sm with
      binds := s.sm.binds.map fun b => { b with gc := t },
      sheaves := s.sm.sheaves.map fun x => { x with firstGc := at_ x.firstGc, nextGc := at_ x.nextGc } },
    mh := { s.mh with
      sends := s.mh.sends.map fun x => { x with sentGc := t },
      stooks := s.mh.stooks.map fun x => { x with pending := at_ x.pending } },
    ifm := { s.ifm with hbGc := t, patrolGc := t, log := s.ifm.log.map fun e => { e with retryGc := at_ e.retryGc } } }

/-- pwr_ack falls: the block is ACTIVE again, its timeouts restart, and it returns the request-channel credits that it withheld. -/
def State.resume (s : State) : State :=
  { s.setRf Reg.THR_PWR_STATUS_PSTATE 0 with pins := { s.pins with pwrAck := false } }.settleCredits

/-- PWR_REQ_FALL (R488, R492). -/
def execPwrReqFall (s : State) : Host.Outcome State Fault Refusal :=
  let s := { s with pins := { s.pins with pwrReq := false } }
  .next (match s.rf Reg.THR_PWR_STATUS_PSTATE with
    | 1 => s.resume
    | 2 => if s.pins.isoEn then s else s.resume.restamp
    | _ => s)

/-! ### Isolation and retention (R488 to R491) -/

/-- ISO_EN_RISE (R491): with pwr_ack low, and the block not held in reset, it is a surprise isolation. -/
def execIsoEnRise (s : State) : Host.Outcome State Fault Refusal :=
  let s := { s.lowerIrqs with pins := { s.pins with isoEn := true } }
  .next (if s.pins.pwrAck ∨ s.pins.coldReset then s
    else { s.setRf Reg.THR_PWR_STATUS_SURPRISE 1 with thr := { s.thr with surprise := true } })

/-- The end of a surprise isolation (R491): what was outstanding at the ports is lost, and the block restarts.  Before COPY has ended there is
no image to keep, and the boot sequence goes on. -/
def State.endSurprise (s : State) : State :=
  let s : State := { s with thr := { s.thr with surprise := false }, mm := { busy := [], waiting := [] } }
  let s := s.reportPlain E.SURPRISE_ISOLATION none
  let s := if decide (s.thr.mem = ThrMem.rom) && !s.thr.mbist then s.blockRestart else s
  s.fpFall

/-- Leaving RETAINED (R489): every link starts at DOWN, the fabric link comes up anew, and nothing is decoded or issued before the first
gc_sync. -/
def State.endRetention (s : State) : State :=
  let old := if s.fab.up then some s.self else none
  let s := { s with ds := { s.ds with links := s.ds.links.map Link.cleared }, thr := { s.thr with retained := false, needSync := true } }
  let s := s.fpFall
  { s with thr := { s.thr with oldSelf := old } }

/-- ISO_EN_FALL (R488, R489, R491). -/
def execIsoEnFall (s : State) : Host.Outcome State Fault Refusal :=
  if !s.pins.isoEn then .next s
  else
    let s := { s with pins := { s.pins with isoEn := false } }
    let s : State := if s.pins.coldReset then s
      else if s.thr.surprise then s.endSurprise
      else if s.thr.retained then s.endRetention
      else s
    let s : State := s.seeLinks.raiseIrqs.seeFabric
    .next (if s.pins.pwrAck ∧ !s.pins.pwrReq then s.resume.restamp else s)

/-- RET_EN_CHANGE (R488): ret_en is honoured only while pwr_ack and iso_en are both high. -/
def execRetEnChange (level : Bool) (s : State) : Host.Outcome State Fault Refusal :=
  let s := { s with pins := { s.pins with retEn := level } }
  .next (if level ∧ s.pins.pwrAck ∧ s.pins.isoEn then { s with thr := { s.thr with retained := true } } else s)

end Sys2Proof.Machine
end

