-- ==== Sys2Proof/Machine/Deal.lean ====
section
/-! DEFINITION. The deal of one cc (R120 to R129, R144, R356, R382): candidates, cluster and link, and the issue of a task. -/

namespace Sys2Proof.Machine

/-- Whether the Rachis deals nothing: the DS or the DR is off, the block is halted, a list rebuild or a DR restart runs (R424,
R425), or grain-locked mode waits for quiescence (R376). -/
def State.dealStopped (s : State) : Bool :=
  !s.unitEn U.DS || !s.unitEn U.DR || s.halted || s.rb Reg.IFM_STATUS_REBUILD || s.rb Reg.IFM_STATUS_DR_RESTART || s.rb Reg.DC_STATUS_WAITING

/-- Whether a slice has issued in this cc (R123, R124). -/
def State.sliceUsed (s : State) (slice : Nat) : Bool := s.ds.issued.any fun x => x.1 == slice && x.2 == s.cc

/-- Whether a slice is down for a restart (R432). -/
def State.sliceIsDown (s : State) (slice : Nat) : Bool := bit (s.rf Reg.IFM_STATUS_SLICE_DOWN) slice

/-- The selectable links of a class in a cluster with a free credit, rising. -/
def State.dealLinks (s : State) (c cls : Nat) : List Nat :=
  ((List.range 16).map (· + 16 * c)).filter fun i => s.selectable i && (s.link i).cls == cls && decide (0 < s.dealCredits i)

/-- The clusters eligible for a task (R124). -/
def State.eligible (s : State) (p cls : Nat) : List Nat :=
  (List.range s.build.clusters).filter fun c =>
    s.clusterOk p c && !s.sliceUsed (c / 2) && !s.sliceIsDown (c / 2) && !(s.dealLinks c cls).isEmpty

/-- The keys of R124 as one number, the smallest first: temperature unless it is left out (R382), then the free credits, then
the cluster number through the order of the list. -/
def State.clusterKey (s : State) (cls c : Nat) : Nat :=
  let t := if s.rb Reg.DS_SELECT_TEMP_STEER ∧ !s.holds then (temp12 (s.rf (Reg.BG_TEMP_NOW_TEMP c)) + 2048).toNat else 0
  let free := ((s.dealLinks c cls).map s.dealCredits).foldl (· + ·) 0
  2 ^ 16 * t + (2 ^ 16 - 1 - free)

/-- The link of a cluster with the most free credits, the lowest number on a tie (R125). -/
def State.bestLink (s : State) (c cls : Nat) : Option Nat := maxBy s.dealCredits (s.dealLinks c cls)

/-- A candidate is passed over for a reason; its REFUSE record is emitted the first time (R508). -/
def State.passOver (s : State) (e : ReadyEnt) (part reason : Nat) : State :=
  if e.refusedFor.contains reason then s
  else
    let mark := fun (x : ReadyEnt) => if x.seq == e.seq then { x with refusedFor := reason :: x.refusedFor } else x
    let s := { s with dr := { s.dr with ready := s.dr.ready.map mark } }
    s.trace 7 (some part) (2 ^ 22 * reason + 2 ^ 24 * e.cls + 2 ^ 28 * e.level + 2 ^ 32 * e.node)

/-- What a TASK record is made of. -/
structure TaskRec where
  node : Nat
  ngen : Nat
  cls : Nat
  stepTag : Nat
  level : Nat
  part : Nat
  acq : Nat
  spawnEn : Bool
  internal : Bool
  op : Nat
  arg : Nat
  slot : Nat
  launchId : Nat
  saveSet : Nat
  ecls : Nat
  job : Option Nat
deriving DecidableEq, Repr

/-- The issue record (R49); on a protocol-1 link the fields of protocol 2 are 0 (R128). -/
def State.issueWords (s : State) (i : Nat) (t : TaskRec) : List Word :=
  let p2 := (s.link i).proto == 2
  mkRec 8 [(Iss.NODE, t.node), (Iss.NGEN, t.ngen), (Iss.CLASS, t.cls), (Iss.STEP_TAG, t.stepTag), (Iss.LEVEL, t.level),
    (Iss.PART, t.part), (Iss.ENCL, b2n (s.locked t.part)), (Iss.ACQ_SCOPE, t.acq), (Iss.SPAWN_EN, b2n (t.spawnEn && p2)),
    (Iss.INTERNAL, b2n t.internal), (Iss.RECTYPE, 0), (Iss.OP_INDEX, t.op), (Iss.ARG_ADDR, t.arg % 2 ^ 32),
    (⟨4, 19, 0⟩, t.arg / 2 ^ 32), (Iss.LAUNCH_SLOT, t.slot), (Iss.LAUNCH_ID, t.launchId),
    (Iss.ISSUE_GC, if p2 then s.now % 2 ^ 32 else 0), (Iss.SAVE_SET, if p2 then t.saveSet else 0)]

/-- The DBG counters of an issue (R501): TASKS and PEAK_OUT of the link, ISSUED and the ready wait of the level. -/
def State.countIssue (s : State) (i level wait : Nat) : State :=
  if !s.dbgOn then s
  else
    let s := s.addRam64 (ramKey 0x40 (8 * i)) 1
    let out := (s.link i).tasks.length
    let k := ramKey 0x40 (8 * i + 5)
    let s := s.setRam k (BitVec.ofNat 32 (Nat.max (s.ram k).toNat out))
    let w := Nat.min (s.reg64 (Reg.DBG_WAIT_LO_A level) (Reg.DBG_WAIT_HI_A level) + wait) (2 ^ 64 - 1)
    let s := s.setReg64 (Reg.DBG_WAIT_LO_A level) (Reg.DBG_WAIT_HI_A level) w
    let s := s.incRf (Reg.DBG_ISSUED level)
    s.setRf (Reg.DBG_WAIT_MAX level) (Nat.max (s.rf (Reg.DBG_WAIT_MAX level)) (Nat.min wait (2 ^ 32 - 1)))

/-- The issue digest of a step takes an issue in (R388): word 0, the link number, and bits [31:0] of the epoch. -/
def State.digestIssue (s : State) (tag i : Nat) (w0 : Word) : State :=
  if tag = 0 then s
  else
    let crc := lookupD s.dc.digests tag 0xFFFFFFFF
    let e := if s.holds then s.epoch else 0
    let crc := [w0, BitVec.ofNat 32 i, BitVec.ofNat 32 e].foldl crcWord crc
    { s with dc := { s.dc with digests := assocSet s.dc.digests tag crc } }

/-- Raise dl_irq with a record that the running core must take before continuing (R57, R129). -/
def State.raiseIrq (s : State) (i level : Nat) (outs : List OutTask) : State :=
  let l := s.link i
  if l.cls = 6 ∧ outs ≠ [] ∧ outs.all (fun o => decide (levelRank level < levelRank o.level)) then
    let s := if l.irqOut = [] then s.emit (.dlIrq i true) else s
    s.updLink i fun l => { l with irqOut := l.irqOut ++ [level] }
  else s

/-- Issue a task on a link (R128): the credit, the record, the outstanding task, and everything that counts it. -/
def State.issue (s : State) (e : ReadyEnt) (i : Nat) (t : TaskRec) : State :=
  let outs := (s.link i).tasks
  let ws := s.issueWords i t
  let o : OutTask := ⟨t.node, t.ngen, t.job, t.level, t.part, t.cls, t.slot, t.launchId, t.stepTag, t.spawnEn,
    s.gc, s.now, s.dc.taskNo, s.epoch, t.ecls, 0, 0⟩
  let s := s.emit (.dlIssue i ws)
  let s := s.raiseIrq i t.level outs
  let s := s.updLink i fun l => { l with creditsNow := l.creditsNow - 1, tasks := l.tasks ++ [o] }
  let s := { s with ds := { s.ds with issued := assocSet s.ds.issued (i / 32) s.cc }, dc := { s.dc with taskNo := s.dc.taskNo + 1 } }
  let s := ({ s with dr := { s.dr with ready := s.dr.ready.filter fun x => x.seq != e.seq } }).cleanSlots
  let s := (s.acct t.part 40 1).countIssue i t.level (s.gc - e.gc)
  let s := s.digestIssue t.stepTag i (wordAt ws 0)
  s.trace 2 (some t.part) (2 ^ 22 * i + 2 ^ 31 * b2n t.internal + 2 ^ 32 * t.node + 2 ^ 52 * t.ngen)

/-- The record of a node's task, ARG_ADDR formed under R102. -/
def State.nodeRec (s : State) (n level : Nat) : TaskRec :=
  let slot := s.nd n Nd.LAUNCH_SLOT
  let base := (s.ram (slotRow slot + 6)).toNat + 2 ^ 32 * wget (s.ram (slotRow slot + 7)) 19 0
  { node := n, ngen := s.nd n Nd.NGEN, cls := s.nd n Nd.CLASS, stepTag := s.sl slot Sl.STEP_TAG, level := level,
    part := s.nd n Nd.PART, acq := s.nd n Nd.ACQ_SCOPE, spawnEn := s.nd n Nd.SPAWN_EN == 1, internal := false,
    op := s.nd n Nd.OP_INDEX, arg := (base + 64 * s.nd n Nd.ARG_OFFSET) % 2 ^ 52, slot := slot,
    launchId := s.sl slot Sl.LAUNCH_ID, saveSet := s.nd n Nd.SAVE_SET, ecls := s.nd n Nd.ENERGY_CLASS, job := none }

/-- The record of a PSC job's task (R362). -/
def State.jobRec (s : State) (j : Job) : TaskRec :=
  { node := j.k, ngen := j.gen, cls := 3, stepTag := 0, level := 6, part := j.part, acq := 1, spawnEn := false, internal := true,
    op := s.rf Reg.PSC_COPY_OP, arg := (s.spillBase j.part + 64 * j.k) % 2 ^ 52, slot := 0, launchId := 0, saveSet := j.saveSet,
    ecls := s.rf Reg.PSC_CTRL_ECLASS, job := some j.k }

/-- A candidate that is an internal task (R127). -/
def State.dealJob (s : State) (e : ReadyEnt) (k : Nat) : State :=
  match s.psc.jobs.find? fun j => j.k == k with
  | none => s
  | some j => match j.link with
    | none => s
    | some i =>
      if !s.selectable i ∨ s.dealCredits i = 0 ∨ s.sliceUsed (i / 32) ∨ s.sliceIsDown (i / 32) ∨ !s.spillOk i then s
      else
        let t := s.jobRec j
        let (s, _) := s.bgAdmit true j.part 3 t.ecls (i / 16) t.node t.ngen
        (s.updJob k fun j => { j with issued := true }).issue e i t

/-- A candidate that is a node: the range check of R102, the cluster, the scratchpad test of R356, the budget, the link. -/
def State.dealNode (s : State) (e : ReadyEnt) : State :=
  let n := e.node
  let slot := s.nd n Nd.LAUNCH_SLOT
  let p := s.nd n Nd.PART
  let s := (s.readNode n).slotRead slot
  if s.nd n Nd.STATE ≠ 4 then s
  else match s.nodeBad n with
  | some (err, w) => s.rowFail err 0 n w slot
  | none =>
    let limit := s.sl slot Sl.ARG_LIMIT
    if limit ≠ 0 ∧ limit ≤ s.nd n Nd.ARG_OFFSET then
      ((s.dropReady n).setNd n Nd.STATE 8).killWith slot E.ARG_RANGE (s.tag n)
    else match minBy (s.clusterKey e.cls) (s.eligible p e.cls) with
      | none => s
      | some c =>
        match s.pscTest n slot p e.level (s.nd n Nd.SAVE_SET) with
        | (s, .killed) => s
        | (s, .over) => s.passOver e p 3
        | (s, .pass claim) =>
          let t := s.nodeRec n e.level
          match s.bgAdmit false p e.cls t.ecls c n t.ngen with
          | (s, some reason) => s.passOver e p reason
          | (s, none) => match s.bestLink c e.cls with
            | none => s
            | some i =>
              let s := match claim with
                | some k => s.takeClaim k 2 p e.level t.saveSet slot (s.rm (saveRow p t.saveSet) Sv.FIRST) (s.rm (saveRow p t.saveSet) Sv.COUNT_M1 + 1)
                | none => s
              (s.setNd n Nd.STATE 5).issue e i t

/-- The tasks issued in this cc. -/
def State.issuedNow (s : State) : Nat := (s.ds.issued.filter fun x => x.2 == s.cc).length

/-- One candidate of the deal, if it is still READY and fewer than 16 tasks have been issued in this cc (R122). -/
def State.dealOne (s : State) (e : ReadyEnt) : State :=
  if 16 ≤ s.issuedNow then s
  else match s.dr.ready.find? fun x => x.seq == e.seq with
  | none => s
  | some e => match e.job with
    | some k => s.dealJob e k
    | none => s.dealNode e

/-- The candidates of a level: the first LOOKAHEAD entries of each class list, by ready sequence number (R122). -/
def State.candidates (s : State) (level : Nat) : List ReadyEnt :=
  let look := s.rf Reg.DS_SELECT_LOOKAHEAD + 1
  let es := s.dr.ready.filter fun e => e.level == level
  es.filter fun e => decide ((es.filter fun x => x.cls == e.cls && decide (x.seq < e.seq)).length < look)

/-- The deal of one cc: levels in rank order, each with its candidates (R120, R122).  The words that it reads are checked first (R421). -/
def State.deal (s : State) : State :=
  if s.dealStopped then s
  else
    let s := s.dealChecks
    if s.dealStopped then s
    else
      let s := { s with ds := { s.ds with dealtCc := s.cc + 1 } }
      [7, 6, 0, 1, 2, 3, 4, 5].foldl (fun s level => (s.candidates level).foldl State.dealOne s) s.offerJobs

/-- TASK_ISSUE (R122, R128): the deal of a cc, which is made once in it. -/
def execTaskIssue (s : State) : Host.Outcome State Fault Refusal := .next (s.nextCcIf (s.ds.dealtCc == s.cc + 1)).deal

end Sys2Proof.Machine
end

