-- ==== Sys2Proof/Machine/Debug.lean ====
section
/-! DEFINITION. The time base's input (R71, R72), snapshots, the DBG counters and the trace (R502 to R511). -/

namespace Sys2Proof.Machine

/-! ### The time base -/

/-- One ns in units of the local count. -/
def nsUnit : Nat := 2 ^ 32

/-- A sample of gc at a gc_sync edge in cc `cc` (R71).  From the second sample on, RATE is the gc elapsed over the cc elapsed; it keeps its
value when no cc has elapsed, and at the first sample after RETAINED, before which the clocks were stopped. -/
def TimeBase.sync (t : TimeBase) (gc cc : Nat) (fresh gl : Bool) : TimeBase :=
  let rate := if t.syncs = 0 ∨ cc ≤ t.lastCc ∨ fresh then t.rate else nsUnit * (gc - t.lastSample) / (cc - t.lastCc)
  let g := nsUnit * gc
  let (est, count) := if 2 * nsUnit + t.count < g then (g, g) else if g < t.count then (g, t.count) else (t.count, t.count)
  { t with rate := rate, syncs := t.syncs + 1, lastSample := gc, lastCc := cc, sinceCc := cc, lost := false, est := est, count := count,
           check := t.check || (!gl && decide (t.count / nsUnit / 1000 < count / nsUnit / 1000)) }

/-- GC_SYNC (R71, R489). -/
def execGcSync (gc : BitVec 64) (s : State) : Host.Outcome State Fault Refusal :=
  if !s.portOn .core then .next s
  else
    let gl := s.holds
    let s := { s with tb := s.tb.sync gc.toNat s.cc s.thr.needSync gl, thr := { s.thr with needSync := false } }
    let s := if s.tb.check then s.sampleEngines else s
    .next (if gl then s else s.reachStarts)

/-- TIMEBASE_LOST (R72, R487): no gc_sync for 1 ms. -/
def execTimebaseLost (s : State) : Host.Outcome State Fault Refusal :=
  .next (if !s.tb.lost ∧ !s.pins.pwrAck ∧ 1000000 * nsUnit ≤ (s.cc - s.tb.sinceCc) * s.tb.rate then
      { s.reportPlain E.TIMEBASE_LOST none with tb := { s.tb with lost := true } }
    else s)

/-! ### Snapshots (R504, R505) -/

/-- A write on the register port to the DBG, which grain-locked mode does not hold (R378): carried out when blk_present is high. -/
def State.dbgInput (s : State) (f : State → State) : State := if s.blkPresent then s.regDone f else s

/-- SNAP_TRIG_IN. -/
def execSnapTrigIn (s : State) : Host.Outcome State Fault Refusal := .next (if s.portOn .core then s.fireSnap 1 else s)

/-- SNAP_FIRE. -/
def execSnapFire (s : State) : Host.Outcome State Fault Refusal := .next (s.dbgInput fun s => s.fireSnap 0)

/-- DBG_SNAP_CMD RELEASE: it is applied before a firing of the same cc, which then latches. -/
def State.releaseSnap (s : State) : State :=
  let here := s.dbg.fireCc == some s.cc && s.unitEn U.DBG
  if here && s.dbg.latchCc == some s.cc then s
  else
    let s := s.setRf Reg.DBG_SNAP_STATUS_HELD 0
    if here then (s.setRf Reg.DBG_SNAP_STATUS_MISSED (s.rf Reg.DBG_SNAP_STATUS_MISSED - 1)).latchSnap s.dbg.fireSrc else s

/-- SNAP_RELEASE. -/
def execSnapRelease (s : State) : Host.Outcome State Fault Refusal := .next (s.dbgInput State.releaseSnap)

/-! ### Counters and trace -/

/-- CTR_CLEAR (R502): the counters are cleared at the end of this cc. -/
def execCtrClear (s : State) : Host.Outcome State Fault Refusal :=
  .next (s.dbgInput fun s => { s with dbg := { s.dbg with clear := true } })

/-- A MARK record (R508): its decision number is the next one, which it does not take. -/
def State.traceMark (s : State) (v : Nat) : State :=
  let d := s.dbg.dec
  let s := s.trace 13 none (2 ^ 22 * v)
  { s with dbg := { s.dbg with dec := d } }

/-- TRACE_MARK (R508). -/
def execTraceMark (data : BitVec 32) (s : State) : Host.Outcome State Fault Refusal :=
  .next (s.dbgInput fun s => s.traceMark data.toNat)

/-- TRACE_BEAT_TIMEOUT (R511). -/
def execTraceBeatTimeout (s : State) : Host.Outcome State Fault Refusal :=
  .next (if s.dbg.beat ≠ [] ∧ 1000 + s.dbg.beatGc ≤ s.gc then s.traceBeat else s)

end Sys2Proof.Machine
end

