-- ==== Sys2Proof/Machine/Ifm.lean ====
section
/-! DEFINITION. The Integrity and Fault Manager (R424 to R442): the end of a rebuild and of a restart, the watchdogs, the patrol, the
configuration CRC, and the Gleaner. -/

namespace Sys2Proof.Machine

/-! ### Rebuilds, restarts and watchdogs -/

/-- LIST_REBUILD_DONE (R424). -/
def execListRebuildDone (s : State) : Host.Outcome State Fault Refusal := .next s.endRebuild

/-- DR_RESTART_DONE (R425, R433). -/
def execDrRestartDone (s : State) : Host.Outcome State Fault Refusal := .next s.drRestartDone.maybeQuiesce

/-- SLICE_WATCHDOG (R431, R432). -/
def execSliceWatchdog (slice : Nat) (s : State) : Host.Outcome State Fault Refusal :=
  .next (if s.unitEn U.IFM ∧ s.rb Reg.IFM_CTRL_WDOG_EN ∧ 3300 ≤ lookupD s.ds.idle slice 0 then
      (s.reportPlain E.SLICE_WATCHDOG none).sliceRestart slice
    else s)

/-- SLICE_REJOIN (R432). -/
def execSliceRejoin (slice : Nat) (s : State) : Host.Outcome State Fault Refusal := .next (s.sliceRejoin slice)

/-- IFM_HB_INCREMENT (R434). -/
def execIfmHbIncrement (s : State) : Host.Outcome State Fault Refusal :=
  .next (if s.thrRuns then
      { s.setRf Reg.IFM_HB_HB_COUNT ((s.rf Reg.IFM_HB_HB_COUNT + 1) % 2 ^ 32) with ifm := { s.ifm with hbGc := s.now } }
    else s)

/-- THRESHER_HEARTBEAT (R434). -/
def execThresherHeartbeat (s : State) : Host.Outcome State Fault Refusal :=
  .next (if s.unitEn U.IFM ∧ s.rb Reg.IFM_CTRL_HB_EN ∧ s.thrRuns ∧ s.due s.ifm.hbGc (1000 * s.rf Reg.IFM_TIMES_HB_TIMEOUT) then
      (s.reportPlain E.THRESHER_HEARTBEAT none).thrRestart
    else s)

/-- THRESHER_RESTART_DONE (R434 steps 3 and 4): the retained image is hashed, and its digest compared with that of BOOT's first extend.  A damaged
word among those hashed makes the digests differ. -/
def execThresherRestartDone (s : State) : Host.Outcome State Fault Refusal :=
  .next (if !s.rb Reg.IFM_STATUS_THR_RESTART then s
    else
      let s := s.setRf Reg.IFM_STATUS_THR_RESTART 0
      if s.signedBad ∨ s.fwDigest ≠ s.thr.digest then s.blockRestart
      else { s with ifm := { s.ifm with thrHold := false, hbGc := s.now } }.maybeQuiesce)

/-! ### The patrol (R427) -/

/-- Whether every word of a row is as CLEAR leaves it. -/
def State.rowBlank (s : State) (b n : Nat) : Bool := (List.range n).all fun i => s.ram (b + i) == ramDefault (b + i)

/-- The message of a receive queue that holds a slot on chip, the slots counted from the oldest message. -/
def slotMsg : Nat → List RxMsg → Option RxMsg
  | _, [] => none
  | u, m :: rest => if u < msgUnits m.words then some m else slotMsg (u - msgUnits m.words) rest

/-- The contributions that the Stook pool holds, with their Stooks. -/
def State.poolSlots (s : State) : List (Nat × Nat) := s.mh.stooks.flatMap fun x => x.held.map fun h => (x.idx, h.1)

/-- The generation whose extents hold a template node or edge. -/
def State.genOf (s : State) (edge : Bool) (i : Nat) : Option Gen :=
  s.gs.gens.find? fun g => if edge then decide (g.edgeBase ≤ i) && decide (i < g.edgeBase + g.edgeCount)
    else decide (g.nodeBase ≤ i) && decide (i < g.nodeBase + g.nodeCount)

/-- The launch whose instance edges hold edge `i`. -/
def State.edgeLaunch (s : State) (i : Nat) : Option Launch :=
  s.gs.launches.find? fun l => decide (s.sl l.slot Sl.EDGE_BASE ≤ i) && decide (i < s.sl l.slot Sl.EDGE_BASE + s.sl l.slot Sl.EDGE_COUNT)

/-- Whether the row of a word is FREE or unused. -/
def State.rowUnused (s : State) (tid w : Nat) : Bool :=
  match tid with
  | 0x01 => s.nd (w / 8) Nd.STATE == 0
  | 0x02 => (s.genOf true (w / 2)).isNone && (s.edgeLaunch (w / 2)).isNone
  | 0x03 => s.rm (dirRow (w / 8)) Dir.STATE == 0
  | 0x04 => s.sl (w / 16) Sl.STATE == 0
  | 0x07 => s.sq (w / 16) Sq.STATE == 0
  | 0x09 => (s.semPart (w / 4)).isNone
  | 0x0A => s.rowBlank (sheafRow (w / 16)) 16
  | 0x0B => s.rq (w / 8) Rq.VALID == 0
  | 0x0C => s.rm (routeRow (w / 8)) Rt.VALID == 0
  | 0x0D => s.rowBlank (stookRow (w / 16)) 16
  | 0x0E => s.rm (ramKey tid (w / 16 * 16)) Rl.VALID == 0
  | 0x0F => (s.biasPart w).isNone
  | 0x10 => (s.biasPart w).isNone
  | 0x11 => (s.seedPart (w / 2)).isNone
  | 0x12 => (s.seedPart (w / 2)).isNone
  | 0x13 => (s.biasPart w).isNone
  | 0x19 => s.rm (ramKey tid (w / 2 * 2)) Sv.VALID == 0
  | 0x1A => s.clm (w / 4) Clm.STATE == 0
  | 0x60 => (s.event? w).isNone
  | 0x65 => (slotMsg (w % 16) (s.mh.msgs.filter fun m => m.q == w / 16)).isNone
  | 0x66 => decide (s.poolSlots.length ≤ w)
  | 0x67 => !s.sm.watches.any fun x => x.idx == w
  | 0x68 => !s.sm.binds.any fun x => x.idx == w
  | 0x69 => decide (s.dr.early.length ≤ w)
  | _ => false

/-- The partition that a damaged row belongs to, if any. -/
def State.eccPart (s : State) (tid w : Nat) : Option Nat :=
  match tid with
  | 0x01 => some (s.nd (w / 8) Nd.PART)
  | 0x02 => match s.genOf true (w / 2) with
    | some g => some g.part
    | none => (s.edgeLaunch (w / 2)).map fun l => s.sl l.slot Sl.PART
  | 0x04 => some (s.sl (w / 16) Sl.PART)
  | 0x1A => some (s.clm (w / 4) Clm.PART)
  | 0x60 => (s.event? w).map (·.part)
  | 0x65 => some (s.rq (w / 16) Rq.PART)
  | 0x66 => (s.poolSlots[w]?).map fun x => s.sk x.1 Sk.PART
  | 0x67 => match s.sm.watches.find? fun x => x.idx == w with
    | some x => s.semPart x.sem
    | none => none
  | 0x68 => (s.sm.binds.find? fun x => x.idx == w).map (·.part)
  | 0x69 => (s.dr.early[w]?).map (·.part)
  | _ => s.rowPart tid w

/-- A damaged node entry in use (R422). -/
def State.patrolNode (s : State) (n word : Nat) : State :=
  if s.nd n Nd.STATE = 1 then
    match s.genOf false n with
    | some g => s.damageGen g.tmpl g.gen E.ECC_UNCORRECTED g.part n word
    | none => s
  else s.rowFail E.ECC_UNCORRECTED 0 n word (s.nd n Nd.LAUNCH_SLOT)

/-- A damaged edge entry in use (R422). -/
def State.patrolEdge (s : State) (e word : Nat) : State :=
  match s.genOf true e with
  | some g => s.damageGen g.tmpl g.gen E.ECC_UNCORRECTED g.part e word
  | none => match s.edgeLaunch e with
    | some l => s.rowFail E.ECC_UNCORRECTED 1 e word l.slot
    | none => s

/-- What the damage does beyond its report (R422), for the row kinds whose response needs no more than the row. -/
def State.patrolObject (s : State) (tid w : Nat) : State :=
  match tid with
  | 0x04 => s.killLaunch (w / 16) E.ECC_UNCORRECTED.code true
  | 0x0A => s.setShv (w / 16) Sh.STATE 3
  | 0x0B => s.closeRxq (w / 8)
  | 0x0C => s.setRm (routeRow (w / 8)) Rt.VALID 0
  | 0x0D => s.faultStook (w / 16)
  | 0x0E => s.setRm (ramKey tid (w / 16 * 16)) Rl.VALID 0
  | 0x19 => s.setRm (ramKey tid (w / 2 * 2)) Sv.VALID 0
  | 0x60 => s.scanParked
  | 0x61 => s.startRebuild
  | 0x62 => s.startRebuild
  | 0x63 => s.sliceRestart w
  | 0x64 => s.drRestart E.ECC_UNCORRECTED.code
  | 0x65 => match slotMsg (w % 16) (s.mh.msgs.filter fun m => m.q == w / 16) with
    | some m =>
      let s := { s with mh := { s.mh with msgs := s.mh.msgs.erase m } }
      (s.setRq (w / 16) Rq.USED (s.rq (w / 16) Rq.USED - msgUnits m.words)).setRq (w / 16) Rq.OVR 1
    | none => s
  | 0x66 => match s.poolSlots[w]? with
    | some x => s.faultStook x.1
    | none => s
  | 0x67 =>
    let s := s.endWait (.watch w)
    { s with sm := { s.sm with watches := s.sm.watches.filter fun x => x.idx != w } }
  | 0x68 => match s.sm.binds.find? fun x => x.idx == w with
    | some b => s.endBind b
    | none => s
  | 0x69 => { s with dr := { s.dr with early := s.dr.early.eraseIdx w } }
  | 0x50 => s.thrRestart
  | _ => s

/-- Whether a damaged word stays bad until its owner writes it again (R422, R423): a launch's rows, a sequence, a semaphore, an event, a bank,
the Thresher's memory. -/
def keepsMark (tid : Nat) : Bool := [0x01, 0x02, 0x03, 0x04, 0x07, 0x09, 0x0F, 0x10, 0x11, 0x12, 0x50, 0x60].contains tid

/-- The severity of a row kind (R422). -/
def kindSev (k : Nat) : Nat := if k = 8 then 1 else if k ≤ 12 then 2 else if k ≤ 17 then 3 else 4

/-- Words of a row of a table. -/
def rowWords (tid : Nat) : Nat :=
  match tid with
  | 0x01 => 8 | 0x02 => 2 | 0x03 => 8 | 0x04 => 16 | 0x07 => 16 | 0x09 => 4 | 0x0A => 16 | 0x0B => 8 | 0x0C => 8 | 0x0D => 16 | 0x0E => 16
  | 0x11 => 2 | 0x12 => 2 | 0x14 => 32 | 0x15 => 32 | 0x16 => 2 | 0x17 => 2 | 0x18 => 4 | 0x19 => 2 | 0x1A => 4 | 0x1D => 16 | 0x1E => 64 | 0x40 => 8 | 0x41 => 4
  | _ => 1

/-- The patrol finds an uncorrectable word in a row in use: it is answered at once under R422. -/
def State.patrolBad (s : State) (tid w : Nat) : State :=
  let n := rowWords tid
  match tid with
  | 0x01 => s.patrolNode (w / 8) (w % 8)
  | 0x02 => s.patrolEdge (w / 2) (w % 2)
  | 0x03 => s.damageGen (w / 8) (s.rm (dirRow (w / 8)) Dir.GEN) E.ECC_UNCORRECTED (s.rm (dirRow (w / 8)) Dir.PART) (w / 8) (w % 8)
  | 0x07 => s.damageSeq (w / 16) E.ECC_UNCORRECTED
  | 0x09 => s.reportSem E.ECC_UNCORRECTED (w / 4)
  | 0x18 => s.checkLevel (w / 96) (w / 4 % 24)
  | _ =>
    let part := s.eccPart tid w
    let s := s.reportRow E.ECC_UNCORRECTED (kindSev (eccKind tid)) (if eccKind tid ≤ 12 then part else none) (eccKind tid) (w / n) (w % n)
    let s := s.patrolObject tid w
    let s := if keepsMark tid then s else s.clearEcc (ramKey tid w)
    if eccKind tid = 18 then s.blockRestart else s

/-- The patrol reads a word: a single-bit error is corrected; an uncorrectable word of a FREE or unused row is rewritten as zeros.  The patrol
checks the ECC of words; a Husk pair is checked by the units that use it (R421). -/
def State.patrol (s : State) (tid w : Nat) : State :=
  let k := ramKey tid w
  let n := rowWords tid
  match s.ecc.find? fun e => e.1 == k with
  | none => s
  | some (_, 3) => s
  | some (_, 1) => (s.clearEcc k).reportRow E.ECC_CORRECTED 1 (s.eccPart tid w) (eccKind tid) (w / n) (w % n)
  | some _ =>
    if s.rowUnused tid w then
      let s := if tid < 0x60 then s.setRow (k / 2 * 2) (zeros 2) else s.clearEcc k
      s.reportRow E.ECC_UNCORRECTED 1 none (eccKind tid) (w / n) (w % n)
    else s.patrolBad tid w

/-- PATROL_READ (R427). -/
def execPatrolRead (table word : Nat) (s : State) : Host.Outcome State Fault Refusal :=
  .next (if s.unitEn U.IFM ∧ s.rb Reg.IFM_CTRL_PATROL_EN then s.patrol table word else s)

/-- PATROL_PASS_END (R427): a pass that has not ended within PATROL_MS raises ERR_SCRUB_BEHIND once; otherwise the pass ends and the next
begins. -/
def execPatrolPassEnd (s : State) : Host.Outcome State Fault Refusal :=
  .next (if !s.unitEn U.IFM ∨ !s.rb Reg.IFM_CTRL_PATROL_EN then s
    else if !s.ifm.patrolLate ∧ s.due s.ifm.patrolGc (1000000 * s.rf Reg.IFM_PATROL_PATROL_MS) then
      { s.reportPlain E.SCRUB_BEHIND none with ifm := { (s.reportPlain E.SCRUB_BEHIND none).ifm with patrolLate := true } }
    else { s with ifm := { s.ifm with patrolGc := s.now, patrolLate := false } })

/-! ### The configuration CRC (R428, R429, R470) -/

/-- The CFG fields of a register word, the rest 0; none when it has no such field. -/
def State.cfgFields (s : State) (a : Nat) : Option Word :=
  let fs := (regFields s.build a).filter fun f => f.cls == .cfg
  if fs = [] then none else some (fs.foldl (fun acc f => wput acc f.hi f.lo (wget (s.reg a) f.hi f.lo)) 0#32)

/-- The CRC-32C over every register word that holds a CFG field, in ascending address order. -/
def State.cfgCrc (s : State) : Nat :=
  crc32c ((List.range (16 * 1024)).filterMap fun i => s.cfgFields (i / 1024 * 0x10000 + 4 * (i % 1024)))

/-- A pass ends: its result is latched and compared. -/
def State.crcPass (s : State) : State :=
  let crc := s.cfgCrc
  let s := (s.setRf Reg.IFM_CRC_RESULT crc).setRf Reg.IFM_CRC_STATUS_DONE 1
  if crc = s.rf Reg.GLB_CRC_REF then
    { s.setRf Reg.IFM_CRC_STATUS_MISMATCH 0 with ifm := { s.ifm with crcConfirm := false, crcEpisode := false } }
  else if !s.ifm.crcConfirm then { s with ifm := { s.ifm with crcConfirm := true } }
  else
    let s := s.setRf Reg.IFM_CRC_STATUS_MISMATCH 1
    if s.ifm.crcEpisode then s
    else
      let s := (s.reportPlain E.CONFIG_CRC none).incRf Reg.IFM_CRC_STATUS_MISMATCHES
      { s with ifm := { s.ifm with crcEpisode := true } }

/-- CRC_PASS_END (R428, R429). -/
def execCrcPassEnd (s : State) : Host.Outcome State Fault Refusal :=
  .next (if s.unitEn U.IFM ∧ s.rb Reg.IFM_CTRL_CRC_EN then s.crcPass else s)

/-! ### The Gleaner (R437 to R441) -/

/-- The coalescing window in ns. -/
def State.logWindow (s : State) : Nat := 1000 * s.rf Reg.IFM_TIMES_WINDOW

/-- The state with one log entry changed. -/
def State.updLog (s : State) (i : Nat) (f : LogEnt → LogEnt) : State :=
  { s with ifm := { s.ifm with log := s.ifm.log.map fun e => if e.idx == i then f e else e } }

/-- One report leaves the intake FIFO (R439). -/
def State.glean (s : State) : State :=
  match s.ifm.intake with
  | [] => s
  | r :: rest =>
    let s := { s with ifm := { s.ifm with intake := rest } }
    match s.ifm.log.find? fun e => e.code == r.code && e.part == r.part && !e.writing && e.retryGc.isNone && decide (r.gc < e.firstGc + s.logWindow) with
    | some e => s.updLog e.idx fun e => { e with count := min (e.count + 1) (2 ^ 32 - 1), lastGc := r.gc }
    | none => match (List.range 64).find? fun i => !s.ifm.log.any fun e => e.idx == i with
      | some i =>
        let e : LogEnt := ⟨i, r.code, r.sev, r.part, 1, r.detail, r.detail2, r.gc, r.gc, 0, false, none⟩
        { s with ifm := { s.ifm with log := s.ifm.log ++ [e] } }
      | none => (s.incRf Reg.IFM_OVERFLOW).setRf Reg.IFM_STICKY_OVF 1

/-- The Gleaner takes the four reports of a cc (R438). -/
def State.takeReports (s : State) : State := ({ s with cyc := { s.cyc with gleaned := true } } : State).glean.glean.glean.glean

/-- GLEANER_INTAKE (R438, R439). -/
def execGleanerIntake (s : State) : Host.Outcome State Fault Refusal :=
  let s := s.nextCcIf s.cyc.gleaned
  .next (if s.unitEn U.IFM then s.takeReports else s)

/-- A log write has failed (R440): the entry is kept, to be written again after 1 µs. -/
def State.gleanerFailed (s : State) (i : Nat) : State :=
  let t := s.gc
  let s := s.updLog i fun e => { e with writing := false, retryGc := some t }
  if s.inEpisode E.GLEANER_WRITE.code 0 then s else (s.openEpisode E.GLEANER_WRITE.code 0).reportPlain E.GLEANER_WRITE none

/-- A log write has been answered (R440). -/
def State.gleanerAnswered (s : State) (i : Nat) (ok : Bool) : State :=
  if !ok then s.gleanerFailed i
  else { s with ifm := { s.ifm with log := s.ifm.log.filter fun e => e.idx != i } }.closeEpisode E.GLEANER_WRITE.code 0

/-- Write an entry's record into its place in the ring (R440, R441). -/
def State.gleanerWrite (s : State) (e : LogEnt) : State :=
  let base := 2 ^ 5 * s.rf Reg.IFM_LOG_BASE_LO_LOG_LO + 2 ^ 32 * s.rf Reg.IFM_LOG_BASE_HI_LOG_HI
  let a := (base + e.ring % 2 ^ s.rf Reg.IFM_LOG_BASE_HI_LOG_LOG2) % 2 ^ 52
  let s := s.updLog e.idx fun x => { x with ring := e.ring, writing := true, retryGc := none }
  match s.mmWrite a (e.words (s.logMasked e.part)) (s.rf Reg.IFM_LOG_BASE_HI_LOG_PART) 1 7 (.gleaner e.idx) with
  | (s, true) => s
  | (s, false) => s.gleanerFailed e.idx

/-- The closed entries that have not been written yet. -/
def State.closedEntries (s : State) : List LogEnt :=
  s.ifm.log.filter fun e => !e.writing && e.retryGc.isNone && decide (e.firstGc + s.logWindow ≤ s.gc)

/-- GLEANER_ENTRY_CLOSE (R440): the closed entry with the lowest FIRST_GC, and of those with the lowest code, goes to LOG_TAIL. -/
def execGleanerEntryClose (s : State) : Host.Outcome State Fault Refusal :=
  match minBy (fun e => 2 ^ 16 * e.firstGc + e.code) s.closedEntries with
  | none => .next s
  | some e =>
    let tail := s.rf Reg.IFM_LOG_TAIL
    let used := (2 ^ 32 + tail - s.rf Reg.IFM_LOG_HEAD) % 2 ^ 32
    .next (if !s.unitEn U.IFM ∨ !s.rb Reg.IFM_LOG_BASE_HI_LOG_EN ∨ used = 2 ^ s.rf Reg.IFM_LOG_BASE_HI_LOG_LOG2 then s
      else (s.setRf Reg.IFM_LOG_TAIL ((tail + 32) % 2 ^ 32)).gleanerWrite { e with ring := tail })

/-- GLEANER_WRITE_RETRY (R440): 1 µs after the failure of a write, it is made again. -/
def execGleanerWriteRetry (s : State) : Host.Outcome State Fault Refusal :=
  match s.ifm.log.find? fun e => match e.retryGc with
    | some t => !s.pins.pwrAck && decide (t + 1000 ≤ s.gc)
    | none => false with
  | none => .next s
  | some e => .next (if s.unitEn U.IFM ∧ s.rb Reg.IFM_LOG_BASE_HI_LOG_EN then s.gleanerWrite e else s)

/-- A capture register is cleared (R437). -/
def State.clearCapture (s : State) (a : Nat) : State := (List.range 4).foldl (fun s i => s.setReg (a + 4 * i) 0#32) s

/-- CAPTURE_CLR_FIRST (R437). -/
def execCaptureClrFirst (s : State) : Host.Outcome State Fault Refusal :=
  .next (s.regInput .captureClrFirst fun s => s.clearCapture Reg.IFM_FIRST_A)

/-- CAPTURE_CLR_LAST (R437). -/
def execCaptureClrLast (s : State) : Host.Outcome State Fault Refusal :=
  .next (s.regInput .captureClrLast fun s => s.clearCapture Reg.IFM_LAST_A)

/-- CAPTURE_CLR_WORST (R437). -/
def execCaptureClrWorst (s : State) : Host.Outcome State Fault Refusal :=
  .next (s.regInput .captureClrWorst fun s => s.clearCapture Reg.IFM_WORST_A)

end Sys2Proof.Machine
end

