-- ==== Sys2Proof/Machine/Spill.lean ====
section
/-! DEFINITION. Spill and restore jobs (R360, R361, R364): how a job begins, and the answer of its descriptor write. -/

namespace Sys2Proof.Machine

/-- Whether a node that names a claim is ISSUED (R360). -/
def State.claimInUse (s : State) (i : Nat) : Bool :=
  s.ds.links.any fun l => l.tasks.any fun t => t.job.isNone && t.slot == s.clm i Clm.LAUNCH_SLOT && t.launchId == s.clm i Clm.LAUNCH_ID &&
    s.nd t.node Nd.SAVE_SET == s.clm i Clm.SAVE_SET

/-- Whether a claim stands at its task boundary: it is PREEMPTING, and no node naming it is ISSUED (R360). -/
def State.atBoundary (s : State) (i : Nat) : Bool := s.clm i Clm.STATE == 3 && !s.claimInUse i

/-- Whether a victim that comes before claim `i` in the order of R359 could be spilled now. -/
def State.victimAhead (s : State) (i : Nat) : Bool :=
  s.psc.preempts.any fun p => p.victims.contains i &&
    (p.victims.takeWhile (· != i)).any fun j => s.atBoundary j && !s.inEpisode E.PSC_GRANARY_FULL.code j

/-- A free job (R361). -/
def State.freeJob (s : State) : Option Nat := (List.range 64).find? fun k => !s.psc.jobs.any fun j => j.k == k

/-- The descriptor of a job (R361). -/
def State.jobDesc (s : State) (restore : Bool) (i k : Nat) : List Word :=
  let p := s.clm i Clm.PART
  let sp := (2 ^ 16 * s.rf Reg.PSC_SP_BASE_LO + 2 ^ 32 * s.rf Reg.PSC_SP_BASE_HI + 65536 * s.clm i Clm.FIRST) % 2 ^ 52
  let gr := (s.spillBase p + 65536 * s.clm i Clm.GR_SLOT) % 2 ^ 52
  [1#32, packW [(0, b2n restore), (8, s.clm i Clm.SAVE_SET), (16, k)]] ++ words64 (if restore then gr else sp) ++
    words64 (if restore then sp else gr) ++ [BitVec.ofNat 32 (65536 * s.clm i Clm.COUNT), BitVec.ofNat 32 p] ++ zeros 8

/-- Start job `k` for a claim: its generation rises, and its descriptor is written (R361). -/
def State.startJob (s : State) (restore : Bool) (i k : Nat) : State :=
  let p := s.clm i Clm.PART
  let g := (lookupD s.psc.gens k 0 + 1) % 256
  let j : Job := ⟨k, g, restore, i, p, s.clm i Clm.LEVEL, s.clm i Clm.SAVE_SET, s.clm i Clm.COUNT, false, none, false, false⟩
  let s := { s with psc := { s.psc with jobs := s.psc.jobs ++ [j], gens := assocSet s.psc.gens k g } }
  match s.mmWrite ((s.spillBase p + 64 * k) % 2 ^ 52) (s.jobDesc restore i k) p 1 5 (.psc k g) with
  | (s, true) => s
  | (s, false) => s.failJob k g

/-- The descriptor write of a job has been answered (R361, R365). -/
def State.jobWritten (s : State) (k gen : Nat) (ok : Bool) : State :=
  if ok then (s.updJob k fun j => if j.gen = gen then { j with written := true } else j).offerJobs else s.failJob k gen

/-- Begin the spill of a claim at its task boundary, when a job and Granary space are free (R360, R361). -/
def State.beginSpill (s : State) (i : Nat) : State :=
  match s.freeJob with
  | none => s
  | some k =>
    let p := s.clm i Clm.PART
    match extFit 1 (s.rf (Reg.PSC_GR_GR_GRANULES p)) (s.clm i Clm.COUNT) (s.granaryUsed p) with
    | none =>
      if s.inEpisode E.PSC_GRANARY_FULL.code i then s
      else (s.openEpisode E.PSC_GRANARY_FULL.code i).reportPlain E.PSC_GRANARY_FULL (some p)
    | some g =>
      let s := s.closeEpisode E.PSC_GRANARY_FULL.code i
      ((s.setClaim i 4).setRm (claimRow i) Clm.GR_SLOT g).startJob false i k

/-- SPILL_START (R360, R361): a PREEMPTING claim has reached its task boundary. -/
def execSpillStart (claim : Nat) (s : State) : Host.Outcome State Fault Refusal :=
  if !s.atBoundary claim ∨ s.victimAhead claim ∨ !s.unitEn U.PSC ∨ s.halted then .next s else .next (s.beginSpill claim)

/-- Whether a SPILLED claim may be restored: no occupying claim of another launch conflicts with it (R364). -/
def State.restorable (s : State) (i : Nat) : Bool :=
  s.clm i Clm.STATE == 5 && (s.conflicts (s.clm i Clm.LAUNCH_SLOT) (s.clm i Clm.LAUNCH_ID) (s.clm i Clm.FIRST) (s.clm i Clm.COUNT)).isEmpty

/-- RESTORE_START (R364): the oldest claim that may be restored begins its job. -/
def execRestoreStart (claim : Nat) (s : State) : Host.Outcome State Fault Refusal :=
  if s.psc.order.find? s.restorable ≠ some claim ∨ !s.unitEn U.PSC ∨ s.halted then .next s
  else match s.freeJob with
    | none => .next s
    | some k => .next ((s.setClaim claim 6).startJob true claim k)

end Sys2Proof.Machine
end

