-- ==== Sys2Proof/Machine/MmPort.lean ====
section
/-! DEFINITION. The answers on mm_rsp (R46, R47), and what each requester does with its own. -/

namespace Sys2Proof.Machine

/-- A parameter descriptor that is well-formed (R101). -/
def paramOk (d : List Word) : Bool := decide (addr52 d 0 % 64 = 0) && rsvd d 1 31 20 && pf d 3 31 0 == 1

/-- The answer of a launch's descriptor read (R101). -/
def State.paramData (s : State) (slot launchId : Nat) (ok : Bool) (d : List Word) : State :=
  if s.sl slot Sl.LAUNCH_ID ≠ launchId ∨ !s.live slot ∨ s.sl slot Sl.STATE = 5 then s
  else if !ok then s.killWith slot E.PARAM_READ 0
  else if !paramOk d then s.killWith slot E.PARAM_DESC 0
  else s.setParamReady slot (addr52 d 0) (pf d 2 31 0)

/-- The answer of a spawn descriptor read (R134). -/
def State.spawnData (s : State) (id : Nat) (ok : Bool) (d : List Word) : State :=
  match s.dr.spawnQ.find? fun w => w.id == id with
  | none => s
  | some w =>
    let away := fun (s : State) => { s with dr := { s.dr with spawnQ := s.dr.spawnQ.filter fun x => x.id != id } }
    let tag := s.tag w.node
    if s.sl w.slot Sl.LAUNCH_ID ≠ w.launchId then away s
    else if !ok then (away s).killWith w.slot E.SPAWN_READ tag
    else if !spawnDescOk d (s.sl w.slot Sl.NODE_COUNT) then (away s).killWith w.slot E.SPAWN_DESC tag
    else { s with dr := { s.dr with spawnQ := s.dr.spawnQ.map fun x => if x.id == id then { x with desc := some d } else x } }

/-- The completion of a reply write (R165, R182). -/
def State.replyWritten (s : State) (irqPart : Option Nat) (part : Nat) (ok : Bool) : State :=
  let s := if ok then s else (s.incRf Reg.CFE_REPLY_LOST).reportPlain E.REPLY_WRITE (some part)
  match irqPart with
  | some p => s.setCmpl p
  | none => s

/-- The answer of a beat for the DC's own replay reads is no input of the recorded run, and is not held (R389). -/
def State.replayAnswer (s : State) (tag : Nat) : Bool :=
  s.mm.busy.any fun x => !x.write && x.tag == tag && x.use == .dcReplay

/-- Hand the outcome of a transfer to the unit that asked for it. -/
def State.mmDone (s : State) (x : MmXfer) (ok : Bool) (ws : List Word) : State :=
  match x.use with
  | .ring c q idx grant => s.ringData c q idx grant ok ws
  | .ctxDesc => s.ctxDescData ok ws
  | .tmplLoad c q => s.tmplData c q (s.slowPkt c q) ok ws
  | .tmplPatch c q => s.tmplData c q (s.slowPkt c q) ok ws
  | .param slot id => s.paramData slot id ok ws
  | .spawn id => s.spawnData id ok ws
  | .reply _ _ irq => s.replyWritten irq x.part ok
  | .shadow _ _ => s
  | .st p 0 arg => s.streamDesc p arg ok ws
  | .st p 1 tag => s.workWritten p tag ok
  | .st p 2 tag => s.resultsRead p tag ok ws
  | .st p what arg => s.passWritten p what arg ok
  | .era 0 tag => s.eraData 0 tag ok ws
  | .era 1 tag => s.eraData 1 tag ok ws
  | .era 4 p => s.chaff p 1
  | .era what tag => s.eraWritten what tag ok
  | .granary q 0 => if ok then s else s.granaryWriteBad q
  | .granary q _ => s.refillData q ok ws
  | .psc k g => s.jobWritten k g ok
  | .dcLog => if ok then s else s.logFailed
  | .dcReplay => s.replayData ok ws
  | .ckpt p => s.ckptEnd p ok
  | .acct p _ => s.acctAnswered p ok
  | .scrub p => s.scrubbed p ok
  | .gleaner e => s.gleanerAnswered e ok
  | .traceBeat n => if ok then s.closeEpisode E.TRACE_WRITE.code 0 else s.traceWriteFailed n
  | .dropped => s

/-- The request of a tag has been answered, with a status other than 0 when it failed: the next request of its transfer is sent, or the transfer ends; the tag is free again. -/
def State.mmEnd (s : State) (x : MmXfer) (status : Nat) (ws : List Word) : State :=
  let s := { s with mm := { s.mm with busy := s.mm.busy.filter fun y => !(y.write == x.write && y.tag == x.tag) } }
  let s := if status ≠ 0 then s.mmError x status else s
  let left := x.left - x.beats
  let s := if status ≠ 0 ∨ left = 0 then s.mmDone x (status == 0) ws
    else match s.mmNext { x with addr := x.addr + 64 * x.beats, left := left, got := ws } with
      | (s, true) => s
      | (s, false) => s.mmDone x false []
  s.mmRetry

/-- One beat of a read arrives. -/
def State.readBeat (s : State) (tag status : Nat) (last : Bool) (data : List Word) : State :=
  match s.mm.busy.find? fun x => !x.write && x.tag == tag with
  | none => s
  | some x =>
    let fail := if x.fail = 0 then status else x.fail
    let ws := x.got ++ (data ++ zeros 16).take 16
    if last then s.mmEnd x fail ws
    else { s with mm := { s.mm with busy := s.mm.busy.map fun y =>
      if !y.write && y.tag == tag then { y with got := ws, fail := fail } else y } }

/-- The completion of a write arrives. -/
def State.writeDone (s : State) (tag status : Nat) : State :=
  match s.mm.busy.find? fun x => x.write && x.tag == tag with
  | none => s
  | some x => s.mmEnd x status []

/-- Whether the answer of a read is for the ERA, whose notices take their turn at the queues (R279). -/
def State.eraAnswer (s : State) (tag : Nat) : Bool :=
  s.mm.busy.any fun x => !x.write && x.tag == tag && (match x.use with
    | .era _ _ => true
    | _ => false)

/-- A beat that is taken as it arrives; one for the ERA takes its turn at the queues first. -/
def State.readArrive (s : State) (tag status : Nat) (last : Bool) (data : List Word) : State :=
  (if s.eraAnswer tag then s.hubTurn 1 else s).readBeat tag status last data

/-- MM_READ_DATA (R46, R47). -/
def execMmReadData (tag status : Nat) (last : Bool) (data : List (BitVec 32)) (s : State) : Host.Outcome State Fault Refusal :=
  if s.portOn .noc ∧ s.replayAnswer tag then .next (s.readBeat tag status last data)
  else .next (s.input .noc (.mmReadData tag status last data) fun s => s.readArrive tag status last data)

/-- MM_WRITE_COMPLETION (R46, R47). -/
def execMmWriteCompletion (tag status : Nat) (s : State) : Host.Outcome State Fault Refusal :=
  .next (s.input .noc (.mmWriteCompletion tag status) fun s => s.writeDone tag status)

end Sys2Proof.Machine
end

