-- ==== Sys2Proof/Machine/Era.lean ====
section
/-! DEFINITION. The commands of the Expert Routing Assist. -/

namespace Sys2Proof.Machine

/-- ROUTE_JOB_START (R218): the job at the head of the queue starts when none is running and the ERA is enabled. -/
def execRouteJobStart (s : State) : Host.Outcome State Fault Refusal :=
  match s.era.jobs with
  | [] => .next s
  | j :: _ =>
    if j.phase ≠ .queued ∨ !s.unitEn U.ERA ∨ s.halted then .next s
    else if s.tagDead j.tag then .next s.endEraJob
    else .next (s.startEraJob j)

/-- ROUTE_JOB_NOTICES (R235). -/
def execRouteJobNotices (s : State) : Host.Outcome State Fault Refusal :=
  match s.era.jobs with
  | [] => .next s
  | j :: _ => if j.phase ≠ .written ∨ s.tagDead j.tag then .next s else .next (s.finishEraJob j)

/-- ROUTE_JOB_DEAD (R238, R514): the tag of the running job has died.  Read data that still comes for it is Chaff. -/
def execRouteJobDead (s : State) : Host.Outcome State Fault Refusal :=
  match s.era.jobs with
  | [] => .next s
  | j :: _ =>
    if j.phase ≠ .queued ∧ s.tagDead j.tag then .next s.endEraJob else .next s

/-- ERA_SWAP: a swap of a partition's banks is requested (R224); not for a locked partition (R402). -/
def State.eraSwap (s : State) (p : Nat) (f : RF) : State :=
  if !s.partOk p then s
  else if s.lockedOrLocking p then s.enclIgnored p
  else s.setRf f 1

/-- ERA_SWAP_BIAS. -/
def execEraSwapBias (part : Nat) (s : State) : Host.Outcome State Fault Refusal :=
  .next (s.regInput (.eraSwapBias part) fun s => s.eraSwap part (Reg.ERA_BANK_BIAS_PEND part))

/-- ERA_SWAP_SEED. -/
def execEraSwapSeed (part : Nat) (s : State) : Host.Outcome State Fault Refusal :=
  .next (s.regInput (.eraSwapSeed part) fun s => s.eraSwap part (Reg.ERA_BANK_SEED_PEND part))

end Sys2Proof.Machine
end

