-- ==== Sys2Proof/Machine/LinkCmd.lean ====
section
/-! DEFINITION. DS_LINK_CMD (R142), and the timeouts of tasks, control records and READY tasks (R140, R141, R145). -/

namespace Sys2Proof.Machine

/-- Start a command of DS_LINK_CMD: ignored while one is BUSY (R147); refused, or carried out with BUSY set. -/
def State.linkCmd (s : State) (i cmd : Nat) (ok : Bool) (act : State → State) : State :=
  if s.rb Reg.DS_LINK_CMD_STATUS_BUSY then s
  else
    let s := s.setReg Reg.DS_LINK_CMD_STATUS_A (packW [(0, i % 512), (9, cmd), (12, b2n ok), (14, b2n !ok)])
    if ok then act s else s

/-- Whether a link of the build is UP. -/
def State.isUp (s : State) (i : Nat) : Bool := decide (i < s.build.links) && (s.link i).lstate == 2

/-- DRAIN. -/
def State.cmdDrain (s : State) (i : Nat) : State := s.linkCmd i 2 (s.isUp i) fun s => s.sendCtrl i 2 0 0 true

/-- SLEEP. -/
def State.cmdSleep (s : State) (i : Nat) : State :=
  s.linkCmd i 3 (s.isUp i && (s.link i).proto == 2) fun s => s.sendCtrl i 3 0 0 true

/-- PING. -/
def State.cmdPing (s : State) (i : Nat) : State := s.linkCmd i 4 (s.isUp i) fun s => s.sendCtrl i 4 0 0 true

/-- WAKE. -/
def State.cmdWake (s : State) (i : Nat) : State :=
  s.linkCmd i 5 (decide (i < s.build.links) && (s.link i).lstate == 4 && (s.link i).proto == 2) fun s =>
    (s.updLink i fun l => { l with wakeCmd := true }).wakeLink i

/-- RELINK: an up link is lost; any present link is offered link-up with its offer count at zero: at once, or, while the DS is disabled or the
block sends no offers, when LINKUP_START can drive the offer, BUSY until then. -/
def State.cmdRelink (s : State) (i : Nat) : State :=
  s.linkCmd i 6 (decide (i < s.build.links) && (s.link i).present) fun s =>
    let s := s.setRf Reg.DS_LINK_CMD_STATUS_BUSY 0
    let s := if s.linkUp i then s.loseLink i E.LINK_LOST Reg.DS_LINK_CMD_STATUS_LOST else s.updLink i Link.toDown
    let s := s.setRf Reg.DS_LINK_CMD_STATUS_BUSY 1
    if s.unitEn U.DS ∧ !s.noOffers then s.offerLink i else s

/-- DS_LINK_CMD by its CMD field; other values are ignored. -/
def State.dsLinkCmd (s : State) (i cmd : Nat) : State :=
  match cmd with
  | 2 => s.cmdDrain i
  | 3 => s.cmdSleep i
  | 4 => s.cmdPing i
  | 5 => s.cmdWake i
  | 6 => s.cmdRelink i
  | _ => s

/-- DS_KILL_TIMEOUT in ns. -/
def State.killNs (s : State) : Nat := 1000 * s.rf Reg.DS_KILL_TIMEOUT

/-- Whether a control record of a link, or a task that its KILL did not find, has gone unanswered for DS_KILL_TIMEOUT (R141, R142). -/
def State.hung (s : State) (i : Nat) : Bool :=
  let l := s.link i
  (match l.ctrl with
   | some c => (match c.rectype with
     | 3 => l.lstate == 5 && s.due l.wakeGc s.killNs
     | _ => decide (c.mustDrain = []) && s.due c.gc s.killNs)
   | none => false) || l.tasks.any fun t => decide (t.killGc ≠ 0) && s.due (t.killGc - 1) s.killNs

/-- Whether the DS_LINK_CMD that waits on a link is the one whose record is outstanding. -/
def State.cmdTimed (s : State) (i : Nat) : Bool :=
  let l := s.link i
  match l.ctrl with
  | some c => if c.rectype = 3 then l.wakeCmd else c.byCmd
  | none => false

/-! ### Commands -/

/-- TASK_TIMEOUT (R140, R517).  A task whose terminal record has been admitted at its boundary is complete (R384). -/
def execTaskTimeout (link : Nat) (tag : BitVec 28) (s : State) : Host.Outcome State Fault Refusal :=
  let node := bits tag.toNat 19 0
  let ngen := bits tag.toNat 27 20
  .next (match (s.link link).task? node ngen with
    | none => s
    | some t =>
      let limit := 1000 * s.rf (Reg.DS_TASK_TIMEOUT t.cls)
      if s.tb.check ∧ limit ≠ 0 ∧ t.killSent = 0 ∧ s.due t.issueNow limit ∧ !(s.holds ∧ s.ended link t) then
        (s.killOn link t 1).reportNode E.TASK_TIMEOUT t.part (mkTag node ngen) t.launchId
      else s)

/-- KILL_TIMEOUT (R141, R142). -/
def execKillTimeout (link : Nat) (s : State) : Host.Outcome State Fault Refusal :=
  .next (if s.hung link then
      s.relinkLost link E.ENGINE_HUNG (if s.cmdTimed link then Reg.DS_LINK_CMD_STATUS_TIMEOUT else Reg.DS_LINK_CMD_STATUS_LOST)
    else s)

/-- NO_ENGINE_TIMEOUT (R145, R517). -/
def execNoEngineTimeout (node : Nat) (s : State) : Host.Outcome State Fault Refusal :=
  .next (match s.dr.ready.find? fun e => e.node == node && e.job.isNone with
    | none => s
    | some e => match e.noEngineSince with
      | none => s
      | some t =>
        let limit := 1000 * s.rf (Reg.DS_TASK_TIMEOUT e.cls)
        if s.tb.check ∧ limit ≠ 0 ∧ s.due t limit then
          let slot := s.nd node Nd.LAUNCH_SLOT
          ((s.dropReady node).setNd node Nd.STATE 8).killWith slot E.NO_ENGINE (s.tag node)
        else s)

/-- LINK_CMD_DRAIN (R142). -/
def execLinkCmdDrain (link : Nat) (s : State) : Host.Outcome State Fault Refusal :=
  .next (s.regInput (.linkCmdDrain link) fun s => s.cmdDrain link)
/-- LINK_CMD_SLEEP (R142). -/
def execLinkCmdSleep (link : Nat) (s : State) : Host.Outcome State Fault Refusal :=
  .next (s.regInput (.linkCmdSleep link) fun s => s.cmdSleep link)
/-- LINK_CMD_PING (R142). -/
def execLinkCmdPing (link : Nat) (s : State) : Host.Outcome State Fault Refusal :=
  .next (s.regInput (.linkCmdPing link) fun s => s.cmdPing link)
/-- LINK_CMD_WAKE (R142). -/
def execLinkCmdWake (link : Nat) (s : State) : Host.Outcome State Fault Refusal :=
  .next (s.regInput (.linkCmdWake link) fun s => s.cmdWake link)
/-- LINK_CMD_RELINK (R142). -/
def execLinkCmdRelink (link : Nat) (s : State) : Host.Outcome State Fault Refusal :=
  .next (s.regInput (.linkCmdRelink link) fun s => s.cmdRelink link)

end Sys2Proof.Machine
end

