-- ==== Sys2Proof/Machine/Units.lean ====
section
/-! DEFINITION. The GLB page's unlock (R463 to R465) and the enabling and stopping of units (R18, R19, R467, R484). -/

namespace Sys2Proof.Machine

/-! ### The unlock (R463, R464) -/

/-- A write of GLB_UNLOCK: the key arms the unlock, or arms it again; any other value disarms it. -/
def State.unlockWrite (s : State) (d : Word) : State :=
  if d = 0x5EED#32 then { s with glb := { s.glb with armedCc := some s.cc } }
  else { s.setRf Reg.GLB_STICKY_BAD_KEY 1 with glb := { s.glb with armedCc := none } }

/-- A write that reaches an LK field: the armed unlock admits it and is used up, or the write is ignored. -/
def State.lkWrite (s : State) (f : State → State) : State :=
  let s := s.expireUnlock
  if s.glb.armedCc.isSome then f { s with glb := { s.glb with armedCc := none } } else s.setRf Reg.GLB_STICKY_LK_IGNORED 1

/-! ### Enabling and disabling units (R18, R19, R467) -/

/-- The units in the row order of the table of units (R18). -/
def unitOrder : List Nat := [0, 0xD, 0xC, 0xF, 0x2, 0x5, 0x9, 0x4, 0x3, 0x6, 0xA, 0xB, 0x8, 0x7, 0x1, 0xE]

/-- The units that a unit needs. -/
def unitNeeds (u : Nat) : List Nat :=
  match u with
  | 0xD => [0]
  | 0xC => [0xD]
  | 0xF => [0xD, 0xC]
  | 0x2 => [0xD, 0xC]
  | 0x5 => [0xD, 0xC]
  | 0x9 => [0xD, 0xC]
  | 0x4 => [0xD, 0xC, 0x9]
  | 0x3 => [0x2, 0x5, 0x4]
  | 0x6 => [0xD, 0xC]
  | 0xA => [0x4]
  | 0xB => [0x4]
  | 0x8 => [0x3, 0x6]
  | 0x7 => [0x2, 0x3]
  | 0x1 => [0x2, 0x3, 0x5, 0xF]
  | 0xE => [0]
  | _ => []

/-- The units that need unit `u`. -/
def unitUsers (u : Nat) : List Nat := unitOrder.filter fun v => (unitNeeds v).contains u

/-- A refused enable bit: ERR_ENABLE_ORDER names the unit, the direction, and whether the unit itself was STOPPING (R19, R436). -/
def State.enableRefused (s : State) (u : Nat) (on stopping : Bool) : State :=
  (s.report E.ENABLE_ORDER none (u + 16 * b2n on + 32 * b2n stopping) 0).setRf Reg.GLB_STICKY_ORDER_REFUSED 1

/-- Whether STOPPING of a unit is 1. -/
def State.stopping (s : State) (u : Nat) : Bool := bit (s.rf Reg.GLB_UNIT_STATUS_STOPPING) u

/-- POOL is limited when the DR is enabled (R146). -/
def State.limitPool (s : State) : State :=
  let lim := (s.build.nodes - s.tmplNodeEnd) / 8192
  if s.rf Reg.DR_TILLER_POOL ≤ lim then s
  else ((s.setRf Reg.DR_TILLER_POOL lim).setRf Reg.DR_STICKY_CFG_IGNORED 1).reportPlain E.DR_CFG_WRITE none

/-- The SM zeroes its semaphores when it is enabled (R243). -/
def State.zeroSems (s : State) : State :=
  { s with sram := s.sram.filter fun e => e.1 / 2 ^ 24 != 0x09, ecc := s.ecc.filter fun e => e.1 / 2 ^ 24 != 0x09 }

/-- What the enabling of a unit begins: the SM's initialisation, the limit of the Tiller pool, the epochs and refills of the BG from now on, the
checks of the IFM, the decision numbers of the DBG (R507), and the wait of the DC before grain-locked epochs (R376). -/
def State.unitBegins (s : State) (u : Nat) : State :=
  match u with
  | 0x5 => s.zeroSems
  | 0x3 => s.limitPool
  | 0x9 => { s with bg := { s.bg with epochNo := s.now / (1000 * s.rf Reg.BG_CTRL_EPOCH_US), refillNo := s.now / 1000 } }
  | 0xD => { s with ifm := { s.ifm with hbGc := s.now, patrolGc := s.now, patrolLate := false, crcConfirm := false } }
  | 0xE => { s with dbg := { s.dbg with dec := 0, base := none, sync := none } }
  | 0xB =>
    let s := s.closeEpisode E.LOG_GAP.code 0
    let s := (s.setRf Reg.DC_STATUS_LOG_GAP 0).setRf Reg.DC_STATUS_DIVERGED 0
    let s := s.setRf Reg.DC_STATUS_WAITING (b2n s.glMode)
    { s with dc := { s.dc with lost := 0, replay := [], loaded := false, stallGc := none, stop := false, tagGc := s.now } }
  | _ => s

/-- An EN bit is written with 1. -/
def State.enableUnit (s : State) (u : Nat) : State :=
  if u = 0 ∨ s.unitEn u then s
  else if s.stopping u then s.enableRefused u true true
  else if (unitNeeds u).all s.unitEn then (s.setRf Reg.GLB_UNIT_EN (setBit (s.rf Reg.GLB_UNIT_EN) u true)).unitBegins u
  else s.enableRefused u true false

/-- The flags and the partition counters of the SM are cleared by its disable (R269). -/
def State.clearSmCounters (s : State) : State :=
  let s := { s with sram := s.sram.filter fun e => !(e.1 / 2 ^ 24 == 0x09 && e.1 % 4 == 2) }
  (List.range s.build.partitions).foldl (fun s p => (s.setReg (Reg.SM_WAITS_A p) 0#32).setReg (Reg.SM_COUNTS_A p) 0#32) s

/-- The disable of the DR or the DS fails every outstanding job of the PSC (R365). -/
def State.failAllJobs (s : State) : State := s.psc.jobs.foldl (fun s j => s.failJob j.k j.gen) s

/-- What the disabling of a unit ends at once. -/
def State.unitEnds (s : State) (u : Nat) : State :=
  match u with
  | 0x3 => s.failAllJobs
  | 0x4 => s.failAllJobs
  | 0x5 => { s.clearSmCounters with sm := { s.sm with semCmd := none } }
  | 0xB => s.setRf Reg.DC_STATUS_WAITING 0
  | _ => s

/-- An EN bit is written with 0: READY falls and STOPPING rises. -/
def State.disableUnit (s : State) (u : Nat) : State :=
  if u = 0 ∨ !s.unitEn u then s
  else if (unitUsers u).any s.unitEn then s.enableRefused u false false
  else
    let s := s.setRf Reg.GLB_UNIT_EN (setBit (s.rf Reg.GLB_UNIT_EN) u false)
    let s := s.setRf Reg.GLB_UNIT_STATUS_READY (setBit (s.rf Reg.GLB_UNIT_STATUS_READY) u false)
    (s.setRf Reg.GLB_UNIT_STATUS_STOPPING (setBit (s.rf Reg.GLB_UNIT_STATUS_STOPPING) u true)).unitEnds u

/-- The write of GLB_UNIT_EN: every selected enable in table order, then every selected disable in the reverse order (R467). -/
def State.unitEnWrite (s : State) (d : Word) : State :=
  let sel := fun (on : Bool) (u : Nat) => bit (wget d 31 16) u && bit (wget d 15 0) u == on
  let s := (unitOrder.filter (sel true)).foldl State.enableUnit s
  (unitOrder.reverse.filter (sel false)).foldl State.disableUnit s

/-- UNIT_READY (R467): the unit has finished its initialisation. -/
def execUnitReady (unit : Nat) (s : State) : Host.Outcome State Fault Refusal :=
  let u := unit % 16
  .next (if s.unitEn u ∧ bit (s.rf Reg.GLB_UNIT_STATUS_READY) u = false then
      s.setRf Reg.GLB_UNIT_STATUS_READY (setBit (s.rf Reg.GLB_UNIT_STATUS_READY) u true)
    else s)

/-! ### Stopping (R484) -/

/-- Whether a request or a transfer that waits for a tag serves a use that satisfies `f`. -/
def State.mmUsed (s : State) (f : MmUse → Bool) : Bool := s.mm.busy.any (fun x => f x.use) || s.mm.waiting.any (fun x => f x.use)

/-- The CFE's transfers. -/
def MmUse.isCfe : MmUse → Bool
  | .ring .. => true
  | .ctxDesc => true
  | .reply .. => true
  | .shadow .. => true
  | _ => false

/-- The GS's transfers. -/
def MmUse.isGs : MmUse → Bool
  | .tmplLoad .. => true
  | .tmplPatch .. => true
  | .param .. => true
  | _ => false

/-- The MH's transfers. -/
def MmUse.isMh : MmUse → Bool
  | .granary .. => true
  | _ => false

/-- The DC's log writes. -/
def MmUse.isLog : MmUse → Bool
  | .dcLog => true
  | _ => false

/-- The DBG's ring writes. -/
def MmUse.isTrace : MmUse → Bool
  | .traceBeat .. => true
  | _ => false

/-- The condition of R484 on which STOPPING of a unit falls. -/
def State.stopDone (s : State) (u : Nat) : Bool :=
  match u with
  | 0xD => !s.ifm.log.any (·.writing)
  | 0xC => s.pau.tmplQ.isEmpty && s.pau.acctOut.isEmpty && s.pau.locking.isNone &&
      !(match s.pau.tear with
        | some t => t.out
        | none => false)
  | 0xF => !s.fe.slow.any (fun e => e.phase == .running)
  | 0x1 => !s.mmUsed MmUse.isCfe
  | 0x2 => s.gs.pipe.isEmpty && !s.mmUsed MmUse.isGs
  | 0x3 => s.drEmpty
  | 0x4 => s.ds.links.all fun l => l.tasks.isEmpty
  | 0x5 => s.dr.postQ.isEmpty && s.smQueue == 0
  | 0x6 => !s.mmUsed MmUse.isMh && s.mh.sends.isEmpty
  | 0x7 => s.st.winnow.isNone && s.st.steps.all fun x => x.phase != .writing && x.phase != .reading && x.phase != .applied
  | 0x8 => s.era.jobs.all fun j => j.phase == .queued
  | 0xA => s.psc.jobs.isEmpty
  | 0xB => s.dc.held.isEmpty && s.dc.logQ.isEmpty && !s.mmUsed MmUse.isLog && !s.rb Reg.DC_STATUS_RUNNING
  | 0xE => !s.mmUsed MmUse.isTrace
  | _ => true

/-- UNIT_STOPPED (R467, R484): STOPPING of a unit falls once every unit that needs it is disabled and its own condition holds. -/
def execUnitStopped (unit : Nat) (s : State) : Host.Outcome State Fault Refusal :=
  let u := unit % 16
  .next (if s.stopping u ∧ (unitUsers u).all s.unitOff ∧ s.stopDone u then
      s.setRf Reg.GLB_UNIT_STATUS_STOPPING (setBit (s.rf Reg.GLB_UNIT_STATUS_STOPPING) u false)
    else s)

/-- GLB_UNLOCK_WRITE. -/
def execGlbUnlockWrite (data : BitVec 32) (s : State) : Host.Outcome State Fault Refusal :=
  .next (s.regInput (.glbUnlockWrite data) fun s => s.unlockWrite data)

/-- UNLOCK_EXPIRED. -/
def execUnlockExpired (s : State) : Host.Outcome State Fault Refusal := .next s.expireUnlock

/-- GLB_UNIT_EN_WRITE. -/
def execGlbUnitEnWrite (data : BitVec 32) (s : State) : Host.Outcome State Fault Refusal :=
  .next (s.regInput (.glbUnitEnWrite data) fun s => s.lkWrite fun s => s.unitEnWrite data)

/-- GLB_CRC_REF_WRITE. -/
def execGlbCrcRefWrite (data : BitVec 32) (s : State) : Host.Outcome State Fault Refusal :=
  .next (s.regInput (.glbCrcRefWrite data) fun s => s.lkWrite fun s => s.setReg Reg.GLB_CRC_REF_A data)

end Sys2Proof.Machine
end

