-- ==== Sys2Proof/Machine/Window.lean ====
section
/-! DEFINITION. Writes through the table windows (R471 to R474): each reaches one word of the selected table and is honoured or ignored by
the rule that owns the table. -/

namespace Sys2Proof.Machine

/-! ### Ignored writes -/

/-- The CFG_IGNORED bit of a unit's sticky register: at offset 0x40 of its page, for the DS at 0x10. -/
def cfgSticky (u : Nat) : RF := if u = U.DS then Reg.DS_STICKY_CFG_IGNORED else ⟨0x10000 * u + 0x40, 0, 0⟩

/-- The error of an ignored configuration write of a unit. -/
def cfgErr (u : Nat) : Err :=
  match u with
  | 0x1 => E.CFE_CFG_WRITE
  | 0x2 => E.GS_CFG_WRITE
  | 0x3 => E.DR_CFG_WRITE
  | 0x4 => E.DS_CFG_WRITE
  | 0x5 => E.SM_CFG_WRITE
  | 0x6 => E.MH_CFG_WRITE
  | 0x8 => E.ERA_CFG_WRITE
  | 0x9 => E.BG_CFG_WRITE
  | 0xA => E.PSC_CFG_WRITE
  | 0xB => E.DC_CFG_WRITE
  | 0xC => E.PAU_CFG_WRITE
  | 0xD => E.IFM_CFG_WRITE
  | 0xE => E.DBG_CFG_WRITE
  | _ => E.THR_CFG_WRITE

/-- A configuration write is ignored: the unit's CFG_IGNORED is set and its error raised (R458). -/
def State.cfgIgnored (s : State) (u : Nat) : State := (s.setRf (cfgSticky u) 1).reportPlain (cfgErr u) none

/-- Store the bits of `mask` of a table word; its other bits are read-only.  The whole word is written with its ECC (R423). -/
def State.putWord (s : State) (k : Nat) (mask d : Word) : State :=
  let s : State := { s with ecc := s.ecc.filter fun e => e.1 != k }
  s.setRam k ((s.ram k &&& ~~~mask) ||| (d &&& mask))

/-! ### Sheaves and Stooks -/

/-- The bits of word `i` of a sheaf entry that a window writes: every bit that is not read-only (R258). -/
def sheafMask (i : Nat) : Word :=
  match i with
  | 0 => 0xFFFFFFFC#32
  | 1 | 2 | 3 | 4 => 0xFFFFFFFF#32
  | 10 => 0xFFFFF000#32
  | 13 | 14 | 15 => 0xFFFFFFFF#32
  | _ => 0#32

/-- A write to a sheaf entry is honoured only while it is IDLE (R258). -/
def State.writeSheaf (s : State) (w : Nat) (d : Word) : State :=
  if s.rm (sheafRow (w / 16)) Sh.STATE ≠ 0 then s.cfgIgnored U.SM else s.putWord (ramKey 0x0A w) (sheafMask (w % 16)) d

/-- The bits of word `i` of a Stook entry that a window writes (R291). -/
def stookMask (i : Nat) : Word :=
  match i with
  | 0 => 0xFFFFFFFC#32
  | 1 => 0xFFFFFFFF#32
  | 2 | 4 | 5 => 0#32
  | 3 => 0xFFFFFF80#32
  | _ => 0xFFFFFFFF#32

/-- A write to a Stook entry is honoured only while it is IDLE (R291). -/
def State.writeStook (s : State) (w : Nat) (d : Word) : State :=
  if s.rm (stookRow (w / 16)) Sk.STATE ≠ 0 then s else s.putWord (ramKey 0x0D w) (stookMask (w % 16)) d

/-! ### Receive queues and routes -/

/-- Whether the ring of a queue lies wholly inside the Granary region of its partition; a queue without a ring has none to place. -/
def State.ringFits (s : State) (ws : List Word) : Bool :=
  let log2 := fld ws Rq.GR_LOG2
  log2 == 0 || s.inGranary (fld ws Rq.PART) (addr52 ws 1) (2 ^ log2)

/-- Whether words 0 to 2 of a queue pass the check of R273. -/
def State.rxqWordsOk (s : State) (ws : List Word) : Bool :=
  let log2 := fld ws Rq.GR_LOG2
  s.partOk (fld ws Rq.PART) && decide (fld ws Rq.CORE < s.build.ccores) && (log2 == 0 || (decide (5 ≤ log2) && decide (log2 ≤ 20))) &&
    rsvd ws 0 31 17 && rsvd ws 2 31 20 && s.ringFits ws

/-- A write to a receive queue (R273). -/
def State.writeRxq (s : State) (w : Nat) (d : Word) : State :=
  let q := w / 8
  let i := w % 8
  let r := rxqRow q
  let valid := s.rm r Rq.VALID == 1
  if 3 ≤ i then s
  else if valid then
    if i = 0 ∧ wget d 0 0 = 0 then
      ((s.putWord r 0xFFFFFFFF#32 d).setRm r Rq.USED 0).emptyRxq q
    else s
  else if i = 0 ∧ wget d 0 0 = 1 then
    let ws := [d, s.ram (r + 1), s.ram (r + 2)]
    if s.rxqWordsOk ws then
      let s := s.putWord r 0xFFFFFFFF#32 d
      (((s.setRam (r + 3) 0#32).setRam (r + 4) 0#32).setRam (r + 5) 0#32).emptyRxq q
    else
      (s.putWord r 0xFFFFFFFF#32 (d &&& 0xFFFFFFFE#32)).reportPlain E.RXQ_CONFIG
        (if s.partOk (fld ws Rq.PART) then some (fld ws Rq.PART) else none)
  else s.putWord (r + i) 0xFFFFFFFF#32 (if i = 1 then d &&& 0xFFFFFFC0#32 else d)

/-- A write to a route (R286): setting VALID raises GEN. -/
def State.writeRoute (s : State) (w : Nat) (d : Word) : State :=
  let i := w % 8
  let r := routeRow (w / 8)
  let valid := s.rm r Rt.VALID == 1
  let clears := i == 0 && !bit d.toNat 28
  if i ≠ 0 ∧ i ≠ 2 then s
  else if valid && !clears then s
  else
    let s' := s.putWord (r + i) (if i = 0 then 0x3FFFFFFF#32 else 0xFFFFFFFF#32) d
    if i = 0 ∧ bit d.toNat 28 then s'.setRm r Rt.GEN ((s.rm r Rt.GEN + 1) % 4096) else s'

/-! ### The ERA's tables -/

/-- The router window of a route-layer entry. -/
def routerSpan (ws : List Word) : Nat × Nat := (fld ws Rl.ROUTER_BASE, fld ws Rl.ROUTER_BASE + fld ws Rl.ROUTER_COUNT)

/-- Whether every reserved field of a route-layer entry is 0. -/
def layerReservedOk (ws : List Word) : Bool :=
  rsvd ws 0 15 10 && rsvd ws 0 31 21 && rsvd ws 1 15 10 && rsvd ws 1 31 23 && rsvd ws 2 31 18 && rsvd ws 7 15 15 && rsvd ws 7 31 28 &&
    rsvd ws 10 31 12 && rsvd ws 11 31 18 && rsvd ws 12 31 20 && rsvd ws 13 31 18 && rsvd ws 14 31 19 && rsvd ws 15 31 0

/-- Whether the fields of a route-layer entry lie in their ranges (R216, R217). -/
def State.layerRangesOk (s : State) (p : Nat) (ws : List Word) : Bool :=
  let k := fld ws Rl.K
  let n := fld ws Rl.EXPERTS
  let modeOk :=
    if fld ws Rl.MODE = 0 then
      decide (fld ws Rl.FMT ≠ 3) && decide (k ≤ fld ws Rl.CAND) && decide (fld ws Rl.CAND ≤ 16) &&
        decide (fld ws Rl.BIAS_INDEX + n ≤ s.rf (Reg.ERA_BIAS_BIAS_SIZE p))
    else decide (fld ws Rl.SEED_INDEX < s.rf (Reg.ERA_SEED_SEED_SIZE p))
  decide (1 ≤ k) && decide (k ≤ 8) && decide (k ≤ n) && decide (n ≤ s.build.experts) && decide (1 ≤ fld ws Rl.ROUTER_COUNT) &&
    decide (fld ws Rl.ROUTER_COUNT ≤ 64) && decide (fld ws Rl.SKIP_COUNT ≤ 262144) && decide ((routerSpan ws).2 ≤ 262144) && modeOk &&
    decide (fld ws Rl.RXQ_BASE + n ≤ s.build.rxqs) && decide (fld ws Rl.CAPACITY ≠ 0) && decide (fld ws Rl.LIST_MAX ≠ 0)

/-- Whether the router window of entry `l` overlaps that of another VALID entry of the partition. -/
def State.routersClash (s : State) (p l : Nat) (ws : List Word) : Bool :=
  (List.range 128).any fun m =>
    let o := s.row (layerRow p m) 16
    m != l && fld o Rl.VALID == 1 && decide ((routerSpan ws).1 < (routerSpan o).2) && decide ((routerSpan o).1 < (routerSpan ws).2)

/-- A write to a route-layer entry (R217). -/
def State.writeLayer (s : State) (w : Nat) (d : Word) : State :=
  let p := w / 16 / 128
  let l := w / 16 % 128
  let r := layerRow p l
  let st := s.rf (Reg.ST_STREAM_STATUS_SSTATE p)
  if st ≠ 0 ∧ st ≠ 3 then s.cfgIgnored U.ERA
  else if w % 16 ≠ 0 then (s.putWord (r + w % 16) 0xFFFFFFFF#32 d).setRm r Rl.VALID 0
  else
    let ws := d :: (s.row r 16).drop 1
    if wget d 0 0 = 0 ∨ (layerReservedOk ws && s.layerRangesOk p ws && !s.routersClash p l ws) then s.putWord r 0xFFFFFFFF#32 d
    else (s.putWord r 0xFFFFFFFF#32 (d &&& 0xFFFFFFFE#32)).reportPlain E.ERA_ENTRY (some p)

/-- A write to a bias or seed bank: it must reach a partition's area, on the inactive bank, with no swap of the table pending or committed, and for
biases with the bias loop off (R224). -/
def State.writeBank (s : State) (tid w : Nat) (d : Word) : State :=
  let bias := decide (tid < 0x11)
  let bank := if bias then tid - 0x0F else tid - 0x11
  let ok := match (if bias then s.biasPart w else s.seedPart (w / 2)) with
    | none => false
    | some p =>
      if bias then
        s.rf (Reg.ERA_BANK_BIAS_ACTIVE p) != bank && !s.rb (Reg.ERA_BANK_BIAS_PEND p) && !s.rb (Reg.ERA_BANK_BIAS_COMMIT p) &&
          s.sh (Reg.ERA_LOOP_BIAS_AUTO p) == 0
      else s.rf (Reg.ERA_BANK_SEED_ACTIVE p) != bank && !s.rb (Reg.ERA_BANK_SEED_PEND p) && !s.rb (Reg.ERA_BANK_SEED_COMMIT p)
  if ok then s.putWord (ramKey tid w) 0xFFFFFFFF#32 d
  else (s.setRf Reg.ERA_STICKY_BANK_IGNORED 1).reportPlain E.ERA_BANK_WRITE none

/-! ### The tables of the BG, the PSC, the DC and the domain -/

/-- A write to the energy-model tables: only the inactive bank, and no swap pending (R334). -/
def State.writeModel (s : State) (tid w : Nat) (d : Word) : State :=
  if s.rf Reg.BG_MODEL_STATUS_ACTIVE ≠ tid % 2 ∧ !s.rb Reg.BG_MODEL_STATUS_PEND then s.putWord (ramKey tid w) 0xFFFFFFFF#32 d
  else (s.setRf Reg.BG_STICKY_BANK_IGNORED 1).reportPlain E.BG_BANK_WRITE none

/-- A write to a regulator account: RATE and BURST; LEVEL is read-only, and accounts of stacks beyond the build ignore writes (R351). -/
def State.writeRegulator (s : State) (w : Nat) (d : Word) : State :=
  if s.build.memStacks ≤ w / 4 % 24 then s
  else match w % 4 with
    | 0 => s.putWord (ramKey 0x18 w) 0x0000FFFF#32 d
    | 1 => s.putWord (ramKey 0x18 w) 0x00FFFFFF#32 d
    | _ => s

/-- Whether a live claim names save set `i` of partition `p`. -/
def State.saveSetHeld (s : State) (p i : Nat) : Bool :=
  (s.psc.order).any fun c => s.clm c Clm.STATE != 0 && s.clm c Clm.PART == p && s.clm c Clm.SAVE_SET == i

/-- A write to a save-set entry (R353); index 0 has no entry. -/
def State.writeSaveSet (s : State) (w : Nat) (d : Word) : State :=
  let p := w / 2 / 256
  let i := w / 2 % 256
  let bad := w % 2 == 0 && bit d.toNat 31 &&
    (decide (s.rf Reg.PSC_SP_GRANULES < wget d 11 0 + wget d 17 12 + 1) || wget d 30 18 != 0 || decide (s.ram (ramKey 0x19 (w + 1)) ≠ 0#32))
  if i = 0 then s
  else if bad || s.saveSetHeld p i then s.cfgIgnored U.PSC
  else s.putWord (ramKey 0x19 w) 0xFFFFFFFF#32 d

/-- A write to GL_DUR: only while the DC is disabled; a DUR of 0 is stored as 1 (R394). -/
def State.writeDur (s : State) (w : Nat) (d : Word) : State :=
  if s.unitOff U.DC then s.putWord (ramKey 0x1B w) 0xFFFFFFFF#32 (BitVec.ofNat 32 (max 1 (wget d 15 0))) else s.cfgIgnored U.DC

/-- A write to the domain map: only while MEMBER and BUSY are 0 (R321). -/
def State.writeMap (s : State) (w : Nat) (d : Word) : State :=
  if s.rb Reg.DR_DOMAIN_STATUS_MEMBER ∨ s.rb Reg.DR_DOMAIN_STATUS_BUSY then s else s.putWord (ramKey 0x1C w) 0xFFFFFFFF#32 d

/-! ### The windows -/

/-- The table and the word of it that a window address reaches (R471). -/
def State.windowAt (s : State) (a : Nat) : Nat × Nat :=
  let f := s.reg (Reg.GLB_TW_SEL_A ((a - 0x100000) / 0x10000))
  (wget f 7 0, (65536 * wget f 27 16 + a % 0x10000) / 4)

/-- A write to word `w` of a table (R472 to R474, R402). -/
def State.writeTable (s : State) (tid w : Nat) (d : Word) : State :=
  if s.tableSize tid ≤ 4 * w ∨ !tableRw tid then s
  else match (match s.rowPart tid w with
      | some p => if s.lockedOrLocking p then some p else none
      | none => none) with
  | some p => s.enclIgnored p
  | none =>
    match tid with
    | 0x0A => s.writeSheaf w d
    | 0x0B => s.writeRxq w d
    | 0x0C => s.writeRoute w d
    | 0x0D => s.writeStook w d
    | 0x0E => s.writeLayer w d
    | 0x0F => s.writeBank tid w d
    | 0x10 => s.writeBank tid w d
    | 0x11 => s.writeBank tid w d
    | 0x12 => s.writeBank tid w d
    | 0x13 => s.putWord (ramKey tid w) 0xFFFFFFFF#32 d
    | 0x14 => s.writeModel tid w d
    | 0x15 => s.writeModel tid w d
    | 0x16 => s.writeModel tid w d
    | 0x17 => s.writeModel tid w d
    | 0x18 => s.writeRegulator w d
    | 0x19 => s.writeSaveSet w d
    | 0x1B => s.writeDur w d
    | 0x1C => s.writeMap w d
    | _ => s

/-- A write through a table window. -/
def State.windowWrite (s : State) (a : Nat) (d : Word) : State :=
  let (tid, w) := s.windowAt a
  s.writeTable tid w d

end Sys2Proof.Machine
end

