-- ==== Sys2Proof/Machine/Port.lean ====
section
/-! DEFINITION. The register port (R39 to R41, R453 to R476): the address map, a write applied field by field, the registers whose
write is a command, reads with their latch, and the checkpoint command (R391). -/

namespace Sys2Proof.Machine

/-! ### Addresses (R453 to R455) -/

/-- The address to which an access aliases: in a unit page bits [15:12] are ignored; above the pages nothing aliases. -/
def canonAddr (a : Nat) : Nat := if a < 0x100000 then a / 0x10000 * 0x10000 + a % 0x1000 else a

/-- Whether an address lies in a table window. -/
def inWindow (a : Nat) : Bool := decide (0x100000 ≤ a) && decide (a < 0x180000)

/-- The partition whose registers hold a word (R476). -/
def State.partOfReg (s : State) (a : Nat) : Option Nat := (List.range s.build.partitions).find? fun p => partReg p a

/-! ### Fields (R457, R458) -/

/-- A written value limited to the stated range. -/
def RegField.clamp (f : RegField) (v : Nat) : Nat := max f.mn (min v f.mx)

/-- The value that a write of the word `d` at `a` gives a field, after the replacement of values out of range: to the nearest limit, or
as the owning chapter states (R146, R214, R241, R268, R295, R370, R512). -/
def State.fieldValue (s : State) (a : Nat) (d : Word) (f : RegField) : Nat :=
  let n := s.build.partitions
  let v := f.clamp (wget d f.hi f.lo)
  if a = Reg.DR_WALK_THRESH_A ∧ f.lo = 16 then min v (max 1 (min (wget d 12 0) 4095) - 1)
  else if a = Reg.DBG_TRACE_KINDS_A then Nat.lor v 0x1003
  else if (idxAt (Reg.ST_PLAN_A 0) 0x40 n a).isSome ∧ f.lo = 8 then min v (min (wget d 6 0) 64)
  else if (idxAt (Reg.ERA_BIAS_A 0) 0x40 n a).isSome ∧ f.lo = 16 then min v (32768 - wget d 14 0)
  else if (idxAt (Reg.ERA_SEED_A 0) 0x40 n a).isSome ∧ f.lo = 16 then min v (4096 - wget d 11 0)
  else if (idxAt (Reg.PSC_GR_A 0) 0x20 n a).isSome ∧ f.lo = 0 ∧ v = 1 then 0
  else if (idxAt (Reg.MH_FC_THRESH_A 0) 4 8 a).isSome then
    (if f.lo = 0 then max 1 v else min v (max 1 (wget d 15 0) - 1))
  else match idxAt (Reg.SM_SEM_COUNT_A 0) 0x10 n a with
    | some p => min v (s.build.sems - s.rf (Reg.SM_SEM_BASE p))
    | none => v

/-- Whether two runs of entries, given by base and size, overlap; an empty one overlaps none. -/
def runsOverlap (a n b m : Nat) : Bool := decide (0 < n) && decide (0 < m) && decide (a < b + m) && decide (b < a + n)

/-- Whether a range given by base and size for partition `p` overlaps that of another partition. -/
def State.rangeClash (s : State) (p base size : Nat) (other : Nat → Nat × Nat) : Bool :=
  (List.range s.build.partitions).any fun q => q != p && runsOverlap base size (other q).1 (other q).2

/-- Whether a write would make the areas of two partitions overlap: biases, seeds (R241) or semaphores (R270). -/
def State.areaClash (s : State) (a : Nat) (d : Word) : Bool :=
  let n := s.build.partitions
  match idxAt (Reg.ERA_BIAS_A 0) 0x40 n a with
  | some p =>
    s.rangeClash p (wget d 14 0) (min (wget d 31 16) (32768 - wget d 14 0)) fun q =>
      (s.rf (Reg.ERA_BIAS_BIAS_BASE q), s.rf (Reg.ERA_BIAS_BIAS_SIZE q))
  | none => match idxAt (Reg.ERA_SEED_A 0) 0x40 n a with
    | some p =>
      s.rangeClash p (wget d 11 0) (min (wget d 28 16) (4096 - wget d 11 0)) fun q =>
        (s.rf (Reg.ERA_SEED_SEED_BASE q), s.rf (Reg.ERA_SEED_SEED_SIZE q))
    | none =>
      let sems := fun q => (s.rf (Reg.SM_SEM_BASE q), s.rf (Reg.SM_SEM_COUNT q))
      match idxAt (Reg.SM_SEM_BASE_A 0) 0x10 n a with
      | some p => s.rangeClash p (wget d 15 0) (s.rf (Reg.SM_SEM_COUNT p)) sems
      | none => match idxAt (Reg.SM_SEM_COUNT_A 0) 0x10 n a with
        | some p => s.rangeClash p (s.rf (Reg.SM_SEM_BASE p)) (min (wget d 16 0) (s.build.sems - s.rf (Reg.SM_SEM_BASE p))) sems
        | none => false

/-- Whether a partition holds a context. -/
def State.holdsContext (s : State) (p : Nat) : Bool := s.fe.ctxs.any fun c => c.cstate != 0 && c.part == p

/-- Whether a partition holds a live launch. -/
def State.holdsLaunch (s : State) (p : Nat) : Bool := s.gs.launches.any fun l => s.sl l.slot Sl.PART == p

/-- Whether a partition has a VALID receive queue. -/
def State.holdsRxq (s : State) (p : Nat) : Bool :=
  (List.range s.build.rxqs).any fun q => s.rm (rxqRow q) Rq.VALID == 1 && s.rm (rxqRow q) Rq.PART == p

/-- Whether a write that changes a field is honoured: a CFG field while its unit is disabled (R458), DR_TILLER_POOL while the DR and the GS
are (R146), areas that do not overlap (R241, R270), DR_BIND and DR_ROUND_NEXT without a live launch (R329), the Granary region and the
accounting ring without context or queue (R419), and the partition of a core that may not send (R297). -/
def State.fieldOpen (s : State) (a : Nat) (d : Word) (f : RegField) : Bool :=
  let n := s.build.partitions
  let quiet := fun (p : Nat) => !s.holdsContext p && !s.holdsRxq p
  if f.cls = .cfg then
    (if a = Reg.DR_TILLER_POOL_A then s.unitOff U.DR && s.unitOff U.GS else s.unitOff (a / 0x10000)) && !s.areaClash a d
  else match idxAt (Reg.DR_BIND_A 0) 0x10 n a with
  | some p => !s.holdsLaunch p
  | none => match idxAt (Reg.DR_ROUND_NEXT_A 0) 0x10 n a with
    | some p => !s.holdsLaunch p
    | none => match idxAt (Reg.PAU_GR_BASE_LO_A 0) 0x40 n a with
      | some p => quiet p
      | none => match idxAt (Reg.PAU_GR_BASE_HI_A 0) 0x40 n a with
        | some p => quiet p
        | none => match idxAt (Reg.PAU_GR_A 0) 0x40 n a with
          | some p => f.lo != 0 || quiet p
          | none => match idxAt (Reg.PAU_ACCT_BASE_LO_A 0) 0x40 n a with
            | some p => quiet p
            | none => match idxAt (Reg.PAU_ACCT_BASE_HI_A 0) 0x40 n a with
              | some p => quiet p
              | none => match idxAt (Reg.MH_CORE_CFG_A 0) 4 s.build.ccores a with
                | some c => f.lo != 0 || !s.rb (Reg.MH_CORE_CFG_ENABLE c)
                | none => true

/-- Apply a write to one field by its access type.  The answer is whether a field has been refused.  A CFG write that is honoured discards the running
CRC pass, and with it the confirmation of an earlier mismatch (R428). -/
def State.writeField (a : Nat) (d : Word) (r : State × Bool) (f : RegField) : State × Bool :=
  let (s, refused) := r
  match f.acc with
  | .ro => r
  | .wo => r
  | .wm => r
  | .w1c => (s.setReg a (s.reg a &&& ~~~(wput 0#32 f.hi f.lo (wget d f.hi f.lo))), refused)
  | .rw =>
    let v := s.fieldValue a d f
    if v = wget (s.reg a) f.hi f.lo then r
    else if s.fieldOpen a d f then
      let s := s.setReg a (wput (s.reg a) f.hi f.lo v)
      (if f.cls = .cfg then { s with ifm := { s.ifm with crcConfirm := false } } else s, refused)
    else (s, true)

/-! ### What a write brings about -/

/-- The regulators of a partition start full (R346). -/
def State.fillRegulators (s : State) (p : Nat) : State :=
  (List.range s.build.memStacks).foldl (fun s i => s.setLevel p i (s.rm (regulatorRow p i) Ra.BURST)) s

/-- What a write of `a` brings about beside its fields, from the word as it stood before: SH values (R459), REG_EN (R346), ACCT_EPOCHS (R417),
DC_LOG_HEAD (R386), and the checks of the IFM as they are switched on. -/
def State.afterWrite (s : State) (a : Nat) (old : Word) : State :=
  let n := s.build.partitions
  let rises := fun (i : Nat) => !bit old.toNat i && bit (s.reg a).toNat i
  if a = Reg.DC_LOG_HEAD_A then s.logFlush
  else if a = Reg.IFM_CTRL_A then
    let s := if rises 0 then { s.setRf Reg.IFM_CRC_STATUS_DONE 0 with ifm := { s.ifm with crcConfirm := false } } else s
    let s := if rises 2 then { s with ifm := { s.ifm with hbGc := s.now } } else s
    if rises 3 then { s with ifm := { s.ifm with patrolGc := s.now, patrolLate := false } } else s
  else match s.partOfReg a with
  | none => s
  | some p =>
    if (shRegs p).contains a then s.shWritten p
    else match idxAt (Reg.BG_PCFG_A 0) 0x40 n a with
    | some p => if rises 2 then s.fillRegulators p else s
    | none => match idxAt (Reg.PAU_ACCT_EPOCHS_A 0) 0x40 n a with
      | some p => { s with bg := { s.bg with acctDue := assocDel s.bg.acctDue p } }
      | none => s

/-- A write to a register word that is no command: field by field; a refused CFG field, or one with another condition, sets CFG_IGNORED
and raises the unit's error. -/
def State.writePlain (s : State) (a : Nat) (d : Word) : State :=
  let old := s.reg a
  let (s, refused) := (regFields s.build a).foldl (State.writeField a d) (s, false)
  let s := s.afterWrite a old
  if refused then s.cfgIgnored (a / 0x10000) else s

/-! ### Commands -/

/-- CKPT_CMD REQ (R391, R394): ignored while BUSY, and for a locked partition (R402). -/
def State.ckptReq (s : State) (p : Nat) : State :=
  if !s.partOk p then s
  else if s.lockedOrLocking p then s.enclIgnored p
  else if s.rb (Reg.DC_CKPT_STATUS_BUSY p) then s
  else s.setReg (Reg.DC_CKPT_STATUS_A p) 1#32

/-- CFE_CTX_CMD (R183). -/
def State.ctxCmd (s : State) (op q : Nat) : State :=
  match op with
  | 1 => s.ctxCreate
  | 2 => s.ctxDestroy false
  | 3 => s.ctxDestroy true
  | 4 => s.ctxReset q
  | _ => s

/-- SM_WATCH_CMD (R267). -/
def State.watchCmd (s : State) (op i : Nat) : State :=
  match op with
  | 1 => s.armWatch
  | 2 => s.cancelWatch i
  | _ => s

/-- SM_WAKE_CMD. -/
def State.wakeCmd (s : State) (op : Nat) : State :=
  match op with
  | 1 => s.wakeBind
  | 2 => s.wakeCancel
  | _ => s

/-- PAU_ENCL_CMD (R418). -/
def State.enclCmd (s : State) (op p : Nat) : State :=
  match op with
  | 1 => s.enclLock p
  | 2 => s.enclTeardown p
  | _ => s

/-- DBG_SNAP_CMD (R512). -/
def State.snapCmd (s : State) (op : Nat) : State :=
  match op with
  | 1 => s.fireSnap 0
  | 2 => s.releaseSnap
  | _ => s

/-- IFM_CAPTURE_CLR (R451). -/
def State.captureClr (s : State) (d : Word) : State :=
  let s := if bit d.toNat 0 then s.clearCapture Reg.IFM_FIRST_A else s
  let s := if bit d.toNat 1 then s.clearCapture Reg.IFM_LAST_A else s
  if bit d.toNat 2 then s.clearCapture Reg.IFM_WORST_A else s

/-- ERA_SWAP (R241). -/
def State.eraSwapCmd (s : State) (p : Nat) (d : Word) : State :=
  let s := if bit d.toNat 0 then s.eraSwap p (Reg.ERA_BANK_BIAS_PEND p) else s
  if bit d.toNat 1 then s.eraSwap p (Reg.ERA_BANK_SEED_PEND p) else s

/-- The write of a partition's command word: ERA_SWAP or CKPT_CMD. -/
def State.partCmd (s : State) (a : Nat) (d : Word) : Option State :=
  match idxAt (Reg.ERA_SWAP_A 0) 0x40 s.build.partitions a with
  | some p => some (if wget d 1 0 = 0 then s else s.eraSwapCmd p d)
  | none => match idxAt (Reg.DC_CKPT_CMD_A 0) 0x20 s.build.partitions a with
    | some p => some (if bit d.toNat 0 then s.ckptReq p else s)
    | none => match idxAt (Reg.CW_SEND_GO_A 0) 0x100 s.build.ccores a with
      | some c => some (s.sendGo c)
      | none => none

/-- The commands of the GLB, the CFE, the DR and the DS. -/
def State.commandLow (s : State) (a : Nat) (d : Word) : Option State :=
  if a = Reg.GLB_UNLOCK_A then some (s.unlockWrite d)
  else if a = Reg.GLB_UNIT_EN_A then some (s.lkWrite fun s => s.unitEnWrite d)
  else if a = Reg.GLB_CRC_REF_A then some (s.lkWrite fun s => s.setReg Reg.GLB_CRC_REF_A d)
  else if a = Reg.CFE_CTX_CMD_A then some (s.ctxCmd (wget d 2 0) (wget d 5 3))
  else if a = Reg.DR_DOMAIN_CMD_A then some (s.domainCmd (wget d 1 0))
  else if a = Reg.DS_LINK_CMD_A then some (s.dsLinkCmd (wget d 8 0) (wget d 11 9))
  else none

/-- The commands of the SM, the MH, the BG and the PAU. -/
def State.commandMid (s : State) (a : Nat) (d : Word) : Option State :=
  if a = Reg.SM_SEM_CMD_A then some (s.semCmd (wget d 1 0))
  else if a = Reg.SM_WATCH_CMD_A then some (s.watchCmd (wget d 1 0) (wget d 13 2))
  else if a = Reg.SM_WAKE_CMD_A then some (s.wakeCmd (wget d 1 0))
  else if a = Reg.SM_SHEAF_CMD_A then some (s.sheafCmd (wget d 7 0) (wget d 9 8))
  else if a = Reg.MH_STOOK_CMD_A then some (s.stookCmd (wget d 7 0) (wget d 9 8))
  else if a = Reg.BG_MODEL_CMD_A then some (if bit d.toNat 0 then s.modelSwap else s)
  else if a = Reg.PAU_ENCL_CMD_A then some (s.enclCmd (wget d 5 4) (wget d 3 0))
  else none

/-- The commands of the IFM and the DBG, and those of a partition or a core. -/
def State.commandHigh (s : State) (a : Nat) (d : Word) : Option State :=
  if a = Reg.IFM_CAPTURE_CLR_A then some (s.captureClr d)
  else if a = Reg.DBG_TRACE_MARK_A then some (s.traceMark d.toNat)
  else if a = Reg.DBG_SNAP_CMD_A then some (s.snapCmd (wget d 1 0))
  else if a = Reg.DBG_CTR_CMD_A then some (if bit d.toNat 0 then { s with dbg := { s.dbg with clear := true } } else s)
  else s.partCmd a d

/-- The write of a register whose write is a command, by its alias-free address; none for any other register. -/
def State.commandWrite (s : State) (a : Nat) (d : Word) : Option State :=
  match s.commandLow a d with
  | some t => some t
  | none => match s.commandMid a d with
    | some t => some t
    | none => s.commandHigh a d

/-! ### The lock (R402) -/

/-- The partition whose lock refuses a register write: its own registers in pages 0x1 to 0xC but for ACCT_HEAD, or CLUSTERS and Granary
fields of another partition that would overlap its own. -/
def State.lockRefuses (s : State) (a : Nat) (d : Word) : Option Nat :=
  match s.partOfReg a with
  | none => none
  | some p =>
    let u := a / 0x10000
    if 0xC < u then none
    else if s.lockedOrLocking p then (if a = Reg.PAU_ACCT_HEAD_A p then none else some p)
    else
      let after := s.setReg a d
      let locked := (List.range s.build.partitions).filter fun q => q != p && s.lockedOrLocking q
      if a = Reg.PAU_PCFG_CLUSTERS_A p then
        locked.find? fun q => (List.range s.build.clusters).any fun c => bit d.toNat c && bit (s.rf (Reg.PAU_PCFG_CLUSTERS q)) c
      else if a = Reg.PAU_GR_BASE_LO_A p ∨ a = Reg.PAU_GR_BASE_HI_A p ∨ a = Reg.PAU_GR_A p then
        locked.find? fun q => after.granaryClash p q
      else none

/-! ### Writes -/

/-- RX_STATUS of a core window: its flags are those of the queue that RX_Q names (R280). -/
def State.writeRxStatus (s : State) (c : Nat) (d : Word) : State :=
  let q := s.rf (Reg.CW_RX_Q c)
  if q < s.build.rxqs then s.setRam (rxqRow q + 5) (s.ram (rxqRow q + 5) &&& ~~~(d &&& 0xC0#32)) else s

/-- A write of a unit page or a core window, at its alias-free address. -/
def State.regWrite (s : State) (a : Nat) (d : Word) : State :=
  if (regRow? s.build a).isNone then s
  else match s.lockRefuses a d with
  | some p => s.enclIgnored p
  | none =>
    match s.commandWrite a d with
    | some s => s
    | none =>
      match idxAt (Reg.CW_RX_STATUS_A 0) 0x100 s.build.ccores a with
      | some c => s.writeRxStatus c d
      | none => s.writePlain a d

/-- A write anywhere in the window of the register port. -/
def State.portWrite (s : State) (a : Nat) (d : Word) : State :=
  if inWindow a then s.windowWrite a d else s.regWrite (canonAddr a) d

/-! ### Reads (R460) -/

/-- The low registers of the 64-bit RO values that appear as two registers. -/
def pairLows : List Nat :=
  [Reg.GLB_GC_LO_A, Reg.DC_EPOCH_LO_A, Reg.DC_DIVERGE_LO_A, Reg.PAU_UNATTR_LO_A, Reg.IFM_FIRST_A + 8, Reg.IFM_LAST_A + 8,
   Reg.IFM_WORST_A + 8, Reg.DBG_SNAP_GC_LO_A] ++
  ((List.range 16).flatMap fun p => [Reg.ST_STEP_LO_A p, Reg.MH_TELEM_SUM_LO_A p]) ++ (List.range 8).map Reg.DBG_WAIT_LO_A

/-- A word as it stands, anywhere in the window. -/
def State.liveWord (s : State) (a : Nat) : Word :=
  if inWindow a then
    let (tid, w) := s.windowAt a
    s.windowWord tid w
  else s.regView (canonAddr a)

/-- Whether a read of `a` latches the word above it. -/
def latches (a : Nat) : Bool := if inWindow a then a % 8 == 0 else pairLows.contains (canonAddr a)

/-- The address under which a latched high half is found again. -/
def latchKey (a : Nat) : Nat := canonAddr a

/-- A word read through a window is checked as any unit's read is (R421, R423, R426): a single-bit error is corrected, and an uncorrectable word is
answered as the patrol answers it.  The data that such a read returns are a free value (notes/assumptions/43.md). -/
def State.readWord (s : State) (a : Nat) : State × Word :=
  let v := s.liveWord a
  let (tid, w) := s.windowAt a
  if !inWindow a ∨ s.windowHidden tid w ∨ s.thr.mbist then (s, v)
  else match s.ecc.find? fun e => e.1 == ramKey tid w with
    | some (_, 1) => (s.patrol tid w, v)
    | some (_, 2) =>
      let (f, s) := s.takeFree
      (s.patrol tid w, f)
    | _ => (s, v)

/-- A read without an effect but for the latch: the word comes from the latch, or is read as it stands, and so is the word above it when it is
latched. -/
def State.latchedRead (s : State) (a : Nat) : State × Word :=
  let (s, v) := match s.glb.latch with
    | some (k, w) => if k = latchKey a then (s, w) else s.readWord a
    | none => s.readWord a
  if latches a then
    let (s, h) := s.readWord (a + 4)
    ({ s with glb := { s.glb with latch := some (latchKey a + 4, h) } }, v)
  else ({ s with glb := { s.glb with latch := none } }, v)

/-- The core whose RX_POP, or OUT_POP, an address is. -/
def State.popAt (s : State) (base a : Nat) : Option Nat := idxAt base 0x100 s.build.ccores a

/-- A read anywhere in the window of the register port. -/
def State.portRead (s : State) (a : Nat) : State × Word :=
  let s := s.expireUnlock
  match s.popAt (Reg.CW_RX_POP_A 0) a with
  | some c => s.unlatch.rxPop c
  | none => match s.popAt (Reg.CW_OUT_POP_A 0) a with
    | some c => s.unlatch.outPop c
    | none => s.latchedRead a

/-! ### Accesses of the register port (R40, R41, R378) -/

/-- A write request: misaligned, it draws rp_err and nothing else happens; to the DBG or the DC it is not held in grain-locked mode. -/
def State.portWriteReq (s : State) (i : Instr) (a : Nat) (d : Word) : State :=
  if !s.blkPresent then s
  else if a % 4 ≠ 0 then s.emit (.rpAck none true)
  else if a < 0x100000 ∧ (a / 0x10000 = U.DBG ∨ a / 0x10000 = U.DC) then s.regDone fun s => s.portWrite a d
  else s.regInput i fun s => s.portWrite a d

/-- A read request; a pop goes the way of its own row. -/
def State.portReadReq (s : State) (a : Nat) : State :=
  if !s.blkPresent then s
  else if a % 4 ≠ 0 then s.emit (.rpAck none true)
  else match s.popAt (Reg.CW_RX_POP_A 0) a with
  | some c => s.regRead (.rxPop c) a fun s => (s.popTurn c).rxPop c
  | none => match s.popAt (Reg.CW_OUT_POP_A 0) a with
    | some c => s.regRead (.outPop c) a fun s => s.outPop c
    | none =>
      let (s, w) := s.expireUnlock.latchedRead a
      s.emit (.rpAck (some w) false)

/-- REGISTER_WRITE (R457). -/
def execRegisterWrite (addr : BitVec 21) (data : BitVec 32) (s : State) : Host.Outcome State Fault Refusal :=
  .next (s.portWriteReq (.registerWrite addr data) addr.toNat data)

/-- LATCHED_LOW_READ (R460). -/
def execLatchedLowRead (addr : BitVec 21) (s : State) : Host.Outcome State Fault Refusal := .next (s.portReadReq addr.toNat)

/-- TABLE_WINDOW_WRITE (R471). -/
def execTableWindowWrite (addr : BitVec 21) (data : BitVec 32) (s : State) : Host.Outcome State Fault Refusal :=
  .next (s.portWriteReq (.tableWindowWrite addr data) addr.toNat data)

/-- ROUTE_LAYER_WRITE (R217). -/
def execRouteLayerWrite (addr : BitVec 21) (data : BitVec 32) (s : State) : Host.Outcome State Fault Refusal :=
  .next (s.portWriteReq (.routeLayerWrite addr data) addr.toNat data)

/-- ERA_BANK_WRITE (R224). -/
def execEraBankWrite (addr : BitVec 21) (data : BitVec 32) (s : State) : Host.Outcome State Fault Refusal :=
  .next (s.portWriteReq (.eraBankWrite addr data) addr.toNat data)

/-- RXQ_ENTRY_WRITE (R273). -/
def execRxqEntryWrite (addr : BitVec 21) (data : BitVec 32) (s : State) : Host.Outcome State Fault Refusal :=
  .next (s.portWriteReq (.rxqEntryWrite addr data) addr.toNat data)

/-- ROUTE_ENTRY_WRITE (R286). -/
def execRouteEntryWrite (addr : BitVec 21) (data : BitVec 32) (s : State) : Host.Outcome State Fault Refusal :=
  .next (s.portWriteReq (.routeEntryWrite addr data) addr.toNat data)

/-- SHEAF_ENTRY_WRITE (R258). -/
def execSheafEntryWrite (addr : BitVec 21) (data : BitVec 32) (s : State) : Host.Outcome State Fault Refusal :=
  .next (s.portWriteReq (.sheafEntryWrite addr data) addr.toNat data)

/-- STOOK_ENTRY_WRITE (R291). -/
def execStookEntryWrite (addr : BitVec 21) (data : BitVec 32) (s : State) : Host.Outcome State Fault Refusal :=
  .next (s.portWriteReq (.stookEntryWrite addr data) addr.toNat data)

/-- SAVE_SET_WRITE (R353). -/
def execSaveSetWrite (addr : BitVec 21) (data : BitVec 32) (s : State) : Host.Outcome State Fault Refusal :=
  .next (s.portWriteReq (.saveSetWrite addr data) addr.toNat data)

/-- BG_MODEL_BANK_WRITE (R334). -/
def execBgModelBankWrite (addr : BitVec 21) (data : BitVec 32) (s : State) : Host.Outcome State Fault Refusal :=
  .next (s.portWriteReq (.bgModelBankWrite addr data) addr.toNat data)

/-- DOMAIN_MAP_WRITE (R321). -/
def execDomainMapWrite (addr : BitVec 21) (data : BitVec 32) (s : State) : Host.Outcome State Fault Refusal :=
  .next (s.portWriteReq (.domainMapWrite addr data) addr.toNat data)

/-- CKPT_CMD (R391): a write of REQ, which grain-locked mode does not hold. -/
def execCkptCmd (part : Nat) (s : State) : Host.Outcome State Fault Refusal := .next (s.dbgInput fun s => s.ckptReq part)

end Sys2Proof.Machine
end

