-- ==== Sys2Proof/Machine/Determ.lean ====
section
/-! DEFINITION. Grain-locked mode (R376 to R384), replay (R389, R390) and the tag check (R393): the start of epoch 0, the boundary at which
held inputs are admitted in the order of R381, and what a replay log supplies in their place. -/

namespace Sys2Proof.Machine

/-! ### The start (R376) -/

/-- Whether no task, MM request or fabric request of the block is outstanding. -/
def State.nothingOut (s : State) : Bool :=
  s.ds.links.all (fun l => l.tasks.isEmpty) && s.mm.busy.isEmpty && s.mm.waiting.isEmpty && s.fe.signals.isEmpty &&
    s.mh.sends.isEmpty && s.sm.msgs.isEmpty && s.dr.departs.isEmpty && s.dr.sendQ.all (fun e => e.seq.isNone)

/-- The clock that the rules act on has changed (R377): the waits in progress count from now on it, and budget epochs and refills go on
from it. -/
def State.rebase (s : State) : State :=
  let s : State := { s.restamp with tb := s.tb }
  { s with bg := { s.bg with epochNo := s.now / (1000 * max 1 (s.rf Reg.BG_CTRL_EPOCH_US)), refillNo := s.now / 1000 },
           dc := { s.dc with tagGc := s.now } }

/-- DC_START_GC. -/
def State.startGc (s : State) : Nat := s.reg64 Reg.DC_START_GC_LO_A Reg.DC_START_GC_HI_A

/-- The payload of the START record (R385). -/
def State.startPayload (s : State) : List Word :=
  words64 s.gc ++ [BitVec.ofNat 32 (s.rf Reg.DC_CTRL_EPOCH_CC), s.reg Reg.GLB_BLOCK_VERSION_A, s.reg Reg.GLB_FW_VERSION_A]

/-- The DC reads the log that it replays (R389); notes/assumptions/24.md says when. -/
def State.readReplay (s : State) : State :=
  let n := s.rf Reg.DC_REPLAY_RECORDS
  let base := 2 ^ 6 * s.rf Reg.DC_REPLAY_BASE_LO_RPL_LO + 2 ^ 32 * s.rf Reg.DC_REPLAY_BASE_HI_RPL_HI
  if n = 0 then s.replayData true []
  else match s.mmRead base (ceilDiv n 2) (s.rf Reg.DC_LOG_CFG_LOG_PART) 1 8 .dcReplay with
    | (s, true) => s
    | (s, false) => s.replayData false []

/-- Epoch 0 begins. -/
def State.glBegin (s : State) : State :=
  let s := (s.setRf Reg.DC_STATUS_WAITING 0).setRf Reg.DC_STATUS_RUNNING 1
  let s := (s.setReg64 Reg.DC_EPOCH_LO_A Reg.DC_EPOCH_HI_A 0).setRf Reg.DC_STATUS_STALLED 0
  let s : State := { s with dc := { s.dc with startCc := s.cc, mmNo := 0, taskNo := 0 } }
  let s := s.rebase.logRec 0 none s.startPayload
  if s.rb Reg.DC_CTRL_REPLAY then (s.setRf Reg.DC_STATUS_REPLAYING 1).readReplay else s

/-- GL_START (R376): the DC waits, nothing is outstanding, and the local Global Count has reached DC_START_GC. -/
def execGlStart (s : State) : Host.Outcome State Fault Refusal :=
  .next (if s.rb Reg.DC_STATUS_WAITING ∧ s.unitEn U.DC ∧ s.nothingOut ∧ s.startGc ≤ s.gc then s.glBegin else s)

/-! ### What a held input is -/

/-- The flits of a fabric input: whether they came on the reply channel, and the flits. -/
def flitsOf : Instr → Option (Bool × List (List Word))
  | .fpLinkup f => some (false, [f])
  | .edgeDec f => some (false, [f])
  | .signal f => some (false, [f])
  | .sheafArrive f => some (false, [f])
  | .sheafRelease f => some (false, [f])
  | .msg fs => some (false, fs)
  | .departLeave f => some (false, [f])
  | .departLost f => some (false, [f])
  | .departJoin f => some (false, [f])
  | .ack f => some (true, [f])
  | .nack f => some (true, [f])
  | _ => none

/-- Carry out a fabric input. -/
def State.applyFlit (s : State) : Instr → State
  | .fpLinkup f => s.fpLinkup f
  | .edgeDec f => s.edgeArrive f
  | .signal f => s.recvReq [f] State.signalFlit
  | .sheafArrive f => s.recvReq [f] State.sheafArriveFlit
  | .sheafRelease f => s.recvReq [f] State.sheafReleaseFlit
  | .msg fs => s.recvReq fs fun s f => s.msgArrive fs f
  | .departLeave f => s.recv [f] State.departLeave
  | .departLost f => s.recv [f] State.departLost
  | .departJoin f => s.recv [f] State.departJoin
  | .ack f => s.recv [f] (State.reply · false)
  | .nack f => s.recv [f] (State.reply · true)
  | _ => s

/-- The access of the register port that an input is: its address, its data, and whether it is a read with an effect (R378, R385). -/
def regInputOf : Instr → Option (Nat × Word × Bool)
  | .registerWrite a d => some (a.toNat, d, false)
  | .tableWindowWrite a d => some (a.toNat, d, false)
  | .routeLayerWrite a d => some (a.toNat, d, false)
  | .eraBankWrite a d => some (a.toNat, d, false)
  | .rxqEntryWrite a d => some (a.toNat, d, false)
  | .routeEntryWrite a d => some (a.toNat, d, false)
  | .sheafEntryWrite a d => some (a.toNat, d, false)
  | .stookEntryWrite a d => some (a.toNat, d, false)
  | .saveSetWrite a d => some (a.toNat, d, false)
  | .bgModelBankWrite a d => some (a.toNat, d, false)
  | .domainMapWrite a d => some (a.toNat, d, false)
  | .glbUnlockWrite d => some (Reg.GLB_UNLOCK_A, d, false)
  | .glbUnitEnWrite d => some (Reg.GLB_UNIT_EN_A, d, false)
  | .glbCrcRefWrite d => some (Reg.GLB_CRC_REF_A, d, false)
  | .linkCmdDrain i => some (Reg.DS_LINK_CMD_A, packW [(0, i % 512), (9, 2)], false)
  | .linkCmdSleep i => some (Reg.DS_LINK_CMD_A, packW [(0, i % 512), (9, 3)], false)
  | .linkCmdPing i => some (Reg.DS_LINK_CMD_A, packW [(0, i % 512), (9, 4)], false)
  | .linkCmdWake i => some (Reg.DS_LINK_CMD_A, packW [(0, i % 512), (9, 5)], false)
  | .linkCmdRelink i => some (Reg.DS_LINK_CMD_A, packW [(0, i % 512), (9, 6)], false)
  | .contextCreate => some (Reg.CFE_CTX_CMD_A, 1#32, false)
  | .destroyDrain => some (Reg.CFE_CTX_CMD_A, 2#32, false)
  | .destroyKill => some (Reg.CFE_CTX_CMD_A, 3#32, false)
  | .queueReset q => some (Reg.CFE_CTX_CMD_A, packW [(0, 4), (3, q % 8)], false)
  | .domainLeave => some (Reg.DR_DOMAIN_CMD_A, 1#32, false)
  | .domainJoin => some (Reg.DR_DOMAIN_CMD_A, 2#32, false)
  | .semCmdSet => some (Reg.SM_SEM_CMD_A, 1#32, false)
  | .semCmdClearFlags => some (Reg.SM_SEM_CMD_A, 2#32, false)
  | .watchArm => some (Reg.SM_WATCH_CMD_A, 1#32, false)
  | .watchCancel i => some (Reg.SM_WATCH_CMD_A, packW [(0, 2), (2, i % 4096)], false)
  | .wakeBind => some (Reg.SM_WAKE_CMD_A, 1#32, false)
  | .wakeCancel => some (Reg.SM_WAKE_CMD_A, 2#32, false)
  | .sheafArm k => some (Reg.SM_SHEAF_CMD_A, packW [(0, k % 256), (8, 1)], false)
  | .sheafDisarm k => some (Reg.SM_SHEAF_CMD_A, packW [(0, k % 256), (8, 2)], false)
  | .sheafClearFault k => some (Reg.SM_SHEAF_CMD_A, packW [(0, k % 256), (8, 3)], false)
  | .stookOpen k => some (Reg.MH_STOOK_CMD_A, packW [(0, k % 256), (8, 1)], false)
  | .stookClose k => some (Reg.MH_STOOK_CMD_A, packW [(0, k % 256), (8, 2)], false)
  | .stookClearFault k => some (Reg.MH_STOOK_CMD_A, packW [(0, k % 256), (8, 3)], false)
  | .sendGo c => some (Reg.CW_SEND_GO_A c, 1#32, false)
  | .rxPop c => some (Reg.CW_RX_POP_A c, 0#32, true)
  | .outPop c => some (Reg.CW_OUT_POP_A c, 0#32, true)
  | .bgModelSwap => some (Reg.BG_MODEL_CMD_A, 1#32, false)
  | .eraSwapBias p => some (Reg.ERA_SWAP_A p, 1#32, false)
  | .eraSwapSeed p => some (Reg.ERA_SWAP_A p, 2#32, false)
  | .enclaveLock p => some (Reg.PAU_ENCL_CMD_A, packW [(0, p % 16), (4, 1)], false)
  | .teardown p => some (Reg.PAU_ENCL_CMD_A, packW [(0, p % 16), (4, 2)], false)
  | .captureClrFirst => some (Reg.IFM_CAPTURE_CLR_A, 1#32, false)
  | .captureClrLast => some (Reg.IFM_CAPTURE_CLR_A, 2#32, false)
  | .captureClrWorst => some (Reg.IFM_CAPTURE_CLR_A, 4#32, false)
  | _ => none

/-- The transfer of the power manager that an input is: budget 0, measurement 1 or lend acknowledgement 2, its partition or cluster, its nJ and
its temperature (R385). -/
def pmInput : Instr → Option (Nat × Nat × Word × BitVec 12)
  | .pmBudget p nj => some (0, p, nj, 0)
  | .pmMeas c nj t => some (1, c, nj, t)
  | .pmLendAck => some (2, 0, 0#32, 0)
  | _ => none

/-- The inputs of a kind among the held ones, each with what it is. -/
def pickHeld {α : Type} (f : Instr → Option α) (hs : List Held) : List (Held × α) :=
  hs.filterMap fun h => (f h.input).map fun x => (h, x)

/-- An input is held no more. -/
def State.unhold (s : State) (h : Held) : State := { s with dc := { s.dc with held := s.dc.held.erase h } }

/-! ### Replay: what is due (R389, R390) -/

/-- Whether a pending record of a KIND and a payload is to be used at the current epoch or before it. -/
def State.recDue (s : State) (r : List Word) : Bool := decide (recEpoch r ≤ s.epoch)

/-- Whether a record is the one of an input. -/
def State.recIs (s : State) (kind : Nat) (part : Option Nat) (payload r : List Word) : Bool :=
  wordAt r 0 == recHead kind part && r.drop 3 == s.recBody part payload

/-- A free input is admitted, which is logged.  In replay mode it needs a pending record that is due; without one it stays held. -/
def State.admitFree (s : State) (kind : Nat) (part : Option Nat) (payload : List Word) : State × Bool :=
  if !s.replaying then (s.logRec kind part payload, true)
  else match s.takeReplay fun r => s.recIs kind part payload r && s.recDue r with
    | (s, some _) => (s.logRec kind part payload, true)
    | (s, none) => (s, false)

/-- The partition that a record of a flit names. -/
def State.flitPart (s : State) (f : List Word) : Option Nat := if s.partOk (fld f Fl.PART) then some (fld f Fl.PART) else none

/-- The payload of a FLIT record (R385). -/
def flitPayload (rep : Bool) (fs : List (List Word)) : List Word :=
  let f := fs.headD []
  [packW [(0, fld f Fl.TYPE), (8, fld f Fl.SRC_DEV), (20, b2n rep)], BitVec.ofNat 32 (fld f Fl.SEQ), BitVec.ofNat 32 (crc32c fs.flatten)]

/-- The payload of the LINK record of a control answer. -/
def linkPayload (r : CmpRec) : List Word := [BitVec.ofNat 32 r.link, r.w0]

/-- The payload of the LINK record of a rise of dl_present. -/
def risePayload (i : Nat) : List Word := [BitVec.ofNat 32 (i + 2 * 2 ^ 12)]

/-- DUR of a task (R379, R394). -/
def State.taskDur (s : State) (t : OutTask) : Nat := wget (s.ram (ramKey 0x1B (64 * t.cls + t.ecls))) 15 0

/-- The deadline of a task (R379). -/
def State.taskDeadline (s : State) (t : OutTask) : Nat := t.epoch + s.taskDur t

/-- The deadline of an MM request. -/
def State.mmDeadline (s : State) (x : MmXfer) : Nat := x.epoch + s.rf Reg.DC_TIMES_MM_DUR

/-- The pending SLIP records of a task: those of its tag whose epoch less their slip is its deadline. -/
def State.slipsOf (s : State) (t : OutTask) : List (List Word) :=
  s.dc.replay.filter fun r => pf r 0 7 0 == 1 && pf r 3 31 0 == mkTag t.node t.ngen && recEpoch r == s.taskDeadline t + pf r 5 31 0

/-- The pending SLIP_MM record of a request. -/
def State.slipOfMm (s : State) (x : MmXfer) : Option (List Word) :=
  s.dc.replay.find? fun r => pf r 0 7 0 == 2 && pf r 3 7 0 == x.tag % 256 && pf r 3 11 8 == x.kind && recEpoch r == s.mmDeadline x + pf r 4 31 0

/-- Every completion record on chip. -/
def State.allRecs (s : State) : List CmpRec := s.ds.fifos.flatMap (·.2)

/-- Whether a completion record answers a control record or a link-up offer. -/
def CmpRec.isCtrl (r : CmpRec) : Bool := r.kind == 5 || r.kind == 15

/-- The held completion records of a task, in order of arrival, that entered before cc `b`. -/
def State.heldOf (s : State) (b i : Nat) (t : OutTask) : List CmpRec :=
  (s.fifo (i / 16)).filter fun r => r.held && decide (r.cc < b) && r.link == i && r.node == t.node && r.ngen == t.ngen && decide (r.kind ≤ 4)

/-- The held answers of a request, in order of arrival, that entered before cc `b`. -/
def State.answersOf (s : State) (b : Nat) (x : MmXfer) : List Held :=
  s.dc.held.filter fun h => decide (h.cc < b) && (match h.input with
    | .mmReadData tag .. => !x.write && tag == x.tag
    | .mmWriteCompletion tag _ => x.write && tag == x.tag
    | _ => false)

/-- Whether answers end their request. -/
def answersEnd (hs : List Held) : Bool := hs.any fun h => match h.input with
  | .mmReadData _ _ last _ => last
  | .mmWriteCompletion .. => true
  | _ => false

/-- In replay mode: whether every record that is due for epoch `e` of a task has arrived.  From the deadline on the boundary waits for the terminal
record: only then is it known which of the task's records were late (notes/assumptions/40.md). -/
def State.taskThere (s : State) (b e i : Nat) (t : OutTask) : Bool :=
  decide (e < s.taskDeadline t) || (s.heldOf b i t).any fun r => decide (r.kind ≤ 3)

/-- In replay mode: whether the answer of a request that is due has arrived. -/
def State.mmThere (s : State) (b e : Nat) (x : MmXfer) : Bool :=
  let due := match s.slipOfMm x with
    | some r => recEpoch r
    | none => s.mmDeadline x
  decide (e < due) || x.use == .dcReplay || answersEnd (s.answersOf b x)

/-- In replay mode: whether the input of a record that comes from the ports has arrived. -/
def State.recThere (s : State) (b : Nat) (r : List Word) : Bool :=
  match pf r 0 7 0 with
  | 3 => (pickHeld flitsOf s.dc.held).any fun (h, rep, fs) =>
      decide (h.cc < b) && s.recIs 3 (s.flitPart (fs.headD [])) (flitPayload rep fs) r
  | 7 => pf r 3 15 12 == 1 || (pf r 3 15 12 == 2 && (s.link (pf r 3 8 0)).pin) || s.allRecs.any fun c => c.held && decide (c.cc < b) && c.isCtrl && s.recIs 7 none (linkPayload c) r
  | _ => true

/-- Whether every input due at the boundary of epoch `e` in cc `b` has arrived (R390). -/
def State.replayReady (s : State) (b e : Nat) : Bool :=
  s.dc.stop || (s.dc.loaded &&
    (s.ds.links.all fun l => l.tasks.all fun t => s.taskThere b e l.id t) && s.mm.busy.all (s.mmThere b e) &&
    s.dc.replay.all fun r => decide (e < recEpoch r) || s.recThere b r)

/-- Whether a held input that came from a port matches no pending record (R390). -/
def State.unmatched (s : State) (b : Nat) : Bool :=
  ((pickHeld flitsOf s.dc.held).any fun (h, rep, fs) =>
    decide (h.cc < b) && !s.dc.replay.any (s.recIs 3 (s.flitPart (fs.headD [])) (flitPayload rep fs))) ||
  (s.allRecs.any fun c => c.held && decide (c.cc < b) && c.isCtrl && !s.dc.replay.any (s.recIs 7 none (linkPayload c))) ||
  s.dc.held.any fun h => decide (h.cc < b) && (match h.input with
    | .dlPresentRise i => !s.dc.replay.any (s.recIs 7 none (risePayload i))
    | _ => false)

/-- The START record of the log is used: its versions must be those of the block (R390). -/
def State.checkStart (s : State) : State :=
  match s.takeReplay fun r => pf r 0 7 0 == 0 with
  | (s, none) => s
  | (s, some r) => if wordAt r 6 = s.reg Reg.GLB_BLOCK_VERSION_A ∧ wordAt r 7 = s.reg Reg.GLB_FW_VERSION_A then s else s.diverge

/-- Replay ends; grain-locked mode goes on. -/
def State.endReplay (s : State) : State :=
  { s.setRf Reg.DC_STATUS_REPLAYING 0 with dc := { s.dc with replay := [], stop := false, stallGc := none } }

/-! ### Admission (R379 to R381) -/

/-- A record is late by `slip` epochs (R380). -/
def State.slipTask (s : State) (i slip : Nat) (t : OutTask) : State :=
  if slip = 0 then s
  else
    let s := (s.incRf Reg.DC_SLIPS slip).incRf (Reg.DC_PSLIPS t.part) slip
    let s := s.setRf (Reg.DC_GL_SLIP_MAX t.cls) (Nat.max (s.rf (Reg.DC_GL_SLIP_MAX t.cls)) (Nat.min slip 65535))
    s.logRec 1 (some t.part) [BitVec.ofNat 32 (mkTag t.node t.ngen), packW [(0, i), (16, t.cls)], BitVec.ofNat 32 slip]

/-- A completion record is held no more; it is behind every record that a slice could already take. -/
def State.letRec (s : State) (r : CmpRec) : State :=
  let o := ((s.allRecs.filter fun x => !x.held).map (·.order + 1)).foldl Nat.max (2 ^ 20 * s.gc)
  s.setFifo (r.link / 16) ((s.fifo (r.link / 16)).map fun x => if x == r then { x with held := false, order := o } else x)

/-- The records of a task that are admitted now: all of them from the deadline on, and whatever the deadline once the DC
has been disabled (R384); in replay mode all but those whose SLIP record is
for a later epoch. -/
def State.taskAdmits (s : State) (b i : Nat) (t : OutTask) : List CmpRec :=
  let held := s.heldOf b i t
  if s.unitEn U.DC ∧ s.epoch < s.taskDeadline t then []
  else if s.replaying then held.take (held.length - ((s.slipsOf t).filter fun r => decide (s.epoch < recEpoch r)).length)
  else held

/-- Admit the records of one task. -/
def State.admitTask (b : Nat) (s : State) (x : Nat × OutTask) : State :=
  let (i, t) := x
  (s.taskAdmits b i t).foldl (fun s r =>
    let slip := s.epoch - s.taskDeadline t
    let s := s.slipTask i slip t
    let s := if s.replaying ∧ slip ≠ 0 then
        (s.takeReplay fun r => pf r 0 7 0 == 1 && pf r 3 31 0 == mkTag t.node t.ngen && s.recDue r).1
      else s
    s.letRec r) s

/-- Admit task records, by issue number; then the held records that name no outstanding task, by link (R381, 1). -/
def State.admitTasks (s : State) (b : Nat) : State :=
  let ts := s.ds.links.flatMap fun l => l.tasks.map fun t => (l.id, t)
  let s := (sortBy (fun (x y : Nat × OutTask) => decide (x.2.no < y.2.no)) ts).foldl (State.admitTask b) s
  let stray := s.allRecs.filter fun r => r.held && decide (r.cc < b) && !r.isCtrl &&
    (decide (4 < r.kind) || ((s.link r.link).task? r.node r.ngen).isNone)
  (sortBy (fun (x y : CmpRec) => decide (x.link < y.link)) stray).foldl State.letRec s

/-- Hand one held answer to its request. -/
def State.giveAnswer (s : State) (h : Held) : State :=
  let s := s.unhold h
  match h.input with
  | .mmReadData tag st last d => s.readBeat tag st last d
  | .mmWriteCompletion tag st => s.writeDone tag st
  | _ => s

/-- Admit the answer of one request, if it is complete and due. -/
def State.admitAnswer (b : Nat) (s : State) (x : MmXfer) : State :=
  let hs := s.answersOf b x
  let slip := s.epoch - s.mmDeadline x
  let due := match (if s.replaying then s.slipOfMm x else none) with
    | some r => decide (recEpoch r ≤ s.epoch)
    | none => !s.unitEn U.DC || decide (s.mmDeadline x ≤ s.epoch)
  if !answersEnd hs ∨ !due then s
  else
    let s := if slip = 0 then s else s.logRec 2 (some x.part) [packW [(0, x.tag % 256), (8, x.kind)], BitVec.ofNat 32 slip]
    let s := if s.replaying then (s.takeReplay fun r => s.slipOfMm x == some r).1 else s
    hs.foldl State.giveAnswer s

/-- Admit MM data and responses, by request order (R381, 2); answers that no request awaits are dropped. -/
def State.admitMm (s : State) (b : Nat) : State :=
  let s := (sortBy (fun (x y : MmXfer) => decide (x.no < y.no)) s.mm.busy).foldl (State.admitAnswer b) s
  let stray := s.dc.held.filter fun h => match h.input with
    | .mmReadData tag .. => !s.mm.busy.any fun x => !x.write && x.tag == tag
    | .mmWriteCompletion tag _ => !s.mm.busy.any fun x => x.write && x.tag == tag
    | _ => false
  stray.foldl State.unhold s

/-- Admit control-record answers and link events, by link number (R381, 3). -/
def State.admitLinks (s : State) (b : Nat) : State :=
  (List.range s.build.links).foldl (fun s i =>
    let answers := (s.fifo (i / 16)).filter fun r => r.held && decide (r.cc < b) && r.isCtrl && r.link == i
    let s := answers.foldl (fun s r => match s.admitFree 7 none (linkPayload r) with
      | (s, true) => s.letRec r
      | (s, false) => s) s
    let rises := s.dc.held.filter fun h => decide (h.cc < b) && h.input == .dlPresentRise i
    rises.foldl (fun s h => match s.admitFree 7 none (risePayload i) with
      | (s, true) => (s.unhold h).presentRise i
      | (s, false) => s) s) s

/-- The device, the TYPE and the SEQ of an input of the fabric. -/
def flitKey (x : Held × Bool × List (List Word)) : Nat × Nat × Nat :=
  let f := x.2.2.headD []
  (fld f Fl.SRC_DEV, fld f Fl.TYPE, fld f Fl.SEQ)

/-- The order of reply flits: SRC_DEV, SEQ. -/
def replyBefore (x y : Held × Bool × List (List Word)) : Bool :=
  let (d, _, q) := flitKey x
  let (e, _, r) := flitKey y
  decide (d < e) || (d == e && newer 32 r q)

/-- The order of request messages: SRC_DEV, TYPE, SEQ in serial order. -/
def requestBefore (x y : Held × Bool × List (List Word)) : Bool :=
  let (d, t, q) := flitKey x
  let (e, u, r) := flitKey y
  decide (d < e) || (d == e && (decide (t < u) || (t == u && newer 32 r q)))

/-- Admit one fabric input. -/
def State.admitFlit (s : State) (x : Held × Bool × List (List Word)) : State :=
  let (h, rep, fs) := x
  match s.admitFree 3 (s.flitPart (fs.headD [])) (flitPayload rep fs) with
  | (s, true) => (s.unhold h).applyFlit h.input
  | (s, false) => s

/-- Admit the levels of fp_present, then reply flits, then request messages (R381, 4 and 5). -/
def State.admitFabric (s : State) (b : Nat) : State :=
  let hs := s.dc.held.filter fun h => decide (h.cc < b)
  let s := hs.foldl (fun s h => match h.input with
    | .fpPresentRise => (s.unhold h).fpRise
    | .fpPresentFall => (s.unhold h).fpFall
    | _ => s) s
  let fl := pickHeld flitsOf hs
  let s := (sortBy replyBefore (fl.filter fun x => x.2.1)).foldl State.admitFlit s
  (sortBy requestBefore (fl.filter fun x => !x.2.1)).foldl State.admitFlit s

/-- A power-manager transfer takes effect. -/
def State.applyPm (s : State) (kind key : Nat) (nj : Word) (temp : BitVec 12) : State :=
  match kind with
  | 0 => s.budgetIn key nj
  | 1 => s.measIn key nj temp
  | _ => s.lendAck

/-- The partition that a power-manager record names. -/
def State.pmPart (s : State) (kind key : Nat) : Option Nat := if kind = 0 ∧ s.partOk key then some key else none

/-- Admit power-manager transfers (R381, 6). -/
def State.admitPm (s : State) (b : Nat) : State :=
  let xs := pickHeld pmInput (s.dc.held.filter fun h => decide (h.cc < b))
  let before := fun (x y : Held × Nat × Nat × Word × BitVec 12) =>
    decide (x.2.1 < y.2.1) || (x.2.1 == y.2.1 && decide (x.2.2.1 < y.2.2.1))
  (sortBy before xs).foldl (fun s (h, k, key, nj, temp) =>
    let s := (s.unhold h).logRec 6 (s.pmPart k key) [packW [(0, k), (4, key)], nj, temp.zeroExtend 32]
    s.applyPm k key nj temp) s

/-- A doorbell enters the FIFO. -/
def State.pushDoorbell (s : State) (addr data : Nat) : State := { s with fe := { s.fe with fifo := s.fe.fifo ++ [(addr, data)] } }

/-- The doorbell that an input is. -/
def doorbellInput : Instr → Option (Nat × Nat)
  | .doorbellWrite a d => some (a.toNat, d.toNat)
  | _ => none

/-- The partition of a context that is not FREE. -/
def State.ctxPart? (s : State) (c : Nat) : Option Nat := let x := s.ctx c; if x.cstate = 0 then none else some x.part

/-- Admit doorbells, by context, then queue, then arrival (R381, 7). -/
def State.admitDoorbells (s : State) (b : Nat) : State :=
  let xs := pickHeld doorbellInput (s.dc.held.filter fun h => decide (h.cc < b))
  (sortBy (fun (x y : Held × Nat × Nat) => decide (x.2.1 / 8 < y.2.1 / 8)) xs).foldl (fun s (h, a, d) =>
    let s := (s.unhold h).logRec 4 (s.ctxPart? (a / 4096)) ([packW [(0, a / 4096), (10, a / 8 % 8)]] ++ words64 d)
    s.pushDoorbell a d) s

/-- The partition that a REG record names. -/
def State.regPart (s : State) (a : Nat) : Option Nat := if inWindow a then none else s.partOfReg (canonAddr a)

/-- Admit accesses of the register port, in arrival order (R381, 8). -/
def State.admitRegs (s : State) (b : Nat) : State :=
  let xs := pickHeld regInputOf (s.dc.held.filter fun h => decide (h.cc < b))
  xs.foldl (fun s (h, a, d, read) =>
    let s := (s.unhold h).logRec 5 (s.regPart a) [BitVec.ofNat 32 (a + 2 ^ 31 * b2n read), d]
    if read then s.readDone fun s => s.portRead a else s.regDone fun s => s.portWrite a d) s

/-- Use up the due replay records of a KIND, oldest first, carrying out each; they are logged again. -/
def State.playRecs (s : State) (kind : Nat) (keep : List Word → Bool) (f : State → List Word → State) : State :=
  let rs := s.dc.replay.filter fun r => pf r 0 7 0 == kind && keep r && s.recDue r
  rs.foldl (fun s r =>
    let s : State := { s with dc := { s.dc with replay := s.dc.replay.erase r } }
    f (if s.logging then s.logEmit r else s) r) s

/-- The link of a LINK record leaves, or comes back, at the recorded epoch (R384, R389); it comes back only when its engine is there. -/
def State.playLinks (s : State) : State :=
  let s := s.playRecs 7 (fun r => pf r 3 15 12 == 1) fun s r => s.presentFall (pf r 3 8 0)
  s.playRecs 7 (fun r => pf r 3 15 12 == 2 && (s.link (pf r 3 8 0)).pin) fun s r => (s.presentRise (pf r 3 8 0)).dropRise (pf r 3 8 0)

/-- The DC carries out recorded PM, DOORBELL and REG inputs (R389). -/
def State.playInputs (s : State) : State :=
  let s := s.playRecs 6 (fun _ => true) fun s r => s.applyPm (pf r 3 1 0) (pf r 3 8 4) (wordAt r 4) (BitVec.ofNat 12 (pf r 5 11 0))
  let s := s.playRecs 4 (fun _ => true) fun s r => s.pushDoorbell (4096 * pf r 3 9 0 + 8 * pf r 3 12 10) (wide r 4)
  s.playRecs 5 (fun _ => true) fun s r =>
    if pf r 3 31 31 = 1 then (s.portRead (pf r 3 20 0)).1 else s.portWrite (pf r 3 20 0) (wordAt r 4)

/-- Admit what a boundary admits, in the order of R381, from the inputs that entered before cc `b`. -/
def State.admitHeld (s : State) (b : Nat) : State :=
  let s := ((s.admitTasks b).admitMm b).admitLinks b
  let s := if s.replaying then s.playLinks else s
  let s := s.admitFabric b
  if s.replaying then s.playInputs else ((s.admitPm b).admitDoorbells b).admitRegs b

/-! ### The boundary -/

/-- Grain-locked mode ends: everything held is admitted whatever its deadline, and normal timing follows (R384). -/
def State.glEnd (s : State) : State :=
  let s := s.admitHeld (s.cc + 1)
  let s := s.allRecs.foldl (fun s r => if r.held then s.letRec r else s) s
  let s := s.dc.held.foldl State.giveAnswer s
  let s : State := { s with psc := { s.psc with held := [] } }
  ((s.setRf Reg.DC_STATUS_RUNNING 0).setRf Reg.DC_STATUS_STALLED 0).rebase

/-- What follows the admissions: claims held back by R368 may resume, the checks of R517 run when the epoch time has crossed a whole
µs, the starts of LAUNCH_AT are reached, and records that wait for the log ring are written. -/
def State.afterAdmission (s : State) (e : Nat) : State :=
  let check := decide (s.epochTime (e - 1) / 1000 < s.epochTime e / 1000)
  let s : State := { s with psc := { s.psc with held := [] }, tb := { s.tb with check := check } }
  let s := if check then s.sampleEngines else s
  s.reachStarts.logFlush

/-- Epoch advance waits: for room in the log ring (R386), or for an input of the replay (R390). -/
def State.mustStall (s : State) (b e : Nat) : Bool :=
  (s.rb Reg.DC_CTRL_LOG_STALL && !s.dc.logQ.isEmpty) || (s.replaying && s.unitEn U.DC && !s.replayReady b e)

/-- The DC stalls; the real time from which a replay waits is kept. -/
def State.stall (s : State) (b e : Nat) : State :=
  let miss := s.replaying && s.dc.loaded && !s.replayReady b e
  { s.setRf Reg.DC_STATUS_STALLED 1 with dc := { s.dc with stallGc := if miss then some (s.dc.stallGc.getD s.gc) else s.dc.stallGc } }

/-- The boundary of epoch `e` in cc `b`. -/
def State.glBoundary (s : State) (b e : Nat) : State :=
  let s := (s.setReg64 Reg.DC_EPOCH_LO_A Reg.DC_EPOCH_HI_A e).setRf Reg.DC_STATUS_STALLED 0
  let s : State := { s with dc := { s.dc with startCc := b, stallGc := none } }
  let s := if s.replaying then s.checkStart else s
  let s := if s.replaying ∧ s.unitEn U.DC ∧ !s.dc.stop ∧ s.unmatched b then s.diverge else s
  let s := if s.replaying ∧ (s.dc.stop ∨ !s.unitEn U.DC) then s.endReplay else s
  if !s.unitEn U.DC then s.glEnd
  else
    let s := s.admitHeld b
    let s := if s.replaying ∧ s.dc.replay = [] then s.endReplay else s
    s.afterAdmission e

/-- GL_EPOCH_BOUNDARY (R376, R381): EPOCH_CC core cycles have passed since the last boundary; the epoch advances unless it must wait.  A
boundary that has waited stands in the cc in which it ends its wait. -/
def execGlEpochBoundary (s : State) : Host.Outcome State Fault Refusal :=
  let b0 := s.dc.startCc + s.rf Reg.DC_CTRL_EPOCH_CC
  if !s.rb Reg.DC_STATUS_RUNNING ∨ s.cc < b0 then .next s
  else
    let s := s.logFlush
    let b := if s.rb Reg.DC_STATUS_STALLED then s.cc else b0
    let e := s.epoch + 1
    .next (if s.mustStall b e then s.stall b e else s.glBoundary b e)

/-- REPLAY_STALL (R390): an input has been missing for STALL_US of real Global Count; grain-locked mode goes on without the log. -/
def execReplayStall (s : State) : Host.Outcome State Fault Refusal :=
  .next (match s.dc.stallGc with
    | some t => if s.replaying ∧ t + 1000 * s.rf Reg.DC_TIMES_STALL_US ≤ s.gc then
        (s.reportPlain E.REPLAY_STALL none).endReplay
      else s
    | none => s)

/-! ### The tag check (R393) -/

/-- The age of a SEQ. -/
def seqAge (counter q : Nat) : Nat := (2 ^ 32 + counter - q % 2 ^ 32) % 2 ^ 32

/-- ERR_TAG_WINDOW is raised once for each episode: while `old` holds at the checks. -/
def State.tagEpisode (s : State) (kind p : Nat) (old : Bool) : State :=
  let k := windowKey kind p
  if !old then s.closeEpisode E.TAG_WINDOW.code k
  else if s.inEpisode E.TAG_WINDOW.code k then s
  else (s.openEpisode E.TAG_WINDOW.code k).reportPlain E.TAG_WINDOW (some p)

/-- Whether LAUNCH_IDs of a partition are too old: NEXT minus OLDEST. -/
def State.launchIdsOld (s : State) (p : Nat) : Bool :=
  s.gs.launches.any fun l => s.sl l.slot Sl.PART == p && decide (tagWindow ≤ seqAge (s.rf (Reg.GS_LAUNCH_ID_NEXT p)) l.launchId)

/-- The SEQs of a partition that are too old fail as if timed out (R318, R181, R288). -/
def State.failOldSeqs (s : State) (p : Nat) : State :=
  let gs := s.fe.signals.filter fun g => g.part == p && decide (tagWindow ≤ seqAge s.fe.sigSeq g.seq)
  let ms := s.mh.sends.filter fun x => x.part == p && decide (tagWindow ≤ seqAge s.mh.msgSeq x.seq)
  let es := s.dr.sendQ.filter fun e => e.part == p && (match e.seq with
    | some q => decide (tagWindow ≤ seqAge s.dr.remSeq q)
    | none => false)
  let s := ((s.tagEpisode 4 p !gs.isEmpty).tagEpisode 5 p !ms.isEmpty).tagEpisode 6 p !es.isEmpty
  let s := gs.foldl (fun s g => (s.reportSignal (some g.who) g.part E.SIGNAL_TIMEOUT).signalDone g E.SIGNAL_TIMEOUT.code 0) s
  let s := ms.foldl (fun s x => (s.reportPlain E.MSG_REMOTE_TIMEOUT (some x.part)).endSend x 5 E.MSG_REMOTE_TIMEOUT.code) s
  es.foldl (fun s e => s.failEdge e E.REMOTE_EDGE_TIMEOUT) s

/-- The check of one partition. -/
def State.checkTags (s : State) (p : Nat) : State :=
  let s := s.tagEpisode 3 p (s.launchIdsOld p)
  let s := s.tagEpisode 1 p (decide (tagWindow ≤ s.roundAge p))
  let s := s.tagEpisode 2 p (decide (tagWindow ≤ s.admitAge p))
  s.failOldSeqs p

/-- TAG_WINDOW_CHECK (R393): once per ms while the DC is enabled. -/
def execTagWindowCheck (s : State) : Host.Outcome State Fault Refusal :=
  .next (if s.unitEn U.DC ∧ 1000000 + s.dc.tagGc ≤ s.now then
      (List.range s.build.partitions).foldl State.checkTags { s with dc := { s.dc with tagGc := s.now } }
    else s)

end Sys2Proof.Machine
end

