-- ==== Sys2Proof/Machine/Slow.lean ====
section
/-! DEFINITION. The Thresher commands on events, signals, fences and queries (R169, R171, R180, R181, R310). -/

namespace Sys2Proof.Machine

/-! ### SIGNAL_REMOTE (R180, R181) -/

/-- SIGNAL_REMOTE (R181): to another member it sends a SIGNAL flit and completes with the reply; to this device's own number it is applied
to the local event in the next cc, as a local record of R173, and its outcome is known at once. -/
def execSignalRemote (c q : Nat) (s : State) : Host.Outcome State Fault Refusal :=
  match s.slowRun c q 0x10 with
  | none => .next s
  | some pkt =>
    let p := (s.ctx c).part
    let n := s.headQseq c q
    let s := if pf pkt 1 11 0 = s.self then (s.nextCcIf true).recordTurn c q n else s
    match s.startSignal (.cmd c q n (Rep.ofPkt pkt)) (pf pkt 1 11 0) (pf pkt 2 31 0) (pf pkt 3 0 0 == 1) (wide pkt 4) p with
    | (s, none) => .next (s.slowAway c q)
    | (s, some (code, v)) => .next (s.finishHead c q pkt code (if code = 0 then v else 0))

/-! ### FENCE (R310) -/

/-- Whether an MM write that Tirac issued for a queue's commands has no completion yet: a reply, a shadow record, or the finish record of a sequence that
a command of the queue has ended. -/
def State.writesOut (s : State) (c q : Nat) : Bool :=
  (s.mm.busy ++ s.mm.waiting).any fun x => match x.use with
    | .reply a b _ => a == c && b == q
    | .shadow a b => a == c && b == q
    | .st _ 5 arg => arg == 8 * c + q
    | _ => false

/-- Whether an EDGE_DEC or a SIGNAL that was sent for a queue's commands awaits its answer. -/
def State.remoteOut (s : State) (c q : Nat) : Bool :=
  s.dr.sendQ.any (fun e => e.ctx == c && e.q == q) ||
    s.fe.signals.any fun g => match g.who with
      | .launch slot => s.sl slot Sl.CONTEXT == c && s.sl slot Sl.QUEUE == q
      | .cmd a b _ _ => a == c && b == q

/-- FENCE (R310): its scope's further waits are over, and it completes; while they last it does not hold the processor (R516). -/
def execFence (c q : Nat) (s : State) : Host.Outcome State Fault Refusal :=
  match s.slowHeld c q 0x11 with
  | none => .next s
  | some pkt =>
    let scope := pf pkt 1 1 0
    .next (if (1 ≤ scope ∧ s.writesOut c q) ∨ (scope = 2 ∧ s.remoteOut c q) then s.slowAway c q else s.finishHead c q pkt 0)

/-! ### QUERY (R169) -/

/-- The packet of a QUERY of a kind that has started. -/
def State.queryPkt (s : State) (c q kind : Nat) : Option (List Word) :=
  match s.slowHeld c q 0x12 with
  | some pkt => if pf pkt 1 3 0 = kind then some pkt else none
  | none => none

/-- QUERY KIND 0 (R97, R169): the current handle of a template index; 0 for an index that is FREE or LOADING. -/
def execQueryTemplate (c q : Nat) (s : State) : Host.Outcome State Fault Refusal :=
  match s.queryPkt c q 0 with
  | none => .next s
  | some pkt =>
    let i := pf pkt 2 31 0
    if s.build.tmpls ≤ i then .next (s.refuse c q pkt E.TMPL_HANDLE)
    else if s.dir i Dir.STATE < 2 then .next (s.finishHead c q pkt 0)
    else if s.dir i Dir.PART ≠ (s.ctx c).part then .next (s.refuse c q pkt E.PACKET_FIELD)
    else .next (s.finishHead c q pkt 0 (mkHandle (s.dir i Dir.GEN) i))

/-- QUERY KIND 1 (R169): the value of an event. -/
def execQueryEvent (c q : Nat) (s : State) : Host.Outcome State Fault Refusal :=
  match s.queryPkt c q 1 with
  | none => .next s
  | some pkt =>
    let h := pf pkt 2 31 0
    match s.event? (hIdx h) with
    | none => .next (s.refuse c q pkt E.EVENT_HANDLE)
    | some ev =>
      if ev.gen ≠ hGen h then .next (s.refuse c q pkt E.EVENT_HANDLE)
      else if ev.part ≠ (s.ctx c).part then .next (s.refuse c q pkt E.PACKET_FIELD)
      else match s.checkEvent ev with
        | (s, some e) => .next (s.finishHead c q pkt e.code)
        | (s, none) => .next (s.finishHead c q pkt 0 ev.val.toNat)

/-- QUERY KIND 2 (R169): the state of the partition's live launch with a LAUNCH_ID, or 0xF. -/
def execQueryLaunch (c q : Nat) (s : State) : Host.Outcome State Fault Refusal :=
  match s.queryPkt c q 2 with
  | none => .next s
  | some pkt =>
    let p := (s.ctx c).part
    match s.gs.launches.find? fun l => l.launchId == pf pkt 2 31 0 && s.sl l.slot Sl.PART == p with
    | some l => .next (s.finishHead c q pkt 0 (s.sl l.slot Sl.STATE))
    | none => .next (s.finishHead c q pkt 0 0xF)

/-- QUERY KIND 3 (R169): the state of a queue of this context. -/
def execQueryQueue (c q : Nat) (s : State) : Host.Outcome State Fault Refusal :=
  match s.queryPkt c q 3 with
  | none => .next s
  | some pkt =>
    match s.queue? c (pf pkt 2 31 0) with
    | some x => .next (s.finishHead c q pkt 0 x.state.code)
    | none => .next (s.finishHead c q pkt 0 QState.disabled.code)

/-- QUERY KIND 4 (R169): the value of a semaphore, once the SM has finished its initialisation; a damaged one completes with the code (R422). -/
def execQuerySemaphore (c q : Nat) (s : State) : Host.Outcome State Fault Refusal :=
  match s.queryPkt c q 4 with
  | none => .next s
  | some pkt =>
    let i := pf pkt 2 31 0
    if !s.semOf i (s.ctx c).part then
      .next (s.refuse c q pkt (if i < s.build.sems ∧ (s.semPart i).isSome then E.PACKET_FIELD else E.SEM_HANDLE))
    else if !s.smReady then .next (s.slowAway c q)
    else match s.checkSem i with
      | (s, some e) => .next (s.finishHead c q pkt e.code)
      | (s, none) => .next (s.finishHead c q pkt 0 (s.semVal i))

/-! ### Events (R171) -/

/-- EVENT_CREATE (R171): the lowest FREE index is taken, within the partition's quota. -/
def execEventCreate (c q : Nat) (s : State) : Host.Outcome State Fault Refusal :=
  match s.slowRun c q 0x13 with
  | none => .next s
  | some pkt =>
    let p := (s.ctx c).part
    let used := (s.fe.events.filter fun e => e.live && e.part == p).length
    match (List.range 16384).find? fun i => !s.fe.events.any fun e => e.idx == i && e.live with
    | none => .next (s.refuse c q pkt E.EVENT_QUOTA)
    | some i =>
      if s.rf (Reg.CFE_EVENT_QUOTA p) < used + 1 then .next (s.refuse c q pkt E.EVENT_QUOTA)
      else
        let g := match s.fe.events.find? fun e => e.idx == i with
          | some e => (e.gen + 1) % 4096
          | none => 1
        let v := BitVec.ofNat 64 (wide pkt 2)
        let ev : Event := ⟨i, true, g, p, pf pkt 1 0 0 == 1, v, ~~~v⟩
        let s := { s with fe := { s.fe with events := s.fe.events.filter (fun (e : Event) => e.idx != i) ++ [ev] } }
        .next (s.finishHead c q pkt 0 (mkHandle g i))

/-- Whether a packet names an event of this device: a record, a wait, a signal to this device, a query, a destroy, or a launch that waits for it or
records it. -/
def State.namesEvent (s : State) (h : Nat) (pkt : List Word) : Bool :=
  match pf pkt 0 7 0 with
  | 0x04 => pf pkt 1 31 0 == h
  | 0x05 => pf pkt 1 31 0 == h
  | 0x10 => pf pkt 1 11 0 == s.self && pf pkt 2 31 0 == h
  | 0x12 => pf pkt 1 3 0 == 1 && pf pkt 2 31 0 == h
  | 0x14 => pf pkt 1 31 0 == h
  | op => decide (1 ≤ op) && decide (op ≤ 3) && ((launchWaits pkt).any (fun w => w.1 == h) || (launchDone pkt).any fun d => d.1 == h)

/-- Whether any head, parked queue, pending record or gated launch refers to an event (R171), beside the command of queue `q` of context `c` that would
destroy it.  The records that lie behind a head packet are pending (R174). -/
def State.eventBusy (s : State) (c q h : Nat) : Bool :=
  s.fe.heads.any (fun x => s.holdsRecord x h || (!(x.ctx == c && x.q == q) && x.cur.any fun k => s.namesEvent h k.pkt)) ||
  s.fe.queues.any (fun x => x.pend.any (fun p => s.namesEvent h p.pkt) || x.park.any fun k => s.namesEvent h k.pkt) ||
  s.gs.launches.any fun l => (s.sl l.slot Sl.STATE == 1 || s.sl l.slot Sl.STATE == 2) &&
    (l.waits.any (fun w => w.1 == h) || (match l.doneEvent with
      | some d => d.1 == h
      | none => false))

/-- EVENT_DESTROY (R171): refused while the event is referred to; a damaged event has no references left (R422). -/
def execEventDestroy (c q : Nat) (s : State) : Host.Outcome State Fault Refusal :=
  match s.slowRun c q 0x14 with
  | none => .next s
  | some pkt =>
    let h := pf pkt 1 31 0
    match s.eventOf h (s.ctx c).part with
    | .error e => .next (s.refuse c q pkt e)
    | .ok ev =>
      if (s.eventBad ev).isNone ∧ s.eventBusy c q h then .next (s.refuse c q pkt E.EVENT_BUSY)
      else
        let s := s.updEvent ev.idx fun e => { e with live := false, part := 0, val := 0, valN := ~~~0 }
        .next (s.finishHead c q pkt 0)

end Sys2Proof.Machine
end

