-- ==== Sys2Proof/Machine/Tap.lean ====
section
/-! DEFINITION. The test access port (R494 to R496, R504). -/

namespace Sys2Proof.Machine

/-- The low `n` bits of a number, least significant first. -/
def bitsOf (n v : Nat) : List Bool := (List.range n).map (bit v)

/-- BYPASS is selected: the one-bit register captures 0, and tdi passes through it (R78). -/
def State.tapToBypass (s : State) : State := { s with tap := { s.tap with ir := 0x1F } }.emit .tdoBypass

/-- An instruction is selected; while iso_en is high every instruction acts as BYPASS (R78, R494). -/
def State.tapSelect (s : State) (ir : Nat) (f : State → State) : State :=
  if s.pins.isoEn then s.tapToBypass else f { s with tap := { s.tap with ir := ir } }

/-- The condition of EXTEST, CLAMP and the start of MBIST: every unit but the GLB is disabled. -/
def State.tapFree (s : State) : Bool := s.rf Reg.GLB_UNIT_EN == 1

/-- A refused instruction sets TAP_REFUSED and raises ERR_TAP_REFUSED. -/
def State.tapRefused (s : State) : State := (s.setRf Reg.THR_STICKY_TAP_REFUSED 1).reportPlain E.TAP_REFUSED none

/-- What the boundary register captures: the levels at the port, in the order of the build (notes/assumptions/3.md). -/
def State.captureCells (s : State) : List Bool × State :=
  ((List.range Config.bsrLength).map (Config.boundaryCell s.free), { s with free := s.free + 1 })

/-- Bits shifted into the boundary register. -/
def loadCells (cells : List Bool) : List Bool := (List.range Config.bsrLength).map fun k => cells.getD k false

/-- A scan of the boundary register: what it captures is shifted out, and the cells shifted in are kept. -/
def State.scanCells (s : State) (cells : List Bool) : State :=
  let (seen, s) := s.captureCells
  { s with tap := { s.tap with cells := loadCells cells } }.emit (.tdo seen)

/-- TAP_EXTEST (R494). -/
def execTapExtest (cells : List Bool) (s : State) : Host.Outcome State Fault Refusal :=
  .next (if !s.pins.isoEn ∧ !s.tapFree then s.tapRefused.tapToBypass
    else s.tapSelect 0x00 fun s =>
      let s := s.scanCells cells
      s.emit (.boundary s.tap.cells))

/-- TAP_SAMPLE_PRELOAD (R494). -/
def execTapSamplePreload (cells : List Bool) (s : State) : Host.Outcome State Fault Refusal :=
  .next (s.tapSelect 0x01 fun s => s.scanCells cells)

/-- TAP_IDCODE (R494). -/
def execTapIdcode (s : State) : Host.Outcome State Fault Refusal :=
  .next (s.tapSelect 0x02 fun s =>
    s.emit (.tdo (bitsOf 32 (0x4 * 2 ^ 28 + 0x7A1C * 2 ^ 12 + s.rf Reg.THR_ID_MFR * 2 + 1))))

/-- TAP_CLAMP (R494). -/
def execTapClamp (s : State) : Host.Outcome State Fault Refusal :=
  .next (if !s.pins.isoEn ∧ !s.tapFree then s.tapRefused.tapToBypass
    else s.tapSelect 0x03 fun s => (s.emit .tdoBypass).emit (.boundary s.tap.cells))

/-- One access of the TAP to the window, with the view of the register port whatever the state of blk_present. -/
def State.tapAccess (s : State) (we : Bool) (a : Nat) (d : Word) : State :=
  if a % 4 ≠ 0 then { s with tap := { s.tap with done := true, err := true } }
  else if we then
    let s := s.unlatch.portWrite a d
    { s with tap := { s.tap with done := true, err := false } }
  else
    let (s, w) := s.portRead a
    { s with tap := { s.tap with data := w, done := true, err := false } }

/-- TAP_REG_ACCESS (R495). -/
def execTapRegAccess (we : Bool) (addr : BitVec 21) (data : BitVec 32) (s : State) : Host.Outcome State Fault Refusal :=
  .next (s.tapSelect 0x10 fun s =>
    let s := s.tapAccess we addr.toNat data
    s.emit (.tapData s.tap.data s.tap.err))

/-- TAP_SNAP (R504). -/
def execTapSnap (s : State) : Host.Outcome State Fault Refusal :=
  .next (s.tapSelect 0x11 fun s => (s.emit .tdoBypass).fireSnap 2)

/-- MBIST starts (R496): the contents of every SRAM are destroyed, and GLB_FW_VERSION reads 0 from now on. -/
def State.startMbist (s : State) : State :=
  let s := s.setReg Reg.THR_MBIST_STATUS_A 1#32
  let s := (s.setReg Reg.GLB_FW_VERSION_A 0#32).clearUnits
  let s := if 1 ≤ s.phase ∧ s.phase ≤ 4 then s.setPhase 1 else s
  { s with thr := { s.thr with mbist := true, mem := .zero }, ifm := { s.ifm with thrHold := true } }

/-- TAP_MBIST (R494, R496): the register's capture is shifted out; bit 0 of what is shifted in starts a test. -/
def execTapMbist (start : Bool) (s : State) : Host.Outcome State Fault Refusal :=
  .next (s.tapSelect 0x12 fun s =>
    let s := s.emit (.tdo (bitsOf 8 (wget (s.reg Reg.THR_MBIST_STATUS_A) 2 0)))
    if !start ∨ s.rb Reg.THR_MBIST_STATUS_RUNNING then s
    else if !s.tapFree then s.tapRefused
    else s.startMbist)

/-- MBIST_DONE (R496): the boot sequence then runs from CLEAR. -/
def execMbistDone (failBank : Option Nat) (s : State) : Host.Outcome State Fault Refusal :=
  .next (if s.rb Reg.THR_MBIST_STATUS_RUNNING then
      let s := match failBank with
        | some b => (s.setReg Reg.THR_MBIST_STATUS_A (packW [(1, 1), (2, 1), (8, b % 64)])).reportPlain E.MBIST_FAIL none
        | none => s.setReg Reg.THR_MBIST_STATUS_A 2#32
      s.setPhase 1
    else s)

/-- Whether an opcode is one that the block supports, other than BYPASS. -/
def tapSupported (opcode : Nat) : Bool := [0x00, 0x01, 0x02, 0x03, 0x10, 0x11, 0x12].contains opcode

/-- TAP_BYPASS (R494). -/
def execTapBypass (opcode : BitVec 5) (s : State) : Host.Outcome State Fault Refusal :=
  .next (if s.pins.isoEn ∨ tapSupported opcode.toNat = false then s.tapToBypass else s)

/-- TRST (R479). -/
def execTrst (s : State) : Host.Outcome State Fault Refusal := .next { s with tap := { s.tap with ir := 2 } }

end Sys2Proof.Machine
end

