-- ==== Sys2Proof/Machine/Walk.lean ====
section
/-! DEFINITION. The walker's command (R115). -/

namespace Sys2Proof.Machine

/-- WALK_EDGES (R115): one cc of the walker, which runs once in a cc.  The words of the DR's queues are checked first (R422). -/
def execWalkEdges (s : State) : Host.Outcome State Fault Refusal := .next ((s.nextCcIf s.cyc.walked).readMarks 0x64 0x64).walkCc

end Sys2Proof.Machine
end

