-- ==== Sys2Proof/Machine/Dispatch.lean ====
section
/-! DEFINITION. The dispatch of a command to its meaning, one arm for each constructor. -/

namespace Sys2Proof.Machine

/-- The effect of a command on everything but the queue of waiting commands. -/
def exec (i : Instr) (s : State) : Host.Outcome State Fault Refusal :=
  match i with
  | .registerWrite addr data => Sys2Proof.Machine.execRegisterWrite addr data s
  | .latchedLowRead addr => Sys2Proof.Machine.execLatchedLowRead addr s
  | .glbUnlockWrite data => Sys2Proof.Machine.execGlbUnlockWrite data s
  | .unlockExpired => Sys2Proof.Machine.execUnlockExpired s
  | .glbUnitEnWrite data => Sys2Proof.Machine.execGlbUnitEnWrite data s
  | .glbCrcRefWrite data => Sys2Proof.Machine.execGlbCrcRefWrite data s
  | .unitReady unit => Sys2Proof.Machine.execUnitReady unit s
  | .unitStopped unit => Sys2Proof.Machine.execUnitStopped unit s
  | .tableWindowWrite addr data => Sys2Proof.Machine.execTableWindowWrite addr data s
  | .routeLayerWrite addr data => Sys2Proof.Machine.execRouteLayerWrite addr data s
  | .eraBankWrite addr data => Sys2Proof.Machine.execEraBankWrite addr data s
  | .rxqEntryWrite addr data => Sys2Proof.Machine.execRxqEntryWrite addr data s
  | .routeEntryWrite addr data => Sys2Proof.Machine.execRouteEntryWrite addr data s
  | .sheafEntryWrite addr data => Sys2Proof.Machine.execSheafEntryWrite addr data s
  | .stookEntryWrite addr data => Sys2Proof.Machine.execStookEntryWrite addr data s
  | .saveSetWrite addr data => Sys2Proof.Machine.execSaveSetWrite addr data s
  | .bgModelBankWrite addr data => Sys2Proof.Machine.execBgModelBankWrite addr data s
  | .domainMapWrite addr data => Sys2Proof.Machine.execDomainMapWrite addr data s
  | .doorbellWrite addr data => Sys2Proof.Machine.execDoorbellWrite addr data s
  | .doorbellProcess => Sys2Proof.Machine.execDoorbellProcess s
  | .mmReadData tag status last data => Sys2Proof.Machine.execMmReadData tag status last data s
  | .mmWriteCompletion tag status => Sys2Proof.Machine.execMmWriteCompletion tag status s
  | .dlPresentRise link => Sys2Proof.Machine.execDlPresentRise link s
  | .dlPresentFall link => Sys2Proof.Machine.execDlPresentFall link s
  | .linkupStart link => Sys2Proof.Machine.execLinkupStart link s
  | .linkupReply slice => Sys2Proof.Machine.execLinkupReply slice s
  | .linkupTimeout link => Sys2Proof.Machine.execLinkupTimeout link s
  | .linkupReoffer link => Sys2Proof.Machine.execLinkupReoffer link s
  | .dlIssCredit link => Sys2Proof.Machine.execDlIssCredit link s
  | .completionArrive link w0 w1 => Sys2Proof.Machine.execCompletionArrive link w0 w1 s
  | .completionDone slice => Sys2Proof.Machine.execCompletionDone slice s
  | .completionDoneStat slice => Sys2Proof.Machine.execCompletionDoneStat slice s
  | .completionFault slice => Sys2Proof.Machine.execCompletionFault slice s
  | .completionKilled slice => Sys2Proof.Machine.execCompletionKilled slice s
  | .completionSpawn slice => Sys2Proof.Machine.execCompletionSpawn slice s
  | .ctrlAck slice => Sys2Proof.Machine.execCtrlAck slice s
  | .walkEdges => Sys2Proof.Machine.execWalkEdges s
  | .remoteEdgeSend => Sys2Proof.Machine.execRemoteEdgeSend s
  | .semPost => Sys2Proof.Machine.execSemPost s
  | .taskIssue => Sys2Proof.Machine.execTaskIssue s
  | .taskTimeout link tag => Sys2Proof.Machine.execTaskTimeout link tag s
  | .killTimeout link => Sys2Proof.Machine.execKillTimeout link s
  | .noEngineTimeout node => Sys2Proof.Machine.execNoEngineTimeout node s
  | .linkCmdDrain link => Sys2Proof.Machine.execLinkCmdDrain link s
  | .linkCmdSleep link => Sys2Proof.Machine.execLinkCmdSleep link s
  | .linkCmdPing link => Sys2Proof.Machine.execLinkCmdPing link s
  | .linkCmdWake link => Sys2Proof.Machine.execLinkCmdWake link s
  | .linkCmdRelink link => Sys2Proof.Machine.execLinkCmdRelink link s
  | .spawnAccept => Sys2Proof.Machine.execSpawnAccept s
  | .launchOp ctx q => Sys2Proof.Machine.execLaunchOp ctx q s
  | .launchGraph ctx q => Sys2Proof.Machine.execLaunchGraph ctx q s
  | .launchAt ctx q => Sys2Proof.Machine.execLaunchAt ctx q s
  | .launchAccept => Sys2Proof.Machine.execLaunchAccept s
  | .copyFinish => Sys2Proof.Machine.execCopyFinish s
  | .waitsClear slot => Sys2Proof.Machine.execWaitsClear slot s
  | .launchRelease slot => Sys2Proof.Machine.execLaunchRelease slot s
  | .loadTemplate ctx q => Sys2Proof.Machine.execLoadTemplate ctx q s
  | .templateCheckDone ctx q => Sys2Proof.Machine.execTemplateCheckDone ctx q s
  | .patchTemplate ctx q => Sys2Proof.Machine.execPatchTemplate ctx q s
  | .patchCommit ctx q => Sys2Proof.Machine.execPatchCommit ctx q s
  | .freeTemplate ctx q => Sys2Proof.Machine.execFreeTemplate ctx q s
  | .recordEvent ctx q => Sys2Proof.Machine.execRecordEvent ctx q s
  | .waitEvent ctx q => Sys2Proof.Machine.execWaitEvent ctx q s
  | .semOpAdd ctx q => Sys2Proof.Machine.execSemOpAdd ctx q s
  | .semOpSub ctx q => Sys2Proof.Machine.execSemOpSub ctx q s
  | .semOpWaitGe ctx q => Sys2Proof.Machine.execSemOpWaitGe ctx q s
  | .semOpWaitGeSub ctx q => Sys2Proof.Machine.execSemOpWaitGeSub ctx q s
  | .signalRemote ctx q => Sys2Proof.Machine.execSignalRemote ctx q s
  | .fence ctx q => Sys2Proof.Machine.execFence ctx q s
  | .queryTemplate ctx q => Sys2Proof.Machine.execQueryTemplate ctx q s
  | .queryEvent ctx q => Sys2Proof.Machine.execQueryEvent ctx q s
  | .queryLaunch ctx q => Sys2Proof.Machine.execQueryLaunch ctx q s
  | .queryQueue ctx q => Sys2Proof.Machine.execQueryQueue ctx q s
  | .querySemaphore ctx q => Sys2Proof.Machine.execQuerySemaphore ctx q s
  | .eventCreate ctx q => Sys2Proof.Machine.execEventCreate ctx q s
  | .eventDestroy ctx q => Sys2Proof.Machine.execEventDestroy ctx q s
  | .contextCreate => Sys2Proof.Machine.execContextCreate s
  | .destroyDrain => Sys2Proof.Machine.execDestroyDrain s
  | .destroyKill => Sys2Proof.Machine.execDestroyKill s
  | .contextFree ctx => Sys2Proof.Machine.execContextFree ctx s
  | .queueReset q => Sys2Proof.Machine.execQueueReset q s
  | .headGrant => Sys2Proof.Machine.execHeadGrant s
  | .packetDecode ctx q => Sys2Proof.Machine.execPacketDecode ctx q s
  | .pendingTakeEffect ctx q => Sys2Proof.Machine.execPendingTakeEffect ctx q s
  | .shadowRecordWrite ctx q => Sys2Proof.Machine.execShadowRecordWrite ctx q s
  | .eventCycleWalk => Sys2Proof.Machine.execEventCycleWalk s
  | .headTimeout ctx q => Sys2Proof.Machine.execHeadTimeout ctx q s
  | .waitTimeout slot => Sys2Proof.Machine.execWaitTimeout slot s
  | .signalTimeout seq => Sys2Proof.Machine.execSignalTimeout seq s
  | .thresherCommandStart => Sys2Proof.Machine.execThresherCommandStart s
  | .seqAdmit ctx q => Sys2Proof.Machine.execSeqAdmit ctx q s
  | .setClass ctx q => Sys2Proof.Machine.execSetClass ctx q s
  | .hold ctx q => Sys2Proof.Machine.execHold ctx q s
  | .unhold ctx q => Sys2Proof.Machine.execUnhold ctx q s
  | .setMaxLen ctx q => Sys2Proof.Machine.execSetMaxLen ctx q s
  | .setUser ctx q => Sys2Proof.Machine.execSetUser ctx q s
  | .seqCancelSeq ctx q => Sys2Proof.Machine.execSeqCancelSeq ctx q s
  | .seqCancelStep ctx q => Sys2Proof.Machine.execSeqCancelStep ctx q s
  | .seqCancelAll ctx q => Sys2Proof.Machine.execSeqCancelAll ctx q s
  | .winnowDone => Sys2Proof.Machine.execWinnowDone s
  | .stepRunStart ctx q => Sys2Proof.Machine.execStepRunStart ctx q s
  | .stepRunStop ctx q => Sys2Proof.Machine.execStepRunStop ctx q s
  | .stepRunKvAdd ctx q => Sys2Proof.Machine.execStepRunKvAdd ctx q s
  | .synthesisStart part => Sys2Proof.Machine.execSynthesisStart part s
  | .stepLaunchSubmit part => Sys2Proof.Machine.execStepLaunchSubmit part s
  | .boundaryPass part => Sys2Proof.Machine.execBoundaryPass part s
  | .boundaryPassEnd part => Sys2Proof.Machine.execBoundaryPassEnd part s
  | .routeJobStart => Sys2Proof.Machine.execRouteJobStart s
  | .routeJobNotices => Sys2Proof.Machine.execRouteJobNotices s
  | .routeJobDead => Sys2Proof.Machine.execRouteJobDead s
  | .eraSwapBias part => Sys2Proof.Machine.execEraSwapBias part s
  | .eraSwapSeed part => Sys2Proof.Machine.execEraSwapSeed part s
  | .semCmdSet => Sys2Proof.Machine.execSemCmdSet s
  | .semCmdClearFlags => Sys2Proof.Machine.execSemCmdClearFlags s
  | .watchArm => Sys2Proof.Machine.execWatchArm s
  | .watchCancel index => Sys2Proof.Machine.execWatchCancel index s
  | .wakeBind => Sys2Proof.Machine.execWakeBind s
  | .wakeBindingSleep index => Sys2Proof.Machine.execWakeBindingSleep index s
  | .wakeCancel => Sys2Proof.Machine.execWakeCancel s
  | .wakeTimeout index => Sys2Proof.Machine.execWakeTimeout index s
  | .sheafArm sheaf => Sys2Proof.Machine.execSheafArm sheaf s
  | .sheafDisarm sheaf => Sys2Proof.Machine.execSheafDisarm sheaf s
  | .sheafClearFault sheaf => Sys2Proof.Machine.execSheafClearFault sheaf s
  | .sheafTimeout sheaf => Sys2Proof.Machine.execSheafTimeout sheaf s
  | .rxPop core => Sys2Proof.Machine.execRxPop core s
  | .sendGo core => Sys2Proof.Machine.execSendGo core s
  | .outPop core => Sys2Proof.Machine.execOutPop core s
  | .granaryRefill queue => Sys2Proof.Machine.execGranaryRefill queue s
  | .stookOpen stook => Sys2Proof.Machine.execStookOpen stook s
  | .stookClose stook => Sys2Proof.Machine.execStookClose stook s
  | .stookClearFault stook => Sys2Proof.Machine.execStookClearFault stook s
  | .stookResultRetry stook => Sys2Proof.Machine.execStookResultRetry stook s
  | .msgRemoteTimeout seq => Sys2Proof.Machine.execMsgRemoteTimeout seq s
  | .fpPresentRise => Sys2Proof.Machine.execFpPresentRise s
  | .fpLinkup flit => Sys2Proof.Machine.execFpLinkup flit s
  | .fpCreditReturn rep => Sys2Proof.Machine.execFpCreditReturn rep s
  | .edgeDec flit => Sys2Proof.Machine.execEdgeDec flit s
  | .signal flit => Sys2Proof.Machine.execSignal flit s
  | .sheafArrive flit => Sys2Proof.Machine.execSheafArrive flit s
  | .sheafRelease flit => Sys2Proof.Machine.execSheafRelease flit s
  | .msg flits => Sys2Proof.Machine.execMsg flits s
  | .departLeave flit => Sys2Proof.Machine.execDepartLeave flit s
  | .departLost flit => Sys2Proof.Machine.execDepartLost flit s
  | .departJoin flit => Sys2Proof.Machine.execDepartJoin flit s
  | .ack flit => Sys2Proof.Machine.execAck flit s
  | .nack flit => Sys2Proof.Machine.execNack flit s
  | .edgeDecResend seq => Sys2Proof.Machine.execEdgeDecResend seq s
  | .remoteEdgeTimeout seq => Sys2Proof.Machine.execRemoteEdgeTimeout seq s
  | .remoteStall slot => Sys2Proof.Machine.execRemoteStall slot s
  | .domainLeave => Sys2Proof.Machine.execDomainLeave s
  | .domainLeaveSend => Sys2Proof.Machine.execDomainLeaveSend s
  | .domainJoin => Sys2Proof.Machine.execDomainJoin s
  | .pmBudget part nj => Sys2Proof.Machine.execPmBudget part nj s
  | .pmMeas cluster nj temp => Sys2Proof.Machine.execPmMeas cluster nj temp s
  | .pmLendAck => Sys2Proof.Machine.execPmLendAck s
  | .budgetEpochBoundary => Sys2Proof.Machine.execBudgetEpochBoundary s
  | .regulatorRefill => Sys2Proof.Machine.execRegulatorRefill s
  | .bgModelSwap => Sys2Proof.Machine.execBgModelSwap s
  | .spillStart claim => Sys2Proof.Machine.execSpillStart claim s
  | .restoreStart claim => Sys2Proof.Machine.execRestoreStart claim s
  | .glStart => Sys2Proof.Machine.execGlStart s
  | .glEpochBoundary => Sys2Proof.Machine.execGlEpochBoundary s
  | .replayStall => Sys2Proof.Machine.execReplayStall s
  | .ckptCmd part => Sys2Proof.Machine.execCkptCmd part s
  | .tagWindowCheck => Sys2Proof.Machine.execTagWindowCheck s
  | .enclaveLock part => Sys2Proof.Machine.execEnclaveLock part s
  | .enclaveLockDone => Sys2Proof.Machine.execEnclaveLockDone s
  | .teardown part => Sys2Proof.Machine.execTeardown part s
  | .teardownScrub => Sys2Proof.Machine.execTeardownScrub s
  | .teardownDone => Sys2Proof.Machine.execTeardownDone s
  | .atRequest sel nonce => Sys2Proof.Machine.execAtRequest sel nonce s
  | .listRebuildDone => Sys2Proof.Machine.execListRebuildDone s
  | .patrolPassEnd => Sys2Proof.Machine.execPatrolPassEnd s
  | .crcPassEnd => Sys2Proof.Machine.execCrcPassEnd s
  | .sliceWatchdog slice => Sys2Proof.Machine.execSliceWatchdog slice s
  | .sliceRejoin slice => Sys2Proof.Machine.execSliceRejoin slice s
  | .thresherHeartbeat => Sys2Proof.Machine.execThresherHeartbeat s
  | .thresherRestartDone => Sys2Proof.Machine.execThresherRestartDone s
  | .gleanerIntake => Sys2Proof.Machine.execGleanerIntake s
  | .gleanerEntryClose => Sys2Proof.Machine.execGleanerEntryClose s
  | .gleanerWriteRetry => Sys2Proof.Machine.execGleanerWriteRetry s
  | .captureClrFirst => Sys2Proof.Machine.execCaptureClrFirst s
  | .captureClrLast => Sys2Proof.Machine.execCaptureClrLast s
  | .captureClrWorst => Sys2Proof.Machine.execCaptureClrWorst s
  | .gcSync gc => Sys2Proof.Machine.execGcSync gc s
  | .timebaseLost => Sys2Proof.Machine.execTimebaseLost s
  | .snapTrigIn => Sys2Proof.Machine.execSnapTrigIn s
  | .snapFire => Sys2Proof.Machine.execSnapFire s
  | .snapRelease => Sys2Proof.Machine.execSnapRelease s
  | .ctrClear => Sys2Proof.Machine.execCtrClear s
  | .traceMark data => Sys2Proof.Machine.execTraceMark data s
  | .traceBeatTimeout => Sys2Proof.Machine.execTraceBeatTimeout s
  | .bootStart => Sys2Proof.Machine.execBootStart s
  | .bootClearDone => Sys2Proof.Machine.execBootClearDone s
  | .bootCopyDone => Sys2Proof.Machine.execBootCopyDone s
  | .bootVerifyDone => Sys2Proof.Machine.execBootVerifyDone s
  | .bootMeasureDone => Sys2Proof.Machine.execBootMeasureDone s
  | .firmwareStart => Sys2Proof.Machine.execFirmwareStart s
  | .resetAssert dom => Sys2Proof.Machine.execResetAssert dom s
  | .resetRelease dom => Sys2Proof.Machine.execResetRelease dom s
  | .pwrReqRise => Sys2Proof.Machine.execPwrReqRise s
  | .quiesceTimeout => Sys2Proof.Machine.execQuiesceTimeout s
  | .quiesceDone => Sys2Proof.Machine.execQuiesceDone s
  | .pwrReqFall => Sys2Proof.Machine.execPwrReqFall s
  | .isoEnRise => Sys2Proof.Machine.execIsoEnRise s
  | .isoEnFall => Sys2Proof.Machine.execIsoEnFall s
  | .retEnChange level => Sys2Proof.Machine.execRetEnChange level s
  | .tapExtest cells => Sys2Proof.Machine.execTapExtest cells s
  | .tapSamplePreload cells => Sys2Proof.Machine.execTapSamplePreload cells s
  | .tapIdcode => Sys2Proof.Machine.execTapIdcode s
  | .tapClamp => Sys2Proof.Machine.execTapClamp s
  | .tapRegAccess we addr data => Sys2Proof.Machine.execTapRegAccess we addr data s
  | .tapSnap => Sys2Proof.Machine.execTapSnap s
  | .tapMbist start => Sys2Proof.Machine.execTapMbist start s
  | .tapBypass opcode => Sys2Proof.Machine.execTapBypass opcode s
  | .trst => Sys2Proof.Machine.execTrst s
  | .mbistDone failBank => Sys2Proof.Machine.execMbistDone failBank s
  | .fpPresentFall => Sys2Proof.Machine.execFpPresentFall s
  | .departTimeout dev => Sys2Proof.Machine.execDepartTimeout dev s
  | .ifmHbIncrement => Sys2Proof.Machine.execIfmHbIncrement s
  | .patrolRead table word => Sys2Proof.Machine.execPatrolRead table word s
  | .drRestartDone => Sys2Proof.Machine.execDrRestartDone s
  | .tmplExtendDone => Sys2Proof.Machine.execTmplExtendDone s

end Sys2Proof.Machine
end

