-- ==== Sys2Proof/Safety.lean ====
section
/-! DEFINITION. What the claims mean by a sound state, a safe run, an input that is taken at once, and the parts of the state that a
command may change. -/

namespace Sys2Proof.Machine

/-- The block is built in the full configuration (R23), and its registers, SH values and SRAM tables are in canonical form, so that
equal contents are equal data. -/
structure State.Inv (s : State) : Prop where
  build : s.build = Build.full
  regs : Tab.wf (regReset s.build) s.regs = true
  shf : Tab.wf (regReset s.build) s.shf = true
  sram : Tab.wf ramDefault s.sram = true

/-- A run of `k` steps is safe: each answers a next state. -/
def SafeRun : Nat → State → Prop
  | 0, _ => True
  | k + 1, s => ∃ t, step s = .next t ∧ SafeRun k t

/-- A register-port command with an effect is carried out at once: blk_present is high (R39), and neither replay (R389) nor grain-locked
epochs (R378) stand before it. -/
def State.portLive (s : State) : Bool := s.blkPresent && !s.replaying && !s.holds

/-- An input of a clock domain is taken at once: it is seen (R79), and grain-locked epochs do not hold it (R378). -/
def State.inputLive (s : State) (d : ResetDom) : Bool := s.portOn d && !s.holds

/-- The acknowledgement of a register-port write (R40). -/
def State.ack (s : State) : State := s.emit (.rpAck none false)

/-- An address of a window reaches word `w` of table `tid`, which software may write: it lies in the table, and no lock covers its row (R402, R471). -/
def State.windowOpen (s : State) (a tid w : Nat) : Bool :=
  inWindow a && decide (a % 4 = 0) && decide (s.windowAt a = (tid, w)) && decide (4 * w < s.tableSize tid) && tableRw tid &&
    (match s.rowPart tid w with
      | some p => !s.lockedOrLocking p
      | none => true)

/-! ### The parts of the state -/

/-- The parts of the state that commands change. -/
inductive Part where
  /-- the count of core cycles -/
  | cc
  /-- the time base -/
  | tb
  /-- what this core cycle has done so far -/
  | cyc
  /-- the levels of pins -/
  | pins
  /-- the register words -/
  | regs
  /-- the SH values in force -/
  | shf
  /-- the SRAM tables -/
  | sram
  /-- the ECC marks of SRAM words -/
  | ecc
  /-- the unlock and the read latch -/
  | glb
  /-- the transfers of the memory port -/
  | mm
  /-- contexts, queues, heads, events, the slow queue, the doorbell FIFO -/
  | fe
  /-- launches, generations, template jobs, the copy pipeline -/
  | gs
  /-- ready lists, walk, post, spawn and remote send queues -/
  | dr
  /-- dispatch links and completion FIFOs -/
  | ds
  /-- waits, watches and wake bindings -/
  | sm
  /-- messages on chip, rings, sends and Stook accumulators -/
  | mh
  /-- streams, steps and the sweep -/
  | st
  /-- route jobs -/
  | era
  /-- budget epochs, lends and transfers -/
  | bg
  /-- claims’ order and jobs -/
  | psc
  /-- held inputs, the determinism log, replay and checkpoints -/
  | dc
  /-- locks, teardowns, template extends and accounting writes -/
  | pau
  /-- the intake FIFO and the on-chip log -/
  | ifm
  /-- trace and snapshot state -/
  | dbg
  /-- Thresher memory and boot state -/
  | thr
  /-- the TAP -/
  | tap
  /-- the fabric link and its flits -/
  | fab
  /-- open episodes -/
  | eps
  /-- the model’s own count of free values -/
  | free
deriving DecidableEq, Repr

/-- A part is the same in two states. -/
def State.same (s t : State) : Part → Prop
  | .cc => t.cc = s.cc
  | .tb => t.tb = s.tb
  | .cyc => t.cyc = s.cyc
  | .pins => t.pins = s.pins
  | .regs => t.regs = s.regs
  | .shf => t.shf = s.shf
  | .sram => t.sram = s.sram
  | .ecc => t.ecc = s.ecc
  | .glb => t.glb = s.glb
  | .mm => t.mm = s.mm
  | .fe => t.fe = s.fe
  | .gs => t.gs = s.gs
  | .dr => t.dr = s.dr
  | .ds => t.ds = s.ds
  | .sm => t.sm = s.sm
  | .mh => t.mh = s.mh
  | .st => t.st = s.st
  | .era => t.era = s.era
  | .bg => t.bg = s.bg
  | .psc => t.psc = s.psc
  | .dc => t.dc = s.dc
  | .pau => t.pau = s.pau
  | .ifm => t.ifm = s.ifm
  | .dbg => t.dbg = s.dbg
  | .thr => t.thr = s.thr
  | .tap => t.tap = s.tap
  | .fab => t.fab = s.fab
  | .eps => t.eps = s.eps
  | .free => t.free = s.free

/-- The parts: what the kill of a launch and its releases may change. -/
def Parts.ofKill : List Part := [.cyc, .regs, .shf, .ecc, .glb, .mm, .fe, .gs, .dr, .ds, .sm, .mh, .era, .bg, .dc, .pau]

/-- The parts: what the completion of a packet may change. -/
def Parts.ofReply : List Part := [.cyc, .regs, .ecc, .glb, .bg, .dc, .pau]

/-- The parts: what a register or window write may change. -/
def Parts.ofWrite : List Part := [.cyc, .pins, .regs, .shf, .sram, .ecc, .glb, .mm, .fe, .gs, .dr, .ds, .sm, .mh, .st, .era, .bg, .psc, .dc, .pau, .thr, .tap, .fab]

/-- The parts: what a kill and the traffic it sends may change. -/
def Parts.ofRemote : List Part := [.cyc, .regs, .shf, .ecc, .glb, .mm, .fe, .gs, .dr, .ds, .sm, .mh, .era, .bg, .dc, .pau, .thr]

/-- The parts: what a restart of the block may change. -/
def Parts.ofRestart : List Part := [.cyc, .pins, .regs, .shf, .ecc, .glb, .mm, .fe, .gs, .dr, .ds, .sm, .mh, .st, .era, .bg, .psc, .dc, .pau, .ifm, .thr, .tap]

/-- The parts: what a kill and a record of the determinism log may change. -/
def Parts.ofLog : List Part := [.cyc, .regs, .shf, .ecc, .glb, .mm, .fe, .gs, .dr, .ds, .sm, .mh, .era, .bg, .dc, .pau, .tap]

/-- The parts: what a launch or signal packet may change. -/
def Parts.ofLaunch : List Part := [.cyc, .regs, .ecc, .glb, .mm, .bg, .dc, .pau]

/-- The parts: what a packet on sequences may change. -/
def Parts.ofSeq : List Part := [.cyc, .regs, .shf, .ecc, .glb, .sm, .bg, .dc, .pau]

/-- The parts of the state that a command may change; beside them it can only drive outputs. -/
def partsOf : Instr → List Part
  | .registerWrite .. => [.cyc, .regs, .shf, .sram, .ecc, .glb, .mm, .fe, .gs, .dr, .ds, .sm, .mh, .st, .era, .bg, .psc, .dc, .pau, .ifm, .dbg, .fab, .eps, .free]
  | .latchedLowRead .. => [.cc, .tb, .cyc, .pins, .regs, .shf, .sram, .ecc, .glb, .mm, .fe, .gs, .dr, .ds, .sm, .mh, .st, .era, .bg, .psc, .dc, .pau, .ifm, .dbg, .thr, .fab, .eps, .free]
  | .glbUnlockWrite .. => [.regs, .glb, .dc]
  | .unlockExpired => [.regs, .glb]
  | .glbUnitEnWrite .. => [.cyc, .regs, .sram, .ecc, .glb, .mm, .fe, .gs, .dr, .ds, .sm, .mh, .st, .era, .bg, .psc, .dc, .ifm, .dbg, .eps]
  | .glbCrcRefWrite .. => [.regs, .glb, .dc]
  | .unitReady .. => [.regs]
  | .unitStopped .. => [.regs]
  | .tableWindowWrite .. => [.cyc, .regs, .shf, .sram, .ecc, .glb, .mm, .fe, .gs, .dr, .ds, .sm, .mh, .st, .era, .bg, .psc, .dc, .pau, .ifm, .dbg, .fab, .eps, .free]
  | .routeLayerWrite .. => [.cyc, .regs, .shf, .sram, .ecc, .glb, .mm, .fe, .gs, .dr, .ds, .sm, .mh, .st, .era, .bg, .psc, .dc, .pau, .ifm, .dbg, .fab, .eps, .free]
  | .eraBankWrite .. => [.cyc, .regs, .shf, .sram, .ecc, .glb, .mm, .fe, .gs, .dr, .ds, .sm, .mh, .st, .era, .bg, .psc, .dc, .pau, .ifm, .dbg, .fab, .eps, .free]
  | .rxqEntryWrite .. => [.cyc, .regs, .shf, .sram, .ecc, .glb, .mm, .fe, .gs, .dr, .ds, .sm, .mh, .st, .era, .bg, .psc, .dc, .pau, .ifm, .dbg, .fab, .eps, .free]
  | .routeEntryWrite .. => [.cyc, .regs, .shf, .sram, .ecc, .glb, .mm, .fe, .gs, .dr, .ds, .sm, .mh, .st, .era, .bg, .psc, .dc, .pau, .ifm, .dbg, .fab, .eps, .free]
  | .sheafEntryWrite .. => [.cyc, .regs, .shf, .sram, .ecc, .glb, .mm, .fe, .gs, .dr, .ds, .sm, .mh, .st, .era, .bg, .psc, .dc, .pau, .ifm, .dbg, .fab, .eps, .free]
  | .stookEntryWrite .. => [.cyc, .regs, .shf, .sram, .ecc, .glb, .mm, .fe, .gs, .dr, .ds, .sm, .mh, .st, .era, .bg, .psc, .dc, .pau, .ifm, .dbg, .fab, .eps, .free]
  | .saveSetWrite .. => [.cyc, .regs, .shf, .sram, .ecc, .glb, .mm, .fe, .gs, .dr, .ds, .sm, .mh, .st, .era, .bg, .psc, .dc, .pau, .ifm, .dbg, .fab, .eps, .free]
  | .bgModelBankWrite .. => [.cyc, .regs, .shf, .sram, .ecc, .glb, .mm, .fe, .gs, .dr, .ds, .sm, .mh, .st, .era, .bg, .psc, .dc, .pau, .ifm, .dbg, .fab, .eps, .free]
  | .domainMapWrite .. => [.cyc, .regs, .shf, .sram, .ecc, .glb, .mm, .fe, .gs, .dr, .ds, .sm, .mh, .st, .era, .bg, .psc, .dc, .pau, .ifm, .dbg, .fab, .eps, .free]
  | .doorbellWrite .. => [.fe, .dc]
  | .doorbellProcess => [.regs, .sram, .ecc, .mm, .fe, .gs, .sm, .st, .era, .dc, .ifm, .dbg]
  | .mmReadData .. => [.cc, .tb, .cyc, .pins, .regs, .shf, .sram, .ecc, .mm, .fe, .gs, .dr, .ds, .sm, .mh, .st, .era, .psc, .dc, .pau, .ifm, .dbg, .fab, .eps]
  | .mmWriteCompletion .. => [.cyc, .regs, .shf, .sram, .ecc, .mm, .fe, .gs, .dr, .ds, .sm, .mh, .st, .era, .psc, .dc, .pau, .ifm, .dbg, .eps]
  | .dlPresentRise .. => [.ds, .dc]
  | .dlPresentFall .. => [.cyc, .regs, .sram, .ecc, .mm, .fe, .gs, .dr, .ds, .sm, .mh, .st, .era, .psc, .dc, .ifm, .dbg, .fab, .eps]
  | .linkupStart .. => [.regs, .ds]
  | .linkupReply .. => [.cc, .tb, .cyc, .pins, .regs, .sram, .ecc, .mm, .fe, .gs, .dr, .ds, .sm, .mh, .st, .era, .psc, .dc, .ifm, .dbg, .fab, .eps]
  | .linkupTimeout .. => [.regs, .ds, .ifm, .dbg]
  | .linkupReoffer .. => [.regs, .ds]
  | .dlIssCredit .. => [.cyc, .regs, .sram, .ecc, .mm, .fe, .gs, .dr, .ds, .sm, .mh, .st, .era, .psc, .dc, .ifm, .dbg, .fab, .eps]
  | .completionArrive .. => [.cyc, .regs, .sram, .ecc, .mm, .fe, .gs, .dr, .ds, .sm, .mh, .st, .era, .psc, .dc, .ifm, .dbg, .fab, .eps]
  | .completionDone .. => [.cc, .tb, .cyc, .pins, .regs, .sram, .ecc, .mm, .fe, .gs, .dr, .ds, .sm, .mh, .st, .era, .psc, .dc, .ifm, .dbg, .fab, .eps]
  | .completionDoneStat .. => [.cc, .tb, .cyc, .pins, .regs, .sram, .ecc, .mm, .fe, .gs, .dr, .ds, .sm, .mh, .st, .era, .psc, .dc, .ifm, .dbg, .fab, .eps]
  | .completionFault .. => [.cc, .tb, .cyc, .pins, .regs, .sram, .ecc, .mm, .fe, .gs, .dr, .ds, .sm, .mh, .st, .era, .psc, .dc, .ifm, .dbg, .fab, .eps]
  | .completionKilled .. => [.cc, .tb, .cyc, .pins, .regs, .sram, .ecc, .mm, .fe, .gs, .dr, .ds, .sm, .mh, .st, .era, .psc, .dc, .ifm, .dbg, .fab, .eps]
  | .completionSpawn .. => [.cc, .tb, .cyc, .pins, .regs, .sram, .ecc, .mm, .fe, .gs, .dr, .ds, .sm, .mh, .st, .era, .psc, .dc, .ifm, .dbg, .fab, .eps]
  | .ctrlAck .. => [.cc, .tb, .cyc, .pins, .regs, .sram, .ecc, .mm, .fe, .gs, .dr, .ds, .sm, .mh, .st, .era, .psc, .dc, .ifm, .dbg, .fab, .eps]
  | .walkEdges => [.cc, .tb, .cyc, .pins, .regs, .sram, .ecc, .mm, .fe, .gs, .dr, .ds, .sm, .mh, .st, .era, .psc, .dc, .ifm, .dbg, .fab, .eps]
  | .remoteEdgeSend => [.regs, .sram, .dr, .dbg, .fab]
  | .semPost => [.cc, .tb, .cyc, .pins, .regs, .sram, .ecc, .mm, .fe, .gs, .dr, .ds, .sm, .mh, .st, .era, .psc, .dc, .ifm, .dbg, .fab, .eps]
  | .taskIssue => [.cc, .tb, .cyc, .pins, .regs, .sram, .ecc, .mm, .fe, .gs, .dr, .ds, .sm, .mh, .st, .era, .bg, .psc, .dc, .ifm, .dbg, .fab, .eps, .free]
  | .taskTimeout .. => [.regs, .ds, .ifm, .dbg]
  | .killTimeout .. => [.cyc, .regs, .sram, .ecc, .mm, .fe, .gs, .dr, .ds, .sm, .mh, .st, .era, .psc, .dc, .ifm, .dbg, .fab, .eps]
  | .noEngineTimeout .. => [.cyc, .regs, .sram, .ecc, .mm, .fe, .gs, .dr, .ds, .sm, .mh, .st, .era, .psc, .dc, .ifm, .dbg, .eps]
  | .linkCmdDrain .. => [.regs, .glb, .ds, .dc]
  | .linkCmdSleep .. => [.regs, .glb, .ds, .dc]
  | .linkCmdPing .. => [.regs, .glb, .ds, .dc]
  | .linkCmdWake .. => [.regs, .glb, .ds, .dc]
  | .linkCmdRelink .. => [.cyc, .regs, .sram, .ecc, .glb, .mm, .fe, .gs, .dr, .ds, .sm, .mh, .st, .era, .psc, .dc, .ifm, .dbg, .fab, .eps]
  | .spawnAccept => [.cyc, .regs, .sram, .ecc, .mm, .fe, .gs, .dr, .ds, .sm, .mh, .st, .era, .psc, .dc, .ifm, .dbg, .eps]
  | .launchOp .. => [.cyc, .regs, .sram, .ecc, .mm, .fe, .gs, .dr, .ds, .sm, .mh, .st, .era, .psc, .dc, .ifm, .dbg, .eps]
  | .launchGraph .. => [.cyc, .regs, .sram, .ecc, .mm, .fe, .gs, .dr, .ds, .sm, .mh, .st, .era, .psc, .dc, .ifm, .dbg, .eps]
  | .launchAt .. => [.cyc, .regs, .sram, .ecc, .mm, .fe, .gs, .dr, .ds, .sm, .mh, .st, .era, .psc, .dc, .ifm, .dbg, .eps]
  | .launchAccept => [.cyc, .regs, .sram, .ecc, .mm, .fe, .gs, .dr, .ds, .sm, .mh, .st, .era, .psc, .dc, .ifm, .dbg, .eps]
  | .copyFinish => [.cyc, .regs, .sram, .ecc, .mm, .fe, .gs, .dr, .ds, .sm, .mh, .st, .era, .psc, .dc, .ifm, .dbg, .eps]
  | .waitsClear .. => [.cyc, .regs, .sram, .ecc, .mm, .fe, .gs, .dr, .ds, .sm, .mh, .st, .era, .psc, .dc, .ifm, .dbg, .eps]
  | .launchRelease .. => [.regs, .sram, .ecc, .gs, .sm, .era, .dbg, .eps]
  | .loadTemplate .. => [.regs, .sram, .mm, .fe, .gs, .dc, .ifm, .dbg]
  | .templateCheckDone .. => [.regs, .sram, .ecc, .mm, .fe, .gs, .era, .dc, .pau, .ifm, .dbg]
  | .patchTemplate .. => [.cyc, .regs, .sram, .ecc, .mm, .fe, .gs, .dr, .ds, .sm, .mh, .st, .era, .psc, .dc, .ifm, .dbg, .eps]
  | .patchCommit .. => [.regs, .sram, .ecc, .mm, .fe, .gs, .era, .dc, .pau, .ifm, .dbg]
  | .freeTemplate .. => [.regs, .sram, .ecc, .mm, .fe, .gs, .era, .dc, .ifm, .dbg]
  | .recordEvent .. => [.cc, .tb, .cyc, .pins, .regs, .sram, .ecc, .mm, .fe, .gs, .dr, .ds, .sm, .mh, .st, .era, .psc, .dc, .ifm, .dbg, .fab, .eps]
  | .waitEvent .. => [.regs, .sram, .mm, .fe, .dc, .ifm, .dbg]
  | .semOpAdd .. => [.cc, .tb, .cyc, .pins, .regs, .sram, .ecc, .mm, .fe, .gs, .dr, .ds, .sm, .mh, .st, .era, .psc, .dc, .ifm, .dbg, .fab, .eps]
  | .semOpSub .. => [.cc, .tb, .cyc, .pins, .regs, .sram, .ecc, .mm, .fe, .gs, .dr, .ds, .sm, .mh, .st, .era, .psc, .dc, .ifm, .dbg, .fab, .eps]
  | .semOpWaitGe .. => [.regs, .sram, .ecc, .mm, .fe, .sm, .dc, .ifm, .dbg]
  | .semOpWaitGeSub .. => [.regs, .sram, .ecc, .mm, .fe, .sm, .dc, .ifm, .dbg]
  | .signalRemote .. => [.cc, .tb, .cyc, .pins, .regs, .sram, .ecc, .mm, .fe, .gs, .dr, .ds, .sm, .mh, .st, .era, .psc, .dc, .ifm, .dbg, .fab, .eps]
  | .fence .. => [.regs, .sram, .mm, .fe, .dc, .ifm, .dbg]
  | .queryTemplate .. => [.regs, .sram, .mm, .fe, .dc, .ifm, .dbg]
  | .queryEvent .. => [.regs, .sram, .ecc, .mm, .fe, .dc, .ifm, .dbg]
  | .queryLaunch .. => [.regs, .sram, .mm, .fe, .dc, .ifm, .dbg]
  | .queryQueue .. => [.regs, .sram, .mm, .fe, .dc, .ifm, .dbg]
  | .querySemaphore .. => [.regs, .sram, .ecc, .mm, .fe, .dc, .ifm, .dbg]
  | .eventCreate .. => [.regs, .sram, .mm, .fe, .dc, .ifm, .dbg]
  | .eventDestroy .. => [.regs, .sram, .mm, .fe, .dc, .ifm, .dbg]
  | .contextCreate => [.regs, .sram, .glb, .mm, .dc, .ifm, .dbg]
  | .destroyDrain => [.cyc, .regs, .sram, .ecc, .glb, .mm, .fe, .gs, .dr, .ds, .sm, .mh, .st, .era, .psc, .dc, .ifm, .dbg, .eps]
  | .destroyKill => [.cyc, .regs, .sram, .ecc, .glb, .mm, .fe, .gs, .dr, .ds, .sm, .mh, .st, .era, .psc, .dc, .ifm, .dbg, .eps]
  | .contextFree .. => [.regs, .fe]
  | .queueReset .. => [.regs, .sram, .glb, .mm, .fe, .dc, .ifm, .dbg]
  | .headGrant => [.regs, .sram, .mm, .fe, .dc, .ifm, .dbg]
  | .packetDecode .. => [.regs, .sram, .mm, .fe, .dc, .ifm, .dbg]
  | .pendingTakeEffect .. => [.cc, .tb, .cyc, .pins, .regs, .sram, .ecc, .mm, .fe, .gs, .dr, .ds, .sm, .mh, .st, .era, .psc, .dc, .ifm, .dbg, .fab, .eps]
  | .shadowRecordWrite .. => [.regs, .sram, .mm, .fe, .dc, .ifm, .dbg]
  | .eventCycleWalk => [.regs, .sram, .ecc, .mm, .fe, .gs, .sm, .st, .era, .dc, .ifm, .dbg]
  | .headTimeout .. => [.regs, .sram, .ecc, .mm, .fe, .gs, .sm, .st, .era, .dc, .ifm, .dbg]
  | .waitTimeout .. => [.cyc, .regs, .sram, .ecc, .mm, .fe, .gs, .dr, .ds, .sm, .mh, .st, .era, .psc, .dc, .ifm, .dbg, .eps]
  | .signalTimeout .. => [.regs, .sram, .mm, .fe, .gs, .dc, .ifm, .dbg]
  | .thresherCommandStart => [.fe]
  | .seqAdmit .. => [.regs, .sram, .ecc, .mm, .fe, .st, .dc, .ifm, .dbg]
  | .setClass .. => [.regs, .sram, .ecc, .mm, .fe, .st, .dc, .ifm, .dbg]
  | .hold .. => [.regs, .sram, .ecc, .mm, .fe, .st, .dc, .ifm, .dbg]
  | .unhold .. => [.regs, .sram, .ecc, .mm, .fe, .st, .dc, .ifm, .dbg]
  | .setMaxLen .. => [.regs, .sram, .ecc, .mm, .fe, .st, .dc, .ifm, .dbg]
  | .setUser .. => [.regs, .sram, .ecc, .mm, .fe, .st, .dc, .ifm, .dbg]
  | .seqCancelSeq .. => [.regs, .sram, .ecc, .mm, .fe, .st, .dc, .ifm, .dbg]
  | .seqCancelStep .. => [.cyc, .regs, .sram, .ecc, .mm, .fe, .gs, .dr, .ds, .sm, .mh, .st, .era, .psc, .dc, .ifm, .dbg, .eps]
  | .seqCancelAll .. => [.regs, .sram, .ecc, .mm, .fe, .st, .dc, .ifm, .dbg]
  | .winnowDone => [.regs, .sram, .ecc, .mm, .fe, .mh, .st, .era, .dc, .ifm, .dbg]
  | .stepRunStart .. => [.regs, .sram, .mm, .fe, .dc, .ifm, .dbg]
  | .stepRunStop .. => [.regs, .sram, .mm, .fe, .mh, .st, .era, .dc, .ifm, .dbg]
  | .stepRunKvAdd .. => [.regs, .sram, .mm, .fe, .st, .dc, .ifm, .dbg]
  | .synthesisStart .. => [.regs, .sram, .ecc, .mm, .fe, .mh, .st, .era, .dc, .ifm, .dbg, .eps]
  | .stepLaunchSubmit .. => [.cyc, .regs, .sram, .ecc, .mm, .fe, .gs, .dr, .ds, .sm, .mh, .st, .era, .psc, .dc, .ifm, .dbg, .eps]
  | .boundaryPass .. => [.regs, .shf, .sram, .ecc, .mm, .st, .era, .dc, .ifm, .dbg]
  | .boundaryPassEnd .. => [.regs, .sram, .ecc, .mm, .fe, .mh, .st, .era, .dc, .ifm, .dbg, .eps]
  | .routeJobStart => [.cyc, .regs, .sram, .ecc, .mm, .fe, .gs, .dr, .ds, .sm, .mh, .st, .era, .psc, .dc, .ifm, .dbg, .eps]
  | .routeJobNotices => [.cyc, .regs, .sram, .ecc, .mm, .fe, .gs, .dr, .ds, .sm, .mh, .st, .era, .psc, .dc, .ifm, .dbg, .eps]
  | .routeJobDead => [.mm, .era]
  | .eraSwapBias .. => [.regs, .glb, .dc, .ifm, .dbg]
  | .eraSwapSeed .. => [.regs, .glb, .dc, .ifm, .dbg]
  | .semCmdSet => [.cyc, .regs, .sram, .ecc, .glb, .sm, .dc, .ifm, .dbg]
  | .semCmdClearFlags => [.cyc, .regs, .sram, .ecc, .glb, .sm, .dc, .ifm, .dbg]
  | .watchArm => [.regs, .glb, .sm, .dc, .ifm, .dbg]
  | .watchCancel .. => [.regs, .glb, .sm, .dc]
  | .wakeBind => [.regs, .glb, .ds, .sm, .dc, .ifm, .dbg]
  | .wakeBindingSleep .. => [.cc, .tb, .cyc, .pins, .regs, .sram, .ecc, .mm, .fe, .gs, .dr, .ds, .sm, .mh, .st, .era, .psc, .dc, .ifm, .dbg, .fab, .eps]
  | .wakeCancel => [.regs, .glb, .ds, .sm, .dc]
  | .wakeTimeout .. => [.regs, .ds, .sm, .ifm, .dbg]
  | .sheafArm .. => [.regs, .sram, .ecc, .glb, .sm, .dc, .ifm, .dbg]
  | .sheafDisarm .. => [.regs, .sram, .glb, .sm, .dc]
  | .sheafClearFault .. => [.regs, .sram, .glb, .sm, .dc]
  | .sheafTimeout .. => [.regs, .sram, .ifm, .dbg]
  | .rxPop .. => [.cc, .tb, .cyc, .pins, .regs, .sram, .ecc, .glb, .mm, .fe, .gs, .dr, .ds, .sm, .mh, .st, .era, .psc, .dc, .ifm, .dbg, .fab, .eps]
  | .sendGo .. => [.cyc, .regs, .sram, .ecc, .glb, .mm, .mh, .dc, .ifm, .dbg, .fab]
  | .outPop .. => [.regs, .glb, .mh, .dc]
  | .granaryRefill .. => [.regs, .sram, .mm, .mh, .dc, .ifm, .dbg]
  | .stookOpen .. => [.regs, .sram, .glb, .mh, .dc, .ifm, .dbg]
  | .stookClose .. => [.regs, .sram, .glb, .mh, .dc, .ifm, .dbg]
  | .stookClearFault .. => [.regs, .sram, .glb, .mh, .dc, .ifm, .dbg]
  | .stookResultRetry .. => [.cc, .tb, .cyc, .pins, .regs, .sram, .ecc, .mm, .fe, .gs, .dr, .ds, .sm, .mh, .st, .era, .psc, .dc, .ifm, .dbg, .fab, .eps]
  | .msgRemoteTimeout .. => [.regs, .sram, .mh, .ifm, .dbg]
  | .fpPresentRise => [.pins, .sram, .dc, .fab]
  | .fpLinkup .. => [.regs, .sram, .dc, .ifm, .dbg, .thr, .fab]
  | .fpCreditReturn .. => [.sram, .fab]
  | .edgeDec .. => [.cyc, .regs, .sram, .ecc, .mm, .fe, .gs, .dr, .ds, .sm, .mh, .st, .era, .psc, .dc, .ifm, .dbg, .fab, .eps]
  | .signal .. => [.cc, .tb, .cyc, .pins, .regs, .sram, .ecc, .mm, .fe, .gs, .dr, .ds, .sm, .mh, .st, .era, .psc, .dc, .ifm, .dbg, .fab, .eps]
  | .sheafArrive .. => [.cyc, .regs, .sram, .fe, .sm, .dc, .ifm, .dbg, .fab]
  | .sheafRelease .. => [.cyc, .regs, .sram, .fe, .sm, .dc, .ifm, .dbg, .fab]
  | .msg .. => [.cyc, .regs, .sram, .ecc, .mm, .mh, .dc, .ifm, .dbg, .fab]
  | .departLeave .. => [.cyc, .regs, .sram, .ecc, .mm, .fe, .gs, .dr, .ds, .sm, .mh, .st, .era, .psc, .dc, .ifm, .dbg, .fab, .eps]
  | .departLost .. => [.cyc, .regs, .sram, .ecc, .mm, .fe, .gs, .dr, .ds, .sm, .mh, .st, .era, .psc, .dc, .ifm, .dbg, .fab, .eps]
  | .departJoin .. => [.regs, .sram, .dc, .ifm, .dbg, .fab]
  | .ack .. => [.cyc, .regs, .sram, .ecc, .mm, .fe, .gs, .dr, .ds, .sm, .mh, .st, .era, .psc, .dc, .ifm, .dbg, .fab, .eps]
  | .nack .. => [.cyc, .regs, .sram, .ecc, .mm, .fe, .gs, .dr, .ds, .sm, .mh, .st, .era, .psc, .dc, .ifm, .dbg, .fab, .eps]
  | .edgeDecResend .. => [.regs, .sram, .dr, .dbg, .fab]
  | .remoteEdgeTimeout .. => [.cyc, .regs, .sram, .ecc, .mm, .fe, .gs, .dr, .ds, .sm, .mh, .st, .era, .psc, .dc, .ifm, .dbg, .eps]
  | .remoteStall .. => [.cyc, .regs, .sram, .ecc, .mm, .fe, .gs, .dr, .ds, .sm, .mh, .st, .era, .psc, .dc, .ifm, .dbg, .eps]
  | .domainLeave => [.regs, .glb, .dr, .dc, .ifm, .dbg]
  | .domainLeaveSend => [.regs, .sram, .fe, .dr, .dbg, .fab]
  | .domainJoin => [.regs, .sram, .glb, .fe, .dr, .dc, .ifm, .dbg, .fab]
  | .pmBudget .. => [.bg, .dc]
  | .pmMeas .. => [.regs, .bg, .dc, .eps]
  | .pmLendAck => [.bg, .dc]
  | .budgetEpochBoundary => [.regs, .sram, .ecc, .mm, .bg, .dc, .pau, .ifm, .dbg, .eps, .free]
  | .regulatorRefill => [.regs, .sram, .ecc, .bg, .ifm, .dbg, .free]
  | .bgModelSwap => [.regs, .glb, .dc, .ifm, .dbg]
  | .spillStart .. => [.cyc, .regs, .sram, .ecc, .mm, .fe, .gs, .dr, .ds, .sm, .mh, .st, .era, .psc, .dc, .ifm, .dbg, .eps]
  | .restoreStart .. => [.cyc, .regs, .sram, .ecc, .mm, .fe, .gs, .dr, .ds, .sm, .mh, .st, .era, .psc, .dc, .ifm, .dbg, .eps]
  | .glStart => [.tb, .regs, .sram, .mm, .fe, .gs, .dr, .ds, .sm, .mh, .bg, .dc, .ifm, .dbg, .eps]
  | .glEpochBoundary => [.tb, .cyc, .regs, .shf, .sram, .ecc, .glb, .mm, .fe, .gs, .dr, .ds, .sm, .mh, .st, .era, .bg, .psc, .dc, .pau, .ifm, .dbg, .thr, .fab, .eps, .free]
  | .replayStall => [.regs, .dc, .ifm, .dbg]
  | .ckptCmd .. => [.regs, .glb, .ifm, .dbg]
  | .tagWindowCheck => [.cyc, .regs, .sram, .ecc, .mm, .fe, .gs, .dr, .ds, .sm, .mh, .st, .era, .psc, .dc, .ifm, .dbg, .eps]
  | .enclaveLock .. => [.regs, .glb, .dc, .pau, .ifm, .dbg]
  | .enclaveLockDone => [.regs, .sram, .ecc, .pau]
  | .teardown .. => [.cyc, .regs, .sram, .ecc, .glb, .mm, .fe, .gs, .dr, .ds, .sm, .mh, .st, .era, .psc, .dc, .pau, .ifm, .dbg, .eps]
  | .teardownScrub => [.regs, .sram, .ecc, .mm, .fe, .gs, .dr, .sm, .mh, .st, .era, .bg, .dc, .pau, .ifm, .dbg, .eps, .free]
  | .teardownDone => [.regs, .sram, .ecc, .mm, .bg, .dc, .pau, .ifm, .dbg]
  | .atRequest .. => []
  | .listRebuildDone => [.cyc, .regs, .dr, .ds, .sm, .dbg]
  | .patrolPassEnd => [.regs, .ifm, .dbg]
  | .crcPassEnd => [.regs, .ifm, .dbg]
  | .sliceWatchdog .. => [.cyc, .regs, .sram, .ecc, .mm, .fe, .gs, .dr, .ds, .sm, .mh, .st, .era, .psc, .dc, .ifm, .dbg, .fab, .eps]
  | .sliceRejoin .. => [.regs, .ds]
  | .thresherHeartbeat => [.regs, .sram, .ecc, .mm, .fe, .gs, .sm, .st, .era, .dc, .ifm, .dbg]
  | .thresherRestartDone => [.regs, .shf, .sram, .ecc, .mm, .fe, .gs, .dr, .ds, .sm, .mh, .st, .era, .bg, .psc, .dc, .pau, .ifm, .dbg, .thr, .fab, .eps]
  | .gleanerIntake => [.cc, .tb, .cyc, .pins, .regs, .sram, .ecc, .mm, .fe, .gs, .dr, .ds, .sm, .mh, .st, .era, .psc, .dc, .ifm, .dbg, .fab, .eps]
  | .gleanerEntryClose => [.regs, .sram, .mm, .dc, .ifm, .dbg, .eps]
  | .gleanerWriteRetry => [.regs, .sram, .mm, .dc, .ifm, .dbg, .eps]
  | .captureClrFirst => [.regs, .glb, .dc]
  | .captureClrLast => [.regs, .glb, .dc]
  | .captureClrWorst => [.regs, .glb, .dc]
  | .gcSync .. => [.tb, .gs, .dr, .thr]
  | .timebaseLost => [.tb, .regs, .ifm, .dbg]
  | .snapTrigIn => [.regs, .dbg]
  | .snapFire => [.regs, .glb, .dbg]
  | .snapRelease => [.regs, .glb, .dbg]
  | .ctrClear => [.regs, .glb, .dbg]
  | .traceMark .. => [.regs, .glb, .dbg]
  | .traceBeatTimeout => [.regs, .sram, .mm, .dc, .ifm, .dbg, .eps]
  | .bootStart => [.regs]
  | .bootClearDone => [.regs, .shf, .sram, .ecc, .mm, .fe, .gs, .dr, .ds, .sm, .mh, .st, .era, .bg, .psc, .dc, .pau, .ifm, .thr, .fab, .eps]
  | .bootCopyDone => [.regs, .thr]
  | .bootVerifyDone => [.regs, .ifm, .dbg, .thr]
  | .bootMeasureDone => [.regs, .sram, .ecc, .mm, .dc, .pau, .ifm, .dbg, .thr]
  | .firmwareStart => [.regs]
  | .resetAssert .. => [.tb, .cyc, .pins, .regs, .shf, .sram, .ecc, .glb, .mm, .fe, .gs, .dr, .ds, .sm, .mh, .st, .era, .bg, .psc, .dc, .pau, .ifm, .dbg, .thr, .fab, .eps]
  | .resetRelease .. => [.cyc, .pins, .regs, .sram, .ecc, .mm, .fe, .gs, .dr, .ds, .sm, .mh, .st, .era, .psc, .dc, .ifm, .dbg, .fab, .eps]
  | .pwrReqRise => [.pins, .regs, .thr]
  | .quiesceTimeout => [.cyc, .regs, .sram, .ecc, .mm, .fe, .gs, .dr, .ds, .sm, .mh, .st, .era, .psc, .dc, .ifm, .dbg, .thr, .eps]
  | .quiesceDone => [.pins, .regs]
  | .pwrReqFall => [.tb, .pins, .regs, .fe, .gs, .dr, .ds, .sm, .mh, .ifm, .fab]
  | .isoEnRise => [.pins, .regs, .thr]
  | .isoEnFall => [.tb, .cyc, .pins, .regs, .shf, .sram, .ecc, .mm, .fe, .gs, .dr, .ds, .sm, .mh, .st, .era, .bg, .psc, .dc, .pau, .ifm, .dbg, .thr, .fab, .eps]
  | .retEnChange .. => [.pins, .thr]
  | .tapExtest .. => [.regs, .ifm, .dbg, .tap, .free]
  | .tapSamplePreload .. => [.tap, .free]
  | .tapIdcode => [.tap]
  | .tapClamp => [.regs, .ifm, .dbg, .tap]
  | .tapRegAccess .. => [.cyc, .regs, .shf, .sram, .ecc, .glb, .mm, .fe, .gs, .dr, .ds, .sm, .mh, .st, .era, .bg, .psc, .dc, .pau, .ifm, .dbg, .thr, .tap, .fab, .eps, .free]
  | .tapSnap => [.regs, .dbg, .tap]
  | .tapMbist .. => [.regs, .shf, .sram, .ecc, .mm, .fe, .gs, .dr, .ds, .sm, .mh, .st, .era, .bg, .psc, .dc, .pau, .ifm, .dbg, .thr, .tap, .fab, .eps]
  | .tapBypass .. => [.tap]
  | .trst => [.tap]
  | .mbistDone .. => [.regs, .ifm, .dbg]
  | .fpPresentFall => [.cyc, .pins, .regs, .sram, .ecc, .mm, .fe, .gs, .dr, .ds, .sm, .mh, .st, .era, .psc, .dc, .ifm, .dbg, .fab, .eps]
  | .departTimeout .. => [.regs, .sram, .dr, .ifm, .dbg]
  | .ifmHbIncrement => [.regs, .ifm]
  | .patrolRead .. => [.cyc, .regs, .shf, .sram, .ecc, .mm, .fe, .gs, .dr, .ds, .sm, .mh, .st, .era, .bg, .psc, .dc, .pau, .ifm, .dbg, .thr, .fab, .eps]
  | .drRestartDone => [.regs, .ds, .sm, .thr]
  | .tmplExtendDone => [.sram, .ecc, .pau]

end Sys2Proof.Machine
end

