-- ==== Sys2Proof/Certificates/Slice0/Obligations.lean ====
section
/-! DEFINITION. The statements for the provers. -/

open Sys2Proof Sys2Proof.Machine

/-! ### The machine as a whole -/

/-- With a command at the front of the queue, a step is that command run with the rest of the queue. -/
def Obligations.StepRunsTheFrontCommand : Prop :=
  ∀ (s : State) (c : Instr) (rest : List Instr), s.pending = c :: rest → step s = exec c { s with pending := rest }

/-- With no command waiting, a step is one core cycle of the time base (the model's choice, notes/assumptions/1.md): it takes no command, changes neither the build
nor what has been driven so far, and the cc advances by one unless the clock stands still in RETAINED. -/
def Obligations.StepOnAnEmptyQueuePassesACycle : Prop :=
  ∀ s : State, s.pending = [] → ∃ t, step s = .next t ∧ t.pending = [] ∧ t.build = s.build ∧ s.out <+: t.out ∧
    t.cc = (if s.thr.retained && s.pins.retEn then s.cc else s.cc + 1)

/-- No command faults and none is refused: from every state, every command answers a next state, and so every run of every length is safe. -/
def Obligations.EveryRunIsSafe : Prop :=
  (∀ (c : Instr) (s : State), ∃ t, exec c s = .next t) ∧ ∀ (k : Nat) (s : State), SafeRun k s

/-- The state after reset is sound. -/
def Obligations.ResetIsSound : Prop :=
  State.reset.Inv

/-- Every step from a sound state, by a command or by a core cycle, leaves a sound state: the build stays the full one, and the registers, the SH values and
the SRAM tables keep their canonical form. -/
def Obligations.EveryStepKeepsSoundness : Prop :=
  ∀ s t : State, s.Inv → step s = .next t → t.Inv

/-- A command changes neither the queue of waiting commands nor the build, never takes the cc back, and takes back nothing that has been driven: outputs are only
added. -/
def Obligations.CommandsKeepQueueBuildAndOutputs : Prop :=
  ∀ (c : Instr) (s t : State), exec c s = .next t → t.pending = s.pending ∧ t.build = s.build ∧ s.cc ≤ t.cc ∧ s.out <+: t.out

/-- The frame of every command: a part of the state that is not listed for the command is left as it was. -/
def Obligations.EveryCommandKeepsItsFrame : Prop :=
  ∀ (c : Instr) (s t : State) (p : Part), exec c s = .next t → p ∉ partsOf c → s.same t p

/-- While blk_present is low the register-port commands named here have no effect and are not answered (R39). An input named here whose clock domain is in reset or clamped is ignored (R79): nothing changes. While grain-locked epochs run, each input named here is held, and nothing else happens but the acknowledgement of a budget, the level at dl_present, and
the count, the credit and the checks of a flit (R65, R80, R378). -/
def Obligations.AbsentClampedAndHeldInputs : Prop :=
  (
    ∀ s : State, s.blkPresent = false →
      (∀ addr data, exec (.registerWrite addr data) s = .next s) ∧ (∀ addr, exec (.latchedLowRead addr) s = .next s) ∧
      (∀ addr data, exec (.tableWindowWrite addr data) s = .next s) ∧ (∀ addr data, exec (.sheafEntryWrite addr data) s = .next s) ∧
      (∀ data, exec (.glbUnlockWrite data) s = .next s) ∧ (∀ data, exec (.glbUnitEnWrite data) s = .next s) ∧
      exec .contextCreate s = .next s ∧ (∀ q, exec (.queueReset q) s = .next s) ∧ (∀ link, exec (.linkCmdDrain link) s = .next s) ∧
      exec .semCmdSet s = .next s ∧ exec .watchArm s = .next s ∧ (∀ k, exec (.sheafArm k) s = .next s) ∧ (∀ c, exec (.rxPop c) s = .next s) ∧
      (∀ c, exec (.sendGo c) s = .next s) ∧ (∀ k, exec (.stookOpen k) s = .next s) ∧ exec .domainJoin s = .next s ∧
      exec .bgModelSwap s = .next s ∧ (∀ p, exec (.enclaveLock p) s = .next s) ∧ exec .snapFire s = .next s ∧
      exec .captureClrFirst s = .next s ∧ (∀ p, exec (.eraSwapBias p) s = .next s) ∧ (∀ p, exec (.ckptCmd p) s = .next s)) ∧
  (
    ∀ s : State,
      (s.portOn .noc = false → ∀ tag st last data, exec (.mmReadData tag st last data) s = .next s) ∧
      (s.portOn .noc = false → ∀ tag st, exec (.mmWriteCompletion tag st) s = .next s) ∧
      (s.portOn .noc = false → ∀ addr data, exec (.doorbellWrite addr data) s = .next s) ∧
      (s.portOn .eng = false → ∀ link w0 w1, exec (.completionArrive link w0 w1) s = .next s) ∧
      (s.portOn .eng = false → ∀ link, exec (.dlIssCredit link) s = .next s) ∧
      (s.portOn .fab = false → ∀ f, exec (.fpLinkup f) s = .next s ∧ exec (.edgeDec f) s = .next s ∧ exec (.signal f) s = .next s ∧
        exec (.sheafArrive f) s = .next s ∧ exec (.sheafRelease f) s = .next s ∧ exec (.departLeave f) s = .next s ∧
        exec (.departLost f) s = .next s ∧ exec (.departJoin f) s = .next s ∧ exec (.ack f) s = .next s ∧ exec (.nack f) s = .next s) ∧
      (s.portOn .fab = false → ∀ fs, exec (.msg fs) s = .next s) ∧
      (s.portOn .reg = false → ∀ part nj, exec (.pmBudget part nj) s = .next s) ∧
      (s.portOn .reg = false → ∀ cl nj temp, exec (.pmMeas cl nj temp) s = .next s) ∧
      (s.portOn .reg = false → ∀ sel nonce, exec (.atRequest sel nonce) s = .next s) ∧
      (s.portOn .core = false → ∀ gc, exec (.gcSync gc) s = .next s) ∧
      (s.portOn .core = false → exec .snapTrigIn s = .next s)) ∧
  (
    ∀ s : State, s.holds = true →
      (s.portOn .noc → ∀ tag st, exec (.mmWriteCompletion tag st) s = .next (s.hold (.mmWriteCompletion tag st))) ∧
      (s.portOn .fab → s.fab.up → ∀ f,
        (fld f Fl.TYPE = 1 → exec (.edgeDec f) s = .next (s.arriveFlits false [f] fun s => (s.hold (.edgeDec f)).settleCredits)) ∧
        (fld f Fl.TYPE = 2 → exec (.signal f) s = .next (s.arriveFlits false [f] fun s => (s.hold (.signal f)).settleCredits)) ∧
        (fld f Fl.TYPE = 0x80 → exec (.ack f) s = .next (s.arriveFlits true [f] fun s => (s.hold (.ack f)).settleCredits)) ∧
        (fld f Fl.TYPE = 6 → pf f 3 1 0 = 0 →
          exec (.departLeave f) s = .next (s.arriveFlits false [f] fun s => (s.hold (.departLeave f)).settleCredits))) ∧
      (s.portOn .eng → ∀ link, exec (.dlPresentRise link) s = .next ((s.setPresentPin link true).hold (.dlPresentRise link))) ∧
      (s.blkPresent → s.replaying = false → exec .contextCreate s = .next (s.hold .contextCreate) ∧
        (∀ link, exec (.linkCmdPing link) s = .next (s.hold (.linkCmdPing link))) ∧ (∀ c, exec (.rxPop c) s = .next (s.hold (.rxPop c))) ∧
        (∀ p, exec (.teardown p) s = .next (s.hold (.teardown p)))) ∧
      (s.replaying = false → s.portOn .reg → ∀ part nj,
        exec (.pmBudget part nj) s = .next ((s.emit .pmBudAck).hold (.pmBudget part nj))))

/-! ### The register port, the windows and the units (R16 to R19, R39 to R41, R453 to R476) -/

/-- A register write that is taken at once is carried out and acknowledged, and a misaligned one draws rp_err and does nothing else (R40, R457); a read answers the
word that was latched for its address, else the word as it stands, and latches the high half where its address is that of a low half, unless an ECC error is found on the
way (R423, R460); a read of RX_POP or OUT_POP is the pop; a word written through a window has no ECC mark left (R423). -/
def Obligations.RegisterPortWritesAndReads : Prop :=
  (∀ (s : State) (addr : BitVec 21) (data : BitVec 32), s.portLive → addr.toNat % 4 = 0 →
    exec (.registerWrite addr data) s = .next (s.unlatch.portWrite addr.toNat data).ack) ∧
  (∀ (s : State) (addr : BitVec 21) (data : BitVec 32), s.blkPresent → addr.toNat % 4 ≠ 0 →
    exec (.registerWrite addr data) s = .next (s.emit (.rpAck none true))) ∧
  (∀ (s : State) (addr : BitVec 21), s.blkPresent → addr.toNat % 4 ≠ 0 → exec (.latchedLowRead addr) s = .next (s.emit (.rpAck none true))) ∧
  (∀ (s : State) (addr : BitVec 21), s.blkPresent → addr.toNat % 4 = 0 → s.popAt (Reg.CW_RX_POP_A 0) addr.toNat = none →
    s.popAt (Reg.CW_OUT_POP_A 0) addr.toNat = none →
    exec (.latchedLowRead addr) s = .next ((s.expireUnlock.latchedRead addr.toNat).1.emit
      (.rpAck (some (s.expireUnlock.latchedRead addr.toNat).2) false)) ∧
    (s.ecc = [] → exec (.latchedLowRead addr) s = .next (
      ({ s.expireUnlock with glb := { s.expireUnlock.glb with
          latch := if latches addr.toNat then some (latchKey addr.toNat + 4, s.expireUnlock.liveWord (addr.toNat + 4)) else none } } : State).emit
        (.rpAck (some (match s.expireUnlock.glb.latch with
          | some (k, w) => if k = latchKey addr.toNat then w else s.expireUnlock.liveWord addr.toNat
          | none => s.expireUnlock.liveWord addr.toNat)) false)))) ∧
  (∀ (s : State) (addr : BitVec 21) (c : Nat), s.portLive → addr.toNat % 4 = 0 → s.popAt (Reg.CW_RX_POP_A 0) addr.toNat = some c →
    exec (.latchedLowRead addr) s = exec (.rxPop c) s) ∧
  (∀ (s : State) (addr : BitVec 21) (c : Nat), s.portLive → addr.toNat % 4 = 0 → s.popAt (Reg.CW_RX_POP_A 0) addr.toNat = none →
    s.popAt (Reg.CW_OUT_POP_A 0) addr.toNat = some c → exec (.latchedLowRead addr) s = exec (.outPop c) s) ∧
  (∀ (s : State) (key : Nat) (mask data : Word), (s.putWord key mask data).ecc.find? (·.1 == key) = none)

/-- GLB_UNLOCK: the key 0x5EED arms the unlock in the cc of its write, any other value disarms it and sets BAD_KEY (R463); in the 65th cc an unlock that is still armed lapses
and UNLOCK_EXPIRED is set (R464); an LK write that it admits uses it up, and one that comes without it sets LK_IGNORED and changes nothing else (R464, R465, R467). -/
def Obligations.UnlockArmsAdmitsAndLapses : Prop :=
  (∀ (s : State) (data : BitVec 32), s.portLive → data = 0x5EED#32 →
    exec (.glbUnlockWrite data) s = .next ({ s.unlatch with glb := { s.unlatch.glb with armedCc := some s.cc } } : State).ack) ∧
  (∀ (s : State) (data : BitVec 32), s.portLive → data ≠ 0x5EED#32 →
    exec (.glbUnlockWrite data) s = .next
      ({ s.unlatch.setRf Reg.GLB_STICKY_BAD_KEY 1 with glb := { s.unlatch.glb with armedCc := none } } : State).ack) ∧
  (∀ (s : State) (c : Nat), s.glb.armedCc = some c → c + 65 ≤ s.cc →
    exec .unlockExpired s = .next { s.setRf Reg.GLB_STICKY_UNLOCK_EXPIRED 1 with glb := { s.glb with armedCc := none } }) ∧
  (∀ (s : State) (data : BitVec 32) (c : Nat), s.portLive → s.glb.armedCc = some c → s.cc < c + 65 →
    exec (.glbCrcRefWrite data) s = .next (({ s with glb := ⟨none, none⟩ } : State).setReg Reg.GLB_CRC_REF_A data).ack ∧
    exec (.glbUnitEnWrite data) s = .next (({ s with glb := ⟨none, none⟩ } : State).unitEnWrite data).ack) ∧
  (∀ (s : State) (data : BitVec 32), s.portLive → s.glb.armedCc = none →
    exec (.glbCrcRefWrite data) s = .next (({ s with glb := { s.glb with latch := none } } : State).setRf Reg.GLB_STICKY_LK_IGNORED 1).ack ∧
    exec (.glbUnitEnWrite data) s = .next (({ s with glb := { s.glb with latch := none } } : State).setRf Reg.GLB_STICKY_LK_IGNORED 1).ack)

/-- A write of GLB_UNIT_EN that selects one unit: enabled if it is off, not STOPPING and every unit that it needs is on; refused with ORDER_REFUSED, and left off, if one of
them is off; disabled, with its READY cleared and its STOPPING set and the other units left alone, if it is on and no unit needs it that is on; refused, and left on, if one does (R18,
R19, R467). READY of an enabled unit rises when its initialisation has ended (R467), and STOPPING of a disabled one falls once every unit that needs it is off and its own condition
holds (R484). -/
def Obligations.UnitsAreEnabledReadyAndStopped : Prop :=
  (
    ∀ (s : State) (u : Nat), 0 < u → u < 16 →
      (s.unitEn u = false → s.stopping u = false → (unitNeeds u).all s.unitEn →
        s.enableUnit u = (s.setRf Reg.GLB_UNIT_EN (setBit (s.rf Reg.GLB_UNIT_EN) u true)).unitBegins u) ∧
      (s.unitEn u = false → s.stopping u = false → (unitNeeds u).all s.unitEn = false → s.enableUnit u = s.enableRefused u true false) ∧
      (s.unitEn u = false → s.stopping u = true → s.enableUnit u = s.enableRefused u true true) ∧
      (s.unitEn u = true → s.enableUnit u = s) ∧
      (s.unitEn u = true → (unitUsers u).any s.unitEn → s.disableUnit u = s.enableRefused u false false) ∧
      (s.Inv → s.unitEn u = true → (unitUsers u).any s.unitEn = false → ∃ t : State, s.disableUnit u = t.unitEnds u ∧
        t = { s with regs := t.regs } ∧ t.unitEn u = false ∧ bit (t.rf Reg.GLB_UNIT_STATUS_READY) u = false ∧ t.stopping u = true ∧
        ∀ v, v < 16 → v ≠ u → t.unitEn v = s.unitEn v ∧ t.stopping v = s.stopping v ∧
          bit (t.rf Reg.GLB_UNIT_STATUS_READY) v = bit (s.rf Reg.GLB_UNIT_STATUS_READY) v) ∧
      s.unitEnWrite (BitVec.ofNat 32 (2 ^ (16 + u) + 2 ^ u)) = s.enableUnit u ∧ s.unitEnWrite (BitVec.ofNat 32 (2 ^ (16 + u))) = s.disableUnit u ∧
      (s.unitEn u = false → s.disableUnit u = s)) ∧
  (
    (∀ (s : State) (u : Nat), u < 16 → s.unitEn u → bit (s.rf Reg.GLB_UNIT_STATUS_READY) u = false →
      exec (.unitReady u) s = .next (s.setRf Reg.GLB_UNIT_STATUS_READY (setBit (s.rf Reg.GLB_UNIT_STATUS_READY) u true))) ∧
    (∀ (s : State) (u : Nat), u < 16 → s.stopping u → (unitUsers u).all s.unitOff → s.stopDone u →
      exec (.unitStopped u) s = .next (s.setRf Reg.GLB_UNIT_STATUS_STOPPING (setBit (s.rf Reg.GLB_UNIT_STATUS_STOPPING) u false))))

/-- A window write that reaches a row of its own and finds it open: the word is stored with the bits that may be written; a sheaf, a Stook, a route layer or the domain map that
may not be written is left as it is (R217, R258, R291, R321, R471). Writes to receive queues, routes, banks and save sets: a queue or a route that is not VALID takes the word, and setting VALID of a checked queue zeroes its pointers, setting
VALID of a route raises GEN; a bank takes a word only while it is inactive with no swap pending; a save set that a live claim names takes none (R224, R273, R286, R334, R353). -/
def Obligations.WindowWritesAreHonouredWhileOpen : Prop :=
  (
    ∀ (s : State) (addr : BitVec 21) (data : BitVec 32) (w : Nat), s.portLive →
      (s.unlatch.windowOpen addr.toNat 0x13 w → exec (.tableWindowWrite addr data) s = .next (s.unlatch.putWord (ramKey 0x13 w) 0xFFFFFFFF#32 data).ack) ∧
      (s.unlatch.windowOpen addr.toNat 0x0A w → s.unlatch.rm (sheafRow (w / 16)) Sh.STATE = 0 →
        exec (.sheafEntryWrite addr data) s = .next (s.unlatch.putWord (ramKey 0x0A w) (sheafMask (w % 16)) data).ack) ∧
      (s.unlatch.windowOpen addr.toNat 0x0A w → s.unlatch.rm (sheafRow (w / 16)) Sh.STATE ≠ 0 →
        exec (.sheafEntryWrite addr data) s = .next (s.unlatch.cfgIgnored U.SM).ack) ∧
      (s.unlatch.windowOpen addr.toNat 0x0D w → s.unlatch.rm (stookRow (w / 16)) Sk.STATE = 0 →
        exec (.stookEntryWrite addr data) s = .next (s.unlatch.putWord (ramKey 0x0D w) (stookMask (w % 16)) data).ack) ∧
      (s.unlatch.windowOpen addr.toNat 0x0D w → s.unlatch.rm (stookRow (w / 16)) Sk.STATE ≠ 0 →
        exec (.stookEntryWrite addr data) s = .next s.unlatch.ack) ∧
      (s.unlatch.windowOpen addr.toNat 0x0E w → w % 16 ≠ 0 → s.unlatch.rf (Reg.ST_STREAM_STATUS_SSTATE (w / 16 / 128)) = 0 →
        exec (.routeLayerWrite addr data) s = .next
          ((s.unlatch.putWord (layerRow (w / 16 / 128) (w / 16 % 128) + w % 16) 0xFFFFFFFF#32 data).setRm
            (layerRow (w / 16 / 128) (w / 16 % 128)) Rl.VALID 0).ack) ∧
      (s.unlatch.windowOpen addr.toNat 0x0E w → s.unlatch.rf (Reg.ST_STREAM_STATUS_SSTATE (w / 16 / 128)) = 1 →
        exec (.routeLayerWrite addr data) s = .next (s.unlatch.cfgIgnored U.ERA).ack) ∧
      (s.unlatch.windowOpen addr.toNat 0x1C w → s.unlatch.rb Reg.DR_DOMAIN_STATUS_MEMBER = false → s.unlatch.rb Reg.DR_DOMAIN_STATUS_BUSY = false →
        exec (.domainMapWrite addr data) s = .next (s.unlatch.putWord (ramKey 0x1C w) 0xFFFFFFFF#32 data).ack) ∧
      (s.unlatch.windowOpen addr.toNat 0x1C w → s.unlatch.rb Reg.DR_DOMAIN_STATUS_MEMBER = true →
        exec (.domainMapWrite addr data) s = .next s.unlatch.ack)) ∧
  (
    ∀ (s : State) (addr : BitVec 21) (data : BitVec 32) (w : Nat), s.portLive →
      (s.unlatch.windowOpen addr.toNat 0x0B w → w % 8 = 0 → s.unlatch.rm (rxqRow (w / 8)) Rq.VALID = 0 → wget data 0 0 = 1 →
        s.unlatch.rxqWordsOk [data, s.unlatch.ram (rxqRow (w / 8) + 1), s.unlatch.ram (rxqRow (w / 8) + 2)] →
        exec (.rxqEntryWrite addr data) s = .next
          (((((s.unlatch.putWord (rxqRow (w / 8)) 0xFFFFFFFF#32 data).setRam (rxqRow (w / 8) + 3) 0#32).setRam (rxqRow (w / 8) + 4) 0#32).setRam
            (rxqRow (w / 8) + 5) 0#32).emptyRxq (w / 8)).ack) ∧
      (s.unlatch.windowOpen addr.toNat 0x0B w → w % 8 = 2 → s.unlatch.rm (rxqRow (w / 8)) Rq.VALID = 0 →
        exec (.rxqEntryWrite addr data) s = .next (s.unlatch.putWord (rxqRow (w / 8) + 2) 0xFFFFFFFF#32 data).ack) ∧
      (s.unlatch.windowOpen addr.toNat 0x0B w → w % 8 = 1 → s.unlatch.rm (rxqRow (w / 8)) Rq.VALID = 0 →
        exec (.rxqEntryWrite addr data) s = .next (s.unlatch.putWord (rxqRow (w / 8) + 1) 0xFFFFFFFF#32 (data &&& 0xFFFFFFC0#32)).ack) ∧
      (s.unlatch.windowOpen addr.toNat 0x0B w → w % 8 = 0 → s.unlatch.rm (rxqRow (w / 8)) Rq.VALID = 1 → wget data 0 0 = 0 →
        exec (.rxqEntryWrite addr data) s = .next
          (((s.unlatch.putWord (rxqRow (w / 8)) 0xFFFFFFFF#32 data).setRm (rxqRow (w / 8)) Rq.USED 0).emptyRxq (w / 8)).ack) ∧
      (s.unlatch.windowOpen addr.toNat 0x0B w → w % 8 ≠ 0 → s.unlatch.rm (rxqRow (w / 8)) Rq.VALID = 1 →
        exec (.rxqEntryWrite addr data) s = .next s.unlatch.ack) ∧
      (s.unlatch.windowOpen addr.toNat 0x0C w → w % 8 = 0 → s.unlatch.rm (routeRow (w / 8)) Rt.VALID = 0 → bit data.toNat 28 = true →
        exec (.routeEntryWrite addr data) s = .next ((s.unlatch.putWord (routeRow (w / 8)) 0x3FFFFFFF#32 data).setRm (routeRow (w / 8)) Rt.GEN
          ((s.unlatch.rm (routeRow (w / 8)) Rt.GEN + 1) % 4096)).ack) ∧
      (s.unlatch.windowOpen addr.toNat 0x0C w → w % 8 = 2 → s.unlatch.rm (routeRow (w / 8)) Rt.VALID = 1 →
        exec (.routeEntryWrite addr data) s = .next s.unlatch.ack) ∧
      (∀ p, s.unlatch.windowOpen addr.toNat 0x10 w → s.unlatch.biasPart w = some p → s.unlatch.rf (Reg.ERA_BANK_BIAS_ACTIVE p) = 0 →
        s.unlatch.rb (Reg.ERA_BANK_BIAS_PEND p) = false → s.unlatch.rb (Reg.ERA_BANK_BIAS_COMMIT p) = false →
        s.unlatch.sh (Reg.ERA_LOOP_BIAS_AUTO p) = 0 →
        exec (.eraBankWrite addr data) s = .next (s.unlatch.putWord (ramKey 0x10 w) 0xFFFFFFFF#32 data).ack) ∧
      (∀ p, s.unlatch.windowOpen addr.toNat 0x10 w → s.unlatch.biasPart w = some p → s.unlatch.rf (Reg.ERA_BANK_BIAS_ACTIVE p) = 1 →
        exec (.eraBankWrite addr data) s = .next ((s.unlatch.setRf Reg.ERA_STICKY_BANK_IGNORED 1).reportPlain E.ERA_BANK_WRITE none).ack) ∧
      (s.unlatch.windowOpen addr.toNat 0x15 w → s.unlatch.rf Reg.BG_MODEL_STATUS_ACTIVE = 0 → s.unlatch.rb Reg.BG_MODEL_STATUS_PEND = false →
        exec (.bgModelBankWrite addr data) s = .next (s.unlatch.putWord (ramKey 0x15 w) 0xFFFFFFFF#32 data).ack) ∧
      (s.unlatch.windowOpen addr.toNat 0x15 w → s.unlatch.rf Reg.BG_MODEL_STATUS_ACTIVE = 1 →
        exec (.bgModelBankWrite addr data) s = .next ((s.unlatch.setRf Reg.BG_STICKY_BANK_IGNORED 1).reportPlain E.BG_BANK_WRITE none).ack) ∧
      (s.unlatch.windowOpen addr.toNat 0x19 w → w / 2 % 256 ≠ 0 → bit data.toNat 31 = false → s.unlatch.saveSetHeld (w / 2 / 256) (w / 2 % 256) = false →
        exec (.saveSetWrite addr data) s = .next (s.unlatch.putWord (ramKey 0x19 w) 0xFFFFFFFF#32 data).ack) ∧
      (s.unlatch.windowOpen addr.toNat 0x19 w → w / 2 % 256 ≠ 0 → s.unlatch.saveSetHeld (w / 2 / 256) (w / 2 % 256) = true →
        exec (.saveSetWrite addr data) s = .next (s.unlatch.cfgIgnored U.PSC).ack))

/-! ### Doorbells, the memory port and the dispatch links (R42 to R64, R138 to R145, R157) -/

/-- A doorbell write that is accepted takes the last place of the FIFO (R43). The CFE checks the oldest write (R157): one that is misaligned, names no context, or a context, queue or
generation that is not its own is dropped and counted with ERR_DOORBELL_DROP; a write index that is not newer changes nothing; one beyond the ring faults the queue with
ERR_DOORBELL_RANGE; any other becomes the write index, an EMPTY queue becomes PENDING and any other fetches on. A beat of a read that is not the last of its request is kept with its data and the first status that is not 0 (R46, R47); the last beat of the last request hands the data
to the requester as good only if every beat had status 0, frees the tag and tries the transfers that wait; the completion of a write does the same; before the last request the next one of the transfer is sent, and one that is
refused ends it as failed (R398). -/
def Obligations.DoorbellsAndMemoryAnswersAreTaken : Prop :=
  (
    (∀ (s : State) (addr : BitVec 22) (data : BitVec 64), s.inputLive .noc → s.dbReady → s.replaying = false →
      exec (.doorbellWrite addr data) s = .next { s with fe := { s.fe with fifo := s.fe.fifo ++ [(addr.toNat, data.toNat)] } }) ∧
    ∀ (s : State) (a d : Nat) (rest : List (Nat × Nat)), s.fe.fifo = (a, d) :: rest →
      let r := { s with fe := { s.fe with fifo := rest } }
      let c := a / 4096
      let q := a % 4096 / 8
      (a % 8 ≠ 0 ∨ s.build.ctxs ≤ c → exec .doorbellProcess s = .next ((r.incRf Reg.CFE_DB_DROPPED).reportPlain E.DOORBELL_DROP none)) ∧
      (∀ u, a % 8 = 0 → c < s.build.ctxs → r.queue? c q = some u → (r.ctx c).cstate = 1 → bits d 63 52 ≠ (r.ctx c).gen →
        exec .doorbellProcess s = .next ((r.incRf Reg.CFE_DB_DROPPED).reportPlain E.DOORBELL_DROP (some (r.ctx c).part))) ∧
      (∀ u, a % 8 = 0 → c < s.build.ctxs → r.queue? c q = some u → (r.ctx c).cstate = 1 → bits d 63 52 = (r.ctx c).gen → bits d 51 32 = 0 → q < 6 →
        (newer 32 (d % 2 ^ 32) u.write = false → exec .doorbellProcess s = .next r) ∧
        (newer 32 (d % 2 ^ 32) u.write → 2 ^ u.ringLog2 < (2 ^ 32 + d % 2 ^ 32 - u.read) % 2 ^ 32 →
          exec .doorbellProcess s = .next (r.faultWith c u.q E.DOORBELL_RANGE)) ∧
        (newer 32 (d % 2 ^ 32) u.write → (2 ^ 32 + d % 2 ^ 32 - u.read) % 2 ^ 32 ≤ 2 ^ u.ringLog2 → u.state = .empty →
          exec .doorbellProcess s = .next ((r.updQueue c u.q fun u => { u with write := d % 2 ^ 32 }).makePending c u.q)) ∧
        (newer 32 (d % 2 ^ 32) u.write → (2 ^ 32 + d % 2 ^ 32 - u.read) % 2 ^ 32 ≤ 2 ^ u.ringLog2 → u.state ≠ .empty →
          exec .doorbellProcess s = .next ((r.updQueue c u.q fun u => { u with write := d % 2 ^ 32 }).fetchMore c u.q)))) ∧
  (
    ∀ (s : State) (tag status : Nat) (x : MmXfer), s.inputLive .noc → s.cyc.arrived.any (fun a => decide (1 < a.2)) = false →
      (∀ data, s.mm.busy.find? (fun x => !x.write && x.tag == tag) = some x →
        exec (.mmReadData tag status false data) s = .next { s with mm := { s.mm with busy := s.mm.busy.map fun y =>
          if !y.write && y.tag == tag then { y with got := x.got ++ (data ++ zeros 16).take 16, fail := if x.fail = 0 then status else x.fail } else y } }) ∧
      (∀ data, s.mm.busy.find? (fun x => !x.write && x.tag == tag) = some x → x.fail = 0 → x.left ≤ x.beats →
        exec (.mmReadData tag 0 true data) s = .next
          (({ s with mm := { s.mm with busy := s.mm.busy.filter fun y => !(y.write == x.write && y.tag == x.tag) } } : State).mmDone x true
            (x.got ++ (data ++ zeros 16).take 16)).mmRetry) ∧
      (s.mm.busy.find? (fun x => x.write && x.tag == tag) = some x → x.left ≤ x.beats →
        exec (.mmWriteCompletion tag 0) s = .next
          (({ s with mm := { s.mm with busy := s.mm.busy.filter fun y => !(y.write == x.write && y.tag == x.tag) } } : State).mmDone x true []).mmRetry) ∧
      (s.mm.busy.find? (fun x => x.write && x.tag == tag) = some x → status ≠ 0 →
        exec (.mmWriteCompletion tag status) s = .next
          ((({ s with mm := { s.mm with busy := s.mm.busy.filter fun y => !(y.write == x.write && y.tag == x.tag) } } : State).mmError x status).mmDone
            x false []).mmRetry) ∧
      (s.mm.busy.find? (fun x => x.write && x.tag == tag) = some x → x.beats < x.left →
        let r := ({ s with mm := { s.mm with busy := s.mm.busy.filter fun y => !(y.write == x.write && y.tag == x.tag) } } : State).mmNext
          { x with addr := x.addr + 64 * x.beats, left := x.left - x.beats, got := [] }
        exec (.mmWriteCompletion tag 0) s = .next (if r.2 then r.1.mmRetry else (r.1.mmDone x false []).mmRetry)))

/-- A dispatch link comes up and goes down: a rise of dl_present is noted with its cc (R59); a DOWN link that has been present for the 256 ec of R59, counted as core cycles (the
model's choice, notes/assumptions/46.md), is offered link-up from an offer count of zero (R59, R60); an offer unanswered for 10 µs is reported, the third leaves the link FAILED,
and an earlier one is made again 1 ms after it (R62); a fall of dl_present loses a link that is up and takes any other to DOWN, in every mode at once, and with a rise
that is still held the two cancel (R63, R384). An issue credit that comes back to a link that is up raises its count, up to the number advertised; one more is a protocol error, and the link is lost (R54, R64); it is also the
acknowledgement of the oldest record for which dl_irq is high (R57). A completion record of an engine that is present takes the last place of its cluster's FIFO, stamped with the GC; a
record that finds the FIFO full is a protocol error (R56, R64). -/
def Obligations.LinksAreOfferedCountedAndLost : Prop :=
  (
    ∀ (s : State) (link : Nat),
      (s.inputLive .eng → link < s.build.links → exec (.dlPresentRise link) s = .next
        ((s.updLink link fun l => { l with pin := true }).updLink link (Link.rise s.cc))) ∧
      (let r := (s.setPresentPin link false).dropRise link
       s.inputLive .eng → s.replaying = false →
        ((r.link link).present → r.linkUp link → exec (.dlPresentFall link) s = .next
          (((r.drainRecs link).loseLink link E.LINK_LOST Reg.DS_LINK_CMD_STATUS_LOST).updLink link fun l => { l with present := false })) ∧
        ((r.link link).present → r.linkUp link = false → exec (.dlPresentFall link) s = .next
          (((r.endLinkCmd link Reg.DS_LINK_CMD_STATUS_LOST).updLink link Link.toDown).updLink link fun l => { l with present := false })) ∧
        ((r.link link).present = false → exec (.dlPresentFall link) s = .next r)) ∧
      (s.portOn .eng → s.holds → s.replaying = false → exec (.dlPresentFall link) s = .next
        ((((s.setPresentPin link false).logFall link).dropRise link).replayFall link |>.presentFall link)) ∧
      (s.portOn .eng → s.unitEn U.DS → s.noOffers = false → (s.link link).present → (s.link link).presentCc + 128 ≤ s.cc → (s.link link).lstate = 0 →
        exec (.linkupStart link) s = .next ((s.updLink link fun l => { l with offers := 0 }).offerLink link)) ∧
      ((s.link link).lstate = 1 → (s.link link).offerOut → s.due (s.link link).offerGc 10000 →
        (s.fifo (link / 16)).any (fun r => r.link == link && r.kind == 15) = false →
        exec (.linkupTimeout link) s = .next ((s.reportLink E.LINK_TIMEOUT link).updLink link fun l =>
          if 3 ≤ l.offers then { l with lstate := 6, offerOut := false } else { l with offerOut := false, reoffer := true })) ∧
      (s.portOn .eng → (s.link link).lstate = 1 → (s.link link).reoffer → (s.link link).present → s.due (s.link link).offerGc 1000000 →
        s.noOffers = false → exec (.linkupReoffer link) s = .next (s.offerLink link))) ∧
  (
    ∀ (s : State) (link : Nat), s.portOn .eng →
      (s.linkUp link → (s.link link).irqOut = [] → (s.link link).creditsNow < (s.link link).creditsAdv →
        exec (.dlIssCredit link) s = .next (s.updLink link fun l => { l with creditsNow := l.creditsNow + 1 })) ∧
      (s.linkUp link → (s.link link).irqOut = [] → (s.link link).creditsAdv ≤ (s.link link).creditsNow →
        exec (.dlIssCredit link) s = .next (s.relinkLost link E.LINK_PROTOCOL Reg.DS_LINK_CMD_STATUS_LOST)) ∧
      (∀ x, s.linkUp link → (s.link link).irqOut = [x] → (s.link link).creditsNow < (s.link link).creditsAdv →
        exec (.dlIssCredit link) s = .next (((s.updLink link fun l => { l with irqOut := [] }).emit (.dlIrq link false)).updLink link fun l =>
          { l with creditsNow := l.creditsNow + 1 })) ∧
      (∀ w0 w1, link < s.build.links → (s.link link).present → (s.link link).stale = false ∨ (s.link link).offerOut →
        ((s.fifo (link / 16)).length < 64 →
          exec (.completionArrive link w0 w1) s = .next
            (s.setFifo (link / 16) (s.fifo (link / 16) ++ [⟨link, w0, w1, s.gc, 2 ^ 20 * s.gc + link, s.holds, s.cc⟩]))) ∧
        (64 ≤ (s.fifo (link / 16)).length →
          exec (.completionArrive link w0 w1) s = .next (s.relinkLost link E.LINK_PROTOCOL Reg.DS_LINK_CMD_STATUS_LOST))))

/-- DS_LINK_CMD (R142, R147): a command whose link is in the state that it asks for sets BUSY with LINK and CMD and is carried out; one whose link is not is refused with
REFUSED; RELINK asks only that its engine is present, ends what the link did, and offers link-up at once or when offers are sent again. -/
def Obligations.LinkCommandsAreCarriedOut : Prop :=
  ∀ (s : State) (link : Nat), s.portLive → s.unlatch.rb Reg.DS_LINK_CMD_STATUS_BUSY = false →
    let busy := fun cmd => s.unlatch.setReg Reg.DS_LINK_CMD_STATUS_A (packW [(0, link % 512), (9, cmd), (12, 1), (14, 0)])
    let refused := fun cmd => s.unlatch.setReg Reg.DS_LINK_CMD_STATUS_A (packW [(0, link % 512), (9, cmd), (12, 0), (14, 1)])
    (s.unlatch.isUp link → exec (.linkCmdDrain link) s = .next ((busy 2).sendCtrl link 2 0 0 true).ack) ∧
    (s.unlatch.isUp link → (s.unlatch.link link).proto = 2 → exec (.linkCmdSleep link) s = .next ((busy 3).sendCtrl link 3 0 0 true).ack) ∧
    (s.unlatch.isUp link → exec (.linkCmdPing link) s = .next ((busy 4).sendCtrl link 4 0 0 true).ack) ∧
    (s.unlatch.isUp link = false → exec (.linkCmdDrain link) s = .next (refused 2).ack ∧ exec (.linkCmdSleep link) s = .next (refused 3).ack ∧
      exec (.linkCmdPing link) s = .next (refused 4).ack) ∧
    (link < s.build.links → (s.unlatch.link link).lstate = 4 → (s.unlatch.link link).proto = 2 →
      exec (.linkCmdWake link) s = .next ((((busy 5).updLink link fun l => { l with wakeCmd := true }).wakeLink link)).ack) ∧
    (link < s.build.links → (s.unlatch.link link).present →
      let b := (busy 6).setRf Reg.DS_LINK_CMD_STATUS_BUSY 0
      let d := (if b.linkUp link then b.loseLink link E.LINK_LOST Reg.DS_LINK_CMD_STATUS_LOST else b.updLink link Link.toDown).setRf
        Reg.DS_LINK_CMD_STATUS_BUSY 1
      exec (.linkCmdRelink link) s = .next (if d.unitEn U.DS ∧ !d.noOffers then d.offerLink link else d).ack) ∧
    (link < s.build.links → (s.unlatch.link link).present = false → exec (.linkCmdRelink link) s = .next (refused 6).ack) ∧
    ((s.unlatch.link link).lstate ≠ 4 → exec (.linkCmdWake link) s = .next (refused 5).ack)

/-- The timeouts of tasks: a task out for DS_TASK_TIMEOUT of its class is sent a KILL and reported, unless its terminal record has been admitted (R140, R384); a link whose control record goes unanswered for DS_KILL_TIMEOUT is lost with
ERR_ENGINE_HUNG (R141); a READY task that has found no engine for DS_TASK_TIMEOUT is FAULTED and its launch is killed with ERR_NO_ENGINE (R145). -/
def Obligations.TasksAndLinksTimeOut : Prop :=
  (∀ (s : State) (link : Nat) (tag : BitVec 28) (t : OutTask), (s.link link).task? (bits tag.toNat 19 0) (bits tag.toNat 27 20) = some t →
    s.tb.check → t.killSent = 0 → (s.holds = false ∨ s.ended link t = false) → s.rf (Reg.DS_TASK_TIMEOUT t.cls) ≠ 0 → s.due t.issueNow (1000 * s.rf (Reg.DS_TASK_TIMEOUT t.cls)) →
    exec (.taskTimeout link tag) s = .next
      ((s.killOn link t 1).reportNode E.TASK_TIMEOUT t.part (mkTag (bits tag.toNat 19 0) (bits tag.toNat 27 20)) t.launchId)) ∧
  (∀ (s : State) (link : Nat), s.hung link → s.cmdTimed link = false →
    exec (.killTimeout link) s = .next (s.relinkLost link E.ENGINE_HUNG Reg.DS_LINK_CMD_STATUS_LOST)) ∧
  (∀ (s : State) (link : Nat), s.hung link → s.cmdTimed link →
    exec (.killTimeout link) s = .next (s.relinkLost link E.ENGINE_HUNG Reg.DS_LINK_CMD_STATUS_TIMEOUT)) ∧
  (∀ (s : State) (node t : Nat) (e : ReadyEnt), s.dr.ready.find? (fun e => e.node == node && e.job.isNone) = some e → e.noEngineSince = some t →
    s.tb.check → s.rf (Reg.DS_TASK_TIMEOUT e.cls) ≠ 0 → s.due t (1000 * s.rf (Reg.DS_TASK_TIMEOUT e.cls)) →
    exec (.noEngineTimeout node) s = .next
      (((s.dropReady node).setNd node Nd.STATE 8).killWith (s.nd node Nd.LAUNCH_SLOT) E.NO_ENGINE (s.tag node)))

/-! ### Completion records, the walker and the deal (R112 to R136, R244, R313) -/

/-- A slice that has taken no record in this cc, and whose words pass their checks (R422), takes the earliest record of its two clusters (R112), unless the walk queue holds completions back
(R138); one that has taken one takes the next in the cc after. A terminal record of an outstanding task of a RUNNING launch returns the task's credit and sends its node into WALKING,
or for a fault to FAULTED with the launch killed (R113, R114); in another launch it ends the node; that of an internal task ends its job (R364); one that names no outstanding task, and a record
of a reserved KIND, are protocol errors (R64). -/
def Obligations.TerminalRecordsEndTheirTasks : Prop :=
  (∀ (s : State) (slice : Nat) (r : CmpRec), s.cyc.taken.contains slice = false → (s.sliceChecks slice).dr.bp = false →
    (s.sliceChecks slice).frontRec slice = some r →
    let p := ((s.sliceChecks slice).setTaken slice).popRec r
    (∀ t, (p.link r.link).task? r.node r.ngen = some t →
      let i := (p.intake r t).chaffRec r t
      (t.job = none → i.sl t.slot Sl.STATE = 3 →
        (r.kind = 0 → r.value = 0 → exec (.completionDone slice) s = .next ((i.taskWalks t).tryFinishKill t.slot)) ∧
        (r.kind = 0 → r.value ≠ 0 → exec (.completionDone slice) s = .next ((i.taskFault r.link t r.value).tryFinishKill t.slot)) ∧
        (r.kind = 1 → exec (.completionDoneStat slice) s =
          .next (((i.telemetry t.part r.stepTag r.value).taskWalks t).tryFinishKill t.slot)) ∧
        (r.kind = 2 → exec (.completionFault slice) s = .next ((i.taskFault r.link t r.value).tryFinishKill t.slot)) ∧
        (r.kind = 3 → t.killSent = 0 → exec (.completionKilled slice) s = .next ((i.taskFault r.link t 0).tryFinishKill t.slot)) ∧
        (r.kind = 3 → t.killSent = 1 → exec (.completionKilled slice) s = .next
          (((i.setNd t.node Nd.STATE 8).killLaunch t.slot E.TASK_TIMEOUT.code false).tryFinishKill t.slot)) ∧
        (r.kind = 3 → 2 ≤ t.killSent → exec (.completionKilled slice) s = .next ((i.setNd t.node Nd.STATE 9).tryFinishKill t.slot))) ∧
      (t.job = none → i.sl t.slot Sl.STATE = 5 →
        (r.kind = 0 → exec (.completionDone slice) s = .next ((i.setNd t.node Nd.STATE 9).tryFinishKill t.slot)) ∧
        (r.kind = 1 → exec (.completionDoneStat slice) s = .next ((i.setNd t.node Nd.STATE 9).tryFinishKill t.slot)) ∧
        (r.kind = 2 → exec (.completionFault slice) s = .next ((i.setNd t.node Nd.STATE 9).tryFinishKill t.slot)) ∧
        (r.kind = 3 → exec (.completionKilled slice) s = .next ((i.setNd t.node Nd.STATE 9).tryFinishKill t.slot))) ∧
      (t.job = none → i.sl t.slot Sl.STATE ≠ 3 → i.sl t.slot Sl.STATE ≠ 5 → r.kind = 0 →
        exec (.completionDone slice) s = .next ((i.setNd t.node Nd.STATE 9).settleDone t.slot)) ∧
      (∀ k, t.job = some k → r.kind = 0 → r.value = 0 → t.killSent = 0 → exec (.completionDone slice) s = .next (i.jobDone k t.ngen)) ∧
      (∀ k, t.job = some k → r.kind = 2 → exec (.completionFault slice) s = .next (i.failJob k t.ngen))) ∧
    (r.kind = 0 → (p.link r.link).task? r.node r.ngen = none →
      exec (.completionDone slice) s = .next (p.relinkLost r.link E.LINK_PROTOCOL Reg.DS_LINK_CMD_STATUS_LOST)) ∧
    (6 ≤ r.kind → r.kind ≤ 14 → exec (.completionDone slice) s = .next (p.relinkLost r.link E.LINK_PROTOCOL Reg.DS_LINK_CMD_STATUS_LOST))) ∧
  (∀ (s : State) (slice : Nat), s.cyc.taken.contains slice = false → (s.sliceChecks slice).dr.bp →
    exec (.completionDone slice) s = .next (s.sliceChecks slice)) ∧
  (∀ (s : State) (slice : Nat), s.cyc.taken.contains slice → s.tick.cyc.taken.contains slice = false →
    exec (.completionDone slice) s = exec (.completionDone slice) s.tick ∧ exec (.completionFault slice) s = exec (.completionFault slice) s.tick ∧
    exec (.ctrlAck slice) s = exec (.ctrlAck slice) s.tick)

/-- The other records: a SPAWN of a task that may spawn takes a place of the spawn queue and its descriptor is read at the partition's spawn base (R131, R132), and kills the launch where the task may not (R131);
a CTRL_ACK of a PING, of a KILL or of a link-up ends the control record, and that of a link-up takes the link UP (R139, R61); a LINKUP_REPLY that nothing asked for is a protocol error, and one whose CLASS is 7 or
whose CREDITS are out of range leaves the link FAILED; one that passes is confirmed (R61, R64). -/
def Obligations.OtherRecordsAreTaken : Prop :=
  ∀ (s : State) (slice : Nat) (r : CmpRec), s.cyc.taken.contains slice = false → (s.sliceChecks slice).dr.bp = false →
    (s.sliceChecks slice).frontRec slice = some r →
    let p := ((s.sliceChecks slice).setTaken slice).popRec r
    let answered := p.updLink r.link fun l =>
      { l with
        stale := false, offerOut := false, cls := pf [r.w0, r.w1] 0 19 16, adv := pf [r.w0, r.w1] 0 23 20, telem := pf [r.w0, r.w1] 0 24 24 == 1,
        spawn := pf [r.w0, r.w1] 0 25 25 == 1, engineId := r.w1.toNat }
    (∀ t, r.kind = 4 → (p.link r.link).task? r.node r.ngen = some t → t.job = none → (p.link r.link).proto = 2 →
      let d := (p.cmpCredit r.link 1).chaffRec r t
      d.sl t.slot Sl.STATE = 3 →
      (t.spawnEn → (d.link r.link).spawn → d.poolSize ≠ 0 → d.dr.spawnQ.length < 1024 →
        exec (.completionSpawn slice) s = .next (({ d with dr := { d.dr with
            spawnQ := d.dr.spawnQ ++ [⟨d.dr.spawnNext, t.node, t.slot, t.launchId, none⟩], spawnNext := d.dr.spawnNext + 1 } } : State).mmRead
          (2 ^ 6 * d.rf (Reg.DR_SPAWN_BASE_LO t.part) + 2 ^ 32 * d.rf (Reg.DR_SPAWN_BASE_HI t.part) + 64 * r.value) 1 t.part 1 2 (.spawn d.dr.spawnNext)).1) ∧
      (t.spawnEn = false → exec (.completionSpawn slice) s = .next
        (d.killWith t.slot E.SPAWN_DENIED (mkTag t.node t.ngen)))) ∧
    (∀ c, r.kind = 5 → (p.link r.link).ctrl = some c → c.rectype = 4 → c.byCmd = false →
      exec (.ctrlAck slice) s = .next (((p.cmpCredit r.link 1).updLink r.link fun l => { l with ctrl := none }).nextCtrl r.link)) ∧
    (∀ c, r.kind = 5 → (p.link r.link).ctrl = some c → c.rectype = 1 →
      exec (.ctrlAck slice) s = .next (((p.cmpCredit r.link 1).updLink r.link fun l => { l with ctrl := none }).nextCtrl r.link)) ∧
    (∀ c, r.kind = 5 → (p.link r.link).ctrl = some c → c.rectype = 14 →
      exec (.ctrlAck slice) s = .next ((p.cmpCredit r.link 4).updLink r.link fun l =>
        { l with lstate := 2, ctrl := none, creditsAdv := l.adv, creditsNow := l.adv, proto := l.agreed, offers := 0 })) ∧
    (r.kind = 5 → (p.link r.link).ctrl = none →
      exec (.ctrlAck slice) s = .next (p.relinkLost r.link E.LINK_PROTOCOL Reg.DS_LINK_CMD_STATUS_LOST)) ∧
    (r.kind = 15 → (p.link r.link).offerOut = false →
      exec (.linkupReply slice) s = .next (p.relinkLost r.link E.LINK_PROTOCOL Reg.DS_LINK_CMD_STATUS_LOST)) ∧
    (r.kind = 15 → (p.link r.link).offerOut → pf [r.w0, r.w1] 0 19 16 = 7 ∨ pf [r.w0, r.w1] 0 23 20 = 0 ∨ 8 < pf [r.w0, r.w1] 0 23 20 →
      exec (.linkupReply slice) s = .next
        ((answered.updLink r.link fun l =>
          { l with lstate := 6 }).reportLink E.LINK_CLASS r.link)) ∧
    (r.kind = 15 → (p.link r.link).offerOut → pf [r.w0, r.w1] 0 19 16 ≤ 5 → 1 ≤ pf [r.w0, r.w1] 0 23 20 → pf [r.w0, r.w1] 0 23 20 ≤ 8 →
      Nat.max (pf [r.w0, r.w1] 0 15 8) 1 ≤ Nat.min (pf [r.w0, r.w1] 0 7 0) 2 →
      let agreed := Nat.min (pf [r.w0, r.w1] 0 7 0) 2
      let d := (answered.cmpCredit r.link 1).updLink r.link fun l =>
        { l with agreed := agreed }
      exec (.linkupReply slice) s = .next (d.driveCtrl r.link ⟨14, 0, 0, false, d.now, []⟩))

/-- The walker processes the edges of the node at the head of the walk queue (R115), once the words of its queue and of the node pass their checks (R422): a node without successors is RETIRED, or SKIPPED where it
entered by a skip (R84), at once; the one local edge of a node takes its amount off its target before the node retires (R116); a Tiller then returns to the pool (R136), and a sink may retire
its launch (R102). While the walk queue is empty a cc of the walker changes nothing but the backpressure of R138. -/
def Obligations.WalkerRetiresNodes : Prop :=
  (∀ s : State, s.cyc.walked = false →
    let c := s.readMarks 0x64 0x64
    let k : State := { c with cyc := { c.cyc with walked := true } }
    (c.dr.walkQ = [] → exec .walkEdges s = .next ({ k with dr := { k.dr with walkQ := [] } } : State).setBp) ∧
    (∀ w : WalkEnt, c.dr.walkQ = [w] →
      let d := k.readNode w.node
      let b := ({ d with dr := { d.dr with walkQ := [] } } : State).setBp
      d.dr.walkQ = [w] → d.nd w.node Nd.STATE = 6 → d.nodeBad w.node = none → d.routerHeld w.node = false →
      (d.nd w.node Nd.SUCC_COUNT = 0 → exec .walkEdges s = .next (b.retireNode w)) ∧
      (d.nd w.node Nd.SUCC_COUNT = 1 → w.pos = 0 →
        let e := d.nd w.node Nd.SUCC_BASE
        let f := b.corrected (edgeRow e) 2 (some (b.nd w.node Nd.PART)) 1 e
        d.rm (edgeRow e) Ed.TYPE = 0 → f.rm (edgeRow e) Ed.TYPE = 0 → f.nd w.node Nd.STATE = 6 → f.eccBad (edgeRow e) 2 = false →
        exec .walkEdges s = .next
          ((f.decrement (f.rm (edgeRow e) Ed.TARGET) (mergedAmount b [⟨w.node, e⟩] (f.rm (edgeRow e) Ed.TARGET)) 1).retireNode w)))) ∧
  (∀ (s : State) (w : WalkEnt), s.nd w.node Nd.STATE = 6 → s.routerHeld w.node = false →
    let t := (s.setNd w.node Nd.STATE (if w.skip then 10 else 7)).reportRouter w.node
    (t.inPool w.node → s.retireNode w = t.freeNode w.node) ∧
    (t.inPool w.node = false → t.nd w.node Nd.SINK = 1 → s.retireNode w = t.tryRetire (s.nd w.node Nd.LAUNCH_SLOT)) ∧
    (t.inPool w.node = false → t.nd w.node Nd.SINK = 0 → s.retireNode w = t))

/-- A decrement (R116) of a node whose words pass their checks: from a node in WAITING it takes the amount off DEP_COUNT; at zero the node of a RUNNING launch is released, and that of another is ARMED; more than is
left, or a node in another state, kills the launch with ERR_DEP_UNDERFLOW. A released join node enters WALKING, a node marked for a skip is skipped, any other becomes READY (R84, R229). -/
def Obligations.DecrementsReleaseTheirNodes : Prop :=
  (∀ (s : State) (n amt src : Nat), (s.readNode n).nodeBad n = none →
    let r := s.readNode n
    let slot := s.nd n Nd.LAUNCH_SLOT
    let d := r.nd n Nd.DEP_COUNT
    let t := ((r.setDep n (d - amt)).progress slot).decision
    (r.nd n Nd.STATE = 3 → amt < d → s.decrement n amt src = t) ∧
    (r.nd n Nd.STATE = 3 → amt = d → t.sl slot Sl.STATE = 3 → s.decrement n amt src = t.release n src) ∧
    (r.nd n Nd.STATE = 3 → amt = d → t.sl slot Sl.STATE ≠ 3 → s.decrement n amt src = t.setNd n Nd.STATE 2) ∧
    (r.nd n Nd.STATE = 3 → d < amt → s.decrement n amt src = r.killWith slot E.DEP_UNDERFLOW (r.tag n)) ∧
    (r.nd n Nd.STATE ≠ 3 → s.decrement n amt src = r.killWith slot E.DEP_UNDERFLOW (r.tag n))) ∧
  (∀ (s : State) (n src : Nat),
    (s.nd n Nd.JOIN = 1 → s.release n src = s.enterWalk n false) ∧
    (s.nd n Nd.JOIN ≠ 1 → s.marked n = false → s.release n src = s.makeReady n src) ∧
    (s.nd n Nd.JOIN ≠ 1 → s.marked n → s.release n src = (s.setNd n Nd.STATE 4).decision.skipWalk n))

/-- The oldest remote edge that waits is sent as an EDGE_DEC flit with the next SEQ while a request credit is held and no flit waits before it, and stays in the queue with that SEQ (R313, R315). The oldest semaphore post is
added to its semaphore in its turn of the cc (R248); one whose target is outside its launch's partition is reported and kills the launch with ERR_SEM_POST_RANGE (R118, R244). A spawn descriptor at the head of its queue is accepted once the pool
holds its COUNT of nodes; one whose launch has ended is dropped (R135). -/
def Obligations.WalkedEdgesTakeEffect : Prop :=
  (∀ (s : State) (e : RemoteSend) (rest : List RemoteSend), s.dr.sendQ = e :: rest → e.seq = none → e.resendGc = none →
    (0 < s.fab.reqCredits → s.fab.reqQ = [] → exec .remoteEdgeSend s = .next
      (let t := ({ s with dr := { s.dr with sendQ := { e with seq := some s.dr.remSeq, sentGc := s.now } :: rest, remSeq := (s.dr.remSeq + 1) % 2 ^ 32 } } : State).incRf
          (Reg.DR_EDGES_OUT e.part)
       t.sendFlits false [t.flit 1 e.dev e.part 1 s.dr.remSeq true
        [BitVec.ofNat 32 (e.target + 2 ^ 20 * e.amount), BitVec.ofNat 32 e.round, BitVec.ofNat 32 e.tag]])) ∧
    (s.fab.reqCredits = 0 → exec .remoteEdgeSend s = .next s)) ∧
  (∀ (s : State) (e : PostEnt) (rest : List PostEnt), s.dr.postQ = e :: rest → s.smInit = false →
    ({ s with dr := { s.dr with postQ := rest } } : State).semFull 3 = false →
    let r := ({ s with dr := { s.dr with postQ := rest } } : State).semOp 3
    (r.semOf e.sem e.part → (r.semAdd e.sem e.amount).2.err = none →
      exec .semPost s = .next ((r.semAdd e.sem e.amount).1.reportSat e.sem (r.semAdd e.sem e.amount).2)) ∧
    (∀ x, r.semOf e.sem e.part → (r.semAdd e.sem e.amount).2.err = some x →
      exec .semPost s = .next ((r.semAdd e.sem e.amount).1.killPoster e x.code)) ∧
    (r.semOf e.sem e.part = false → exec .semPost s = .next
      ((r.reportNode E.SEM_POST_RANGE e.part 0 e.launchId).killPoster e E.SEM_POST_RANGE.code))) ∧
  (∀ (s : State) (w : Spawn) (rest : List Spawn) (d : List Word), s.dr.spawnQ = w :: rest → w.desc = some d →
    (s.sl w.slot Sl.STEP_TAG = 0 → fld d Sp.COUNT ≤ s.poolFree.length →
      (s.spawnRuns w → exec .spawnAccept s = .next
        ((({ s with dr := { s.dr with spawnQ := rest } } : State).spawnRemainder w d).makeTillers w d (s.poolFree.take (fld d Sp.COUNT)))) ∧
      (s.spawnRuns w = false → exec .spawnAccept s = .next { s with dr := { s.dr with spawnQ := rest } })) ∧
    (s.poolFree.length < fld d Sp.COUNT → exec .spawnAccept s = .next s))

/-- The deal (R120, R122): nothing is dealt while the DS or the DR is off, the block is halted, or a rebuild runs; else, once in a cc, the levels are dealt in the order 7, 6, 0, 1, 2, 3, 4, 5, each from its candidates, until 16 tasks
are issued. A READY node whose argument lies beyond ARG_LIMIT is FAULTED (R102); one that passes every test is issued on the link of its cluster with the most free credits: it becomes ISSUED, leaves the ready list, takes a credit and
its record is driven (R125, R128). -/
def Obligations.TasksAreDealt : Prop :=
  (∀ s : State, s.ds.dealtCc ≠ s.cc + 1 →
    let d := ({ s.dealChecks with ds := { s.dealChecks.ds with dealtCc := s.dealChecks.cc + 1 } } : State).offerJobs
    (s.dealStopped → exec .taskIssue s = .next s) ∧
    (s.dealStopped = false → s.dealChecks.dealStopped = false →
      exec .taskIssue s = .next ([7, 6, 0, 1, 2, 3, 4, 5].foldl (fun s level => (s.candidates level).foldl State.dealOne s) d)) ∧
    (∀ (e : ReadyEnt) (c i : Nat), s.dealStopped = false → s.dealChecks.dealStopped = false → d.dr.ready = [e] → e.level < 8 → e.job = none →
      d.issuedNow < 16 →
      let slot := d.nd e.node Nd.LAUNCH_SLOT
      let p := d.nd e.node Nd.PART
      let r := (d.readNode e.node).slotRead slot
      r.nd e.node Nd.STATE = 4 → r.nodeBad e.node = none → r.sl slot Sl.ARG_LIMIT = 0 → minBy (r.clusterKey e.cls) (r.eligible p e.cls) = some c →
      r.pscTest e.node slot p e.level (r.nd e.node Nd.SAVE_SET) = (r, .pass none) →
      r.bgAdmit false p e.cls (r.nd e.node Nd.ENERGY_CLASS) c e.node (r.nd e.node Nd.NGEN) = (r, none) → r.bestLink c e.cls = some i → r.dr.ready = [e] →
      exec .taskIssue s = .next ((r.setNd e.node Nd.STATE 5).issue e i (r.nodeRec e.node e.level)))) ∧
  (∀ s : State, s.ds.dealtCc = s.cc + 1 → s.tick.ds.dealtCc ≠ s.tick.cc + 1 → exec .taskIssue s = exec .taskIssue s.tick) ∧
  (∀ (s : State) (e : ReadyEnt), 16 ≤ s.issuedNow → s.dealOne e = s) ∧
  (∀ (s : State) (e : ReadyEnt),
    let slot := s.nd e.node Nd.LAUNCH_SLOT
    let r := (s.readNode e.node).slotRead slot
    r.nd e.node Nd.STATE = 4 → r.nodeBad e.node = none → r.sl slot Sl.ARG_LIMIT ≠ 0 → r.sl slot Sl.ARG_LIMIT ≤ r.nd e.node Nd.ARG_OFFSET →
    s.dealNode e = ((r.dropReady e.node).setNd e.node Nd.STATE 8).killWith slot E.ARG_RANGE (r.tag e.node))

/-! ### Launches and templates (R83 to R106, R167, R179, R312, R317) -/

/-- A launch packet at the head of its queue goes to the GS (R98), once the directory entry of its template has passed its check (R422): one whose events are sound and that passes the two tests of R98 waits, behind the
launches of earlier cc and in the order of class and context among those of its own, with its head blocked; one with a bad event is refused with the event's error, and one that fails a test
with the error of that test. A waiting launch that has a place is accepted (R98): it takes the lowest free slot and the extents that fit, and joins the copy pipeline; while the block is halted or the GS is off nothing is accepted. -/
def Obligations.LaunchPacketsAreJudged : Prop :=
  (
    ∀ (s : State) (c q op : Nat) (pkt : List Word), s.headPkt c q op = some pkt →
      s.gs.waiting.any (fun w => !w.step && w.ctx == c && w.q == q) = false →
      let r := if isOp pkt then s else s.dirRead (hIdx (pf pkt 1 31 0))
      let p := (s.ctx c).part
      let hs := (launchWaits pkt).map (·.1) ++ (launchDone pkt).toList.map (·.1)
      let b := r.blockHead c q none
      let waits : State := { b with gs := { b.gs with waiting := arriveAmong b.gs.waiting ⟨b.cc, c, q, p, false, 0, pkt⟩ } }
      (hs.findSome? (fun h => (r.eventFault h p).map fun e => (h, e)) = none → r.arrivalTest pkt p = none →
        (op = 1 → exec (.launchOp c q) s = .next waits) ∧ (op = 2 → exec (.launchGraph c q) s = .next waits) ∧
        (op = 3 → exec (.launchAt c q) s = .next waits)) ∧
      (∀ e, hs.findSome? (fun h => (r.eventFault h p).map fun e => (h, e)) = none → r.arrivalTest pkt p = some e →
        (op = 1 → exec (.launchOp c q) s = .next (r.refuse c q pkt e)) ∧ (op = 2 → exec (.launchGraph c q) s = .next (r.refuse c q pkt e)) ∧
        (op = 3 → exec (.launchAt c q) s = .next (r.refuse c q pkt e))) ∧
      (∀ h e, hs.findSome? (fun h => (r.eventFault h p).map fun e => (h, e)) = some (h, e) →
        (op = 1 → exec (.launchOp c q) s = .next (r.refuseEvent c q pkt h e)) ∧ (op = 2 → exec (.launchGraph c q) s = .next (r.refuseEvent c q pkt h e)) ∧
        (op = 3 → exec (.launchAt c q) s = .next (r.refuseEvent c q pkt h e)))) ∧
  (
    (∀ s : State, s.halted → exec .launchAccept s = .next s) ∧ (∀ s : State, s.unitEn U.GS = false → exec .launchAccept s = .next s) ∧
    ∀ (s : State) (w : Waiting) (n e slot nb eb : Nat) (i : Option Nat), s.halted = false → s.unitEn U.GS → s.gs.waiting = [w] →
      s.launchNeeds w.pkt w.part = .ok (n, e, i) →
      s.isBound w.part i = false ∨ (s.leaving = false ∧ s.inEpisode E.TAG_WINDOW.code (windowKey 1 w.part) = false) → s.windowShut w.part = false →
      s.launchPlace w.part n e = some (slot, nb, eb) → exec .launchAccept s = .next (s.acceptLaunch w n e i slot nb eb))

/-- The copy of a LAUNCH_OP at the head of the pipeline makes its one node, in READY order, root and sink, and ends the copy (R99, R167); a template's copy makes every node and edge of its generation with
their indices rebased (R86, R99), if its rows pass their checks (R422). Once the waits of a launch hold, its flag is set and its descriptor is read (R101); a launch with a wait on a lost event is killed (R422); and a launch whose
reply has been written is released (R102). -/
def Obligations.LaunchesAreCopiedAndReleased : Prop :=
  (∀ (s : State) (slot : Nat) (rest : List PipeReq) (l : Launch) (pkt : List Word), s.gs.pipe = .launch slot :: rest → s.launch? slot = some l → l.opNode = some pkt →
    exec .copyFinish s = .next ((({ s with gs := { s.gs with pipe := rest } } : State).copyOp slot pkt).copyDone slot l)) ∧
  (∀ (s : State) (slot : Nat) (rest : List PipeReq) (l : Launch) (g : Gen), s.gs.pipe = .launch slot :: rest → s.launch? slot = some l → l.opNode = none →
    s.gen? l.tmpl l.gen = some g →
    let r := ({ s with gs := { s.gs with pipe := rest } } : State).genRead g
    r.genBad g = none →
    exec .copyFinish s = .next ((((List.range g.edgeCount).foldl (fun s j => s.copyEdge (g.edgeBase + j) (r.sl slot Sl.EDGE_BASE + j) (r.sl slot Sl.NODE_BASE))
      ((List.range g.nodeCount).foldl (fun t i => t.copyNode slot (t.sl slot Sl.QUEUE) (g.nodeBase + i) (r.sl slot Sl.NODE_BASE + i) (r.sl slot Sl.EDGE_BASE)) r)).copyDone
        slot l).dropReader g.tmpl g.gen)) ∧
  (∀ (s : State) (c q : Nat) (rest : List PipeReq), s.gs.pipe = .patch c q :: rest →
    exec .copyFinish s = .next (({ s with gs := { s.gs with pipe := rest } } : State).copyPatch c q)) ∧
  (∀ (s : State) (slot : Nat) (l : Launch), s.launch? slot = some l →
    let r := s.slotRead slot
    r.sl slot Sl.WAITS_CLEAR = 0 → r.sl slot Sl.STATE = 1 ∨ r.sl slot Sl.STATE = 2 → r.brokenWait l = none → r.waitsHold l →
    exec (.waitsClear slot) s = .next ((r.setSl slot Sl.WAITS_CLEAR 1).readParam slot)) ∧
  (∀ (s : State) (slot : Nat) (l : Launch) (h : Nat), s.launch? slot = some l →
    let r := s.slotRead slot
    r.sl slot Sl.WAITS_CLEAR = 0 → r.sl slot Sl.STATE = 1 ∨ r.sl slot Sl.STATE = 2 → r.brokenWait l = some (h, E.EVENT_HANDLE) →
    exec (.waitsClear slot) s = .next ((r.reportNode E.EVENT_HANDLE (r.sl slot Sl.PART) 0 l.launchId).killLaunch slot E.EVENT_HANDLE.code false)) ∧
  (∀ (s : State) (slot : Nat), s.releasable slot → exec (.launchRelease slot) s = .next (s.releaseLaunch slot)) ∧
  (∀ (s : State) (slot : Nat), s.releasable slot = false → exec (.launchRelease slot) s = .next s)

/-- LOAD_TEMPLATE takes the lowest FREE index as LOADING and reads the header, or completes with ERR_TMPL_NO_SPACE (R92); an image that has arrived is committed if it passes every check of R91, and else
refused with ERR_TMPL_INVALID and the first check that it fails. PATCH_TEMPLATE checks its handle and reads its list, then checks each record and goes on as the retire list and the pipeline have room (R94, R96); PATCH_COMMIT makes the copied generation
current and retires the old one if the copy passes every check of R91; FREE_TEMPLATE abandons the patches of its index, retires its generation, leaves the index FREE with its GEN, and completes (R96, R97). -/
def Obligations.TemplatesAreLoadedPatchedAndFreed : Prop :=
  (
    (∀ (s : State) (c q i : Nat) (pkt : List Word), s.slowRun c q 0x20 = some pkt → (List.range s.build.tmpls).find? (fun i => s.dir i Dir.STATE == 0) = some i →
      let t := (s.setRm (dirRow i) Dir.PART (s.ctx c).part).setRm (dirRow i) Dir.STATE 1
      exec (.loadTemplate c q) s = .next
        ((({ t with gs := { t.gs with jobs := t.gs.jobs ++ [TmplJob.start c q false i 0] } } : State).slowAway c q).mmRead (addr52 pkt 2) 1 (s.ctx c).part 1 1
          (.tmplLoad c q)).1) ∧
    (∀ (s : State) (c q : Nat) (pkt : List Word), s.slowRun c q 0x20 = some pkt → (List.range s.build.tmpls).find? (fun i => s.dir i Dir.STATE == 0) = none →
      exec (.loadTemplate c q) s = .next (s.refuse c q pkt E.TMPL_NO_SPACE)) ∧
    (∀ (s : State) (c q : Nat) (j : TmplJob), s.tmplJob? c q = some j → j.patch = false → j.phase = .read → s.pau.tmplQ.length < 16 →
      let m := imageOf j.words
      let k := s.imageCheck (s.ctx c).part (headerOk s.build j.words) m
      (k ≠ 0 → exec (.templateCheckDone c q) s = .next (s.refuseTmpl c q (s.slowPkt c q) E.TMPL_INVALID (2 ^ 32 * k))) ∧
      (∀ e, k = 0 → s.allocTmpl (s.ctx c).part m.nodes m.edges = .error e →
        exec (.templateCheckDone c q) s = .next (s.refuseTmpl c q (s.slowPkt c q) e)) ∧
      (∀ t a b, k = 0 → s.allocTmpl (s.ctx c).part m.nodes m.edges = .ok (t, a, b) → exec (.templateCheckDone c q) s = .next
        ((t.writeImage (s.ctx c).part a b 1 m).commitTmpl c q (s.slowPkt c q) false j.tmpl (s.ctx c).part a b m)))) ∧
  (
    (∀ (s : State) (c q : Nat) (pkt : List Word), s.slowRun c q 0x21 = some pkt →
      let r := s.dirRead (hIdx (pf pkt 1 31 0))
      (∀ i, r.tmplUse (pf pkt 1 31 0) (s.ctx c).part = .ok i → exec (.patchTemplate c q) s = .next
        ((({ r with gs := { r.gs with jobs := r.gs.jobs ++ [TmplJob.start c q true i (hGen (pf pkt 1 31 0))] } } : State).slowAway c q).mmRead (addr52 pkt 2 / 64 * 64)
          (ceilDiv (addr52 pkt 2 % 64 + 16 * pf pkt 4 16 0) 64) (s.ctx c).part 1 1 (.tmplPatch c q)).1) ∧
      (∀ e, r.tmplUse (pf pkt 1 31 0) (s.ctx c).part = .error e → exec (.patchTemplate c q) s = .next (r.refuse c q pkt e))) ∧
    (∀ (s t : State) (c q a b : Nat) (j : TmplJob) (g : Gen), s.slowRun c q 0x21 = none → s.tmplJob? c q = some j → j.patch → j.phase = .read →
      (∃ i, s.tmplUse (pf (s.slowPkt c q) 1 31 0) (s.ctx c).part = .ok i) → s.gen? j.tmpl j.gen = some g →
      (List.range (j.words.length / 4)).find? (fun k => !patchRecOk (patchRec j.words k) g.nodeCount g.edgeCount) = none → s.retireUsed < 16 →
      s.allocTmpl g.part g.nodeCount g.edgeCount = .ok (t, a, b) →
      let u := t.setRm (dirRow j.tmpl) Dir.STATE 3
      u.gs.pipe.length < 64 →
      exec (.patchTemplate c q) s = .next ((u.updTmplJob c q fun j =>
        { j with reserved := true, nodeBase := a, edgeBase := b, nodeCount := g.nodeCount, edgeCount := g.edgeCount, phase := .copying }).pushPipe (.patch c q))) ∧
    (∀ (s : State) (c q k : Nat) (j : TmplJob) (g : Gen), s.slowRun c q 0x21 = none → s.tmplJob? c q = some j → j.patch → j.phase = .read →
      (∃ i, s.tmplUse (pf (s.slowPkt c q) 1 31 0) (s.ctx c).part = .ok i) → s.gen? j.tmpl j.gen = some g →
      (List.range (j.words.length / 4)).find? (fun k => !patchRecOk (patchRec j.words k) g.nodeCount g.edgeCount) = some k →
      exec (.patchTemplate c q) s = .next (s.refuseTmpl c q (s.slowPkt c q) E.PATCH_INVALID (2 ^ 48 * k))) ∧
    (∀ (s : State) (c q : Nat) (j : TmplJob) (g : Gen), s.tmplJob? c q = some j → j.patch → j.phase = .copied → s.pau.tmplQ.length < 16 → s.gen? j.tmpl j.gen = some g →
      g.damaged = false →
      let m := s.genImage j.nodeBase j.nodeCount j.edgeBase j.edgeCount g.rootCount g.sink
      (s.imageCheck g.part true m = 0 → exec (.patchCommit c q) s = .next
        (((((List.range j.nodeCount).foldl (fun s i => s.setNd (j.nodeBase + i) Nd.STATE 1) s).updTmplJob c q fun j => { j with reserved := false }).retireGen j.tmpl).commitTmpl
          c q (s.slowPkt c q) true j.tmpl g.part j.nodeBase j.edgeBase m)) ∧
      (s.imageCheck g.part true m ≠ 0 → exec (.patchCommit c q) s = .next
        (s.refuseTmpl c q (s.slowPkt c q) E.TMPL_INVALID (2 ^ 32 * s.imageCheck g.part true m)))) ∧
    (∀ (s : State) (c q i : Nat) (pkt : List Word), s.slowRun c q 0x22 = some pkt → s.tmplOf (pf pkt 1 31 0) (s.ctx c).part = .ok i → s.retireUsed < 16 →
      let t := (s.abandonPatches i).retireGen i
      exec (.freeTemplate c q) s = .next ((t.setRow (dirRow i) (mkRec 8 [(Dir.GEN, t.dir i Dir.GEN)])).finishHead c q pkt 0)) ∧
    (∀ (s : State) (c q : Nat) (pkt : List Word) (e : Err), s.slowRun c q 0x22 = some pkt → s.tmplOf (pf pkt 1 31 0) (s.ctx c).part = .error e →
      exec (.freeTemplate c q) s = .next (s.refuse c q pkt e)))

/-! ### Events, semaphores, fences and queries (R163 to R181, R244 to R250, R310) -/

/-- RECORD_EVENT and SEM_OP ADD and SUB are consumed and take effect once every earlier command of the queue has completed, in their place among the operations of their cc (R173, R248), else they join the pending list, and with 16 in it the head
blocks (R164); a command of the list takes effect when its turn comes. A RECORD_EVENT that takes effect on an event that passes its check stores the new value in it and completes with it, and reports ERR_EVENT_SATURATE where it saturated (R172). -/
def Obligations.CommandsTakeEffectAndChangeEvents : Prop :=
  (
    ∀ (s : State) (c q : Nat) (x : Queue), s.queue? c q = some x →
      let n := s.headQseq c q
      let late := fun (k : Nat) => s.cyc.evStep < 2 ∨ (s.cyc.evStep = 2 ∧ s.cyc.evKey ≤ k)
      let semLate := fun (k : Nat) => s.semFull 5 = false ∧ (s.cyc.semStep ≠ 5 ∨ s.cyc.semKey ≤ k)
      (∀ pkt, s.headPkt c q 4 = some pkt → s.eventFault (pf pkt 1 31 0) (s.ctx c).part = none →
        (x.qseq ≤ x.completed → late (semOrder c q n) → exec (.recordEvent c q) s = .next
          ((({ s with cyc := { s.cyc with evStep := 2, evKey := semOrder c q n } } : State).consume c q).applyRecord c q n pkt)) ∧
        (x.completed < x.qseq → x.pend.length < 16 → exec (.recordEvent c q) s = .next
          ((s.consume c q).updQueue c q fun x => { x with pend := x.pend ++ [⟨n, pkt⟩] })) ∧
        (x.completed < x.qseq → 16 ≤ x.pend.length → exec (.recordEvent c q) s = .next (s.blockHead c q none))) ∧
      (∀ pkt, s.semPkt c q 0 = some pkt → s.semCheck c pkt false = none → s.smReady → x.qseq ≤ x.completed → semLate (semOrder c q n) →
        exec (.semOpAdd c q) s = .next (((({ s with cyc := { s.cyc with semKey := semOrder c q n } } : State).semOp 5).consume c q).applySem c q n pkt)) ∧
      (∀ pkt, s.semPkt c q 1 = some pkt → s.semCheck c pkt false = none → s.smReady → x.qseq ≤ x.completed → semLate (semOrder c q n) →
        exec (.semOpSub c q) s = .next (((({ s with cyc := { s.cyc with semKey := semOrder c q n } } : State).semOp 5).consume c q).applySem c q n pkt)) ∧
      (∀ pkt e, s.semPkt c q 0 = some pkt → s.semCheck c pkt false = some e → s.smReady = false → exec (.semOpAdd c q) s = .next (s.refuse c q pkt e)) ∧
      (∀ p rest, s.unitEn U.CFE → x.pend = p :: rest → p.qseq ≤ x.completed + 1 →
        let u := s.updQueue c q fun x => { x with pend := rest }
        (pf p.pkt 0 7 0 = 4 → late (semOrder c q p.qseq) → exec (.pendingTakeEffect c q) s = .next
          (({ u with cyc := { u.cyc with evStep := 2, evKey := semOrder c q p.qseq } } : State).applyRecord c q p.qseq p.pkt)) ∧
        (pf p.pkt 0 7 0 ≠ 4 → semLate (semOrder c q p.qseq) → exec (.pendingTakeEffect c q) s = .next
          ((({ u with cyc := { u.cyc with semKey := semOrder c q p.qseq } } : State).semOp 5).applySem c q p.qseq p.pkt))) ∧
      (∀ p rest, x.pend = p :: rest → x.completed + 1 < p.qseq → exec (.pendingTakeEffect c q) s = .next s) ∧
      (s.unitEn U.CFE = false → exec (.pendingTakeEffect c q) s = .next s)) ∧
  (
    ∀ (s t : State) (c q n : Nat) (pkt : List Word) (ev : Event), s.eventOf (pf pkt 1 31 0) (s.ctx c).part = .ok ev → s.checkEvent ev = (t, none) →
      let v := recordValue ev.val.toNat (pf pkt 2 0 0 == 1) (wide pkt 3)
      (v.2 = false → s.applyRecord c q n pkt = (t.storeEvent ev v.1).complete c q (s.ctx c).part n (Rep.ofPkt pkt) 0 v.1) ∧
      (v.2 = true → s.applyRecord c q n pkt = ((t.storeEvent ev v.1).reportCmd E.EVENT_SATURATE (s.ctx c).part c q n).complete c q (s.ctx c).part n
        (Rep.ofPkt pkt) E.EVENT_SATURATE.code v.1) ∧
      (∀ m, recordValue ev.val.toNat true m = (max ev.val.toNat m, false)) ∧
      (∀ m, ev.val.toNat + m < 2 ^ 64 → recordValue ev.val.toNat false m = (ev.val.toNat + m, false)) ∧
      (∀ m, 2 ^ 64 ≤ ev.val.toNat + m → recordValue ev.val.toNat false m = (2 ^ 64 - 1, true)))

/-- WAIT_EVENT is consumed with the value once it is at least N, and blocks its head until then, with a walk for wait cycles where CFE_CTRL asks for one (R173, R175); SEM_OP WAIT_GE and WAIT_GE_SUB begin to wait, a WAIT_GE of 0 is consumed at once, and a wait
that is granted completes with the value (R246, R249). -/
def Obligations.WaitsBlockUntilGranted : Prop :=
  ∀ (s : State) (c q : Nat),
    (∀ pkt ev, s.headPkt c q 5 = some pkt → s.eventFault (pf pkt 1 31 0) (s.ctx c).part = none → s.event? (hIdx (pf pkt 1 31 0)) = some ev →
      (wide pkt 2 ≤ ev.val.toNat → exec (.waitEvent c q) s = .next (s.finishHead c q pkt 0 ev.val.toNat)) ∧
      (ev.val.toNat < wide pkt 2 → s.rb Reg.CFE_CTRL_CYCLE_DETECT = false → (s.blockHead c q (some (.event (pf pkt 1 31 0) (wide pkt 2)))).rb Reg.CFE_CTRL_CYCLE_DETECT = false →
        exec (.waitEvent c q) s = .next (s.blockHead c q (some (.event (pf pkt 1 31 0) (wide pkt 2)))))) ∧
    (∀ pkt ev x, s.headPkt c q 5 = some pkt → s.eventFault (pf pkt 1 31 0) (s.ctx c).part = none → s.event? (hIdx (pf pkt 1 31 0)) = some ev →
      s.queue? c q = some x → x.state ≠ .blocked → ev.val.toNat < wide pkt 2 →
      let b := s.blockHead c q (some (.event (pf pkt 1 31 0) (wide pkt 2)))
      b.rb Reg.CFE_CTRL_CYCLE_DETECT →
      exec (.waitEvent c q) s = .next { b with fe := { b.fe with walks := b.fe.walks ++ [(c, q, b.headQseq c q)] } }) ∧
    (∀ pkt t, s.semPkt c q 2 = some pkt → s.semWaitOf c q = none → s.semCheck c pkt true = none → s.smReady →
      s.checkSem (pf pkt 1 15 0) = (t, none) → t.portOf (pf pkt 1 15 0) = none →
      (pf pkt 2 31 0 = 0 → exec (.semOpWaitGe c q) s = .next (t.finishHead c q pkt 0 (t.semVal (pf pkt 1 15 0)))) ∧
      (∀ w, pf pkt 2 31 0 ≠ 0 → (t.addWait (pf pkt 1 15 0) (pf pkt 2 31 0) false (.queue c q)).semWaitOf c q = some w → w.granted = none →
        exec (.semOpWaitGe c q) s = .next
          ((t.addWait (pf pkt 1 15 0) (pf pkt 2 31 0) false (.queue c q)).blockHead c q (some (.semGe (pf pkt 1 15 0) (pf pkt 2 31 0)))))) ∧
    (∀ pkt w r, s.semPkt c q 2 = some pkt → s.semWaitOf c q = some w → w.granted = some r →
      exec (.semOpWaitGe c q) s = .next ((s.dropWait (.queue c q)).finishHead c q pkt 0 r)) ∧
    (∀ pkt w r, s.semPkt c q 3 = some pkt → s.semWaitOf c q = some w → w.granted = some r →
      exec (.semOpWaitGeSub c q) s = .next ((s.dropWait (.queue c q)).finishHead c q pkt 0 r)) ∧
    (∀ pkt w, s.semPkt c q 2 = some pkt → s.semWaitOf c q = some w → w.granted = none →
      exec (.semOpWaitGe c q) s = .next (s.blockHead c q (some (.semGe (pf pkt 1 15 0) (pf pkt 2 31 0))))) ∧
    (∀ pkt w, s.semPkt c q 3 = some pkt → s.semWaitOf c q = some w → w.granted = none →
      exec (.semOpWaitGeSub c q) s = .next (s.blockHead c q (some (.semGeSub (pf pkt 1 15 0) (pf pkt 2 31 0)))))

/-- The Thresher commands on signals, fences and queries (R169, R181, R310): each completes with what its rule says, or waits without holding the processor; a signal to this device's own number is a local record of the next cc. -/
def Obligations.SignalsFencesAndQueries : Prop :=
  ∀ (s : State) (c q : Nat) (pkt : List Word),
    (s.slowRun c q 0x10 = some pkt → pf pkt 1 11 0 ≠ s.self →
      let out := s.startSignal (.cmd c q (s.headQseq c q) (Rep.ofPkt pkt)) (pf pkt 1 11 0) (pf pkt 2 31 0) (pf pkt 3 0 0 == 1) (wide pkt 4) (s.ctx c).part
      (out.2 = none → exec (.signalRemote c q) s = .next (out.1.slowAway c q)) ∧
      (∀ code v, out.2 = some (code, v) → exec (.signalRemote c q) s = .next (out.1.finishHead c q pkt code (if code = 0 then v else 0)))) ∧
    (s.slowRun c q 0x10 = some pkt → pf pkt 1 11 0 = s.self →
      let out := (s.tick.recordTurn c q (s.headQseq c q)).startSignal (.cmd c q (s.headQseq c q) (Rep.ofPkt pkt)) (pf pkt 1 11 0) (pf pkt 2 31 0)
        (pf pkt 3 0 0 == 1) (wide pkt 4) (s.ctx c).part
      ∀ code v, out.2 = some (code, v) → exec (.signalRemote c q) s = .next (out.1.finishHead c q pkt code (if code = 0 then v else 0))) ∧
    (s.slowHeld c q 0x11 = some pkt → pf pkt 1 1 0 = 0 → exec (.fence c q) s = .next (s.finishHead c q pkt 0)) ∧
    (s.slowHeld c q 0x11 = some pkt → s.writesOut c q = false → s.remoteOut c q = false → exec (.fence c q) s = .next (s.finishHead c q pkt 0)) ∧
    (s.slowHeld c q 0x11 = some pkt → pf pkt 1 1 0 = 2 → s.remoteOut c q → exec (.fence c q) s = .next (s.slowAway c q)) ∧
    (s.queryPkt c q 0 = some pkt → pf pkt 2 31 0 < s.build.tmpls → 2 ≤ s.dir (pf pkt 2 31 0) Dir.STATE → s.dir (pf pkt 2 31 0) Dir.PART = (s.ctx c).part →
      exec (.queryTemplate c q) s = .next (s.finishHead c q pkt 0 (mkHandle (s.dir (pf pkt 2 31 0) Dir.GEN) (pf pkt 2 31 0)))) ∧
    (∀ ev, s.queryPkt c q 1 = some pkt → s.event? (hIdx (pf pkt 2 31 0)) = some ev → ev.gen = hGen (pf pkt 2 31 0) → ev.part = (s.ctx c).part →
      ∀ t, s.checkEvent ev = (t, none) → exec (.queryEvent c q) s = .next (t.finishHead c q pkt 0 ev.val.toNat)) ∧
    (∀ l, s.queryPkt c q 2 = some pkt → s.gs.launches.find? (fun l => l.launchId == pf pkt 2 31 0 && s.sl l.slot Sl.PART == (s.ctx c).part) = some l →
      exec (.queryLaunch c q) s = .next (s.finishHead c q pkt 0 (s.sl l.slot Sl.STATE))) ∧
    (s.queryPkt c q 2 = some pkt → s.gs.launches = [] → exec (.queryLaunch c q) s = .next (s.finishHead c q pkt 0 0xF)) ∧
    (∀ x, s.queryPkt c q 3 = some pkt → s.queue? c (pf pkt 2 31 0) = some x → exec (.queryQueue c q) s = .next (s.finishHead c q pkt 0 x.state.code)) ∧
    (s.queryPkt c q 4 = some pkt → s.semOf (pf pkt 2 31 0) (s.ctx c).part → s.smReady →
      ∀ t, s.checkSem (pf pkt 2 31 0) = (t, none) → exec (.querySemaphore c q) s = .next (t.finishHead c q pkt 0 (t.semVal (pf pkt 2 31 0)))) ∧
    (s.queryPkt c q 4 = some pkt → s.semOf (pf pkt 2 31 0) (s.ctx c).part → s.smReady = false →
      exec (.querySemaphore c q) s = .next (s.slowAway c q))

/-- EVENT_CREATE takes the lowest FREE index with the next generation, the operands' value and REMOTE_OK, and completes with its handle, or with ERR_EVENT_QUOTA beyond the partition's quota; EVENT_DESTROY frees its event, or
completes with ERR_EVENT_BUSY while something refers to it (R171). -/
def Obligations.EventsAreCreatedAndDestroyed : Prop :=
  ∀ (s : State) (c q : Nat) (pkt : List Word),
    (∀ i, s.slowRun c q 0x13 = some pkt → (List.range 16384).find? (fun i => !s.fe.events.any fun e => e.idx == i && e.live) = some i →
      (s.fe.events.filter fun e => e.live && e.part == (s.ctx c).part).length < s.rf (Reg.CFE_EVENT_QUOTA (s.ctx c).part) → s.fe.events.find? (fun e => e.idx == i) = none →
      exec (.eventCreate c q) s = .next (({ s with fe := { s.fe with events := s.fe.events.filter (fun (e : Event) => e.idx != i) ++
        [⟨i, true, 1, (s.ctx c).part, pf pkt 1 0 0 == 1, BitVec.ofNat 64 (wide pkt 2), ~~~(BitVec.ofNat 64 (wide pkt 2))⟩] } } : State).finishHead c q pkt 0 (mkHandle 1 i))) ∧
    (∀ i, s.slowRun c q 0x13 = some pkt → (List.range 16384).find? (fun i => !s.fe.events.any fun e => e.idx == i && e.live) = some i →
      s.rf (Reg.CFE_EVENT_QUOTA (s.ctx c).part) ≤ (s.fe.events.filter fun e => e.live && e.part == (s.ctx c).part).length →
      exec (.eventCreate c q) s = .next (s.refuse c q pkt E.EVENT_QUOTA)) ∧
    (∀ ev, s.slowRun c q 0x14 = some pkt → s.eventOf (pf pkt 1 31 0) (s.ctx c).part = .ok ev → s.eventBusy c q (pf pkt 1 31 0) = false →
      exec (.eventDestroy c q) s = .next ((s.updEvent ev.idx fun e => { e with live := false, part := 0, val := 0, valN := ~~~0 }).finishHead c q pkt 0)) ∧
    (∀ ev, s.slowRun c q 0x14 = some pkt → s.eventOf (pf pkt 1 31 0) (s.ctx c).part = .ok ev → s.eventBad ev = none → s.eventBusy c q (pf pkt 1 31 0) →
      exec (.eventDestroy c q) s = .next (s.refuse c q pkt E.EVENT_BUSY))

/-! ### Contexts, queues and the front end (R150 to R162, R174 to R181, R516) -/

/-- CFE_CTX_CMD (R152, R153, R178): CREATE sets BUSY and reads the descriptor; the destroys take their context into DESTROYING; a command that names no live context is refused with ERR_CTX_HANDLE; QUEUE_RESET empties a FAULTED queue at
the index of CFE_CTX_ARG; and a DESTROYING context all of whose commands have completed becomes FREE, and the destroy that names it is DONE. -/
def Obligations.ContextCommandsAreCarriedOut : Prop :=
  (∀ s : State, s.portLive → s.unlatch.ctxRunning = false →
    (s.unlatch.unitEn U.CFE → exec .contextCreate s = .next
      ((s.unlatch.ctxBusy.mmRead (2 ^ 8 * s.unlatch.rf Reg.CFE_CTX_DESC_LO + 2 ^ 32 * s.unlatch.rf Reg.CFE_CTX_DESC_HI) 4 0 1 0 .ctxDesc).1).ack) ∧
    (s.unlatch.unitEn U.CFE = false → exec .contextCreate s = .next (s.unlatch.ctxRefuse E.UNIT_DISABLED none).ack) ∧
    (∀ x, s.unlatch.ctxOf = some x → exec .destroyDrain s = .next
      (({ s.unlatch.ctxBusy with fe := { s.unlatch.ctxBusy.fe with ctxCmd := 2, ctxTarget := x.idx } } : State).destroyCtx x.idx false).ack) ∧
    (∀ x, s.unlatch.ctxOf = some x → exec .destroyKill s = .next
      (({ s.unlatch.ctxBusy with fe := { s.unlatch.ctxBusy.fe with ctxCmd := 3, ctxTarget := x.idx } } : State).destroyCtx x.idx true).ack) ∧
    (s.unlatch.ctxOf = none → exec .destroyDrain s = .next (s.unlatch.ctxRefuse E.CTX_HANDLE none).ack ∧
      exec .destroyKill s = .next (s.unlatch.ctxRefuse E.CTX_HANDLE none).ack ∧ ∀ q, exec (.queueReset q) s = .next (s.unlatch.ctxRefuse E.CTX_HANDLE none).ack) ∧
    (∀ x u q, s.unlatch.ctxOf = some x → s.unlatch.queue? x.idx q = some u → u.state = .faulted → exec (.queueReset q) s = .next
      (((((s.unlatch.setQState x.idx q .empty).updQueue x.idx q fun u => { u with read := s.unlatch.rf Reg.CFE_CTX_ARG, write := s.unlatch.rf Reg.CFE_CTX_ARG }).writeShadow
        x.idx q).ctxDone).ack)) ∧
    (∀ x u q, s.unlatch.ctxOf = some x → s.unlatch.queue? x.idx q = some u → u.state ≠ .faulted →
      exec (.queueReset q) s = .next (s.unlatch.ctxRefuse E.QUEUE_STATE (some x.part)).ack)) ∧
  (∀ (s : State) (c : Nat), (s.ctx c).cstate = 2 → (s.fe.queues.filter fun x => x.ctx == c).all (fun x => decide (x.completed = x.qseq)) →
    let t := s.updCtx c fun x => { x with cstate := 0, part := 0, qmask := 0 }
    let u : State := { t with fe := { t.fe with queues := t.fe.queues.filter fun x => x.ctx != c } }
    (u.ctxRunning = false ∨ u.fe.ctxCmd = 0 ∨ u.fe.ctxTarget ≠ c → exec (.contextFree c) s = .next u) ∧
    (u.ctxRunning → u.fe.ctxCmd ≠ 0 → u.fe.ctxTarget = c → exec (.contextFree c) s = .next { u.ctxDone with fe := { u.fe with ctxCmd := 0 } })) ∧
  (∀ (s : State) (c : Nat), (s.ctx c).cstate ≠ 2 → exec (.contextFree c) s = .next s)

/-- An ACTIVE head that has consumed 256 packets goes back to PENDING when a queue of its class or a higher one is PENDING, and a PENDING queue is granted a head while one is free, and else the head of the queue that has been blocked longest on a wait, which is PARKED (R160); a packet at the read index becomes the head packet, refused if it fails a check of R170, and
enters the slow queue if it takes the Thresher path (R162); the Thresher takes the oldest command that may start (R516); and a queue's shadow record is written at most once per µs (R158). -/
def Obligations.QueueHeadsAreFed : Prop :=
  (∀ s : State, s.halted = false → s.unitEn U.CFE →
    let r := s.rotateHeads
    (∀ x, r.nextPending = some x → r.fe.heads.length < r.build.heads → exec .headGrant s = .next (r.grant x)) ∧
    (∀ x h, r.nextPending = some x → r.build.heads ≤ r.fe.heads.length → r.evictable = some h → exec .headGrant s = .next ((r.evict h).grant x)) ∧
    (r.nextPending = none → exec .headGrant s = .next r)) ∧
  (∀ (s : State) (h : Head), s.fe.heads = [h] → 256 ≤ h.consumed → (s.queue? h.ctx h.q).any (·.state == .active) →
    s.fe.queues.any (fun y => y.state == .pending && decide (y.q ≤ h.q)) → s.rotateHeads = (s.dropHead h.ctx h.q).makePending h.ctx h.q) ∧
  (∀ (s : State) (c q i : Nat) (x : Queue) (h : Head) (pkt : List Word), s.feeding → s.queue? c q = some x → x.state = .active → s.head? c q = some h → h.cur = none →
    h.fetched.find? (fun e => e.1 == x.read) = some (i, pkt) →
    let t := s.updHead c q fun h => { h with fetched := h.fetched.filter (·.1 != i), cur := some ⟨pkt, false, s.now, none⟩ }
    (∀ e, t.packetFault pkt = some e → exec (.packetDecode c q) s = .next (t.refuse c q pkt e)) ∧
    (t.packetFault pkt = none → slowOp (pf pkt 0 7 0) = false → exec (.packetDecode c q) s = .next t) ∧
    (t.packetFault pkt = none → slowOp (pf pkt 0 7 0) → exec (.packetDecode c q) s = .next ((t.blockHead c q none).pushSlow c q pkt))) ∧
  (∀ (s : State) (e : Slow), s.unitEn U.THR → s.halted = false → s.ifm.thrHold = false → s.fe.slow.any (fun e => e.phase == .running) = false →
    s.fe.slow.find? (fun e => e.phase == .queued && s.mayStart e) = some e →
    exec .thresherCommandStart s = .next { s with fe := { s.fe with slow := s.fe.slow.map fun x => if x == e then { x with phase := .running } else x } }) ∧
  (∀ (s : State) (c q : Nat) (x : Queue), s.queue? c q = some x → x.dirty → 1000 + x.shadowGc ≤ s.now → exec (.shadowRecordWrite c q) s = .next (s.writeShadow c q)) ∧
  (∀ (s : State) (c q : Nat) (x : Queue), s.queue? c q = some x → s.now < 1000 + x.shadowGc → exec (.shadowRecordWrite c q) s = .next s)

/-- Wait cycles and the timeouts of the front end: every queue of a chain that closes faults with ERR_EVENT_CYCLE, and a walk whose head has since gone on ends at once (R175); a blocked packet that has waited for its queue's limit faults the queue with ERR_QUEUE_TIMEOUT, and a launch whose waits stay unmet is
killed with ERR_WAIT_TIMEOUT (R177); a SIGNAL unanswered for CFE_SIG_TIMEOUT ends with ERR_SIGNAL_TIMEOUT (R181). -/
def Obligations.FrontEndTimeoutsAndCycles : Prop :=
  (∀ (s : State) (c q n : Nat) (rest : List (Nat × Nat × Nat)), s.fe.walks = (c, q, n) :: rest →
    let t : State := { s with fe := { s.fe with walks := rest } }
    (t.headQseq c q ≠ n → exec .eventCycleWalk s = .next t) ∧
    (∀ qs, t.headQseq c q = n → t.chain (c, q) 256 (c, q) [(c, q)] = some qs →
      exec .eventCycleWalk s = .next (qs.foldl (fun s q => s.faultWith q.1 q.2 E.EVENT_CYCLE) t)) ∧
    (t.headQseq c q = n → t.chain (c, q) 256 (c, q) [(c, q)] = none → exec .eventCycleWalk s = .next t)) ∧
  (∀ (s : State) (c q : Nat) (x : Queue) (k : Cur), s.queue? c q = some x → s.blockedPkt c q = some k → s.tb.check → x.headTimeout ≠ 0 → s.due k.since (1000 * x.headTimeout) →
    exec (.headTimeout c q) s = .next (s.faultWith c q E.QUEUE_TIMEOUT)) ∧
  (∀ (s : State) (slot : Nat) (l : Launch) (x : Queue), s.launch? slot = some l → s.queue? (s.sl slot Sl.CONTEXT) (s.sl slot Sl.QUEUE) = some x → s.tb.check → l.step = false →
    s.sl slot Sl.WAITS_CLEAR = 0 → s.sl slot Sl.STATE = 1 ∨ s.sl slot Sl.STATE = 2 → x.waitTimeout ≠ 0 → s.waitsUnmet l → s.due l.acceptGc (100000 * x.waitTimeout) →
    exec (.waitTimeout slot) s = .next ((s.reportNode E.WAIT_TIMEOUT (s.sl slot Sl.PART) 0 l.launchId).killLaunch slot E.WAIT_TIMEOUT.code true)) ∧
  (∀ (s : State) (seq : BitVec 32) (g : Signal), s.fe.signals.find? (fun g => g.seq == seq.toNat) = some g → s.due g.sentGc (1000 * max 1 (s.rf Reg.CFE_SIG_TIMEOUT)) →
    exec (.signalTimeout seq) s = .next ((s.reportSignal (some g.who) g.part E.SIGNAL_TIMEOUT).signalDone g E.SIGNAL_TIMEOUT.code 0)) ∧
  (∀ (s : State) (seq : BitVec 32) (g : Signal), s.fe.signals.find? (fun g => g.seq == seq.toNat) = some g → s.due g.sentGc (1000 * max 1 (s.rf Reg.CFE_SIG_TIMEOUT)) = false →
    exec (.signalTimeout seq) s = .next s)

/-! ### Sequences and step streams (R186 to R215, R387, R448) -/

/-- SEQ_ADMIT (R189): a sequence whose fields and quota are in order takes the lowest FREE entry, and the command completes with its handle; the errors are tried in the rule's order. SEQ_UPDATE (R190): each OP changes its own field of a sequence that is PREFILL or DECODE and completes with the handle; UNHOLD makes its partition's stream look for work; SET_MAX_LEN at or below the projected position ends the sequence; a handle that is
not current is refused with ERR_SEQ_HANDLE, and an ENDING sequence with ERR_SEQ_STATE. -/
def Obligations.SequencesAreAdmittedAndUpdated : Prop :=
  (
    ∀ (s : State) (c q : Nat) (pkt : List Word), s.slowRun c q 0x30 = some pkt → s.synthBusy (s.ctx c).part = false →
      let p := (s.ctx c).part
      let ok := fld pkt Adm.POS < fld pkt Adm.PROMPT_LEN ∧ fld pkt Adm.PROMPT_LEN < fld pkt Adm.MAX_LEN ∧
        ceilDiv (fld pkt Adm.POS) (2 ^ s.sh (Reg.ST_PLAN_BLOCK_LOG2 p)) ≤ fld pkt Adm.KV_BLOCKS
      (¬ ok → exec (.seqAdmit c q) s = .next (s.refuse c q pkt E.SEQ_DESC)) ∧
      (ok → s.inEpisode E.TAG_WINDOW.code (windowKey 2 p) = false → s.rf (Reg.ST_SEQ_QUOTA p) ≤ s.rf (Reg.ST_SEQ_USE p) →
        exec (.seqAdmit c q) s = .next (s.refuse c q pkt E.SEQ_QUOTA)) ∧
      (∀ i, ok → s.inEpisode E.TAG_WINDOW.code (windowKey 2 p) = false → s.rf (Reg.ST_SEQ_USE p) < s.rf (Reg.ST_SEQ_QUOTA p) →
        (List.range s.build.seqs).find? (fun i => s.sq i Sq.STATE == 0) = some i →
        exec (.seqAdmit c q) s = .next ((s.admitSeq i p pkt).finishHead c q pkt 0 (mkHandle ((s.admitSeq i p pkt).sq i Sq.GEN) i)))) ∧
  (
    ∀ (s : State) (c q i : Nat) (pkt : List Word), s.slowRun c q 0x31 = some pkt → s.synthBusy (s.ctx c).part = false →
      (s.seqOf (pf pkt 1 31 0) (s.ctx c).part = some i → (s.checkSeq i).sq i Sq.STATE ≠ 3 →
        let t := s.checkSeq i
        let v := pf pkt 3 31 0
        let done := fun (t : State) => t.finishHead c q pkt 0 (pf pkt 1 31 0)
        (pf pkt 2 2 0 = 0 → exec (.setClass c q) s = .next (done (t.setSq i Sq.CLASS v))) ∧
        (pf pkt 2 2 0 = 1 → exec (.hold c q) s = .next (done (t.setSq i Sq.HOLD 1))) ∧
        (pf pkt 2 2 0 = 2 → exec (.unhold c q) s = .next (done ((t.setSq i Sq.HOLD 0).nudge (t.sq i Sq.PART)))) ∧
        (pf pkt 2 2 0 = 3 → (t.setSq i Sq.MAX_LEN v).projected i < v → exec (.setMaxLen c q) s = .next (done (t.setSq i Sq.MAX_LEN v))) ∧
        (pf pkt 2 2 0 = 3 → v ≤ (t.setSq i Sq.MAX_LEN v).projected i → exec (.setMaxLen c q) s = .next (done ((t.setSq i Sq.MAX_LEN v).endSeq i 2))) ∧
        (pf pkt 2 2 0 = 4 → exec (.setUser c q) s = .next (done (t.setSq i Sq.USER v)))) ∧
      (s.seqOf (pf pkt 1 31 0) (s.ctx c).part = none → pf pkt 2 2 0 = 0 → exec (.setClass c q) s = .next (s.refuse c q pkt E.SEQ_HANDLE)) ∧
      (s.seqOf (pf pkt 1 31 0) (s.ctx c).part = some i → (s.checkSeq i).sq i Sq.STATE = 3 → pf pkt 2 2 0 = 1 →
        exec (.hold c q) s = .next ((s.checkSeq i).refuse c q pkt E.SEQ_STATE)))

/-- SEQ_CANCEL and the Winnow (R191, R210, R211): MODE 0 ends one sequence with REASON 3 (one already ENDING keeps its REASON) and MODE 2 every PREFILL and DECODE sequence of the partition, and their live rows are made dead; MODE 1 cancels the steps in flight. Each leaves the
processor with the Winnow busy. The sweep ends once its writes are answered and its kills are complete: an ENDING sequence without rows gets its finish record, MODE 1 sets the stream to the number after the last step applied, and the command
completes with the rows made dead. -/
def Obligations.SweepsStartAndEnd : Prop :=
  (∀ (s : State) (c q i : Nat) (pkt : List Word), s.cancelPkt c q 0 = some pkt →
    let t := s.checkSeq i
    let p := (t.ctx c).part
    let busy := fun (x : State × Nat) (mode : Nat) (seqs : List Nat) =>
      (({ x.1 with st := { x.1.st with winnow := some ⟨c, q, mode, p, seqs, x.2, [], x.2⟩ } } : State).setRf Reg.ST_WINNOW_BUSY 1).slowAway c q
    (s.seqOf (pf pkt 1 31 0) (s.ctx c).part = some i →
      (t.sq i Sq.STATE ≠ 3 → exec (.seqCancelSeq c q) s = .next
        (busy (((t.setSq i Sq.STATE 3).setSq i Sq.REASON 3).makeDead p [i] (fun _ => true) (.st p 4 0)) 0 [i])) ∧
      (t.sq i Sq.STATE = 3 → exec (.seqCancelSeq c q) s = .next
        (busy (t.makeDead p [i] (fun _ => true) (.st p 4 0)) 0 [i]))) ∧
    (s.seqOf (pf pkt 1 31 0) (s.ctx c).part = none → exec (.seqCancelSeq c q) s = .next (s.refuse c q pkt E.SEQ_HANDLE))) ∧
  (∀ (s : State) (c q : Nat) (pkt : List Word), s.cancelPkt c q 1 = some pkt →
    let r := s.cancelSteps (s.ctx c).part 0
    exec (.seqCancelStep c q) s = .next
      ((({ r.1 with st := { r.1.st with winnow := some ⟨c, q, 1, (s.ctx c).part, [], r.2.1, r.2.2, 0⟩ } } : State).setRf Reg.ST_WINNOW_BUSY 1).slowAway c q)) ∧
  (∀ (s : State) (c q : Nat) (pkt : List Word), s.cancelPkt c q 2 = some pkt →
    let t := (s.seqsOf (s.ctx c).part fun st => st == 1 || st == 2).foldl (fun s i => s.checkSeq i) s
    let p := (t.ctx c).part
    let seqs := t.seqsOf (s.ctx c).part fun st => st == 1 || st == 2
    let x := (seqs.foldl (fun s i => s.endSeq i 3) t).makeDead p seqs (fun _ => true) (.st p 4 0)
    exec (.seqCancelAll c q) s = .next
      ((({ x.1 with st := { x.1.st with winnow := some ⟨c, q, 2, p, seqs, x.2, [], x.2⟩ } } : State).setRf Reg.ST_WINNOW_BUSY 1).slowAway c q)) ∧
  (∀ (s : State) (w : Winnow), s.st.winnow = some w → s.winnowWaits w → exec .winnowDone s = .next s) ∧
  (∀ (s : State) (w : Winnow), s.st.winnow = some w → s.winnowWaits w = false → w.ctx < s.build.ctxs →
    let t := ({ s with st := { s.st with winnow := none } } : State).setRf Reg.ST_WINNOW_BUSY 0
    (w.mode ≠ 1 → w.seqs = [] → exec .winnowDone s = .next (t.finishHead w.ctx w.q (t.slowPkt w.ctx w.q) 0 w.rows)) ∧
    (∀ i, w.mode ≠ 1 → w.seqs = [i] → t.sq i Sq.STATE = 3 → t.sq i Sq.PEND_ROWS = 0 → t.sq i Sq.PART = w.part →
      exec .winnowDone s = .next
        (let u := (t.finishSeq i (.st w.part 5 (8 * w.ctx + w.q))).1
         u.finishHead w.ctx w.q (u.slowPkt w.ctx w.q) 0 w.rows)) ∧
    (w.mode = 1 → w.seqs = [] →
      let u := ((t.sweepSteps w.part).rewindStream w.part).settleStream w.part
      exec .winnowDone s = .next (u.finishHead w.ctx w.q (u.slowPkt w.ctx w.q) 0 w.rows)))

/-- STEP_RUN (R193 to R196): START of a stream that is IDLE or FAULTED reads its descriptor, and of one that runs is refused with ERR_STREAM_STATE (it waits while a descriptor is being read or a boundary pass runs on, log entry 45); STOP of an IDLE stream is refused, and of another ends it and completes when it is IDLE; KV_ADD
adds to KV_FREE and completes with it. -/
def Obligations.StreamsAreStartedAndStopped : Prop :=
  ∀ (s : State) (c q : Nat) (pkt : List Word), s.slowRun c q 0x33 = some pkt →
    let p := (s.ctx c).part
    let st := s.rf (Reg.ST_STREAM_STATUS_SSTATE p)
    (pf pkt 1 1 0 = 0 → s.startOut p = false → s.passRuns p = false → st = 0 ∨ st = 3 → exec (.stepRunStart c q) s = .next
      ((s.slowAway c q).mmRead (addr52 pkt 2) 2 p 1 3 (.st p 0 (8 * c + q))).1) ∧
    (pf pkt 1 1 0 = 0 → s.startOut p = false → s.passRuns p = false → st = 1 ∨ st = 2 → exec (.stepRunStart c q) s = .next (s.refuse c q pkt E.STREAM_STATE)) ∧
    (pf pkt 1 1 0 = 0 → s.startOut p ∨ s.passRuns p → exec (.stepRunStart c q) s = .next s) ∧
    (pf pkt 1 1 0 = 1 → st = 0 → exec (.stepRunStop c q) s = .next (s.refuse c q pkt E.STREAM_STATE)) ∧
    (∀ x, pf pkt 1 1 0 = 1 → st ≠ 0 → s.stream? p = some x → x.startCmd = none → exec (.stepRunStop c q) s = .next
      (((s.slowAway c q).updStream p fun x => { x with stopCmds := x.stopCmds ++ [(c, q)] }).stopStream p)) ∧
    (pf pkt 1 1 0 = 2 → s.synthBusy p = false →
      let t := (s.incRf (Reg.ST_KV_FREE p) (pf pkt 4 31 0)).nudge p
      exec (.stepRunKvAdd c q) s = .next (t.finishHead c q pkt 0 (t.rf (Reg.ST_KV_FREE p))))

/-- A RUNNING stream whose moment has come starts a synthesis, unless the next step tag is held (ERR_STEP_TAG_BUSY) or the row store is full (R197, R198, R205); its launch is submitted when its last write has been answered, or the stream faults with
ERR_STEP_LAUNCH where the launch is refused (R198, R201); the results of a step that retires are read, and applied at once where no row is live (R208). -/
def Obligations.StepsAreSynthesisedAndLaunched : Prop :=
  (∀ (s : State) (p : Nat) (x : Stream),
    let r := s.settleStreams
    r.stream? p = some x → x.due → s.rf (Reg.ST_STREAM_STATUS_SSTATE p) = 1 → s.unitEn U.ST → s.halted = false → (r.stepsOf p).length < 2 →
    (r.stepsOf p).any (fun y => y.phase == .dead || y.phase == .writing) = false → s.st.winnow.any (fun w => w.part == p && w.mode == 1) = false →
    let t := r.startDone p
    (t.tagBusy (t.rf Reg.ST_TAG_TAG_NEXT) → exec (.synthesisStart p) s = .next (t.synthWaits p E.STEP_TAG_BUSY)) ∧
    (t.tagBusy (t.rf Reg.ST_TAG_TAG_NEXT) = false → 131072 ≤ t.rowsHeld → exec (.synthesisStart p) s = .next (t.synthWaits p E.ROWSTORE_FULL)) ∧
    (t.tagBusy (t.rf Reg.ST_TAG_TAG_NEXT) = false → t.rowsHeld < 131072 → exec (.synthesisStart p) s = .next
      (((t.closeEpisode E.STEP_TAG_BUSY.code p).closeEpisode E.ROWSTORE_FULL.code p).synthesise x))) ∧
  (∀ (s : State) (p : Nat) (y : Step) (x : Stream), (s.stepsOf p).find? (fun x => x.phase == .writing && x.out == 0) = some y → s.stream? p = some x →
    let i := hIdx (fld x.desc Str.TEMPLATE)
    let pkt := stepPacket x (mkHandle (s.dir i Dir.GEN) i) y.n
    let t := (s.setRf (Reg.ST_SYNTH_NS p) (min (s.gc - y.synthGc) 65535)).dirRead i
    (∀ e, t.stepRefusal x pkt = some e → exec (.stepLaunchSubmit p) s = .next ((t.reportPlain e (some p)).streamFault p E.STEP_LAUNCH 0 false)) ∧
    (t.stepRefusal x pkt = none → fld x.desc Str.STEP_COUNT = 0 → exec (.stepLaunchSubmit p) s = .next
      ((((({ t with gs := { t.gs with waiting := t.gs.waiting ++ [(⟨t.cc, x.ctx, fld x.desc Str.LEVEL, p, true, y.tag, pkt⟩ : Waiting)] } } : State).updStep y.tag fun y =>
        { y with phase := .launched }).updStream p fun x => { x with launched := x.launched + 1 }).publish y.tag (bufOf x.desc y.n))))) ∧
  (∀ (s : State) (p : Nat) (x : Step) (t : Stream), (s.stepsOf p).find? (fun x => x.phase == .launched && s.stepRetired x) = some x → s.stream? p = some t →
    (x.rows.any (·.live) = true → exec (.boundaryPass p) s = .next
      ((s.updStep x.tag fun y => { y with phase := .reading, out := 1 }).mmRead (bufOf t.desc x.n + 64 * fld t.desc Str.RES_OFFSET) (ceilDiv (8 * x.rows.length) 64) p 1 3
        (.st p 2 x.tag)).1) ∧
    (x.rows.any (·.live) = false → exec (.boundaryPass p) s = .next (s.applyStep x.tag []))) ∧
  (∀ (s : State) (p : Nat) (x : Step) (t : Stream), (s.stepsOf p).find? (fun x => x.phase == .applied && x.out == 0) = some x → s.stream? p = some t →
    lookupD s.dc.ckpts p 0 ≠ 1 →
    (s.rb (Reg.DC_CKPT_STATUS_BUSY p) → s.dc.ckpts.all (fun c => c.1 != p) → exec (.boundaryPassEnd p) s = .next (s.ckptStart p x.n)) ∧
    (s.rb (Reg.DC_CKPT_STATUS_BUSY p) = false →
      let freed := ((({ s with dc := { s.dc with ckpts := assocDel s.dc.ckpts p }, st := { s.st with steps := s.st.steps.filter fun y => y.tag != x.tag } } : State).latchTelem
        x).latchDigests x).dropEraSteps (· == x.tag)
      exec (.boundaryPassEnd p) s = .next
        (((((freed.trace 9 (some p) (2 ^ 22 * x.tag + 2 ^ 38 * (x.n % 2 ^ 22)) (2 ^ 22 * x.tag)).recordStep p (fld t.desc Str.STEP_EVENT) x.n).updStream p fun y =>
          { y with restarts := 0 }).settleStream p).nudge p)))

/-! ### Expert routing (R217 to R240) -/

/-- Route jobs run one at a time (R218): the job at the head of the queue starts with its regions checked and its input read; once its lists are written, its notices are posted and it ends (R235); a job whose tag has died is dropped (R238). ERA_SWAP
makes a swap pending (R224). -/
def Obligations.RouteJobsRunInOrder : Prop :=
  (∀ (s : State) (j : EraJob) (rest : List EraJob), s.era.jobs = j :: rest →
    (j.phase = .queued → s.unitEn U.ERA → s.halted = false → s.tagDead j.tag = false → exec .routeJobStart s = .next (s.startEraJob j)) ∧
    (j.phase = .queued → s.unitEn U.ERA → s.halted = false → s.tagDead j.tag → exec .routeJobStart s = .next s.endEraJob) ∧
    (j.phase = .written → s.tagDead j.tag = false → exec .routeJobNotices s = .next (s.finishEraJob j)) ∧
    (j.phase ≠ .queued → s.tagDead j.tag → exec .routeJobDead s = .next s.endEraJob) ∧
    (s.tagDead j.tag = false → exec .routeJobDead s = .next s) ∧
    (j.phase ≠ .queued → exec .routeJobStart s = .next s)) ∧
  (∀ (s : State) (p : Nat), s.portLive → s.unlatch.partOk p → s.unlatch.lockedOrLocking p = false →
    exec (.eraSwapBias p) s = .next (s.unlatch.setRf (Reg.ERA_BANK_BIAS_PEND p) 1).ack ∧
    exec (.eraSwapSeed p) s = .next (s.unlatch.setRf (Reg.ERA_BANK_SEED_PEND p) 1).ack) ∧
  (∀ (s : State) (p : Nat), s.portLive → s.unlatch.partOk p → s.unlatch.lockedOrLocking p →
    exec (.eraSwapBias p) s = .next (s.unlatch.enclIgnored p).ack ∧ exec (.eraSwapSeed p) s = .next (s.unlatch.enclIgnored p).ack)

/-! ### Semaphores, watches, bindings and sheaves (R243 to R267) -/

/-- SM_SEM_CMD (R267): SET writes the value and its complement, which repairs a damaged pair, and has the waits on it evaluated, and CLEAR_FLAGS clears SAT and UNDER; an index that no partition holds is refused with ERR_SEM_HANDLE, one of a locked
partition with ERR_ENCLAVE_WRITE, and SET of an armed port with ERR_SEM_PORT. While the SM is initialised, or when eight operations or a later step have had their turn in this cc, the command waits (R243, R248). SM_WATCH_CMD (R251 to R253): ARM of a good target takes the lowest free watch, whose wait is evaluated at the end of the cc; a bad target is refused with ERR_WATCH_TARGET, and one that finds all 4,096 armed with ERR_WATCH_FULL; CANCEL is
carried out at the end of its cc, after the evaluation, and then ends the watch and its wait. -/
def Obligations.SemaphoresAndWatchesAreCommanded : Prop :=
  (
    ∀ s : State, s.portLive → s.unlatch.unitEn U.SM → s.unlatch.sm.semCmd = none →
      let u := s.unlatch
      let i := u.rf Reg.SM_SEM_INDEX
      (u.smUp → u.semFull 2 = false →
        let o : State := { u with cyc := { u.cyc with semOps := u.cyc.semOps + 1, semStep := 2 } }
        (o.semCmdErr i true = none → exec .semCmdSet s = .next
          (((({ o with ecc := o.ecc.filter fun (e : Nat × Nat) => !(decide (semRow i ≤ e.1) && decide (e.1 < semRow i + 2)) } : State).setRf Reg.SM_SEM_STATUS_CODE 0).setSem i
            (u.rf Reg.SM_SEM_VALUE)).touchSem i).ack) ∧
        (o.semCmdErr i false = none → exec .semCmdClearFlags s = .next
          (((o.setRf Reg.SM_SEM_STATUS_CODE 0).setRm (semRow i) Sem.SAT 0).setRm (semRow i) Sem.UNDER 0).ack) ∧
        (∀ e, o.semCmdErr i true = some e → exec .semCmdSet s = .next (o.refuseSemCmd i e).ack) ∧
        (∀ e, o.semCmdErr i false = some e → exec .semCmdClearFlags s = .next (o.refuseSemCmd i e).ack)) ∧
      (u.smUp = false ∨ u.semFull 2 →
        exec .semCmdSet s = .next (({ u with sm := { u.sm with semCmd := some (1, i, u.rf Reg.SM_SEM_VALUE) } } : State)).ack ∧
        exec .semCmdClearFlags s = .next (({ u with sm := { u.sm with semCmd := some (2, i, u.rf Reg.SM_SEM_VALUE) } } : State)).ack) ∧
      (u.semPart i = none → u.semCmdErr i true = some E.SEM_HANDLE ∧ u.semCmdErr i false = some E.SEM_HANDLE) ∧
      (∀ p, i < u.build.sems → u.semPart i = some p → u.lockedOrLocking p → u.semCmdErr i true = some E.ENCLAVE_WRITE ∧ u.semCmdErr i false = some E.ENCLAVE_WRITE) ∧
      (∀ p k, i < u.build.sems → u.semPart i = some p → u.lockedOrLocking p = false → u.portOf i = some k → u.semCmdErr i true = some E.SEM_PORT)) ∧
  (
    (∀ s : State, s.portLive → s.unlatch.smUp → s.unlatch.sm.cancels = [] →
      let u := s.unlatch
      (∀ i, u.watchOk → (List.range 4096).find? (fun i => !u.sm.watches.any fun w => w.idx == i) = some i → exec .watchArm s = .next
        (((({ u with sm := { u.sm with watches := u.sm.watches ++ [(⟨i, u.rf Reg.SM_WATCH_SEM, u.rf Reg.SM_WATCH_THRESH, u.rf Reg.SM_WATCH_TARGET_SLOT,
          u.rf Reg.SM_WATCH_LAUNCH_LAUNCH_ID, u.rf Reg.SM_WATCH_TARGET_NODE, u.rf Reg.SM_WATCH_ARGS_AMOUNT, u.rb Reg.SM_WATCH_ARGS_CONSUME⟩ : Watch)] } } : State).watchStatus
            i none).addWait (u.rf Reg.SM_WATCH_SEM) (u.rf Reg.SM_WATCH_THRESH) (u.rb Reg.SM_WATCH_ARGS_CONSUME) (.watch i))).ack) ∧
      (u.watchOk = false → exec .watchArm s = .next ((u.reportPlain E.WATCH_TARGET u.watchPart).watchStatus 0 (some E.WATCH_TARGET)).ack) ∧
      (u.watchOk → (List.range 4096).find? (fun i => !u.sm.watches.any fun w => w.idx == i) = none →
        exec .watchArm s = .next ((u.reportPlain E.WATCH_FULL u.watchPart).watchStatus 0 (some E.WATCH_FULL)).ack) ∧
      (∀ i, i < 4096 → exec (.watchCancel i) s = .next
        ((({ u with sm := { u.sm with cancels := [i] } } : State).setReg Reg.SM_WATCH_STATUS_A (packW [(0, i)])).ack))) ∧
    (∀ (s : State) (i : Nat), s.sm.cancels = [i] →
      let t := ({ s with sm := { s.sm with cancels := [] } } : State).endWait (.watch i)
      s.endCancels = (({ t with sm := { t.sm with watches := t.sm.watches.filter fun w => w.idx != i } } : State).watchStatus i none)))

/-- Wake bindings (R254 to R256): BIND of a link that may be bound takes the lowest free binding and drains the link; once the link holds nothing, a semaphore that does not meet THRESH, is damaged or has an older consumer before it sends the link to
SLEEP and the wait begins, and one that does frees the binding, consumed if it is to be; a binding is ended by CANCEL, or with ERR_WAKE_TIMEOUT after TMO. -/
def Obligations.LinksAreBoundToSemaphores : Prop :=
  (∀ s : State, s.portLive → s.unlatch.smUp →
    let u := s.unlatch
    (∀ k, u.bindable (u.rf Reg.SM_WAKE_LINK) (u.rf Reg.SM_WAKE_LINK_PART) → u.semOf (u.rf Reg.SM_WAKE_LINK_SEM) (u.rf Reg.SM_WAKE_LINK_PART) → u.freeBindIdx = some k →
      exec .wakeBind s = .next ((u.addBind ⟨k, u.rf Reg.SM_WAKE_LINK, u.rf Reg.SM_WAKE_LINK_PART, some (u.rf Reg.SM_WAKE_LINK_SEM), u.rf Reg.SM_WAKE_THRESH,
        u.rb Reg.SM_WAKE_LINK_CONSUME, u.rf Reg.SM_WAKE_TMO, u.now, .draining⟩).wakeStatus k none).ack) ∧
    (u.bindable (u.rf Reg.SM_WAKE_LINK) (u.rf Reg.SM_WAKE_LINK_PART) = false → u.partOk (u.rf Reg.SM_WAKE_LINK_PART) = true →
      exec .wakeBind s = .next ((u.reportPlain E.WAKE_BIND (some (u.rf Reg.SM_WAKE_LINK_PART))).wakeStatus 0 (some E.WAKE_BIND)).ack) ∧
    (∀ b, u.bindOf (u.rf Reg.SM_WAKE_LINK) = some b → exec .wakeCancel s = .next ((u.endBind b).wakeStatus b.idx none).ack) ∧
    (u.bindOf (u.rf Reg.SM_WAKE_LINK) = none → exec .wakeCancel s = .next (u.wakeStatus 0 none).ack)) ∧
  (∀ (s : State) (n k : Nat) (b : Bind), s.sm.binds.find? (fun b => b.idx == n) = some b →
    (b.phase = .draining → (s.link b.link).tasks = [] → (s.link b.link).ctrl = none → (s.link b.link).ctrlQ = [] → b.sem = some k → s.sm.evals.any (fun e => e.sem == k) = false →
      let t := (s.checkSem k).1
      let sleep : State := { t with sm := { t.sm with binds := t.sm.binds.map fun (x : Bind) => if x.idx == b.idx then { x with phase := .sleeping } else x } }
      ((s.checkSem k).2.isSome ∨ t.semVal k < b.thresh ∨ (b.consume && (s.waitersOf k).any (·.consume)) →
        exec (.wakeBindingSleep n) s = .next ((sleep.sendCtrl b.link 3 0 0 false).addWait k b.thresh b.consume (.bind b.idx))) ∧
      ((s.checkSem k).2 = none → b.thresh ≤ t.semVal k → b.consume = false → exec (.wakeBindingSleep n) s = .next (t.unbindUp b)) ∧
      ((s.checkSem k).2 = none → b.thresh ≤ t.semVal k → b.consume → (s.waitersOf k).any (·.consume) = false →
        exec (.wakeBindingSleep n) s = .next ((t.setSem k (t.semVal k - b.thresh)).unbindUp b))) ∧
    (b.tmo ≠ 0 → b.phase ≠ .waking → s.due b.gc (1000 * b.tmo) → exec (.wakeTimeout n) s = .next ((s.reportPlain E.WAKE_TIMEOUT (some b.part)).endBind b)) ∧
    (b.tmo = 0 → exec (.wakeTimeout n) s = .next s))

/-- SM_SHEAF_CMD (R258, R259, R262): ARM of an IDLE sheaf that passes the checks clears its arrivals and its GEN, makes its arrival semaphore a port, and arms it, and of another is refused with ERR_SHEAF_CONFIG (one that is not IDLE: log entry 16); a damaged port is answered with its error; DISARM returns any sheaf to IDLE, CLEAR_FAULT a FAULTED
one alone; a generation that is not released within TIMEOUT of its first arrival faults its sheaf. -/
def Obligations.SheavesAreCommanded : Prop :=
  (∀ (s : State) (k : Nat), s.portLive → s.unlatch.smUp → k < 256 →
    let u := s.unlatch
    let a := u.shv k Sh.ARRIVE_SEM
    let t := (u.checkSem a).1
    ((u.checkSem a).2 = none → t.shv k Sh.STATE = 0 → t.sheafOk k → exec (.sheafArm k) s = .next
      (((((t.clearArrivals k).setShv k Sh.GEN 0).setRm (semRow a) Sem.PORT 1).setShv k Sh.STATE 1).sheafStatus none).ack) ∧
    ((u.checkSem a).2 = none → t.shv k Sh.STATE ≠ 0 ∨ t.sheafOk k = false → exec (.sheafArm k) s = .next
      ((t.reportPlain E.SHEAF_CONFIG (some (t.shv k Sh.PART))).sheafStatus (some E.SHEAF_CONFIG)).ack) ∧
    (∀ e, (u.checkSem a).2 = some e → exec (.sheafArm k) s = .next (t.sheafStatus (some e)).ack) ∧
    exec (.sheafDisarm k) s = .next ((u.idleSheaf k).sheafStatus none).ack ∧
    (u.shv k Sh.STATE = 3 → exec (.sheafClearFault k) s = .next ((u.idleSheaf k).sheafStatus none).ack) ∧
    (u.shv k Sh.STATE ≠ 3 → exec (.sheafClearFault k) s = .next (u.sheafStatus none).ack)) ∧
  (∀ (s : State) (k g : Nat), k < 256 → (s.sheafX k).firstGc = some g → s.shv k Sh.STATE = 1 ∨ s.shv k Sh.STATE = 2 → s.shv k Sh.TIMEOUT ≠ 0 →
    s.due g (1000 * s.shv k Sh.TIMEOUT) → exec (.sheafTimeout k) s = .next (s.faultSheaf k E.SHEAF_TIMEOUT)) ∧
  (∀ (s : State) (k : Nat), k < 256 → s.shv k Sh.TIMEOUT = 0 → exec (.sheafTimeout k) s = .next s)

/-! ### The Message Hub (R270 to R296) -/

/-- RX_POP copies the oldest message of its core's queue to the message buffer and removes it, counts an underrun when there is none, and returns the last word popped for a queue that is not the core's (R281); OUT_POP reads and removes the oldest
outcome, 0 when there is none (R288); SEND_GO takes the send buffer, and is refused with ERR_MSG_CORE while the core is not enabled (R284); a Granary refill reads what the queue has room for (R278); a remote send unanswered for REMOTE_TIMEOUT ends with outcome 5 (R288). MH_STOOK_CMD (R291): OPEN of an IDLE Stook that passes its check clears its round and ROUND and opens it, and of another is refused with ERR_STOOK_CONFIG; CLOSE frees what any Stook holds and makes it IDLE, CLEAR_FAULT a FAULTED one alone. A Stook that the build does not have is refused (R26). A refused result of an
OPEN Stook is offered again after 1 µs (R294). -/
def Obligations.MessagesAndStooksAreCommanded : Prop :=
  (
    (∀ (s : State) (c : Nat), s.portLive → c < s.unlatch.build.ccores →
      let u := s.unlatch
      let qn := wget (u.reg (Reg.CW_RX_Q_A c)) 11 0
      let r := u.checkRxq qn
      (qn < u.build.rxqs → u.cyc.arrived.any (fun a => a.1 == qn) = false → r.rq qn Rq.VALID = 1 → r.rq qn Rq.CORE = c →
        (∀ m t, State.popLive qn 17 r = (t, some m) →
          let b := (List.range 16).foldl (fun s i => s.setReg (Reg.CW_MB_A c i) (wordAt m i)) t
          let d := b.setReg (Reg.CW_RX_POP_A c) (wordAt m 0)
          exec (.rxPop c) s = .next ((d.setReg (Reg.CW_POPPED_A c) (BitVec.ofNat 32 (min ((d.reg (Reg.CW_POPPED_A c)).toNat + 1) (2 ^ 32 - 1)))).emit
            (.rpAck (some (wordAt m 0)) false))) ∧
        (∀ t, State.popLive qn 17 r = (t, none) → exec (.rxPop c) s = .next
          (((t.setRq qn Rq.UNDER 1).incRf (Reg.MH_UNDERRUNS (t.rq qn Rq.PART))).emit (.rpAck (some (u.reg (Reg.CW_RX_POP_A c))) false)))) ∧
      (u.build.rxqs ≤ qn → u.cyc.arrived.any (fun a => a.1 == qn) = false →
        exec (.rxPop c) s = .next (u.emit (.rpAck (some (u.reg (Reg.CW_RX_POP_A c))) false)))) ∧
    (∀ (s : State) (c : Nat), s.portLive →
      let u := s.unlatch
      (u.mh.ends.find? (fun e => e.core == c) = none → exec (.outPop c) s = .next (u.emit (.rpAck (some 0#32) false))) ∧
      (∀ e, u.mh.ends.find? (fun e => e.core == c) = some e → exec (.outPop c) s = .next
        ((({ u with mh := { u.mh with ends := u.mh.ends.takeWhile (fun x => x.core != c) ++ (u.mh.ends.dropWhile fun x => x.core != c).tail } } : State).setReg
          (Reg.CW_OUT_CODE_A c) (packW [(0, e.code)])).emit (.rpAck (some (packW [(0, e.cookie), (16, e.result), (19, 1)])) false))) ∧
      (c < u.build.ccores → u.unitEn U.MH → u.rb (Reg.MH_CORE_CFG_ENABLE c) = false →
        exec (.sendGo c) s = .next (u.sendRefuse c (u.rf (Reg.MH_CORE_CFG_PART c)) none E.MSG_CORE).ack) ∧
      (c < u.build.ccores → u.unitEn U.MH → u.rb (Reg.MH_CORE_CFG_ENABLE c) →
        let m0 := (List.range 16).map fun i => u.reg (Reg.CW_SB_A c i)
        let m := m0.take (4 * msgUnits m0)
        let p := u.rf (Reg.MH_CORE_CFG_PART c)
        let out := (m.set 1 (packW [(0, fld m Ms.DST), (12, fld m Ms.DST_DEV)])).set 3 (packW [(0, u.self), (12, c)])
        (sendFieldsOk m = false → exec (.sendGo c) s = .next (u.sendRefuse c p none E.MSG_FIELD).ack) ∧
        (sendFieldsOk m → fld m Ms.ROUTED = 0 → fld m Ms.KIND ≠ 2 → fld m Ms.DST_DEV = u.self →
          exec (.sendGo c) s = .next ((u.handleMsg p out).1.sendEnd c none (u.handleMsg p out).2).ack) ∧
        (sendFieldsOk m → fld m Ms.ROUTED = 0 → fld m Ms.KIND ≠ 2 → fld m Ms.DST_DEV ≠ u.self → exec (.sendGo c) s = .next (u.sendRemote c p none out).ack)) ∧
      (u.build.ccores ≤ c → exec (.sendGo c) s = .next u.ack)) ∧
    (∀ (s : State) (q : Nat), q < s.build.rxqs → s.rq q Rq.VALID ≠ 0 → s.ringUsed q ≠ 0 → s.rq q Rq.USED ≤ 12 → s.mh.refills.any (fun r => r.q == q) = false → s.unitEn U.MH →
      let h := s.rq q Rq.HEAD % 2 ^ s.rq q Rq.GR_LOG2
      let n := min (16 * (16 - s.rq q Rq.USED)) (min (s.ringUsed q) (2 ^ s.rq q Rq.GR_LOG2 - h))
      let a := addr52 (s.row (rxqRow q) 8) 1 + h
      ∀ t, ({ s with mh := { s.mh with refills := s.mh.refills ++ [(⟨q, n, a % 64 / 4⟩ : Refill)] } } : State).mmRead (a / 64 * 64) (ceilDiv (a % 64 + n) 64) (s.rq q Rq.PART) 1 4
        (.granary q 1) = (t, true) → exec (.granaryRefill q) s = .next t) ∧
    (∀ (s : State) (q : Nat), s.ringUsed q = 0 → exec (.granaryRefill q) s = .next s) ∧
    (∀ (s : State) (seq : BitVec 32) (x : MsgSend), s.mh.sends.find? (fun x => x.seq == seq.toNat) = some x → s.due x.sentGc (1000 * s.rf Reg.MH_CTRL_REMOTE_TIMEOUT) →
      exec (.msgRemoteTimeout seq) s = .next ((s.reportPlain E.MSG_REMOTE_TIMEOUT (some x.part)).endSend x 5 E.MSG_REMOTE_TIMEOUT.code))) ∧
  (
    (∀ (s : State) (k : Nat), s.portLive → s.unlatch.unitEn U.MH → k < s.unlatch.build.stooks →
      let u := s.unlatch
      (u.sk k Sk.STATE = 0 → u.stookOk k → exec (.stookOpen k) s = .next
        ((((u.clearRound k).setRm (stookRow k) Sk.ROUND 0).setRm (stookRow k) Sk.STATE 1).stookStatus none).ack) ∧
      (u.sk k Sk.STATE ≠ 0 → u.partOk (u.sk k Sk.PART) → exec (.stookOpen k) s = .next
        ((u.reportPlain E.STOOK_CONFIG (some (u.sk k Sk.PART))).stookStatus (some E.STOOK_CONFIG)).ack) ∧
      exec (.stookClose k) s = .next ((u.stookIdle k).stookStatus none).ack ∧
      (u.sk k Sk.STATE = 2 → exec (.stookClearFault k) s = .next ((u.stookIdle k).stookStatus none).ack) ∧
      (u.sk k Sk.STATE ≠ 2 → exec (.stookClearFault k) s = .next (u.stookStatus none).ack)) ∧
    (∀ (s : State) (k : Nat), s.portLive → s.unlatch.unitEn U.MH → s.unlatch.build.stooks ≤ k →
      let r := ((s.unlatch.reportPlain E.STOOK_CONFIG none).stookStatus (some E.STOOK_CONFIG)).ack
      exec (.stookOpen k) s = .next r ∧ exec (.stookClose k) s = .next r ∧ exec (.stookClearFault k) s = .next r) ∧
    (∀ (s : State) (k t : Nat), (s.stookX k).pending = some t → s.sk k Sk.STATE = 1 → s.unitEn U.MH → s.due t 1000 → s.cyc.arrived = [] →
      exec (.stookResultRetry k) s = .next ((s.updStookX k fun x => { x with pending := none }).offerResult k)) ∧
    (∀ (s : State) (k : Nat), (s.stookX k).pending = none → exec (.stookResultRetry k) s = .next s))

/-! ### The fabric port and the domain (R65 to R69, R312 to R328) -/

/-- The fabric link (R65, R68, R69): fp_present rising sends a LINKUP flit; the interface's LINKUP with a version that both support makes the link up with its credits and this device's number, and any other leaves the block a domain of one with
ERR_FP_VERSION (a LINKUP uses no credit: log entry 27; one with credits outside 4 to 64 is discarded: log entry 28); a returned credit lets a waiting flit leave; fp_present falling takes the link down. DR_DOMAIN_CMD (R324, R325, R328): LEAVE and JOIN set BUSY, JOIN with a DEPART to every other member; LEAVE sends its own once no bound launch is live and no remote edge is out; without a fabric, and for JOIN of a member, the command is refused with ERR_DOMAIN_JOIN; while
one runs, the next is ignored. -/
def Obligations.FabricLinkAndDomainCommands : Prop :=
  (
    ∀ s : State, s.inputLive .fab → s.build.fabric →
      (let u : State := { s with pins := { s.pins with fpPresent := true }, fab := { s.fab with present := true } }
       let f := u.flit 0 0 0 1 0 true [0x303#32]
       exec .fpPresentRise s = .next ((u.fabBytes f).emit (.fpFlit false f))) ∧
      exec .fpPresentFall s = .next ({ s with pins := { s.pins with fpPresent := false }, fab := { s.fab with present := false } } : State).fabDown ∧
      (∀ f, s.fab.present → s.fab.up = false → s.fab.alone = false → fld f Fl.TYPE = 0 →
        let u := s.fabBytes f
        let credits := 4 ≤ pf f 4 7 0 ∧ pf f 4 7 0 ≤ 64 ∧ 4 ≤ pf f 4 15 8 ∧ pf f 4 15 8 ≤ 64
        (credits → 3 ≤ pf f 3 7 0 → pf f 3 15 8 ≤ 3 → s.thr.oldSelf = none → exec (.fpLinkup f) s = .next
          ((({ u with fab := { u.fab with up := true, reqCredits := pf f 4 7 0, repCredits := pf f 4 15 8 } } : State).setRf Reg.DR_DOMAIN_STATUS_SELF (pf f 3 27 16)).pumpFab)) ∧
        (credits → pf f 3 7 0 < 3 ∨ 3 < pf f 3 15 8 → exec (.fpLinkup f) s = .next (({ u with fab := { u.fab with alone := true } } : State).report E.FP_VERSION none 0 0)) ∧
        (¬ credits → exec (.fpLinkup f) s = .next u)) ∧
      (s.fab.up → exec (.fpCreditReturn false) s = .next ({ s with fab := { s.fab with reqCredits := s.fab.reqCredits + 1 } } : State).pumpFab ∧
        exec (.fpCreditReturn true) s = .next ({ s with fab := { s.fab with repCredits := s.fab.repCredits + 1 } } : State).pumpFab) ∧
      (s.fab.up = false → ∀ r, exec (.fpCreditReturn r) s = .next s)) ∧
  (
    (∀ s : State, s.portLive →
      let u := s.unlatch
      (u.rb Reg.DR_DOMAIN_STATUS_BUSY = false → u.build.fabric → exec .domainLeave s = .next (u.startDomain 1).ack) ∧
      (u.rb Reg.DR_DOMAIN_STATUS_BUSY = false → u.build.fabric = false → exec .domainLeave s = .next u.refuseDomain.ack ∧ exec .domainJoin s = .next u.refuseDomain.ack) ∧
      (u.rb Reg.DR_DOMAIN_STATUS_BUSY = false → u.build.fabric → u.rb Reg.DR_DOMAIN_STATUS_MEMBER = false →
        exec .domainJoin s = .next (((u.startDomain 2).sendDeparts true u.others).settleDomain).ack) ∧
      (u.rb Reg.DR_DOMAIN_STATUS_BUSY = false → u.rb Reg.DR_DOMAIN_STATUS_MEMBER → exec .domainJoin s = .next u.refuseDomain.ack) ∧
      (u.rb Reg.DR_DOMAIN_STATUS_BUSY → exec .domainLeave s = .next u.ack ∧ exec .domainJoin s = .next u.ack)) ∧
    (∀ s : State, s.dr.domCmd = 1 → s.rb Reg.DR_DOMAIN_STATUS_BUSY → s.dr.sendQ = [] → s.gs.launches.any (fun l => l.round.isSome) = false →
      let t : State := { s with dr := { s.dr with domCmd := 3 } }
      exec .domainLeaveSend s = .next ((t.sendDeparts false s.others).settleDomain)) ∧
    (∀ s : State, s.dr.domCmd ≠ 1 → exec .domainLeaveSend s = .next s))

/-- A flit that arrives with a credit on a link that is up is counted, its credit goes back, it is traced, and does what its TYPE asks (R65 to R67, R508); a request other than DEPART from a device that is not a member is answered NACK with ERR_REMOTE_DEPARTED (R322); an
EDGE_DEC waits in the remote decrement queue when 8 have been taken in this cc (R138, R316); a reserved TYPE, a LEN outside 1 to 16 or a flit without a credit is discarded with ERR_FP_PROTOCOL (R67, R80); while the link is down flits are ignored (R69). -/
def Obligations.ArrivingFlitsAreServed : Prop :=
  (∀ (s : State) (f : List Word), s.inputLive .fab → s.fab.up → 1 ≤ s.fab.rx false → 1 ≤ fld f Fl.LEN → fld f Fl.LEN ≤ 16 →
    let got := (s.fabBytes f).returnCredit false 1
    let seen := fun (u : State) => u.traceRemote (fld f Fl.TYPE) false (fld f Fl.SRC_DEV) (fld f Fl.PART)
    let taken := { got with cyc := { got.cyc with remDecs := got.cyc.remDecs + 1 } }
    (fld f Fl.TYPE = 1 → got.edgeWaits = false → (seen taken).member (fld f Fl.SRC_DEV) → exec (.edgeDec f) s = .next (((seen taken).edgeDec f).settleCredits)) ∧
    (fld f Fl.TYPE = 1 → got.edgeWaits = false → (seen taken).member (fld f Fl.SRC_DEV) = false →
      exec (.edgeDec f) s = .next (((seen taken).nackFlit f E.REMOTE_DEPARTED).settleCredits)) ∧
    (fld f Fl.TYPE = 1 → got.edgeWaits → exec (.edgeDec f) s = .next
      (({ got with fab := { got.fab with waiting := got.fab.waiting ++ [(⟨.edgeDec f, got.cc⟩ : Held)] } } : State).settleCredits)) ∧
    (fld f Fl.TYPE = 2 → s.cyc.evStep ≤ 1 → (seen got).member (fld f Fl.SRC_DEV) → exec (.signal f) s = .next (((seen got).signalFlit f).settleCredits)) ∧
    (s.fab.waiting = [] → got.smInit = false → s.cyc.semOps < 8 → s.cyc.semStep ≤ 4 → (seen (got.semOp 4)).member (fld f Fl.SRC_DEV) →
      (fld f Fl.TYPE = 3 → exec (.sheafArrive f) s = .next (((seen (got.semOp 4)).sheafArriveFlit f).settleCredits)) ∧
      (fld f Fl.TYPE = 4 → exec (.sheafRelease f) s = .next (((seen (got.semOp 4)).sheafReleaseFlit f).settleCredits))) ∧
    (fld f Fl.TYPE = 6 →
      (pf f 3 1 0 = 0 → exec (.departLeave f) s = .next (((seen got).departLeave f).settleCredits)) ∧
      (pf f 3 1 0 = 1 → exec (.departLost f) s = .next (((seen got).departLost f).settleCredits)) ∧
      (pf f 3 1 0 = 2 → exec (.departJoin f) s = .next (((seen got).departJoin f).settleCredits))) ∧
    (fld f Fl.TYPE = 7 → exec (.edgeDec f) s = .next (got.report E.FP_PROTOCOL none 0 0))) ∧
  (∀ (s : State) (f : List Word), s.inputLive .fab → s.fab.up → 1 ≤ s.fab.rx true → 1 ≤ fld f Fl.LEN → fld f Fl.LEN ≤ 16 →
    let got := ((s.fabBytes f).returnCredit true 1).traceRemote (fld f Fl.TYPE) false (fld f Fl.SRC_DEV) (fld f Fl.PART)
    (fld f Fl.TYPE = 0x80 → exec (.ack f) s = .next ((got.reply false f).settleCredits)) ∧
    (fld f Fl.TYPE = 0x81 → exec (.nack f) s = .next ((got.reply true f).settleCredits))) ∧
  (∀ (s : State) (f : List Word) (rest : List (List Word)), s.inputLive .fab → s.fab.up → rest.length < s.fab.rx false → fld f Fl.TYPE = 5 → 1 ≤ fld f Fl.LEN → fld f Fl.LEN ≤ 16 →
    s.fab.waiting = [] → s.cyc.arrived = [] →
    let got := (((f :: rest).foldl (fun s f => s.fabBytes f) s).returnCredit false (rest.length + 1)).traceRemote 5 false (fld f Fl.SRC_DEV) (fld f Fl.PART)
    got.member (fld f Fl.SRC_DEV) → exec (.msg (f :: rest)) s = .next ((got.msgArrive (f :: rest) f).settleCredits)) ∧
  (∀ (s : State) (f : List Word), s.inputLive .fab → s.fab.up → s.fab.rx false = 0 → fld f Fl.TYPE = 1 →
    exec (.edgeDec f) s = .next (((s.fabBytes f).returnCredit false 0).report E.FP_PROTOCOL none 0 0)) ∧
  (∀ (s : State) (f : List Word), s.fab.up = false → exec (.edgeDec f) s = .next s ∧ exec (.signal f) s = .next s ∧ exec (.msg [f]) s = .next s ∧ exec (.ack f) s = .next s)

/-- An EDGE_DEC is resolved by its ROUND (R316): a bound launch that is copied takes the decrement, answered APPLIED, and one whose copy still runs holds it early; one that is KILLING discards it; a TARGET outside its nodes kills it with ERR_REMOTE_TARGET; with no launch of the
round, one up to three rounds ahead is held early (R317), a later one is refused with ERR_REMOTE_EARLY_FULL, and one of the past (R105) is discarded with ERR_REMOTE_STALE. -/
def Obligations.RemoteEdgesAreResolvedByRound : Prop :=
  ∀ (s : State) (f : List Word),
    let p := fld f Fl.PART
    let target := pf f 3 19 0
    let d := (2 ^ 32 + pf f 4 31 0 - s.rf (Reg.DR_ROUND_NEXT p)) % 2 ^ 32
    (s.partOk p = false ∨ s.rb (Reg.DR_BIND_BIND_EN p) = false ∨ (fld f Fl.ENCL == 1) ≠ s.locked p → s.edgeDec f = s.nackFlit f E.REMOTE_UNBOUND) ∧
    (s.partOk p → s.rb (Reg.DR_BIND_BIND_EN p) → (fld f Fl.ENCL == 1) = s.locked p →
      (∀ l, s.roundLaunch p (pf f 4 31 0) = some l →
        (s.sl l.slot Sl.STATE = 5 ∨ s.tagDead (s.sl l.slot Sl.STEP_TAG) → s.edgeDec f = (s.chaff p 1).ackEdge f 2) ∧
        (s.sl l.slot Sl.STATE ≠ 5 → s.tagDead (s.sl l.slot Sl.STEP_TAG) = false →
          (s.sl l.slot Sl.NODE_COUNT ≤ target → s.edgeDec f = (s.killWith l.slot E.REMOTE_TARGET 0).replyFlit f true [BitVec.ofNat 32 E.REMOTE_TARGET.code]) ∧
          (target < s.sl l.slot Sl.NODE_COUNT → l.copied → s.edgeDec f = (s.decrement (s.sl l.slot Sl.NODE_BASE + target) (pf f 3 31 20) 1).ackEdge f 0) ∧
          (target < s.sl l.slot Sl.NODE_COUNT → l.copied = false → s.edgeDec f = s.earlyEdge f))) ∧
      (s.roundLaunch p (pf f 4 31 0) = none →
        (d ≤ 3 → s.edgeDec f = s.earlyEdge f) ∧
        (3 < d → d ≤ 2 ^ 31 → s.edgeDec f = s.nackFlit f E.REMOTE_EARLY_FULL) ∧
        (2 ^ 31 < d → s.edgeDec f = (s.reportPlain E.REMOTE_STALE (some p)).ackEdge f 2)))

/-- The timers of remote work (R318, R319, R324, R325): an EDGE_DEC that was refused for room is sent again after 1 µs with a new SEQ; one unanswered for EDGE_TIMEOUT fails with ERR_REMOTE_EDGE_TIMEOUT; a bound launch without progress for STALL_TIMEOUT, with a node WAITING, is
killed with ERR_REMOTE_STALL; and a DEPART unanswered for EDGE_TIMEOUT ends unaccepted. -/
def Obligations.RemoteWorkTimesOut : Prop :=
  (∀ (s : State) (seq : BitVec 32) (e : RemoteSend) (g : Nat) (rest : List RemoteSend), s.dr.sendQ = e :: rest → e.seq = some seq.toNat → e.resendGc = some g → s.due g 1000 →
    exec (.edgeDecResend seq) s = .next
      (let t := ({ s with dr := { s.dr with remSeq := (s.dr.remSeq + 1) % 2 ^ 32, sendQ := s.dr.sendQ.map fun x =>
          if x == e then { x with seq := some s.dr.remSeq, resendGc := none } else x } } : State).incRf (Reg.DR_EDGES_OUT e.part)
       t.sendFlits false [t.flit 1 e.dev e.part 1 s.dr.remSeq true
        [BitVec.ofNat 32 (e.target + 2 ^ 20 * e.amount), BitVec.ofNat 32 e.round, BitVec.ofNat 32 e.tag]])) ∧
  (∀ (s : State) (seq : BitVec 32) (e : RemoteSend),
    s.dr.sendQ.find? (fun e => e.seq == some seq.toNat && s.due e.sentGc (1000 * s.rf Reg.DR_DOMAIN_CTRL_EDGE_TIMEOUT)) = some e →
    exec (.remoteEdgeTimeout seq) s = .next (s.failEdge e E.REMOTE_EDGE_TIMEOUT)) ∧
  (∀ (s : State) (slot : Nat) (l : Launch), s.launch? slot = some l → s.tb.check → l.round.isSome → s.sl slot Sl.STATE = 2 ∨ s.sl slot Sl.STATE = 3 →
    s.rf Reg.DR_DOMAIN_CTRL_STALL_TIMEOUT ≠ 0 → s.due l.lastProgressGc (1000 * s.rf Reg.DR_DOMAIN_CTRL_STALL_TIMEOUT) →
    (s.nodesOf slot).any (fun n => s.nd n Nd.STATE == 3) → exec (.remoteStall slot) s = .next (s.killWith slot E.REMOTE_STALL 0)) ∧
  (∀ (s : State) (dev : Nat) (d : Depart), s.dr.departs.find? (fun d => d.dev == dev && s.due d.sentGc (1000 * s.rf Reg.DR_DOMAIN_CTRL_EDGE_TIMEOUT)) = some d →
    exec (.departTimeout dev) s = .next (s.endDepart d false))

/-! ### Budgets, spills and restores (R70, R333 to R368) -/

/-- The power manager's port (R70, R342): a budget is acknowledged and is its partition's next; a measurement is acknowledged, latches the cluster's temperature and joins its energy, and closes the episode of a hot cluster that has cooled; an acknowledged lend leaves the FIFO and
the next is driven. Budget epochs and regulators (R335, R346): when the time has come to the next multiple of EPOCH_US the boundary is carried out, once; every whole µs each account rises by its RATE up to BURST; neither happens while the BG is off. BG_MODEL_CMD SWAP checks the inactive bank: a good one
is pending, a bad one is refused with ERR_BG_MODEL and the first failure (R333). -/
def Obligations.PowerInputsAndBudgetEpochs : Prop :=
  (
    ∀ s : State, s.portOn .reg → s.replaying = false → s.holds = false →
      (∀ p nj, s.partOk p → exec (.pmBudget p nj) s = .next ((s.emit .pmBudAck).updBg p fun x => { x with next := nj.toNat, fresh := true })) ∧
      (∀ p nj, s.build.partitions ≤ p → exec (.pmBudget p nj) s = .next (s.emit .pmBudAck)) ∧
      (∀ c nj temp, s.build.clusters ≤ c → exec (.pmMeas c nj temp) s = .next (s.emit .pmMeasAck)) ∧
      (∀ c nj temp, c < s.build.clusters →
        let t := (s.emit .pmMeasAck).setRf (Reg.BG_TEMP_NOW_TEMP c) temp.toNat
        let t : State := { t with bg := { t.bg with meas := assocSet t.bg.meas c (lookupD t.bg.meas c 0 + nj.toNat) } }
        (temp12 (t.rf Reg.BG_TEMP_TEMP_STOP) ≤ temp12 temp.toNat → exec (.pmMeas c nj temp) s = .next t) ∧
        (temp12 temp.toNat < temp12 (t.rf Reg.BG_TEMP_TEMP_STOP) → exec (.pmMeas c nj temp) s = .next (t.closeEpisode E.BG_HOT.code c))) ∧
      (∀ x rest, s.bg.lends = x :: rest → exec .pmLendAck s = .next ({ s with bg := { s.bg with lends := rest } } : State).driveLend) ∧
      (s.bg.lends = [] → exec .pmLendAck s = .next s)) ∧
  (
    (∀ s : State, s.unitEn U.BG = false → exec .budgetEpochBoundary s = .next s ∧ exec .regulatorRefill s = .next s) ∧
    (∀ s : State, s.unitEn U.BG →
      let k := s.now / (1000 * max 1 (s.rf Reg.BG_CTRL_EPOCH_US))
      (s.bg.epochNo < k → exec .budgetEpochBoundary s = .next (s.epochBoundary k)) ∧ (k ≤ s.bg.epochNo → exec .budgetEpochBoundary s = .next s)) ∧
    (∀ s : State, s.unitEn U.BG → s.bg.refillNo < s.now / 1000 → exec .regulatorRefill s = .next
      ((List.range s.build.partitions).foldl (fun t p => (List.range t.build.memStacks).foldl (fun t i => t.refillLevel p i (s.now / 1000 - s.bg.refillNo)) t)
        { s with bg := { s.bg with refillNo := s.now / 1000 } })) ∧
    (∀ s : State, s.portLive → (List.range 16).all (fun c => (s.unlatch.modelClassBad (1 - s.unlatch.rf Reg.BG_MODEL_STATUS_ACTIVE) c).isNone) →
      exec .bgModelSwap s = .next ((s.unlatch.setReg Reg.BG_MODEL_STATUS_A (packW [(0, s.unlatch.rf Reg.BG_MODEL_STATUS_ACTIVE), (1, 1)])).setReg Reg.BG_MODEL_DETAIL_A 0#32).ack) ∧
    (∀ (s : State) (part i : Nat), s.portLive → s.unlatch.modelClassBad (1 - s.unlatch.rf Reg.BG_MODEL_STATUS_ACTIVE) 0 = some (part, i) →
      exec .bgModelSwap s = .next ((((s.unlatch.reportPlain E.BG_MODEL none).setReg Reg.BG_MODEL_STATUS_A (packW [(0, s.unlatch.rf Reg.BG_MODEL_STATUS_ACTIVE),
        (1, (s.unlatch.reportPlain E.BG_MODEL none).rf Reg.BG_MODEL_STATUS_PEND), (2, 1), (8, 0), (12, if part = 1 then i else 0), (16, E.BG_MODEL.code)])).setReg Reg.BG_MODEL_DETAIL_A
          (packW [(0, part), (2, i)]))).ack))

/-- Spills and restores (R360, R361, R364): a PREEMPTING claim at its task boundary begins its spill with the lowest free job, at the lowest free Granary granules, or waits with ERR_PSC_GRANARY_FULL; the oldest SPILLED claim that nothing conflicts with begins its restore. -/
def Obligations.SpillsAndRestoresBegin : Prop :=
  (∀ (s : State) (i k : Nat), s.atBoundary i → s.victimAhead i = false → s.unitEn U.PSC → s.halted = false → s.freeJob = some k →
    (∀ g, extFit 1 (s.rf (Reg.PSC_GR_GR_GRANULES (s.clm i Clm.PART))) (s.clm i Clm.COUNT) (s.granaryUsed (s.clm i Clm.PART)) = some g →
      exec (.spillStart i) s = .next ((((s.closeEpisode E.PSC_GRANARY_FULL.code i).setClaim i 4).setRm (claimRow i) Clm.GR_SLOT g).startJob false i k)) ∧
    (extFit 1 (s.rf (Reg.PSC_GR_GR_GRANULES (s.clm i Clm.PART))) (s.clm i Clm.COUNT) (s.granaryUsed (s.clm i Clm.PART)) = none → s.inEpisode E.PSC_GRANARY_FULL.code i = false →
      exec (.spillStart i) s = .next ((s.openEpisode E.PSC_GRANARY_FULL.code i).reportPlain E.PSC_GRANARY_FULL (some (s.clm i Clm.PART))))) ∧
  (∀ (s : State) (i : Nat), s.atBoundary i = false → exec (.spillStart i) s = .next s) ∧
  (∀ (s : State) (i k : Nat), s.psc.order.find? s.restorable = some i → s.unitEn U.PSC → s.halted = false → s.freeJob = some k →
    exec (.restoreStart i) s = .next ((s.setClaim i 6).startJob true i k)) ∧
  (∀ (s : State) (i : Nat), s.psc.order = [] → exec (.restoreStart i) s = .next s)

/-! ### Determinism, partitions and enclaves (R376 to R412) -/

/-- Grain-locked epochs begin once the DC waits, nothing is outstanding and START_GC has come (R376); the epoch advances when EPOCH_CC core cycles have passed, unless its boundary must wait for the log or, in replay, for an input (R376, R386, R390); an input missing for STALL_US ends the replay with
ERR_REPLAY_STALL (R390); a checkpoint request sets BUSY of an unlocked partition (R391, R402); and the ages of tags are checked once per ms (R393). -/
def Obligations.EpochsBeginAdvanceAndStall : Prop :=
  (∀ s : State, s.rb Reg.DC_STATUS_WAITING → s.unitEn U.DC → s.nothingOut → s.startGc ≤ s.gc → exec .glStart s = .next s.glBegin) ∧
  (∀ s : State, s.rb Reg.DC_STATUS_WAITING = false → exec .glStart s = .next s) ∧
  (∀ s : State, s.rb Reg.DC_STATUS_RUNNING → s.dc.startCc + s.rf Reg.DC_CTRL_EPOCH_CC ≤ s.cc →
    let l := s.logFlush
    let b := if l.rb Reg.DC_STATUS_STALLED then l.cc else s.dc.startCc + s.rf Reg.DC_CTRL_EPOCH_CC
    (l.mustStall b (l.epoch + 1) → exec .glEpochBoundary s = .next (l.stall b (l.epoch + 1))) ∧
    (l.mustStall b (l.epoch + 1) = false → exec .glEpochBoundary s = .next (l.glBoundary b (l.epoch + 1)))) ∧
  (∀ s : State, s.cc < s.dc.startCc + s.rf Reg.DC_CTRL_EPOCH_CC → exec .glEpochBoundary s = .next s) ∧
  (∀ (s : State) (t : Nat), s.dc.stallGc = some t → s.replaying → t + 1000 * s.rf Reg.DC_TIMES_STALL_US ≤ s.gc →
    exec .replayStall s = .next (s.reportPlain E.REPLAY_STALL none).endReplay) ∧
  (∀ s : State, s.dc.stallGc = none → exec .replayStall s = .next s) ∧
  (∀ (s : State) (p : Nat), s.blkPresent → s.unlatch.partOk p →
    (s.unlatch.lockedOrLocking p = false → s.unlatch.rb (Reg.DC_CKPT_STATUS_BUSY p) = false → exec (.ckptCmd p) s = .next (s.unlatch.setReg (Reg.DC_CKPT_STATUS_A p) 1#32).ack) ∧
    (s.unlatch.lockedOrLocking p = false → s.unlatch.rb (Reg.DC_CKPT_STATUS_BUSY p) → exec (.ckptCmd p) s = .next s.unlatch.ack) ∧
    (s.unlatch.lockedOrLocking p → exec (.ckptCmd p) s = .next (s.unlatch.enclIgnored p).ack)) ∧
  (∀ s : State, s.unitEn U.DC → 1000000 + s.dc.tagGc ≤ s.now →
    exec .tagWindowCheck s = .next ((List.range s.build.partitions).foldl State.checkTags { s with dc := { s.dc with tagGc := s.now } })) ∧
  (∀ s : State, s.unitEn U.DC = false → exec .tagWindowCheck s = .next s)

/-- PAU_ENCL_CMD (R400, R401, R406, R410): LOCK of a partition that may be locked sets BUSY and ends with its configuration measured, its two measurements final and the partition LOCKED; any other is refused with ERR_ENCLAVE_LOCK. A TEARDOWN makes its partition TEARING and destroys its contexts; once it is
empty its final accounting record is written, then its rows and its Granary are scrubbed, and at the end it is neither LOCKED nor TEARING, with its measurements zero. -/
def Obligations.EnclavesAreLockedAndTornDown : Prop :=
  (∀ (s : State) (p : Nat), s.portLive →
    let u := s.unlatch
    u.rb Reg.PAU_ENCL_STATUS_BUSY = false →
    (u.lockBad p = false → exec (.enclaveLock p) s = .next ({ u.setReg Reg.PAU_ENCL_STATUS_A 1#32 with pau := { u.pau with locking := some p } } : State).ack) ∧
    (u.lockBad p → u.partOk p → exec (.enclaveLock p) s = .next ((u.reportPlain E.ENCLAVE_LOCK (some p)).enclEnd false (some E.ENCLAVE_LOCK)).ack) ∧
    (u.partOk p → u.rb (Reg.PAU_PSTATUS_TEARING p) → exec (.teardown p) s = .next ((u.reportPlain E.TEARDOWN (some p)).enclEnd false (some E.TEARDOWN)).ack) ∧
    (u.partOk p → u.rb (Reg.PAU_PSTATUS_TEARING p) = false → u.pau.locking ≠ some p →
      let t := ((u.setReg Reg.PAU_ENCL_STATUS_A 1#32).setRf (Reg.PAU_PSTATUS_TEARING p) 1).setRf (Reg.PAU_PSTATUS_SCRUB_FAIL p) 0
      let v : State := { t with pau := { t.pau with tear := some ⟨p, .emptying, 0, 0, false⟩ } }
      exec (.teardown p) s = .next (((v.fe.ctxs.filter fun c => c.cstate != 0 && c.part == p).foldl (fun s c => s.destroyCtx c.idx true) v)).ack)) ∧
  (∀ (s : State) (p : Nat), s.pau.locking = some p → s.unitEn U.PAU →
    let t := (((s.extend (16 + p) (sha384 (bytesOf (s.cfgImage p)))).setFinal (16 + p) true).setFinal (32 + p) true).setLocked p true |>.enclEnd false none
    exec .enclaveLockDone s = .next { t with pau := { t.pau with locking := none } }) ∧
  (∀ (s : State) (t : Tear), s.pau.tear = some t → s.unitEn U.PAU → s.pau.acctOut = [] →
    (t.phase = .emptying → s.emptied t.part → exec .teardownScrub s = .next ((s.updTear fun t => { t with phase := .record }).acctWrite t.part true)) ∧
    (t.phase = .emptying → s.emptied t.part = false → exec .teardownScrub s = .next s) ∧
    (t.phase = .record →
      let r := s.scrubRows t.part
      let n := if r.locked t.part ∨ r.rb (Reg.PAU_GR_SCRUB_GR t.part) then 1024 * r.rf (Reg.PAU_GR_GR_UNITS t.part) else 0
      exec .teardownScrub s = .next (r.updTear fun y => { y with phase := .scrub, addr := (r.granary t.part).1, left := n }).scrubNext)) ∧
  (∀ (s : State) (t : Tear), s.pau.tear = some t → t.phase = .scrub → t.out = false →
    let p := t.part
    let r := ((((s.setRow (measRow (16 + p)) (zeros 16)).setRow (measRow (32 + p)) (zeros 16)).setLocked p false).setRf (Reg.PAU_PSTATUS_TEARING p) 0).updBg p fun x => { x with estRem := 0 }
    let r : State := { r.acctClear p with pau := { r.pau with tear := none, late := r.pau.late.filter (· != p), tmplQ := r.pau.tmplQ.filter fun x => x.part != p } }
    (r.rb (Reg.PAU_PSTATUS_SCRUB_FAIL p) = false → exec .teardownDone s = .next (r.enclEnd false none).nextTear) ∧
    (r.rb (Reg.PAU_PSTATUS_SCRUB_FAIL p) → exec .teardownDone s = .next (r.enclEnd true (some E.SCRUB_WRITE)).nextTear)) ∧
  (∀ (s : State) (t : Tear), s.pau.tear = some t → t.phase = .scrub → t.out → exec .teardownDone s = .next s)

/-- A quote answers the status and the count of the measurement that at_sel names, with the digest of the quote string where the status is 0 and zeros where it is not (R73, R409); a template extend extends the partition's measurement with the digest of its handle, kind, counts and words (R408). -/
def Obligations.MeasurementsAreQuotedAndExtended : Prop :=
  (∀ (s : State) (sel : Nat) (nonce : List (BitVec 32)), s.portOn .reg → sel < 64 →
    (s.quoteStatus sel ≠ 0 → exec (.atRequest sel nonce) s = .next (s.emit (.atAnswer (s.quoteStatus sel) (zeros 12) (s.measCount sel)))) ∧
    (s.quoteStatus sel = 0 → exec (.atRequest sel nonce) s = .next (s.emit (.atAnswer 0 (wordsOf (sha384 ([sel, 0, 0, 0] ++
      wordBytes (BitVec.ofNat 32 (s.measCount sel)) ++ s.measBytes sel ++ bytesOf ((nonce ++ zeros 8).take 8)))) (s.measCount sel))))) ∧
  (∀ (s : State) (x : TmplExtend) (rest : List TmplExtend), s.pau.tmplQ = x :: rest → s.unitEn U.PAU →
    exec .tmplExtendDone s = .next (({ s with pau := { s.pau with tmplQ := rest } } : State).extend (32 + x.part)
      (sha384 (bytesOf ([BitVec.ofNat 32 x.handle, BitVec.ofNat 32 (b2n x.patch), BitVec.ofNat 32 x.nodeCount, BitVec.ofNat 32 x.edgeCount] ++ x.words))))) ∧
  (∀ s : State, s.pau.tmplQ = [] → exec .tmplExtendDone s = .next s)

/-! ### Integrity, fault recovery and the log (R421 to R442) -/

/-- Restarts and watchdogs: a list rebuild ends with every READY node in the ready lists again (R424); a DR restart ends (R425); a slice idle for 3,300 cc is restarted with ERR_SLICE_WATCHDOG, and rejoins once no link of it is still LINKING, or 20 µs have passed (R431, R432); a heartbeat raises HB_COUNT, and one missing for HB_TIMEOUT restarts the Thresher with
ERR_THRESHER_HEARTBEAT, after which an image whose digest is no longer that of BOOT's first extend makes the block restart (R434). -/
def Obligations.UnitsAreWatchedAndRestarted : Prop :=
  (∀ s : State, s.rb Reg.IFM_STATUS_REBUILD → exec .listRebuildDone s = .next
    (((((List.range s.build.nodes).filter fun n => s.nd n Nd.STATE == 4 && !s.marked n).foldl (fun (s : State) n => s.insertReady n)
      { s with dr := { s.dr with ready := s.dr.ready.filter fun e => e.job.isSome, insQ := [] } }).setRf Reg.IFM_STATUS_REBUILD 0).endRecovery)) ∧
  (∀ s : State, s.rb Reg.IFM_STATUS_REBUILD = false → exec .listRebuildDone s = .next s) ∧
  (∀ s : State, s.rb Reg.IFM_STATUS_DR_RESTART → exec .drRestartDone s = .next ((s.setRf Reg.IFM_STATUS_DR_RESTART 0).endRecovery.maybeQuiesce)) ∧
  (∀ (s : State) (k : Nat), s.unitEn U.IFM → s.rb Reg.IFM_CTRL_WDOG_EN → 3300 ≤ lookupD s.ds.idle k 0 →
    exec (.sliceWatchdog k) s = .next ((s.reportPlain E.SLICE_WATCHDOG none).sliceRestart k)) ∧
  (∀ (s : State) (k : Nat), lookupD s.ds.idle k 0 < 3300 → exec (.sliceWatchdog k) s = .next s) ∧
  (∀ (s : State) (k t : Nat), s.ds.sliceDown.find? (fun x => x.1 == k) = some (k, t) →
    (20000 + t ≤ s.now → exec (.sliceRejoin k) s = .next
      (let r : State := { s with ds := { s.ds with sliceDown := s.ds.sliceDown.filter fun x => x.1 != k } }
       r.setRf Reg.IFM_STATUS_SLICE_DOWN (setBit (r.rf Reg.IFM_STATUS_SLICE_DOWN) k false))) ∧
    (s.now < 20000 + t → (sliceLinks k).any (fun i => (s.link i).present && (s.link i).lstate == 1) → exec (.sliceRejoin k) s = .next s)) ∧
  (∀ s : State, s.thrRuns → exec .ifmHbIncrement s = .next
    { s.setRf Reg.IFM_HB_HB_COUNT ((s.rf Reg.IFM_HB_HB_COUNT + 1) % 2 ^ 32) with ifm := { s.ifm with hbGc := s.now } }) ∧
  (∀ s : State, s.unitEn U.IFM → s.rb Reg.IFM_CTRL_HB_EN → s.thrRuns → s.due s.ifm.hbGc (1000 * s.rf Reg.IFM_TIMES_HB_TIMEOUT) →
    exec .thresherHeartbeat s = .next (s.reportPlain E.THRESHER_HEARTBEAT none).thrRestart) ∧
  (∀ s : State, s.rb Reg.IFM_STATUS_THR_RESTART →
    let t := s.setRf Reg.IFM_STATUS_THR_RESTART 0
    (t.signedBad ∨ t.fwDigest ≠ t.thr.digest → exec .thresherRestartDone s = .next t.blockRestart) ∧
    (t.signedBad = false → t.fwDigest = t.thr.digest → exec .thresherRestartDone s = .next ({ t with ifm := { t.ifm with thrHold := false, hbGc := t.now } } : State).maybeQuiesce)) ∧
  (∀ s : State, s.rb Reg.IFM_STATUS_THR_RESTART = false → exec .thresherRestartDone s = .next s)

/-- The patrol and the configuration CRC: a word without a mark is left alone, one with a corrected error is reported and its mark is gone, one with an uncorrectable error in an unused row is rewritten as zeros, and in a row in use answered at once (R422, R427); a pass longer than PATROL_MS raises ERR_SCRUB_BEHIND once; a CRC pass that equals GLB_CRC_REF clears
MISMATCH, and the second in a row that does not sets it (R428, R429). -/
def Obligations.PatrolAndCrcFindDamage : Prop :=
  (∀ (s : State) (tid w : Nat), s.unitEn U.IFM → s.rb Reg.IFM_CTRL_PATROL_EN →
    (s.ecc.find? (fun e => e.1 == ramKey tid w) = none → exec (.patrolRead tid w) s = .next s) ∧
    (∀ k, s.ecc.find? (fun e => e.1 == ramKey tid w) = some (k, 1) → exec (.patrolRead tid w) s = .next
      ((s.clearEcc (ramKey tid w)).reportRow E.ECC_CORRECTED 1 (s.eccPart tid w) (eccKind tid) (w / rowWords tid) (w % rowWords tid))) ∧
    (∀ k, s.ecc.find? (fun e => e.1 == ramKey tid w) = some (k, 2) → s.rowUnused tid w → tid < 0x60 → exec (.patrolRead tid w) s = .next
      ((s.setRow (ramKey tid w / 2 * 2) (zeros 2)).reportRow E.ECC_UNCORRECTED 1 none (eccKind tid) (w / rowWords tid) (w % rowWords tid))) ∧
    (∀ k, s.ecc.find? (fun e => e.1 == ramKey tid w) = some (k, 2) → s.rowUnused tid w → 0x60 ≤ tid → exec (.patrolRead tid w) s = .next
      ((s.clearEcc (ramKey tid w)).reportRow E.ECC_UNCORRECTED 1 none (eccKind tid) (w / rowWords tid) (w % rowWords tid))) ∧
    (∀ k, s.ecc.find? (fun e => e.1 == ramKey tid w) = some (k, 2) → s.rowUnused tid w = false → exec (.patrolRead tid w) s = .next (s.patrolBad tid w))) ∧
  (∀ s : State, s.unitEn U.IFM → s.rb Reg.IFM_CTRL_PATROL_EN →
    (s.ifm.patrolLate = false → s.due s.ifm.patrolGc (1000000 * s.rf Reg.IFM_PATROL_PATROL_MS) → exec .patrolPassEnd s = .next
      { s.reportPlain E.SCRUB_BEHIND none with ifm := { (s.reportPlain E.SCRUB_BEHIND none).ifm with patrolLate := true } }) ∧
    (s.ifm.patrolLate → exec .patrolPassEnd s = .next { s with ifm := { s.ifm with patrolGc := s.now, patrolLate := false } })) ∧
  (∀ s : State, s.unitEn U.IFM → s.rb Reg.IFM_CTRL_CRC_EN →
    let t := (s.setRf Reg.IFM_CRC_RESULT s.cfgCrc).setRf Reg.IFM_CRC_STATUS_DONE 1
    (s.cfgCrc = t.rf Reg.GLB_CRC_REF → exec .crcPassEnd s = .next
      { t.setRf Reg.IFM_CRC_STATUS_MISMATCH 0 with ifm := { t.ifm with crcConfirm := false, crcEpisode := false } }) ∧
    (s.cfgCrc ≠ t.rf Reg.GLB_CRC_REF → s.ifm.crcConfirm = false → exec .crcPassEnd s = .next { t with ifm := { t.ifm with crcConfirm := true } }) ∧
    (s.cfgCrc ≠ t.rf Reg.GLB_CRC_REF → s.ifm.crcConfirm → s.ifm.crcEpisode → exec .crcPassEnd s = .next (t.setRf Reg.IFM_CRC_STATUS_MISMATCH 1))) ∧
  (∀ s : State, s.unitEn U.IFM = false → (∀ tid w, exec (.patrolRead tid w) s = .next s) ∧ exec .patrolPassEnd s = .next s ∧ exec .crcPassEnd s = .next s)

/-- The Gleaner (R437 to R441): at most four reports leave the intake in a cc, each counted into its open entry, else given a new one, else counted in OVERFLOW with OVF set; the closed entry with the lowest FIRST_GC is written at LOG_TAIL, which advances by 32, while the ring has room; a failed write is made again after 1 µs at its place; FIRST, LAST
and WORST are cleared by their commands. -/
def Obligations.ReportsAreGleaned : Prop :=
  (∀ s : State, let t := if s.cyc.gleaned then s.tick else s
    t.unitEn U.IFM → exec .gleanerIntake s = .next ({ t with cyc := { t.cyc with gleaned := true } } : State).glean.glean.glean.glean) ∧
  (∀ (s : State) (r : Report) (rest : List Report), s.ifm.intake = r :: rest →
    let t : State := { s with ifm := { s.ifm with intake := rest } }
    (∀ e, t.ifm.log.find? (fun e => e.code == r.code && e.part == r.part && !e.writing && e.retryGc.isNone && decide (r.gc < e.firstGc + t.logWindow)) = some e →
      s.glean = t.updLog e.idx fun e => { e with count := min (e.count + 1) (2 ^ 32 - 1), lastGc := r.gc }) ∧
    (t.ifm.log = [] → s.glean = { t with ifm := { t.ifm with log := [⟨0, r.code, r.sev, r.part, 1, r.detail, r.detail2, r.gc, r.gc, 0, false, none⟩] } })) ∧
  (∀ (s : State) (e : LogEnt), minBy (fun e => 2 ^ 16 * e.firstGc + e.code) s.closedEntries = some e → s.unitEn U.IFM → s.rb Reg.IFM_LOG_BASE_HI_LOG_EN →
    let used := (2 ^ 32 + s.rf Reg.IFM_LOG_TAIL - s.rf Reg.IFM_LOG_HEAD) % 2 ^ 32
    (used ≠ 2 ^ s.rf Reg.IFM_LOG_BASE_HI_LOG_LOG2 → exec .gleanerEntryClose s = .next
      ((s.setRf Reg.IFM_LOG_TAIL ((s.rf Reg.IFM_LOG_TAIL + 32) % 2 ^ 32)).gleanerWrite { e with ring := s.rf Reg.IFM_LOG_TAIL })) ∧
    (used = 2 ^ s.rf Reg.IFM_LOG_BASE_HI_LOG_LOG2 → exec .gleanerEntryClose s = .next s)) ∧
  (∀ (s : State) (e : LogEnt) (rest : List LogEnt) (t : Nat), s.ifm.log = e :: rest → e.retryGc = some t → s.pins.pwrAck = false → t + 1000 ≤ s.gc → s.unitEn U.IFM → s.rb Reg.IFM_LOG_BASE_HI_LOG_EN →
    exec .gleanerWriteRetry s = .next (s.gleanerWrite e)) ∧
  (∀ s : State, s.portLive → exec .captureClrFirst s = .next (s.unlatch.clearCapture Reg.IFM_FIRST_A).ack ∧
    exec .captureClrLast s = .next (s.unlatch.clearCapture Reg.IFM_LAST_A).ack ∧ exec .captureClrWorst s = .next (s.unlatch.clearCapture Reg.IFM_WORST_A).ack)

/-! ### Time base, snapshots and trace (R71, R72, R502 to R511) -/

/-- A gc_sync takes a sample (R71), and 1 ms without one raises ERR_TIMEBASE_LOST once (R72); a snapshot is fired by its pin, its register or the TAP, and a held one is released (R504, R505); the counters are cleared at the end of the cc (R502); MARK makes a trace record without taking a decision number (R508); a trace beat that has been open for 1 µs
is written (R511). -/
def Obligations.TimeSnapshotsAndTrace : Prop :=
  (∀ (s : State) (gc : BitVec 64), s.portOn .core → s.holds →
    let t : State := { s with tb := s.tb.sync gc.toNat s.cc s.thr.needSync true, thr := { s.thr with needSync := false } }
    (t.tb.check = false → exec (.gcSync gc) s = .next t) ∧ (t.tb.check → exec (.gcSync gc) s = .next t.sampleEngines)) ∧
  (∀ (s : State) (gc : BitVec 64), s.portOn .core → s.holds = false →
    let t : State := { s with tb := s.tb.sync gc.toNat s.cc s.thr.needSync false, thr := { s.thr with needSync := false } }
    (t.tb.check = false → exec (.gcSync gc) s = .next t.reachStarts) ∧ (t.tb.check → exec (.gcSync gc) s = .next t.sampleEngines.reachStarts)) ∧
  (∀ s : State, s.tb.lost = false → s.pins.pwrAck = false → 1000000 * nsUnit ≤ (s.cc - s.tb.sinceCc) * s.tb.rate →
    exec .timebaseLost s = .next { s.reportPlain E.TIMEBASE_LOST none with tb := { s.tb with lost := true } }) ∧
  (∀ s : State, s.tb.lost → exec .timebaseLost s = .next s) ∧
  (∀ s : State, s.portOn .core → exec .snapTrigIn s = .next (s.fireSnap 1)) ∧
  (∀ s : State, s.blkPresent → exec .snapFire s = .next (s.unlatch.fireSnap 0).ack ∧ exec .snapRelease s = .next s.unlatch.releaseSnap.ack ∧
    exec .ctrClear s = .next ({ s.unlatch with dbg := { s.unlatch.dbg with clear := true } } : State).ack ∧
    ∀ v, exec (.traceMark v) s = .next (s.unlatch.traceMark v.toNat).ack) ∧
  (∀ (s : State) (src : Nat), s.dbg.fireCc ≠ some s.cc →
    let t : State := { s.emit .snapTrig with dbg := { s.dbg with fireCc := some s.cc, fireSrc := src } }
    (s.unitEn U.DBG = false → s.fireSnap src = t) ∧ (s.unitEn U.DBG → s.rb Reg.DBG_SNAP_STATUS_HELD = false → s.fireSnap src = t.latchSnap src) ∧
    (s.unitEn U.DBG → s.rb Reg.DBG_SNAP_STATUS_HELD → s.fireSnap src = t.incRf Reg.DBG_SNAP_STATUS_MISSED)) ∧
  (∀ s : State, s.dbg.beat ≠ [] → 1000 + s.dbg.beatGc ≤ s.gc → exec .traceBeatTimeout s = .next s.traceBeat) ∧
  (∀ s : State, s.dbg.beat = [] → exec .traceBeatTimeout s = .next s)

/-! ### Bring-up, power and test (R477 to R496) -/

/-- The boot sequence (R478 to R482): CLEAR starts when the resets are released, then COPY, VERIFY, MEASURE, and the firmware runs; each step begins when the one before it has ended, and no other command moves it; an image that fails a check of R481 leaves the block in FAILED with the check's code; the firmware's FW_VERSION makes blk_present rise (R39). -/
def Obligations.BootGoesStepByStep : Prop :=
  (∀ s : State, s.phase = 0 → s.pins.isoEn = false → s.pins.rstCore = false → s.pins.rstReg = false → exec .bootStart s = .next (s.setPhase 1)) ∧
  (∀ s : State, s.phase = 1 → s.rb Reg.THR_MBIST_STATUS_RUNNING = false →
    (s.thr.restart → exec .bootClearDone s = .next (s.setPhase 3)) ∧
    (s.thr.restart = false → exec .bootClearDone s = .next
      { s.clearUnits.setPhase 2 with ecc := [], thr := { (s.clearUnits.setPhase 2).thr with mem := .zero, mbist := false } })) ∧
  (∀ s : State, s.phase = 2 → exec .bootCopyDone s = .next { s.setPhase 3 with thr := { s.thr with mem := .rom } }) ∧
  (∀ s : State, s.phase = 3 →
    (∀ e, s.fwFault = some e → exec .bootVerifyDone s = .next (((s.setPhase 6).setRf Reg.THR_BOOT_STATUS_CODE e.code).reportPlain e none).maybeQuiesce) ∧
    (s.fwFault = none → exec .bootVerifyDone s = .next ((s.setPhase 4).setRf Reg.THR_FW_BYTES (160 + s.fwLength)))) ∧
  (∀ s : State, s.phase = 4 →
    let t := (((s.extend 0 s.fwDigest).extend 0 (sha384 (bytesOf s.bootIdentity))).setFinal 0 true).setPhase 5
    exec .bootMeasureDone s = .next (({ t with thr := { t.thr with restart := false, digest := t.fwDigest }, ifm := { t.ifm with thrHold := false, hbGc := t.now } } : State).nextTear.maybeQuiesce)) ∧
  (∀ s : State, s.phase = 5 → s.thr.mbist = false → s.reg Reg.GLB_FW_VERSION_A = 0#32 → exec .firmwareStart s = .next (s.setReg Reg.GLB_FW_VERSION_A (s.fwWord 1))) ∧
  (∀ s : State, (s.phase ≠ 0 → exec .bootStart s = .next s) ∧ (s.phase ≠ 1 → exec .bootClearDone s = .next s) ∧ (s.phase ≠ 2 → exec .bootCopyDone s = .next s) ∧
    (s.phase ≠ 3 → exec .bootVerifyDone s = .next s) ∧ (s.phase ≠ 4 → exec .bootMeasureDone s = .next s) ∧ (s.phase ≠ 5 → exec .firmwareStart s = .next s))

/-- Resets, quiescing, isolation and retention (R479, R486 to R492): a core, noc or reg reset leaves the block as at power-on but for its inputs; an eng reset loses the links and a fab reset the fabric link; pwr_req starts quiescing, which kills what runs after QUIESCE_US, and pwr_ack rises when nothing is outstanding; pwr_req falling ends it; iso_en rising with
pwr_ack low is a surprise isolation, whose end restarts the block, and the end of a retention leaves the links to come up anew; ret_en retains while pwr_ack and iso_en are high. -/
def Obligations.PowerAndResets : Prop :=
  (∀ (s : State) (d : ResetDom), s.pins.inReset d = false →
    let set := fun (u : State) => ({ u with pins := u.pins.setReset d true } : State)
    (d = .core ∨ d = .noc ∨ d = .reg → exec (.resetAssert d) s = .next (set s.lowerIrqs).powerOn) ∧
    (d = .eng → exec (.resetAssert d) s = .next ((s.ds.links.map (·.id)).foldl (fun s i => s.presentFall i) (set s.lowerIrqs))) ∧
    (d = .fab → exec (.resetAssert d) s = .next (set s).fpFall) ∧ exec (.resetRelease d) s = .next s) ∧
  (∀ (s : State) (d : ResetDom), s.pins.inReset d →
    exec (.resetAssert d) s = .next s ∧ exec (.resetRelease d) s = .next ({ s with pins := s.pins.setReset d false } : State).seeLinks.seeFabric) ∧
  (∀ s : State, exec .pwrReqRise s = .next ({ s with pins := { s.pins with pwrReq := true } } : State).maybeQuiesce) ∧
  (∀ s : State, s.rf Reg.THR_PWR_STATUS_PSTATE = 1 → s.rf Reg.THR_CTRL_QUIESCE_US ≠ 0 → s.thr.quiesceKilled = false →
    s.thr.quiesceGc + 1000 * s.rf Reg.THR_CTRL_QUIESCE_US ≤ s.gc →
    exec .quiesceTimeout s = .next ({ s with thr := { s.thr with quiesceKilled := true } } : State).quiesceKill.fabTimedOut) ∧
  (∀ s : State, s.rf Reg.THR_PWR_STATUS_PSTATE = 1 → s.quiet → exec .quiesceDone s = .next
    { s.setRf Reg.THR_PWR_STATUS_PSTATE 2 with pins := { s.pins with pwrAck := true } }) ∧
  (∀ s : State, s.quiet = false → exec .quiesceDone s = .next s) ∧
  (∀ s : State,
    let t : State := { s with pins := { s.pins with pwrReq := false } }
    (s.rf Reg.THR_PWR_STATUS_PSTATE = 0 → exec .pwrReqFall s = .next t) ∧ (s.rf Reg.THR_PWR_STATUS_PSTATE = 1 → exec .pwrReqFall s = .next t.resume) ∧
    (s.rf Reg.THR_PWR_STATUS_PSTATE = 2 → s.pins.isoEn = false → exec .pwrReqFall s = .next t.resume.restamp) ∧
    (s.rf Reg.THR_PWR_STATUS_PSTATE = 2 → s.pins.isoEn → exec .pwrReqFall s = .next t)) ∧
  (∀ s : State,
    let t : State := { s.lowerIrqs with pins := { s.pins with isoEn := true } }
    (s.pins.pwrAck → exec .isoEnRise s = .next t) ∧
    (s.pins.pwrAck = false → s.pins.coldReset = false → exec .isoEnRise s = .next
      { t.setRf Reg.THR_PWR_STATUS_SURPRISE 1 with thr := { t.thr with surprise := true } }) ∧
    (s.pins.pwrAck = false → s.pins.coldReset → exec .isoEnRise s = .next t)) ∧
  (∀ s : State, s.pins.isoEn →
    let u : State := { s with pins := { s.pins with isoEn := false } }
    let seen := fun (v : State) => v.seeLinks.raiseIrqs.seeFabric
    let back := fun (v : State) => if v.pins.pwrAck ∧ v.pins.pwrReq = false then v.resume.restamp else v
    (s.pins.coldReset = false → s.thr.surprise → exec .isoEnFall s = .next (back (seen u.endSurprise))) ∧
    (s.pins.coldReset = false → s.thr.surprise = false → s.thr.retained → exec .isoEnFall s = .next (back (seen u.endRetention))) ∧
    (s.pins.coldReset ∨ (s.thr.surprise = false ∧ s.thr.retained = false) → exec .isoEnFall s = .next (back (seen u)))) ∧
  (∀ s : State, s.pins.isoEn = false → exec .isoEnFall s = .next s) ∧
  (∀ s : State, exec (.retEnChange false) s = .next { s with pins := { s.pins with retEn := false } } ∧
    (s.pins.pwrAck → s.pins.isoEn → exec (.retEnChange true) s = .next { s with pins := { s.pins with retEn := true }, thr := { s.thr with retained := true } }) ∧
    (s.pins.pwrAck = false ∨ s.pins.isoEn = false → exec (.retEnChange true) s = .next { s with pins := { s.pins with retEn := true } }))

/-- The TAP (R479, R494 to R496, R504): each instruction is selected and does what its row says; EXTEST and CLAMP are refused with ERR_TAP_REFUSED while a unit other than the GLB is enabled, and a start of MBIST likewise; while iso_en is high, and for any other opcode, BYPASS is selected; trst selects IDCODE; MBIST ends with its result and runs the boot sequence from
CLEAR. -/
def Obligations.TapInstructionsAreCarriedOut : Prop :=
  (∀ s : State, s.pins.isoEn = false →
    let t := fun (ir : Nat) => ({ s with tap := { s.tap with ir := ir } } : State)
    (∀ cells, s.tapFree → exec (.tapExtest cells) s = .next (((t 0x00).scanCells cells).emit (.boundary ((t 0x00).scanCells cells).tap.cells))) ∧
    (∀ cells, s.tapFree = false → exec (.tapExtest cells) s = .next s.tapRefused.tapToBypass) ∧
    (∀ cells, exec (.tapSamplePreload cells) s = .next ((t 0x01).scanCells cells)) ∧
    exec .tapIdcode s = .next ((t 0x02).emit (.tdo (bitsOf 32 (0x4 * 2 ^ 28 + 0x7A1C * 2 ^ 12 + (t 0x02).rf Reg.THR_ID_MFR * 2 + 1)))) ∧
    (s.tapFree → exec .tapClamp s = .next (((t 0x03).emit .tdoBypass).emit (.boundary s.tap.cells))) ∧
    (s.tapFree = false → exec .tapClamp s = .next s.tapRefused.tapToBypass) ∧
    (∀ we addr data, exec (.tapRegAccess we addr data) s = .next
      (let r := (t 0x10).tapAccess we addr.toNat data
       r.emit (.tapData r.tap.data r.tap.err))) ∧
    exec .tapSnap s = .next (((t 0x11).emit .tdoBypass).fireSnap 2) ∧
    (let m := (t 0x12).emit (.tdo (bitsOf 8 (wget ((t 0x12).reg Reg.THR_MBIST_STATUS_A) 2 0)))
     exec (.tapMbist false) s = .next m ∧ (m.rb Reg.THR_MBIST_STATUS_RUNNING = false → m.tapFree → exec (.tapMbist true) s = .next m.startMbist) ∧
      (m.rb Reg.THR_MBIST_STATUS_RUNNING = false → m.tapFree = false → exec (.tapMbist true) s = .next m.tapRefused)) ∧
    (∀ op : BitVec 5, tapSupported op.toNat = false → exec (.tapBypass op) s = .next s.tapToBypass)) ∧
  (∀ s : State, s.pins.isoEn → exec .tapIdcode s = .next s.tapToBypass ∧ exec .tapClamp s = .next s.tapToBypass ∧ exec .tapSnap s = .next s.tapToBypass ∧
    (∀ cells, exec (.tapExtest cells) s = .next s.tapToBypass ∧ exec (.tapSamplePreload cells) s = .next s.tapToBypass) ∧ (∀ op, exec (.tapBypass op) s = .next s.tapToBypass)) ∧
  (∀ s : State, exec .trst s = .next { s with tap := { s.tap with ir := 2 } }) ∧
  (∀ s : State, s.rb Reg.THR_MBIST_STATUS_RUNNING →
    exec (.mbistDone none) s = .next ((s.setReg Reg.THR_MBIST_STATUS_A 2#32).setPhase 1) ∧
    ∀ b, exec (.mbistDone (some b)) s = .next (((s.setReg Reg.THR_MBIST_STATUS_A (packW [(1, 1), (2, 1), (8, b % 64)])).reportPlain E.MBIST_FAIL none).setPhase 1)) ∧
  (∀ (s : State) (r : Option Nat), s.rb Reg.THR_MBIST_STATUS_RUNNING = false → exec (.mbistDone r) s = .next s)

/-! ### Three rules word for word (R125, R227, R463) -/

/-- In a sound state, a write of 0x0000_5EED to GLB_UNLOCK, whether the unlock is armed or not, arms it with its count started in the cc of the write, and ARMED reads 1; a write of any
other value disarms it, ARMED reads 0, and BAD_KEY is set (R463). -/
def Obligations.UnlockKeyArmsAndOtherValuesDisarm : Prop :=
  ∀ (s : State) (data : BitVec 32), s.Inv → s.portLive →
    (data = 0x5EED#32 → ∃ t, exec (.glbUnlockWrite data) s = .next t ∧ t.glb.armedCc = some t.cc ∧ wget (t.regView Reg.GLB_UNLOCK_A) 16 16 = 1) ∧
    (data ≠ 0x5EED#32 → ∃ t, exec (.glbUnlockWrite data) s = .next t ∧ t.glb.armedCc = none ∧ wget (t.regView Reg.GLB_UNLOCK_A) 16 16 = 0 ∧
      t.rb Reg.GLB_STICKY_BAD_KEY = true)

/-- The link that a slice takes in the chosen cluster is a selectable link of the task's class with an issue credit; no other such link has more free issue credits, and
one with as many has no lower number; and there is one whenever the cluster has such a link (R125). -/
def Obligations.LinkWithMostCreditsIsTaken : Prop :=
  ∀ (s : State) (c cls : Nat),
    (∀ i, s.bestLink c cls = some i → i / 16 = c ∧ s.selectable i ∧ (s.link i).cls = cls ∧ 0 < s.dealCredits i ∧
      ∀ k, k / 16 = c → s.selectable k → (s.link k).cls = cls → 0 < s.dealCredits k →
        s.dealCredits k ≤ s.dealCredits i ∧ (s.dealCredits k = s.dealCredits i → i ≤ k)) ∧
    (∀ k, k / 16 = c → s.selectable k → (s.link k).cls = cls → 0 < s.dealCredits k → ∃ i, s.bestLink c cls = some i)

/-- The capacity of a layer in a step (R227): with CAP_MODE 0 the lower of CAPACITY and LIST_MAX, else the lower of LIST_MAX and the exact quotient CAPACITY × T_live × K ÷ (256 × EXPERTS),
rounded up, where T_live counts the tokens of the rows that are live in the snapshot. -/
def Obligations.CapacityOfALayer : Prop :=
  ∀ (s : State) (x : EraStep) (l : Nat),
    let live := ((x.rows.filter fun r => r.2).map fun r => r.1).sum
    (s.lay x.part l Rl.CAP_MODE = 0 → s.capacity x l = min (s.lay x.part l Rl.CAPACITY) (s.lay x.part l Rl.LIST_MAX)) ∧
    (s.lay x.part l Rl.CAP_MODE = 1 → s.lay x.part l Rl.EXPERTS ≠ 0 → s.capacity x l = min
      ⌈((s.lay x.part l Rl.CAPACITY * live * s.lay x.part l Rl.K : Nat) : ℚ) / ((256 * s.lay x.part l Rl.EXPERTS : Nat) : ℚ)⌉₊
      (s.lay x.part l Rl.LIST_MAX))
end

