-- ==== Sys2Proof/Laws/Tab.lean ====
section
/-! SUPPORT. Sparse tables: every operation keeps the canonical form; a read after a write of the same key gives the value written; a write
leaves every other key alone; and two canonical tables that read alike are equal. -/

-- One declaration at a time: checked side by side, the lemmas ask for more threads than the checks may start.
set_option Elab.async false

namespace Sys2Proof.Machine

theorem Tab.wfFrom_cons {d : Nat → Word} {lo : Option Nat} {k : Nat} {v : Word} {t : Tab} :
    Tab.wfFrom d lo ((k, v) :: t) = true ↔ (∀ l, lo = some l → l < k) ∧ v ≠ d k ∧ Tab.wfFrom d (some k) t = true := by
  cases lo <;> simp [Tab.wfFrom, and_assoc]

theorem Tab.wfFrom_mono {d : Nat → Word} {a : Nat} {lo : Option Nat} {t : Tab} (h : ∀ l, lo = some l → l ≤ a)
    (w : Tab.wfFrom d (some a) t = true) : Tab.wfFrom d lo t = true := by
  cases t with
  | nil => rfl
  | cons e t =>
    obtain ⟨k, v⟩ := e
    rw [Tab.wfFrom_cons] at w ⊢
    exact ⟨fun l e => Nat.lt_of_le_of_lt (h l e) (w.1 a rfl), w.2⟩

/-- A write keeps the canonical form. -/
theorem Tab.wfFrom_set {d : Nat → Word} {lo : Option Nat} {t : Tab} {k : Nat} {v : Word} (h : ∀ l, lo = some l → l < k)
    (w : Tab.wfFrom d lo t = true) : Tab.wfFrom d lo (Tab.set d t k v) = true := by
  induction t generalizing lo with
  | nil =>
    unfold Tab.set
    split
    · rfl
    · rw [Tab.wfFrom_cons]; exact ⟨h, ‹_›, rfl⟩
  | cons e t ih =>
    obtain ⟨j, x⟩ := e
    have w' := Tab.wfFrom_cons.1 w
    unfold Tab.set
    split
    · subst j
      split
      · exact Tab.wfFrom_mono (fun l e => Nat.le_of_lt (h l e)) w'.2.2
      · rw [Tab.wfFrom_cons]; exact ⟨h, ‹_›, w'.2.2⟩
    · split
      · split
        · exact w
        · rw [Tab.wfFrom_cons, Tab.wfFrom_cons]
          exact ⟨h, ‹_›, fun l e => by cases e; assumption, w'.2⟩
      · rw [Tab.wfFrom_cons]
        exact ⟨w'.1, w'.2.1, ih (fun l e => by cases e; omega) w'.2.2⟩

theorem Tab.wf_set {d : Nat → Word} {t : Tab} {k : Nat} {v : Word} (w : Tab.wf d t = true) : Tab.wf d (Tab.set d t k v) = true :=
  Tab.wfFrom_set (fun _ e => by cases e) w

/-- Removing entries keeps the canonical form. -/
theorem Tab.wfFrom_filter {d : Nat → Word} {lo : Option Nat} {t : Tab} {p : Nat × Word → Bool} (w : Tab.wfFrom d lo t = true) :
    Tab.wfFrom d lo (t.filter p) = true := by
  induction t generalizing lo with
  | nil => exact w
  | cons e t ih =>
    obtain ⟨k, v⟩ := e
    have w' := Tab.wfFrom_cons.1 w
    rw [List.filter_cons]
    split
    · rw [Tab.wfFrom_cons]; exact ⟨w'.1, w'.2.1, ih w'.2.2⟩
    · exact ih (Tab.wfFrom_mono (fun l e => Nat.le_of_lt (w'.1 l e)) w'.2.2)

theorem Tab.wf_filter {d : Nat → Word} {t : Tab} {p : Nat × Word → Bool} (w : Tab.wf d t = true) : Tab.wf d (t.filter p) = true :=
  Tab.wfFrom_filter w

/-- A key that is not above the bound of a table is not listed in it. -/
theorem Tab.get_below {d : Nat → Word} {a k : Nat} {t : Tab} (w : Tab.wfFrom d (some a) t = true) (h : k ≤ a) : Tab.get d t k = d k := by
  cases t with
  | nil => rfl
  | cons e t =>
    obtain ⟨j, v⟩ := e
    have := (Tab.wfFrom_cons.1 w).1 a rfl
    simp only [Tab.get]
    rw [if_neg (by omega), if_pos (by omega)]

/-- What a key reads as after a write. -/
theorem Tab.get_set {d : Nat → Word} {lo : Option Nat} {t : Tab} {k j : Nat} {v : Word} (w : Tab.wfFrom d lo t = true) :
    Tab.get d (Tab.set d t k v) j = if j = k then v else Tab.get d t j := by
  induction t generalizing lo with
  | nil =>
    by_cases h : v = d k <;> by_cases h' : j = k <;> simp [Tab.set, Tab.get, h, h']
  | cons e t ih =>
    obtain ⟨i, x⟩ := e
    have w' := Tab.wfFrom_cons.1 w
    unfold Tab.set
    split
    · subst i
      split
      · by_cases h' : j = k
        · subst h'; rw [if_pos rfl, Tab.get_below w'.2.2 (Nat.le_refl _)]; exact Eq.symm ‹_›
        · rw [if_neg h']
          simp only [Tab.get, if_neg h']
          split
          · exact Tab.get_below w'.2.2 (by omega)
          · rfl
      · by_cases h' : j = k <;> simp [Tab.get, h']
    · split
      · split
        · by_cases h' : j = k
          · subst h'; rw [if_pos rfl]; simp only [Tab.get]; rw [if_neg (by assumption), if_pos (by assumption)]; exact Eq.symm ‹_›
          · rw [if_neg h']
        · by_cases h' : j = k
          · simp [Tab.get, h']
          · rw [if_neg h', Tab.get, if_neg h']
            split
            · rw [Tab.get, if_neg (by omega), if_pos (by omega)]
            · rfl
      · simp only [Tab.get]
        by_cases h' : j = i
        · subst h'; rw [if_pos rfl, if_pos rfl, if_neg (by omega)]
        · rw [if_neg h', if_neg h']
          split
          · rw [if_neg (by omega)]
          · exact ih w'.2.2

/-- Two tables in canonical form that read alike are equal. -/
theorem Tab.ext_of_wf {d : Nat → Word} {lo : Option Nat} {t u : Tab} (wt : Tab.wfFrom d lo t = true) (wu : Tab.wfFrom d lo u = true)
    (h : ∀ k, Tab.get d t k = Tab.get d u k) : t = u := by
  induction t generalizing lo u with
  | nil =>
    cases u with
    | nil => rfl
    | cons e u =>
      obtain ⟨k, v⟩ := e
      have := h k
      simp [Tab.get] at this
      exact absurd this.symm (Tab.wfFrom_cons.1 wu).2.1
  | cons e t ih =>
    obtain ⟨k, v⟩ := e
    have wt' := Tab.wfFrom_cons.1 wt
    cases u with
    | nil =>
      have := h k
      simp [Tab.get] at this
      exact absurd this wt'.2.1
    | cons e' u =>
      obtain ⟨j, x⟩ := e'
      have wu' := Tab.wfFrom_cons.1 wu
      have hkj : k = j := by
        rcases Nat.lt_trichotomy k j with g | g | g
        · have := h k
          simp [Tab.get, g, Nat.ne_of_lt g] at this
          exact absurd this wt'.2.1
        · exact g
        · have := h j
          simp [Tab.get, g, Nat.ne_of_lt g] at this
          exact absurd this.symm wu'.2.1
      subst hkj
      have hv : v = x := by have := h k; simpa [Tab.get] using this
      subst hv
      congr 1
      refine ih wt'.2.2 wu'.2.2 fun i => ?_
      by_cases g : i ≤ k
      · rw [Tab.get_below wt'.2.2 g, Tab.get_below wu'.2.2 g]
      · have := h i
        simpa [Tab.get, show ¬ i = k by omega, show ¬ i < k by omega] using this

end Sys2Proof.Machine
end

