-- ==== Sys2Proof/Laws/Keep.lean ====
section
/-! SUPPORT. What every command keeps, and which parts of the state it may change: the relation, and how it goes through the shapes of
which meanings are made. -/

-- One declaration at a time: checked side by side, the lemmas ask for more threads than the checks may start.
set_option Elab.async false
namespace Sys2Proof.Machine

/-- What a meaning keeps of the state before it: the queue, the build, everything driven so far, soundness, and every part whose bit
of `m` is 0. -/
structure Keep (m : Nat) (s t : State) : Prop where
  pending : t.pending = s.pending
  build : t.build = s.build
  out : s.out <+: t.out
  inv : s.Inv → t.Inv
  ccLe : s.cc ≤ t.cc
  cc : Nat.testBit m 0 = false → t.cc = s.cc
  tb : Nat.testBit m 1 = false → t.tb = s.tb
  cyc : Nat.testBit m 2 = false → t.cyc = s.cyc
  pins : Nat.testBit m 3 = false → t.pins = s.pins
  regs : Nat.testBit m 4 = false → t.regs = s.regs
  shf : Nat.testBit m 5 = false → t.shf = s.shf
  sram : Nat.testBit m 6 = false → t.sram = s.sram
  ecc : Nat.testBit m 7 = false → t.ecc = s.ecc
  glb : Nat.testBit m 8 = false → t.glb = s.glb
  mm : Nat.testBit m 9 = false → t.mm = s.mm
  fe : Nat.testBit m 10 = false → t.fe = s.fe
  gs : Nat.testBit m 11 = false → t.gs = s.gs
  dr : Nat.testBit m 12 = false → t.dr = s.dr
  ds : Nat.testBit m 13 = false → t.ds = s.ds
  sm : Nat.testBit m 14 = false → t.sm = s.sm
  mh : Nat.testBit m 15 = false → t.mh = s.mh
  st : Nat.testBit m 16 = false → t.st = s.st
  era : Nat.testBit m 17 = false → t.era = s.era
  bg : Nat.testBit m 18 = false → t.bg = s.bg
  psc : Nat.testBit m 19 = false → t.psc = s.psc
  dc : Nat.testBit m 20 = false → t.dc = s.dc
  pau : Nat.testBit m 21 = false → t.pau = s.pau
  ifm : Nat.testBit m 22 = false → t.ifm = s.ifm
  dbg : Nat.testBit m 23 = false → t.dbg = s.dbg
  thr : Nat.testBit m 24 = false → t.thr = s.thr
  tap : Nat.testBit m 25 = false → t.tap = s.tap
  fab : Nat.testBit m 26 = false → t.fab = s.fab
  eps : Nat.testBit m 27 = false → t.eps = s.eps
  free : Nat.testBit m 28 = false → t.free = s.free

/-- `Keep` of the state in a pair. -/
def KeepP {α : Type} (m : Nat) (s : State) (p : State × α) : Prop := Keep m s p.1
/-- `Keep` of the state at the right of a pair. -/
def KeepQ {α : Type} (m : Nat) (s : State) (p : α × State) : Prop := Keep m s p.2
/-- `Keep` of an optional state. -/
def KeepS (m : Nat) (s : State) (p : Option State) : Prop := ∀ t, p = some t → Keep m s t
/-- `Keep` of a next state. -/
def KeepO (m : Nat) (s : State) (o : Host.Outcome State Fault Refusal) : Prop := ∀ t, o = .next t → Keep m s t
/-- `Keep` of the state in an answer that may be an error. -/
def KeepE {α : Type} (m : Nat) (s : State) (p : Except Err (State × α)) : Prop := ∀ q, p = .ok q → KeepP m s q

/-- The parts of `a` are among those of `b`. -/
def Sub (a b : Nat) : Prop := Nat.land a b = a

theorem Sub.of {a b m : Nat} (hm : Sub b m) (h : Nat.land a b = a := by rfl) : Sub a m := by
  unfold Sub at *
  apply Nat.eq_of_testBit_eq
  intro i
  have h1 := congrArg (Nat.testBit · i) h
  have h2 := congrArg (Nat.testBit · i) hm
  simp only [show Nat.land = (· &&& · : Nat → Nat → Nat) from rfl, Nat.testBit_and] at h1 h2 ⊢
  cases ha : a.testBit i <;> cases hb : b.testBit i <;> simp_all

theorem Sub.free {a m i : Nat} (h : Sub a m) (hi : Nat.testBit m i = false) : Nat.testBit a i = false := by
  have h1 := congrArg (Nat.testBit · i) (show a &&& m = a from h)
  simp only [Nat.testBit_and] at h1
  rw [← h1, hi, Bool.and_false]

theorem Keep.refl {m : Nat} (s : State) : Keep m s s :=
  ⟨rfl, rfl, List.prefix_refl _, id, Nat.le_refl _, fun _ => rfl, fun _ => rfl, fun _ => rfl, fun _ => rfl, fun _ => rfl, fun _ => rfl, fun _ => rfl, fun _ => rfl, fun _ => rfl, fun _ => rfl, fun _ => rfl, fun _ => rfl, fun _ => rfl, fun _ => rfl, fun _ => rfl, fun _ => rfl, fun _ => rfl, fun _ => rfl, fun _ => rfl, fun _ => rfl, fun _ => rfl, fun _ => rfl, fun _ => rfl, fun _ => rfl, fun _ => rfl, fun _ => rfl, fun _ => rfl, fun _ => rfl, fun _ => rfl⟩

variable {α : Type} {m : Nat}

theorem keepP_mk {s t : State} {a : α} (h : Keep m s t) : KeepP m s (t, a) := h
theorem keepP_fst {s : State} {p : State × α} (h : KeepP m s p) : Keep m s p.1 := h
theorem keepQ_mk {s t : State} {a : α} (h : Keep m s t) : KeepQ m s (a, t) := h
theorem keepQ_snd {s : State} {p : α × State} (h : KeepQ m s p) : Keep m s p.2 := h
theorem keepS_some {s t : State} (h : Keep m s t) : KeepS m s (some t) := fun _ e => Option.some.inj e ▸ h
theorem keepS_none {s : State} : KeepS m s none := fun _ e => by cases e
theorem keepO_next {s t : State} (h : Keep m s t) : KeepO m s (.next t) := fun _ e => by cases e; exact h
theorem keepE_ok {s : State} {p : State × α} (h : KeepP m s p) : KeepE m s (.ok p) := fun _ e => Except.ok.inj e ▸ h
theorem keepE_error {s : State} {e : Err} : KeepE m s (.error e : Except Err (State × α)) := fun _ e => by cases e
theorem keepP_eq {s t : State} {p : State × α} {a : α} (e : p = (t, a)) (h : KeepP m s p) : Keep m s t := by subst e; exact h
theorem keepQ_eq {s t : State} {p : α × State} {a : α} (e : p = (a, t)) (h : KeepQ m s p) : Keep m s t := by subst e; exact h
theorem keepS_eq {s t : State} {p : Option State} (e : p = some t) (h : KeepS m s p) : Keep m s t := h t e
theorem keepE_eq {s t : State} {p : Except Err (State × α)} {a : α} (e : p = .ok (t, a)) (h : KeepE m s p) : Keep m s t := h _ e

/-- A part whose bit of `c` is 0 is the one before. -/
def KeptPart {β : Type} (c i : Nat) (x y : β) : Prop := x = bif Nat.testBit c i then x else y

theorem KeptPart.free {β : Type} {c m i : Nat} {x y z : β} (p : KeptPart c i x y) (hm : Sub c m) (h : Nat.testBit m i = false → y = z)
    (hi : Nat.testBit m i = false) : x = z := by
  unfold KeptPart at p
  rw [hm.free hi] at p
  exact p.trans (h hi)

theorem keep_mk (c : Nat) {s0 s : State} {x_cc x_tb x_cyc x_pins x_ecc x_glb x_mm x_fe x_gs x_dr x_ds x_sm x_mh x_st x_era x_bg x_psc x_dc x_pau x_ifm x_dbg x_thr x_tap x_fab x_eps x_free} (hm : Sub c m) (h : Keep m s0 s)
    (e : KeptPart c 0 x_cc s.cc ∧ KeptPart c 1 x_tb s.tb ∧ KeptPart c 2 x_cyc s.cyc ∧ KeptPart c 3 x_pins s.pins ∧ KeptPart c 7 x_ecc s.ecc ∧ KeptPart c 8 x_glb s.glb ∧ KeptPart c 9 x_mm s.mm ∧ KeptPart c 10 x_fe s.fe ∧ KeptPart c 11 x_gs s.gs ∧ KeptPart c 12 x_dr s.dr ∧ KeptPart c 13 x_ds s.ds ∧ KeptPart c 14 x_sm s.sm ∧ KeptPart c 15 x_mh s.mh ∧ KeptPart c 16 x_st s.st ∧ KeptPart c 17 x_era s.era ∧ KeptPart c 18 x_bg s.bg ∧ KeptPart c 19 x_psc s.psc ∧ KeptPart c 20 x_dc s.dc ∧ KeptPart c 21 x_pau s.pau ∧ KeptPart c 22 x_ifm s.ifm ∧ KeptPart c 23 x_dbg s.dbg ∧ KeptPart c 24 x_thr s.thr ∧ KeptPart c 25 x_tap s.tap ∧ KeptPart c 26 x_fab s.fab ∧ KeptPart c 27 x_eps s.eps ∧ KeptPart c 28 x_free s.free := by
      exact ⟨rfl, rfl, rfl, rfl, rfl, rfl, rfl, rfl, rfl, rfl, rfl, rfl, rfl, rfl, rfl, rfl, rfl, rfl, rfl, rfl, rfl, rfl, rfl, rfl, rfl, rfl⟩)
    (hc : s.cc ≤ x_cc := by first | exact Nat.le_refl _ | exact Nat.le_succ _) :
    Keep m s0 (State.mk s.build x_cc x_tb x_cyc x_pins s.regs s.shf s.sram x_ecc x_glb x_mm x_fe x_gs x_dr x_ds x_sm x_mh x_st x_era x_bg x_psc x_dc x_pau x_ifm x_dbg x_thr x_tap x_fab x_eps x_free s.out s.pending) := by
  obtain ⟨e_cc, e_tb, e_cyc, e_pins, e_ecc, e_glb, e_mm, e_fe, e_gs, e_dr, e_ds, e_sm, e_mh, e_st, e_era, e_bg, e_psc, e_dc, e_pau, e_ifm, e_dbg, e_thr, e_tap, e_fab, e_eps, e_free⟩ := e
  exact ⟨h.pending, h.build, h.out, fun i => (fun j => ⟨j.build, j.regs, j.shf, j.sram⟩) (h.inv i), h.ccLe.trans hc,
    e_cc.free hm h.cc, e_tb.free hm h.tb, e_cyc.free hm h.cyc, e_pins.free hm h.pins, h.regs, h.shf, h.sram, e_ecc.free hm h.ecc, e_glb.free hm h.glb, e_mm.free hm h.mm, e_fe.free hm h.fe, e_gs.free hm h.gs, e_dr.free hm h.dr, e_ds.free hm h.ds, e_sm.free hm h.sm, e_mh.free hm h.mh, e_st.free hm h.st, e_era.free hm h.era, e_bg.free hm h.bg, e_psc.free hm h.psc, e_dc.free hm h.dc, e_pau.free hm h.pau, e_ifm.free hm h.ifm, e_dbg.free hm h.dbg, e_thr.free hm h.thr, e_tap.free hm h.tap, e_fab.free hm h.fab, e_eps.free hm h.eps, e_free.free hm h.free⟩

theorem keep_foldl {s0 s : State} {f : State → α → State} {l : List α} (h : Keep m s0 s)
    (hf : ∀ t x, Keep m s0 t → Keep m s0 (f t x)) : Keep m s0 (l.foldl f s) := by
  induction l generalizing s with
  | nil => exact h
  | cons x l ih => exact ih (hf _ _ h)

theorem keepP_foldl {β : Type} {s0 : State} {p : State × β} {f : State × β → α → State × β} {l : List α} (h : KeepP m s0 p)
    (hf : ∀ t x, KeepP m s0 t → KeepP m s0 (f t x)) : KeepP m s0 (l.foldl f p) := by
  induction l generalizing p with
  | nil => exact h
  | cons x l ih => exact ih (hf _ _ h)

theorem keep_ite {s : State} {c : Prop} {i : Decidable c} {a b : State} (ha : c → Keep m s a) (hb : ¬c → Keep m s b) :
    Keep m s (@ite _ c i a b) := by split <;> simp_all
theorem keepP_ite {s : State} {c : Prop} {i : Decidable c} {a b : State × α} (ha : c → KeepP m s a) (hb : ¬c → KeepP m s b) :
    KeepP m s (@ite _ c i a b) := by split <;> simp_all
theorem keepQ_ite {s : State} {c : Prop} {i : Decidable c} {a b : α × State} (ha : c → KeepQ m s a) (hb : ¬c → KeepQ m s b) :
    KeepQ m s (@ite _ c i a b) := by split <;> simp_all
theorem keepS_ite {s : State} {c : Prop} {i : Decidable c} {a b : Option State} (ha : c → KeepS m s a) (hb : ¬c → KeepS m s b) :
    KeepS m s (@ite _ c i a b) := by split <;> simp_all
theorem keepO_ite {s : State} {c : Prop} {i : Decidable c} {a b : Host.Outcome State Fault Refusal} (ha : c → KeepO m s a) (hb : ¬c → KeepO m s b) :
    KeepO m s (@ite _ c i a b) := by split <;> simp_all
theorem keepE_ite {s : State} {c : Prop} {i : Decidable c} {a b : Except Err (State × α)} (ha : c → KeepE m s a) (hb : ¬c → KeepE m s b) :
    KeepE m s (@ite _ c i a b) := by split <;> simp_all

/-! ### The operations that write tables, or drive a port -/

/-- A meaning that changes tables and keeps their form. -/
theorem keep_tabs (c : Nat) {s0 s t : State} (hm : Sub c m) (k : Keep m s0 s)
    (h : t = { s with tb := t.tb, regs := t.regs, shf := t.shf, sram := t.sram, ecc := t.ecc, era := t.era, dbg := t.dbg })
    (e : (Nat.testBit c 1 = false → t.tb = s.tb) ∧ (Nat.testBit c 4 = false → t.regs = s.regs) ∧ (Nat.testBit c 5 = false → t.shf = s.shf) ∧ (Nat.testBit c 6 = false → t.sram = s.sram) ∧ (Nat.testBit c 7 = false → t.ecc = s.ecc) ∧ (Nat.testBit c 17 = false → t.era = s.era) ∧ (Nat.testBit c 23 = false → t.dbg = s.dbg))
    (h1 : Tab.wf (regReset s.build) s.regs = true → Tab.wf (regReset s.build) t.regs = true)
    (h2 : Tab.wf (regReset s.build) s.shf = true → Tab.wf (regReset s.build) t.shf = true)
    (h3 : Tab.wf ramDefault s.sram = true → Tab.wf ramDefault t.sram = true) : Keep m s0 t := by
  have hb : t.build = s.build := by rw [h]
  have hp : t.pending = s.pending := by rw [h]
  have ho : t.out = s.out := by rw [h]
  obtain ⟨e_tb, e_regs, e_shf, e_sram, e_ecc, e_era, e_dbg⟩ := e
  refine ⟨hp.trans k.pending, hb.trans k.build, ho ▸ k.out, fun i => ?_, by rw [h]; exact k.ccLe, fun hi => (show t.cc = s.cc by rw [h]).trans (k.cc hi), fun hi => (e_tb (hm.free hi)).trans (k.tb hi), fun hi => (show t.cyc = s.cyc by rw [h]).trans (k.cyc hi), fun hi => (show t.pins = s.pins by rw [h]).trans (k.pins hi), fun hi => (e_regs (hm.free hi)).trans (k.regs hi), fun hi => (e_shf (hm.free hi)).trans (k.shf hi), fun hi => (e_sram (hm.free hi)).trans (k.sram hi), fun hi => (e_ecc (hm.free hi)).trans (k.ecc hi), fun hi => (show t.glb = s.glb by rw [h]).trans (k.glb hi), fun hi => (show t.mm = s.mm by rw [h]).trans (k.mm hi), fun hi => (show t.fe = s.fe by rw [h]).trans (k.fe hi), fun hi => (show t.gs = s.gs by rw [h]).trans (k.gs hi), fun hi => (show t.dr = s.dr by rw [h]).trans (k.dr hi), fun hi => (show t.ds = s.ds by rw [h]).trans (k.ds hi), fun hi => (show t.sm = s.sm by rw [h]).trans (k.sm hi), fun hi => (show t.mh = s.mh by rw [h]).trans (k.mh hi), fun hi => (show t.st = s.st by rw [h]).trans (k.st hi), fun hi => (e_era (hm.free hi)).trans (k.era hi), fun hi => (show t.bg = s.bg by rw [h]).trans (k.bg hi), fun hi => (show t.psc = s.psc by rw [h]).trans (k.psc hi), fun hi => (show t.dc = s.dc by rw [h]).trans (k.dc hi), fun hi => (show t.pau = s.pau by rw [h]).trans (k.pau hi), fun hi => (show t.ifm = s.ifm by rw [h]).trans (k.ifm hi), fun hi => (e_dbg (hm.free hi)).trans (k.dbg hi), fun hi => (show t.thr = s.thr by rw [h]).trans (k.thr hi), fun hi => (show t.tap = s.tap by rw [h]).trans (k.tap hi), fun hi => (show t.fab = s.fab by rw [h]).trans (k.fab hi), fun hi => (show t.eps = s.eps by rw [h]).trans (k.eps hi), fun hi => (show t.free = s.free by rw [h]).trans (k.free hi)⟩
  have i := k.inv i
  exact ⟨hb.trans i.build, by rw [hb]; exact h1 i.regs, by rw [hb]; exact h2 i.shf, h3 i.sram⟩

/-- A meaning that empties the SRAM. -/
theorem keep_clear (c : Nat) {s0 s t : State} (hm : Sub c m) (h : Keep m s0 s)
    (h1 : t = { s with tb := t.tb, cyc := t.cyc, pins := t.pins, sram := t.sram, ecc := t.ecc, glb := t.glb, mm := t.mm, fe := t.fe, gs := t.gs, dr := t.dr, ds := t.ds, sm := t.sm, mh := t.mh, st := t.st, era := t.era, bg := t.bg, psc := t.psc, dc := t.dc, pau := t.pau, ifm := t.ifm, dbg := t.dbg, thr := t.thr, tap := t.tap, fab := t.fab, eps := t.eps, free := t.free }) (h2 : t.sram = [])
    (e : KeptPart c 0 t.cc s.cc ∧ KeptPart c 1 t.tb s.tb ∧ KeptPart c 2 t.cyc s.cyc ∧ KeptPart c 3 t.pins s.pins ∧ KeptPart c 4 t.regs s.regs ∧ KeptPart c 5 t.shf s.shf ∧ KeptPart c 6 t.sram s.sram ∧ KeptPart c 7 t.ecc s.ecc ∧ KeptPart c 8 t.glb s.glb ∧ KeptPart c 9 t.mm s.mm ∧ KeptPart c 10 t.fe s.fe ∧ KeptPart c 11 t.gs s.gs ∧ KeptPart c 12 t.dr s.dr ∧ KeptPart c 13 t.ds s.ds ∧ KeptPart c 14 t.sm s.sm ∧ KeptPart c 15 t.mh s.mh ∧ KeptPart c 16 t.st s.st ∧ KeptPart c 17 t.era s.era ∧ KeptPart c 18 t.bg s.bg ∧ KeptPart c 19 t.psc s.psc ∧ KeptPart c 20 t.dc s.dc ∧ KeptPart c 21 t.pau s.pau ∧ KeptPart c 22 t.ifm s.ifm ∧ KeptPart c 23 t.dbg s.dbg ∧ KeptPart c 24 t.thr s.thr ∧ KeptPart c 25 t.tap s.tap ∧ KeptPart c 26 t.fab s.fab ∧ KeptPart c 27 t.eps s.eps ∧ KeptPart c 28 t.free s.free := by
      exact ⟨rfl, rfl, rfl, rfl, rfl, rfl, rfl, rfl, rfl, rfl, rfl, rfl, rfl, rfl, rfl, rfl, rfl, rfl, rfl, rfl, rfl, rfl, rfl, rfl, rfl, rfl, rfl, rfl, rfl⟩) : Keep m s0 t := by
  have hb : t.build = s.build := by rw [h1]
  have hr : t.regs = s.regs := by rw [h1]
  have hs : t.shf = s.shf := by rw [h1]
  obtain ⟨e_cc, e_tb, e_cyc, e_pins, e_regs, e_shf, e_sram, e_ecc, e_glb, e_mm, e_fe, e_gs, e_dr, e_ds, e_sm, e_mh, e_st, e_era, e_bg, e_psc, e_dc, e_pau, e_ifm, e_dbg, e_thr, e_tap, e_fab, e_eps, e_free⟩ := e
  refine ⟨by rw [h1]; exact h.pending, hb.trans h.build, by rw [h1]; exact h.out, fun i => ?_, by rw [h1]; exact h.ccLe,
    e_cc.free hm h.cc, e_tb.free hm h.tb, e_cyc.free hm h.cyc, e_pins.free hm h.pins, e_regs.free hm h.regs, e_shf.free hm h.shf, e_sram.free hm h.sram, e_ecc.free hm h.ecc, e_glb.free hm h.glb, e_mm.free hm h.mm, e_fe.free hm h.fe, e_gs.free hm h.gs, e_dr.free hm h.dr, e_ds.free hm h.ds, e_sm.free hm h.sm, e_mh.free hm h.mh, e_st.free hm h.st, e_era.free hm h.era, e_bg.free hm h.bg, e_psc.free hm h.psc, e_dc.free hm h.dc, e_pau.free hm h.pau, e_ifm.free hm h.ifm, e_dbg.free hm h.dbg, e_thr.free hm h.thr, e_tap.free hm h.tap, e_fab.free hm h.fab, e_eps.free hm h.eps, e_free.free hm h.free⟩
  have i := h.inv i
  exact ⟨hb.trans i.build, by rw [hb, hr]; exact i.regs, by rw [hb, hs]; exact i.shf, by rw [h2]; rfl⟩

theorem State.setReg_keep {s0 s : State} {a : Nat} {v : Word} (hm : Sub 16 m) (k0 : Keep m s0 s) : Keep m s0 (@State.setReg s a v) :=
  keep_tabs 16 hm k0 rfl ⟨fun _ => rfl, fun h => absurd h (by decide), fun _ => rfl, fun _ => rfl, fun _ => rfl, fun _ => rfl, fun _ => rfl⟩ (fun h => Tab.wf_set h) id id

theorem State.setRam_keep {s0 s : State} {k : Nat} {v : Word} (hm : Sub 64 m) (k0 : Keep m s0 s) : Keep m s0 (@State.setRam s k v) :=
  keep_tabs 64 hm k0 rfl ⟨fun _ => rfl, fun _ => rfl, fun _ => rfl, fun h => absurd h (by decide), fun _ => rfl, fun _ => rfl, fun _ => rfl⟩ id id fun h => Tab.wf_set h

theorem State.emit_keep {s0 s : State} {o : Output} (hm : Sub 0 m) (k0 : Keep m s0 s) : Keep m s0 (@State.emit s o) := by
  unfold State.emit
  split
  · exact k0
  · exact ⟨k0.pending, k0.build, k0.out.trans (List.prefix_append _ _),
      fun i => (fun j => ⟨j.build, j.regs, j.shf, j.sram⟩) (k0.inv i), k0.ccLe, k0.cc, k0.tb, k0.cyc, k0.pins, k0.regs, k0.shf, k0.sram, k0.ecc, k0.glb, k0.mm, k0.fe, k0.gs, k0.dr, k0.ds, k0.sm, k0.mh, k0.st, k0.era, k0.bg, k0.psc, k0.dc, k0.pau, k0.ifm, k0.dbg, k0.thr, k0.tap, k0.fab, k0.eps, k0.free⟩

theorem State.applySh_keep {s0 s : State} {p : Nat} (hm : Sub 32 m) (k0 : Keep m s0 s) : Keep m s0 (@State.applySh s p) := by
  refine keep_tabs 32 hm k0 rfl ⟨fun _ => rfl, fun _ => rfl, fun h => absurd h (by decide), fun _ => rfl, fun _ => rfl, fun _ => rfl, fun _ => rfl⟩ id (fun h => ?_) id
  unfold State.applySh
  generalize shRegs p = l
  revert h
  generalize s.shf = t
  intro h
  induction l generalizing t with
  | nil => exact h
  | cons a l ih => exact ih _ (Tab.wf_set h)

theorem State.clearCounters_keep {s0 s : State} (hm : Sub 8388688 m) (k0 : Keep m s0 s) : Keep m s0 (@State.clearCounters s) := by
  unfold State.clearCounters
  extract_lets l t
  have h : Keep m s0 t := keep_foldl k0 fun _ _ h => State.setReg_keep (.of hm) h
  clear_value t
  exact keep_tabs 8388688 hm h rfl ⟨fun _ => rfl, fun h => absurd h (by decide), fun _ => rfl, fun h => absurd h (by decide), fun _ => rfl, fun _ => rfl, fun h => absurd h (by decide)⟩ id id fun h => Tab.wf_filter h

theorem State.zeroSems_keep {s0 s : State} (hm : Sub 192 m) (k0 : Keep m s0 s) : Keep m s0 (@State.zeroSems s) := by
  unfold State.zeroSems
  exact keep_tabs 192 hm k0 rfl ⟨fun _ => rfl, fun _ => rfl, fun _ => rfl, fun h => absurd h (by decide), fun h => absurd h (by decide), fun _ => rfl, fun _ => rfl⟩ id id fun h => Tab.wf_filter h

theorem State.clearSmCounters_keep {s0 s : State} (hm : Sub 80 m) (k0 : Keep m s0 s) : Keep m s0 (@State.clearSmCounters s) := by
  unfold State.clearSmCounters
  extract_lets t
  have h : Keep m s0 t := keep_tabs 80 hm k0 rfl ⟨fun _ => rfl, fun h => absurd h (by decide), fun _ => rfl, fun h => absurd h (by decide), fun _ => rfl, fun _ => rfl, fun _ => rfl⟩ id id fun h => Tab.wf_filter h
  clear_value t
  exact keep_foldl h fun _ _ h => State.setReg_keep (.of hm) (State.setReg_keep (.of hm) h)

theorem State.powerOn_keep {s0 s : State} (hm : Sub 234881022 m) (k0 : Keep m s0 s) : Keep m s0 (@State.powerOn s) := by
  unfold State.powerOn
  exact ⟨k0.pending, k0.build, k0.out, fun i => ⟨(k0.inv i).build, rfl, rfl, rfl⟩, k0.ccLe, 
    fun hi => k0.cc hi, fun hi => absurd (hm.free hi) (by decide), fun hi => absurd (hm.free hi) (by decide), fun hi => absurd (hm.free hi) (by decide), fun hi => absurd (hm.free hi) (by decide), fun hi => absurd (hm.free hi) (by decide), fun hi => absurd (hm.free hi) (by decide), fun hi => absurd (hm.free hi) (by decide), fun hi => absurd (hm.free hi) (by decide), fun hi => absurd (hm.free hi) (by decide), fun hi => absurd (hm.free hi) (by decide), fun hi => absurd (hm.free hi) (by decide), fun hi => absurd (hm.free hi) (by decide), fun hi => absurd (hm.free hi) (by decide), fun hi => absurd (hm.free hi) (by decide), fun hi => absurd (hm.free hi) (by decide), fun hi => absurd (hm.free hi) (by decide), fun hi => absurd (hm.free hi) (by decide), fun hi => absurd (hm.free hi) (by decide), fun hi => absurd (hm.free hi) (by decide), fun hi => absurd (hm.free hi) (by decide), fun hi => absurd (hm.free hi) (by decide), fun hi => absurd (hm.free hi) (by decide), fun hi => absurd (hm.free hi) (by decide), fun hi => absurd (hm.free hi) (by decide), fun hi => k0.tap hi, fun hi => absurd (hm.free hi) (by decide), fun hi => absurd (hm.free hi) (by decide), fun hi => k0.free hi⟩

end Sys2Proof.Machine
end

