-- ==== Sys2Proof/Laws/KeepCore.lean ====
section
/-! SUPPORT. What every command keeps: the shared operations, the links and fabric queues, the graph bookkeeping and kills. -/

-- One declaration at a time: checked side by side, the lemmas ask for more threads than the checks may start.
set_option Elab.async false

namespace Sys2Proof.Machine

variable {msk : Nat} {sa : State}

/-! ### Machine/Operands.lean -/

theorem State.setRf_keep {s : State} {f : RF} {v : Nat} (hm : Sub 16 msk) (k0 : Keep msk sa s) :
    Keep msk sa (@State.setRf s f v) := by
  unfold State.setRf
  exact State.setReg_keep (.of hm) k0

theorem State.incRf_keep {s : State} {f : RF} {n : optParam Nat 1} (hm : Sub 16 msk) (k0 : Keep msk sa s) :
    Keep msk sa (@State.incRf s f n) := by
  unfold State.incRf
  exact State.setRf_keep (.of hm) k0

theorem State.setRm_keep {s : State} {b : Nat} {f : Fld} {v : Nat} (hm : Sub 64 msk) (k0 : Keep msk sa s) :
    Keep msk sa (@State.setRm s b f v) := by
  unfold State.setRm
  exact State.setRam_keep (.of hm) k0

theorem State.setRow_keep {s : State} {b : Nat} {ws : List Word} (hm : Sub 192 msk) (k0 : Keep msk sa s) :
    Keep msk sa (@State.setRow s b ws) := by
  unfold State.setRow
  refine keep_foldl ?_ ?_
  · exact keep_mk 128 (.of hm) k0
  · intro x0 x1 x2
    exact State.setRam_keep (.of hm) x2

theorem State.setRam64_keep {s : State} {k : Nat} {v : Nat} (hm : Sub 64 msk) (k0 : Keep msk sa s) :
    Keep msk sa (@State.setRam64 s k v) := by
  unfold State.setRam64
  exact State.setRam_keep (.of hm) (State.setRam_keep (.of hm) k0)

theorem State.addRam64_keep {s : State} {k : Nat} {n : Nat} (hm : Sub 64 msk) (k0 : Keep msk sa s) :
    Keep msk sa (@State.addRam64 s k n) := by
  unfold State.addRam64
  exact State.setRam64_keep (.of hm) k0

theorem State.setReg64_keep {s : State} {lo : Nat} {hi : Nat} {v : Nat} (hm : Sub 16 msk) (k0 : Keep msk sa s) :
    Keep msk sa (@State.setReg64 s lo hi v) := by
  unfold State.setReg64
  exact State.setReg_keep (.of hm) (State.setReg_keep (.of hm) k0)

theorem State.takeFree_keep {s : State} (hm : Sub 268435456 msk) (k0 : Keep msk sa s) :
    KeepQ msk sa (@State.takeFree s) := by
  unfold State.takeFree
  exact keepQ_mk (keep_mk 268435456 (.of hm) k0)

/-! ### Machine/Ops.lean -/

theorem State.lowerIrqs_keep {s : State} (hm : Sub 0 msk) (k0 : Keep msk sa s) :
    Keep msk sa (@State.lowerIrqs s) := by
  unfold State.lowerIrqs
  refine keep_foldl ?_ ?_
  · exact k0
  · intro x0 x1 x2
    exact State.emit_keep (.of hm) x2

theorem State.raiseIrqs_keep {s : State} (hm : Sub 0 msk) (k0 : Keep msk sa s) :
    Keep msk sa (@State.raiseIrqs s) := by
  unfold State.raiseIrqs
  refine keep_foldl ?_ ?_
  · exact k0
  · intro x0 x1 x2
    exact State.emit_keep (.of hm) x2

theorem State.openEpisode_keep {s : State} {code : Nat} {key : Nat} (hm : Sub 134217728 msk) (k0 : Keep msk sa s) :
    Keep msk sa (@State.openEpisode s code key) := by
  unfold State.openEpisode
  refine keep_ite ?_ ?_
  · intro x0
    exact k0
  · intro x1
    exact keep_mk 134217728 (.of hm) k0

theorem State.closeEpisode_keep {s : State} {code : Nat} {key : Nat} (hm : Sub 134217728 msk) (k0 : Keep msk sa s) :
    Keep msk sa (@State.closeEpisode s code key) := by
  unfold State.closeEpisode
  exact keep_mk 134217728 (.of hm) k0

theorem State.tracePush_keep {s : State} {r : Nat} (hm : Sub 8388624 msk) (k0 : Keep msk sa s) :
    Keep msk sa (@State.tracePush s r) := by
  unfold State.tracePush
  refine keep_ite ?_ ?_
  · intro x0
    exact keep_mk 8388608 (.of hm) k0
  · intro x1
    extract_lets v2 v3
    have h4 : Keep msk sa v2 := by
      unfold v2
      exact State.incRf_keep (.of hm) k0
    clear_value v2
    clear_value v3
    exact keep_mk 8388608 (.of hm) h4

theorem State.traceTime_keep {s : State} {stamp : Nat} (hm : Sub 8388624 msk) (k0 : Keep msk sa s) :
    Keep msk sa (@State.traceTime s stamp) := by
  unfold State.traceTime
  extract_lets v0 v1 v2
  clear_value v0
  have h3 : Keep msk sa v1 := by
    unfold v1
    exact State.tracePush_keep (.of hm) k0
  clear_value v1
  clear_value v2
  exact keep_mk 8388608 (.of hm) h3

theorem State.traceSync_keep {s : State} {stamp : Nat} (hm : Sub 8388624 msk) (k0 : Keep msk sa s) :
    Keep msk sa (@State.traceSync s stamp) := by
  unfold State.traceSync
  extract_lets v0 v1 v2 v3
  clear_value v0
  clear_value v1
  have h4 : Keep msk sa v2 := by
    unfold v2
    exact State.tracePush_keep (.of hm) k0
  clear_value v2
  clear_value v3
  exact State.traceTime_keep (.of hm) (keep_mk 8388608 (.of hm) h4)

theorem State.traceLost_keep {s : State} (hm : Sub 8388624 msk) (k0 : Keep msk sa s) :
    Keep msk sa (@State.traceLost s) := by
  unfold State.traceLost
  refine keep_ite ?_ ?_
  · intro x0
    extract_lets v1 v2 v3 v4
    clear_value v1
    clear_value v2
    have h5 : Keep msk sa v3 := by
      unfold v3
      exact keep_mk 8388608 (.of hm) k0
    clear_value v3
    have h6 : Keep msk sa v4 := by
      unfold v4
      exact State.tracePush_keep (.of hm) h5
    clear_value v4
    exact State.traceSync_keep (.of hm) h6
  · intro x7
    exact k0

theorem State.traceAt_keep {s : State} {kind : Nat} {part : Option Nat} {payload : Nat} {keep : Nat} {stamp : Nat} (hm : Sub 8388624 msk) (k0 : Keep msk sa s) :
    Keep msk sa (@State.traceAt s kind part payload keep stamp) := by
  unfold State.traceAt
  refine keep_ite ?_ ?_
  · intro x0
    exact k0
  · intro x1
    extract_lets v2 v3 v4 v5 v6 v7
    clear_value v2
    have h8 : Keep msk sa v3 := by
      unfold v3
      exact State.traceLost_keep (.of hm) k0
    clear_value v3
    have h9 : Keep msk sa v4 := by
      unfold v4
      refine keep_ite ?_ ?_
      · intro x10
        exact State.traceSync_keep (.of hm) h8
      · intro x11
        split
        · rename_i z12 z13 z14
          refine keep_ite ?_ ?_
          · intro x15
            exact h8
          · intro x16
            exact State.traceTime_keep (.of hm) h8
        · rename_i z17 z18
          exact State.traceTime_keep (.of hm) h8
    clear_value v4
    clear_value v5
    have h19 : Keep msk sa v6 := by
      unfold v6
      refine keep_ite ?_ ?_
      · intro x20
        exact k0
      · intro x21
        exact State.tracePush_keep (.of hm) h9
    clear_value v6
    clear_value v7
    exact keep_mk 8388608 (.of hm) h19

theorem State.trace_keep {s : State} {kind : Nat} {part : Option Nat} {payload : Nat} {keep : optParam Nat 0} (hm : Sub 8388624 msk) (k0 : Keep msk sa s) :
    Keep msk sa (@State.trace s kind part payload keep) := by
  unfold State.trace
  exact State.traceAt_keep (.of hm) k0

theorem State.decision_keep {s : State} (hm : Sub 8388608 msk) (k0 : Keep msk sa s) :
    Keep msk sa (@State.decision s) := by
  unfold State.decision
  refine keep_ite ?_ ?_
  · intro x0
    exact keep_mk 8388608 (.of hm) k0
  · intro x1
    exact k0

theorem State.latchSnap_keep {s : State} {src : Nat} (hm : Sub 8388624 msk) (k0 : Keep msk sa s) :
    Keep msk sa (@State.latchSnap s src) := by
  unfold State.latchSnap
  extract_lets v0 v1 v2 v3 v4
  have h5 : Keep msk sa v0 := by
    unfold v0
    exact State.setRf_keep (.of hm) k0
  clear_value v0
  have h6 : Keep msk sa v1 := by
    unfold v1
    exact State.setRf_keep (.of hm) h5
  clear_value v1
  have h7 : Keep msk sa v2 := by
    unfold v2
    exact State.setReg64_keep (.of hm) h6
  clear_value v2
  have h8 : Keep msk sa v3 := by
    unfold v3
    exact State.trace_keep (.of hm) h7
  clear_value v3
  clear_value v4
  exact keep_mk 8388608 (.of hm) h8

theorem State.fireSnap_keep {s : State} {src : Nat} (hm : Sub 8388624 msk) (k0 : Keep msk sa s) :
    Keep msk sa (@State.fireSnap s src) := by
  unfold State.fireSnap
  extract_lets v0 v1 v2 v3 v4
  clear_value v0
  have h5 : Keep msk sa v1 := by
    unfold v1
    exact State.emit_keep (.of hm) k0
  clear_value v1
  clear_value v2
  have h6 : Keep msk sa v3 := by
    unfold v3
    exact keep_mk 8388608 (.of hm) h5
  clear_value v3
  have h7 : Keep msk sa v4 := by
    unfold v4
    exact keep_mk 8388608 (.of hm) h5
  clear_value v4
  refine keep_ite ?_ ?_
  · intro x8
    refine keep_ite ?_ ?_
    · intro x9
      exact State.setRf_keep (.of hm) h6
    · intro x10
      exact h6
  · intro x11
    refine keep_ite ?_ ?_
    · intro x12
      exact h7
    · intro x13
      refine keep_ite ?_ ?_
      · intro x14
        exact State.incRf_keep (.of hm) h7
      · intro x15
        exact State.latchSnap_keep (.of hm) h7

theorem State.capture_keep {s : State} {a : Nat} {e : Err} {part : Option Nat} {d : Nat} (hm : Sub 16 msk) (k0 : Keep msk sa s) :
    Keep msk sa (@State.capture s a e part d) := by
  unfold State.capture
  extract_lets v0 v1
  have h2 : Keep msk sa v0 := by
    unfold v0
    exact State.setReg_keep (.of hm) k0
  clear_value v0
  have h3 : Keep msk sa v1 := by
    unfold v1
    exact State.setReg_keep (.of hm) h2
  clear_value v1
  exact State.setReg64_keep (.of hm) h3

theorem State.captures_keep {s : State} {e : Err} {part : Option Nat} {d : Nat} (hm : Sub 4194320 msk) (k0 : Keep msk sa s) :
    Keep msk sa (@State.captures s e part d) := by
  unfold State.captures
  extract_lets v0 v1 v2 v3 v4 v5 v6 v7 v8 v9 v10 v11
  clear_value v0
  clear_value v1
  clear_value v2
  clear_value v3
  have h12 : Keep msk sa v4 := by
    unfold v4
    exact State.capture_keep (.of hm) k0
  clear_value v4
  clear_value v5
  have h13 : Keep msk sa v6 := by
    unfold v6
    refine keep_ite ?_ ?_
    · intro x14
      exact keep_mk 4194304 (.of hm) h12
    · intro x15
      exact k0
  clear_value v6
  have h16 : Keep msk sa v7 := by
    unfold v7
    exact State.capture_keep (.of hm) h13
  clear_value v7
  clear_value v8
  have h17 : Keep msk sa v9 := by
    unfold v9
    refine keep_ite ?_ ?_
    · intro x18
      exact h13
    · intro x19
      exact keep_mk 4194304 (.of hm) h16
  clear_value v9
  have h20 : Keep msk sa v10 := by
    unfold v10
    exact State.capture_keep (.of hm) h17
  clear_value v10
  clear_value v11
  refine keep_ite ?_ ?_
  · intro x21
    exact keep_mk 4194304 (.of hm) h20
  · intro x22
    exact h17

theorem State.report_keep {s : State} {e : Err} {part : Option Nat} {detail : Nat} {detail2 : Nat} (hm : Sub 12582928 msk) (k0 : Keep msk sa s) :
    Keep msk sa (@State.report s e part detail detail2) := by
  unfold State.report
  extract_lets v0 v1 v2 v3 v4 v5 v6
  have h7 : Keep msk sa v0 := by
    unfold v0
    exact State.captures_keep (.of hm) k0
  clear_value v0
  clear_value v1
  have h8 : Keep msk sa v2 := by
    unfold v2
    refine keep_ite ?_ ?_
    · intro x9
      exact keep_mk 4194304 (.of hm) h7
    · intro x10
      exact State.incRf_keep (.of hm) h7
  clear_value v2
  have h11 : Keep msk sa v3 := by
    unfold v3
    split
    · rename_i z12 z13
      refine keep_ite ?_ ?_
      · intro x14
        exact State.setRf_keep (.of hm) h8
      · intro x15
        exact h8
    · rename_i z16
      exact h8
  clear_value v3
  have h17 : Keep msk sa v4 := by
    unfold v4
    refine keep_ite ?_ ?_
    · intro x18
      refine keep_ite ?_ ?_
      · intro x19
        exact State.setRf_keep (.of hm) h11
      · intro x20
        exact h11
    · intro x21
      exact h7
  clear_value v4
  clear_value v5
  have h22 : Keep msk sa v6 := by
    unfold v6
    exact State.trace_keep (.of hm) h17
  clear_value v6
  refine keep_ite ?_ ?_
  · intro x23
    exact State.fireSnap_keep (.of hm) h22
  · intro x24
    exact h22

theorem State.reportPlain_keep {s : State} {e : Err} {part : Option Nat} (hm : Sub 12582928 msk) (k0 : Keep msk sa s) :
    Keep msk sa (@State.reportPlain s e part) := by
  unfold State.reportPlain
  exact State.report_keep (.of hm) k0

theorem State.reportLink_keep {s : State} {e : Err} {link : Nat} (hm : Sub 12582928 msk) (k0 : Keep msk sa s) :
    Keep msk sa (@State.reportLink s e link) := by
  unfold State.reportLink
  exact State.report_keep (.of hm) k0

theorem State.reportCmd_keep {s : State} {e : Err} {part : Nat} {ctx : Nat} {q : Nat} {qseq : Nat} (hm : Sub 12582928 msk) (k0 : Keep msk sa s) :
    Keep msk sa (@State.reportCmd s e part ctx q qseq) := by
  unfold State.reportCmd
  exact State.report_keep (.of hm) k0

theorem State.reportNode_keep {s : State} {e : Err} {part : Nat} {tag : Nat} {launchId : Nat} (hm : Sub 12582928 msk) (k0 : Keep msk sa s) :
    Keep msk sa (@State.reportNode s e part tag launchId) := by
  unfold State.reportNode
  exact State.report_keep (.of hm) k0

theorem State.acct_keep {s : State} {p : Nat} {w : Nat} {n : Nat} (hm : Sub 64 msk) (k0 : Keep msk sa s) :
    Keep msk sa (@State.acct s p w n) := by
  unfold State.acct
  refine keep_ite ?_ ?_
  · intro x0
    exact State.addRam64_keep (.of hm) k0
  · intro x1
    exact k0

theorem State.mmSend_keep {s : State} {x : MmXfer} (hm : Sub 1049152 msk) (k0 : Keep msk sa s) :
    Keep msk sa (@State.mmSend s x) := by
  unfold State.mmSend
  split
  · rename_i z0 z1
    exact keep_mk 512 (.of hm) k0
  · rename_i z2 z3 z4
    extract_lets v5 v6 v7 v8 v9
    clear_value v5
    have h10 : Keep msk sa v6 := by
      unfold v6
      exact State.emit_keep (.of hm) k0
    clear_value v6
    have h11 : Keep msk sa v7 := by
      unfold v7
      exact State.acct_keep (.of hm) h10
    clear_value v7
    clear_value v8
    clear_value v9
    exact keep_mk 1049088 (.of hm) h11

theorem State.mmNext_keep {s : State} {x : MmXfer} (hm : Sub 13632080 msk) (k0 : Keep msk sa s) :
    KeepP msk sa (@State.mmNext s x) := by
  unfold State.mmNext
  refine keepP_ite ?_ ?_
  · intro x0
    exact keepP_mk (State.report_keep (.of hm) k0)
  · intro x1
    exact keepP_mk (State.mmSend_keep (.of hm) k0)

theorem State.mmStart_keep {s : State} {write : Bool} {addr : Nat} {beats : Nat} {part : Nat} {scope : Nat} {kind : Nat} {use : MmUse} {data : List (List Word × Nat)} (hm : Sub 13632080 msk) (k0 : Keep msk sa s) :
    KeepP msk sa (@State.mmStart s write addr beats part scope kind use data) := by
  unfold State.mmStart
  exact State.mmNext_keep (.of hm) k0

theorem State.mmRead_keep {s : State} {addr : Nat} {beats : Nat} {part : Nat} {scope : Nat} {kind : Nat} {use : MmUse} (hm : Sub 13632080 msk) (k0 : Keep msk sa s) :
    KeepP msk sa (@State.mmRead s addr beats part scope kind use) := by
  unfold State.mmRead
  exact State.mmStart_keep (.of hm) k0

theorem State.mmWrite_keep {s : State} {addr : Nat} {ws : List Word} {part : Nat} {scope : Nat} {kind : Nat} {use : MmUse} (hm : Sub 13632080 msk) (k0 : Keep msk sa s) :
    KeepP msk sa (@State.mmWrite s addr ws part scope kind use) := by
  unfold State.mmWrite
  extract_lets v0
  clear_value v0
  exact State.mmStart_keep (.of hm) k0

theorem State.mmRetry_keep {s : State} (hm : Sub 1049152 msk) (k0 : Keep msk sa s) :
    Keep msk sa (@State.mmRetry s) := by
  unfold State.mmRetry
  extract_lets v0 v1
  clear_value v0
  clear_value v1
  refine keep_foldl ?_ ?_
  · exact keep_mk 512 (.of hm) k0
  · intro x2 x3 x4
    exact State.mmSend_keep (.of hm) x4

theorem State.mmError_keep {s : State} {x : MmXfer} {status : Nat} (hm : Sub 12582928 msk) (k0 : Keep msk sa s) :
    Keep msk sa (@State.mmError s x status) := by
  unfold State.mmError
  exact State.report_keep (.of hm) k0

theorem State.updQueue_keep {s : State} {c : Nat} {q : Nat} {f : Queue → Queue} (hm : Sub 1024 msk) (k0 : Keep msk sa s) :
    Keep msk sa (@State.updQueue s c q f) := by
  unfold State.updQueue
  exact keep_mk 1024 (.of hm) k0

theorem State.updHead_keep {s : State} {c : Nat} {q : Nat} {f : Head → Head} (hm : Sub 1024 msk) (k0 : Keep msk sa s) :
    Keep msk sa (@State.updHead s c q f) := by
  unfold State.updHead
  exact keep_mk 1024 (.of hm) k0

theorem State.updCtx_keep {s : State} {c : Nat} {f : Context → Context} (hm : Sub 1024 msk) (k0 : Keep msk sa s) :
    Keep msk sa (@State.updCtx s c f) := by
  unfold State.updCtx
  exact keep_mk 1024 (.of hm) k0

theorem State.setCmpl_keep {s : State} {p : Nat} (hm : Sub 16 msk) (k0 : Keep msk sa s) :
    Keep msk sa (@State.setCmpl s p) := by
  unfold State.setCmpl
  exact State.setRf_keep (.of hm) k0

theorem State.complete_keep {s : State} {c : Nat} {q : Nat} {part : Nat} {qseq : Nat} {rep : Rep} {status : Nat} {result : optParam Nat 0} {flags : optParam Nat 0} (hm : Sub 13633104 msk) (k0 : Keep msk sa s) :
    Keep msk sa (@State.complete s c q part qseq rep status result flags) := by
  unfold State.complete
  extract_lets v0
  have h1 : Keep msk sa v0 := by
    unfold v0
    exact State.updQueue_keep (.of hm) k0
  clear_value v0
  refine keep_ite ?_ ?_
  · intro x2
    refine keep_ite ?_ ?_
    · intro x3
      exact State.setCmpl_keep (.of hm) h1
    · intro x4
      exact h1
  · intro x5
    exact keepP_fst (State.mmWrite_keep (.of hm) h1)

theorem State.setNd_keep {s : State} {n : Nat} {f : Fld} {v : Nat} (hm : Sub 64 msk) (k0 : Keep msk sa s) :
    Keep msk sa (@State.setNd s n f v) := by
  unfold State.setNd
  exact State.setRm_keep (.of hm) k0

theorem State.setDep_keep {s : State} {n : Nat} {v : Nat} (hm : Sub 64 msk) (k0 : Keep msk sa s) :
    Keep msk sa (@State.setDep s n v) := by
  unfold State.setDep
  exact State.setRam_keep (.of hm) k0

theorem State.freeNode_keep {s : State} {n : Nat} (hm : Sub 131264 msk) (k0 : Keep msk sa s) :
    Keep msk sa (@State.freeNode s n) := by
  unfold State.freeNode
  extract_lets v0 v1 v2
  clear_value v0
  clear_value v1
  have h3 : Keep msk sa v2 := by
    unfold v2
    exact keep_mk 131072 (.of hm) k0
  clear_value v2
  exact State.setRow_keep (.of hm) h3

theorem State.updLaunch_keep {s : State} {slot : Nat} {f : Launch → Launch} (hm : Sub 2048 msk) (k0 : Keep msk sa s) :
    Keep msk sa (@State.updLaunch s slot f) := by
  unfold State.updLaunch
  exact keep_mk 2048 (.of hm) k0

theorem State.setSl_keep {s : State} {slot : Nat} {f : Fld} {v : Nat} (hm : Sub 64 msk) (k0 : Keep msk sa s) :
    Keep msk sa (@State.setSl s slot f v) := by
  unfold State.setSl
  exact State.setRm_keep (.of hm) k0

theorem State.setLaunchState_keep {s : State} {slot : Nat} {st : Nat} (hm : Sub 8388688 msk) (k0 : Keep msk sa s) :
    Keep msk sa (@State.setLaunchState s slot st) := by
  unfold State.setLaunchState
  exact State.trace_keep (.of hm) (State.setSl_keep (.of hm) k0)

theorem State.updGen_keep {s : State} {tmpl : Nat} {gen : Nat} {f : Gen → Gen} (hm : Sub 2048 msk) (k0 : Keep msk sa s) :
    Keep msk sa (@State.updGen s tmpl gen f) := by
  unfold State.updGen
  exact keep_mk 2048 (.of hm) k0

/-! ### Machine/Front.lean -/

theorem State.dbgAdd64_keep {s : State} {k : Nat} {n : Nat} (hm : Sub 64 msk) (k0 : Keep msk sa s) :
    Keep msk sa (@State.dbgAdd64 s k n) := by
  unfold State.dbgAdd64
  refine keep_ite ?_ ?_
  · intro x0
    exact State.addRam64_keep (.of hm) k0
  · intro x1
    exact k0

theorem State.dbgAdd32_keep {s : State} {k : Nat} {n : Nat} (hm : Sub 64 msk) (k0 : Keep msk sa s) :
    Keep msk sa (@State.dbgAdd32 s k n) := by
  unfold State.dbgAdd32
  refine keep_ite ?_ ?_
  · intro x0
    exact State.setRam_keep (.of hm) k0
  · intro x1
    exact k0

theorem State.writeShadow_keep {s : State} {c : Nat} {q : Nat} (hm : Sub 13633104 msk) (k0 : Keep msk sa s) :
    Keep msk sa (@State.writeShadow s c q) := by
  unfold State.writeShadow
  split
  · rename_i z0 z1
    exact k0
  · rename_i z2 z3 z4
    extract_lets v5 v6
    clear_value v5
    have h7 : Keep msk sa v6 := by
      unfold v6
      exact State.updQueue_keep (.of hm) k0
    clear_value v6
    exact keepP_fst (State.mmWrite_keep (.of hm) h7)

theorem State.dropHead_keep {s : State} {c : Nat} {q : Nat} (hm : Sub 1024 msk) (k0 : Keep msk sa s) :
    Keep msk sa (@State.dropHead s c q) := by
  unfold State.dropHead
  exact keep_mk 1024 (.of hm) k0

theorem State.setQState_keep {s : State} {c : Nat} {q : Nat} {st : QState} (hm : Sub 1088 msk) (k0 : Keep msk sa s) :
    Keep msk sa (@State.setQState s c q st) := by
  unfold State.setQState
  split
  · rename_i z0 z1
    exact k0
  · rename_i z2 z3 z4
    extract_lets v5 v6 v7
    clear_value v5
    clear_value v6
    have h8 : Keep msk sa v7 := by
      unfold v7
      refine keep_ite ?_ ?_
      · intro x9
        exact State.dbgAdd64_keep (.of hm) k0
      · intro x10
        exact k0
    clear_value v7
    exact State.updQueue_keep (.of hm) h8

theorem State.makePending_keep {s : State} {c : Nat} {q : Nat} (hm : Sub 1088 msk) (k0 : Keep msk sa s) :
    Keep msk sa (@State.makePending s c q) := by
  unfold State.makePending
  extract_lets v0 v1 v2
  have h3 : Keep msk sa v0 := by
    unfold v0
    exact State.setQState_keep (.of hm) k0
  clear_value v0
  have h4 : Keep msk sa v1 := by
    unfold v1
    exact State.updQueue_keep (.of hm) h3
  clear_value v1
  clear_value v2
  exact keep_mk 1024 (.of hm) h4

theorem State.blockHead_keep {s : State} {c : Nat} {q : Nat} {w : Option WaitCond} (hm : Sub 1088 msk) (k0 : Keep msk sa s) :
    Keep msk sa (@State.blockHead s c q w) := by
  unfold State.blockHead
  exact State.updHead_keep (.of hm) (State.setQState_keep (.of hm) k0)

theorem State.dropSlow_keep {s : State} {c : Nat} {q : Nat} (hm : Sub 1024 msk) (k0 : Keep msk sa s) :
    Keep msk sa (@State.dropSlow s c q) := by
  unfold State.dropSlow
  exact keep_mk 1024 (.of hm) k0

theorem State.fetchMore_keep {s : State} {c : Nat} {q : Nat} (hm : Sub 13633104 msk) (k0 : Keep msk sa s) :
    Keep msk sa (@State.fetchMore s c q) := by
  unfold State.fetchMore
  split
  · rename_i z0 z1 z2 z3 z4 z5
    extract_lets v6 v7 v8 v9 v10 v11 v12 v13 v14
    clear_value v6
    clear_value v7
    clear_value v8
    clear_value v9
    clear_value v10
    clear_value v11
    clear_value v12
    have h15 : Keep msk sa v14 := by
      unfold v14
      exact State.updHead_keep (.of hm) k0
    clear_value v14
    refine keep_ite ?_ ?_
    · intro x16
      exact k0
    · intro x17
      unfold v13
      refine keep_ite ?_ ?_
      · intro x18
        refine keep_ite ?_ ?_
        · intro x19
          exact h15
        · intro x20
          exact keepP_fst (State.mmRead_keep (.of hm) h15)
      · intro x21
        refine keepP_fst ?_
        refine State.mmRead_keep (.of hm) ?_
        refine keep_ite ?_ ?_
        · intro x22
          exact h15
        · intro x23
          exact keepP_fst (State.mmRead_keep (.of hm) h15)
  · rename_i z24 z25 z26
    exact k0

theorem State.consume_keep {s : State} {c : Nat} {q : Nat} (hm : Sub 13633104 msk) (k0 : Keep msk sa s) :
    Keep msk sa (@State.consume s c q) := by
  unfold State.consume
  split
  · rename_i z0 z1
    exact k0
  · rename_i z2 z3 z4
    extract_lets v5 v6 v7 v8 v9
    have h10 : Keep msk sa v5 := by
      unfold v5
      exact State.dropSlow_keep (.of hm) k0
    clear_value v5
    have h11 : Keep msk sa v6 := by
      unfold v6
      exact State.updQueue_keep (.of hm) h10
    clear_value v6
    have h12 : Keep msk sa v7 := by
      unfold v7
      exact State.dbgAdd32_keep (.of hm) h11
    clear_value v7
    have h13 : Keep msk sa v8 := by
      unfold v8
      exact State.updHead_keep (.of hm) h12
    clear_value v8
    clear_value v9
    refine keep_ite ?_ ?_
    · intro x14
      exact h13
    · intro x15
      refine keep_ite ?_ ?_
      · intro x16
        exact State.dropHead_keep (.of hm) (State.setQState_keep (.of hm) h13)
      · intro x17
        refine keep_ite ?_ ?_
        · intro x18
          exact State.makePending_keep (.of hm) (State.dropHead_keep (.of hm) h13)
        · intro x19
          exact State.fetchMore_keep (.of hm) (State.setQState_keep (.of hm) h13)

theorem State.finishHead_keep {s : State} {c : Nat} {q : Nat} {pkt : List Word} {status : Nat} {result : optParam Nat 0} (hm : Sub 13633104 msk) (k0 : Keep msk sa s) :
    Keep msk sa (@State.finishHead s c q pkt status result) := by
  unfold State.finishHead
  extract_lets v0
  clear_value v0
  exact State.complete_keep (.of hm) (State.consume_keep (.of hm) k0)

theorem State.refuse_keep {s : State} {c : Nat} {q : Nat} {pkt : List Word} {e : Err} {result : optParam Nat 0} (hm : Sub 13633104 msk) (k0 : Keep msk sa s) :
    Keep msk sa (@State.refuse s c q pkt e result) := by
  unfold State.refuse
  extract_lets v0
  have h1 : Keep msk sa v0 := by
    unfold v0
    exact State.reportCmd_keep (.of hm) k0
  clear_value v0
  exact State.finishHead_keep (.of hm) h1

theorem State.faultQueue_keep {s : State} {c : Nat} {q : Nat} {code : Nat} (hm : Sub 13635152 msk) (k0 : Keep msk sa s) :
    Keep msk sa (@State.faultQueue s c q code) := by
  unfold State.faultQueue
  split
  · rename_i z0 z1
    exact k0
  · rename_i z2 z3 z4
    extract_lets v5 v6 v7 v8 v9 v10 v11 v12
    clear_value v5
    have h13 : Keep msk sa v6 := by
      unfold v6
      refine keep_foldl ?_ ?_
      · exact k0
      · intro x14 x15 x16
        exact State.complete_keep (.of hm) (State.reportCmd_keep (.of hm) x16)
    clear_value v6
    have h17 : Keep msk sa v7 := by
      unfold v7
      exact State.setQState_keep (.of hm) h13
    clear_value v7
    have h18 : Keep msk sa v8 := by
      unfold v8
      exact State.updQueue_keep (.of hm) h17
    clear_value v8
    have h19 : Keep msk sa v9 := by
      unfold v9
      exact State.dropSlow_keep (.of hm) (State.dropHead_keep (.of hm) h18)
    clear_value v9
    clear_value v10
    have h20 : Keep msk sa v11 := by
      unfold v11
      exact keep_mk 2048 (.of hm) h19
    clear_value v11
    have h21 : Keep msk sa v12 := by
      unfold v12
      exact State.setRf_keep (.of hm) h20
    clear_value v12
    exact State.writeShadow_keep (.of hm) h21

theorem State.updEvent_keep {s : State} {i : Nat} {f : Event → Event} (hm : Sub 1024 msk) (k0 : Keep msk sa s) :
    Keep msk sa (@State.updEvent s i f) := by
  unfold State.updEvent
  exact keep_mk 1024 (.of hm) k0

theorem State.reportRow_keep {s : State} {e : Err} {sev : Nat} {part : Option Nat} {kind : Nat} {idx : Nat} {word : Nat} (hm : Sub 12582928 msk) (k0 : Keep msk sa s) :
    Keep msk sa (@State.reportRow s e sev part kind idx word) := by
  unfold State.reportRow
  exact State.report_keep (.of hm) k0

theorem State.corrected_keep {s : State} {k : Nat} {n : Nat} {part : Option Nat} {kind : Nat} {idx : Nat} (hm : Sub 12583056 msk) (k0 : Keep msk sa s) :
    Keep msk sa (@State.corrected s k n part kind idx) := by
  unfold State.corrected
  refine keep_foldl ?_ ?_
  · exact k0
  · intro x0 x1 x2
    exact State.reportRow_keep (.of hm) (keep_mk 128 (.of hm) x2)

theorem State.readNode_keep {s : State} {n : Nat} (hm : Sub 12583056 msk) (k0 : Keep msk sa s) :
    Keep msk sa (@State.readNode s n) := by
  unfold State.readNode
  exact State.corrected_keep (.of hm) k0

theorem State.checkEvent_keep {s : State} {e : Event} (hm : Sub 12583056 msk) (k0 : Keep msk sa s) :
    KeepP msk sa (@State.checkEvent s e) := by
  unfold State.checkEvent
  extract_lets v0
  have h1 : Keep msk sa v0 := by
    unfold v0
    exact State.corrected_keep (.of hm) k0
  clear_value v0
  split
  · rename_i z2 z3 z4
    exact keepP_mk (State.reportRow_keep (.of hm) h1)
  · rename_i z5 z6
    exact keepP_mk h1

theorem State.scanParked_keep {s : State} (hm : Sub 1088 msk) (k0 : Keep msk sa s) :
    Keep msk sa (@State.scanParked s) := by
  unfold State.scanParked
  refine keep_foldl ?_ ?_
  · exact k0
  · intro x0 x1 x2
    exact State.makePending_keep (.of hm) x2

theorem State.storeEvent_keep {s : State} {e : Event} {v : Nat} (hm : Sub 8389712 msk) (k0 : Keep msk sa s) :
    Keep msk sa (@State.storeEvent s e v) := by
  unfold State.storeEvent
  extract_lets v0 v1
  have h2 : Keep msk sa v0 := by
    unfold v0
    exact State.updEvent_keep (.of hm) k0
  clear_value v0
  have h3 : Keep msk sa v1 := by
    unfold v1
    exact State.trace_keep (.of hm) h2
  clear_value v1
  exact State.scanParked_keep (.of hm) h3

/-! ### Machine/LinkOps.lean -/

theorem State.updLink_keep {s : State} {i : Nat} {f : Link → Link} (hm : Sub 8192 msk) (k0 : Keep msk sa s) :
    Keep msk sa (@State.updLink s i f) := by
  unfold State.updLink
  extract_lets v0 v1
  clear_value v0
  clear_value v1
  exact keep_mk 8192 (.of hm) k0

theorem State.updLinks_keep {s : State} {f : Link → Link} (hm : Sub 8192 msk) (k0 : Keep msk sa s) :
    Keep msk sa (@State.updLinks s f) := by
  unfold State.updLinks
  exact keep_mk 8192 (.of hm) k0

theorem State.setFifo_keep {s : State} {c : Nat} {q : List CmpRec} (hm : Sub 8192 msk) (k0 : Keep msk sa s) :
    Keep msk sa (@State.setFifo s c q) := by
  unfold State.setFifo
  exact keep_mk 8192 (.of hm) k0

theorem State.endLinkCmd_keep {s : State} {i : Nat} {f : RF} (hm : Sub 16 msk) (k0 : Keep msk sa s) :
    Keep msk sa (@State.endLinkCmd s i f) := by
  unfold State.endLinkCmd
  refine keep_ite ?_ ?_
  · intro x0
    exact State.setRf_keep (.of hm) (State.setRf_keep (.of hm) k0)
  · intro x1
    exact k0

theorem State.driveCtrl_keep {s : State} {i : Nat} {c : Ctrl} (hm : Sub 8208 msk) (k0 : Keep msk sa s) :
    Keep msk sa (@State.driveCtrl s i c) := by
  unfold State.driveCtrl
  extract_lets v0 v1 v2 v3
  clear_value v0
  clear_value v1
  have h4 : Keep msk sa v2 := by
    unfold v2
    exact State.emit_keep (.of hm) k0
  clear_value v2
  have h5 : Keep msk sa v3 := by
    unfold v3
    exact State.updLink_keep (.of hm) h4
  clear_value v3
  refine keep_ite ?_ ?_
  · intro x6
    exact State.endLinkCmd_keep (.of hm) h5
  · intro x7
    exact h5

theorem State.sendCtrl_keep {s : State} {i : Nat} {rectype : Nat} {node : Nat} {ngen : Nat} {byCmd : Bool} (hm : Sub 8208 msk) (k0 : Keep msk sa s) :
    Keep msk sa (@State.sendCtrl s i rectype node ngen byCmd) := by
  unfold State.sendCtrl
  extract_lets v0 v1
  clear_value v0
  clear_value v1
  refine keep_ite ?_ ?_
  · intro x2
    exact State.driveCtrl_keep (.of hm) k0
  · intro x3
    exact State.updLink_keep (.of hm) k0

theorem State.nextCtrl_keep {s : State} {i : Nat} (hm : Sub 8208 msk) (k0 : Keep msk sa s) :
    Keep msk sa (@State.nextCtrl s i) := by
  unfold State.nextCtrl
  extract_lets v0
  clear_value v0
  refine keep_ite ?_ ?_
  · intro x1
    exact k0
  · intro x2
    split
    · rename_i z3 z4
      exact k0
    · rename_i z5 z6 z7 z8
      exact State.driveCtrl_keep (.of hm) (State.updLink_keep (.of hm) k0)

theorem State.wakeLink_keep {s : State} {i : Nat} (hm : Sub 8192 msk) (k0 : Keep msk sa s) :
    Keep msk sa (@State.wakeLink s i) := by
  unfold State.wakeLink
  refine keep_ite ?_ ?_
  · intro x0
    extract_lets v1
    have h2 : Keep msk sa v1 := by
      unfold v1
      exact State.emit_keep (.of hm) k0
    clear_value v1
    exact State.updLink_keep (.of hm) h2
  · intro x3
    exact k0

theorem State.cmpCredit_keep {s : State} {i : Nat} {n : Nat} (hm : Sub 0 msk) (k0 : Keep msk sa s) :
    Keep msk sa (@State.cmpCredit s i n) := by
  unfold State.cmpCredit
  refine keep_ite ?_ ?_
  · intro x0
    exact k0
  · intro x1
    exact State.emit_keep (.of hm) k0

theorem State.dropTask_keep {s : State} {i : Nat} {node : Nat} {ngen : Nat} (hm : Sub 8192 msk) (k0 : Keep msk sa s) :
    Keep msk sa (@State.dropTask s i node ngen) := by
  unfold State.dropTask
  exact State.updLink_keep (.of hm) k0

theorem State.clearIrq_keep {s : State} {i : Nat} (hm : Sub 8192 msk) (k0 : Keep msk sa s) :
    Keep msk sa (@State.clearIrq s i) := by
  unfold State.clearIrq
  refine keep_ite ?_ ?_
  · intro x0
    exact k0
  · intro x1
    exact State.emit_keep (.of hm) (State.updLink_keep (.of hm) k0)

theorem State.killOn_keep {s : State} {i : Nat} {t : OutTask} {why : Nat} (hm : Sub 8208 msk) (k0 : Keep msk sa s) :
    Keep msk sa (@State.killOn s i t why) := by
  unfold State.killOn
  refine keep_ite ?_ ?_
  · intro x0
    exact k0
  · intro x1
    extract_lets v2
    have h3 : Keep msk sa v2 := by
      unfold v2
      exact State.updLink_keep (.of hm) k0
    clear_value v2
    exact State.sendCtrl_keep (.of hm) h3

theorem State.killTask_keep {s : State} {node : Nat} {ngen : Nat} {why : Nat} (hm : Sub 8208 msk) (k0 : Keep msk sa s) :
    Keep msk sa (@State.killTask s node ngen why) := by
  unfold State.killTask
  split
  · rename_i z0 z1
    exact k0
  · rename_i z2 z3 z4 z5
    exact State.killOn_keep (.of hm) k0

theorem State.chargeTask_keep {s : State} {i : Nat} {t : OutTask} {endGc : Nat} {ok : Bool} {terminal : Bool} (hm : Sub 64 msk) (k0 : Keep msk sa s) :
    Keep msk sa (@State.chargeTask s i t endGc ok terminal) := by
  unfold State.chargeTask
  extract_lets v0 v1 v2 v3
  clear_value v0
  have h4 : Keep msk sa v1 := by
    unfold v1
    exact State.acct_keep (.of hm) k0
  clear_value v1
  have h5 : Keep msk sa v2 := by
    unfold v2
    refine keep_ite ?_ ?_
    · intro x6
      exact h4
    · intro x7
      exact State.acct_keep (.of hm) h4
  clear_value v2
  have h8 : Keep msk sa v3 := by
    unfold v3
    exact State.dbgAdd64_keep (.of hm) h5
  clear_value v3
  refine keep_ite ?_ ?_
  · intro x9
    refine keep_ite ?_ ?_
    · intro x10
      exact h8
    · intro x11
      exact State.dbgAdd32_keep (.of hm) h8
  · intro x12
    exact h5

theorem State.dropWait_keep {s : State} {w : WaitFor} (hm : Sub 16384 msk) (k0 : Keep msk sa s) :
    Keep msk sa (@State.dropWait s w) := by
  unfold State.dropWait
  exact keep_mk 16384 (.of hm) k0

theorem State.touchSem_keep {s : State} {i : Nat} (hm : Sub 16384 msk) (k0 : Keep msk sa s) :
    Keep msk sa (@State.touchSem s i) := by
  unfold State.touchSem
  extract_lets v0 v1
  clear_value v0
  clear_value v1
  exact keep_mk 16384 (.of hm) k0

theorem State.endWait_keep {s : State} {w : WaitFor} (hm : Sub 16384 msk) (k0 : Keep msk sa s) :
    Keep msk sa (@State.endWait s w) := by
  unfold State.endWait
  refine State.dropWait_keep (.of hm) ?_
  refine keep_foldl ?_ ?_
  · exact k0
  · intro x0 x1 x2
    exact State.touchSem_keep (.of hm) x2

theorem State.freeBind_keep {s : State} {i : Nat} (hm : Sub 16384 msk) (k0 : Keep msk sa s) :
    Keep msk sa (@State.freeBind s i) := by
  unfold State.freeBind
  extract_lets v0 v1
  have h2 : Keep msk sa v0 := by
    unfold v0
    exact State.endWait_keep (.of hm) k0
  clear_value v0
  clear_value v1
  exact keep_mk 16384 (.of hm) h2

/-! ### Machine/FabOps.lean -/

theorem State.holdCredits_keep {s : State} (hm : Sub 67108864 msk) (k0 : Keep msk sa s) :
    Keep msk sa (@State.holdCredits s) := by
  unfold State.holdCredits
  extract_lets v0 v1
  clear_value v1
  exact keep_mk 67108864 (.of hm) k0

theorem State.settleCredits_keep {s : State} (hm : Sub 67108864 msk) (k0 : Keep msk sa s) :
    Keep msk sa (@State.settleCredits s) := by
  unfold State.settleCredits
  extract_lets v0 v1 v2 v3
  have h4 : Keep msk sa v0 := by
    unfold v0
    exact State.holdCredits_keep (.of hm) k0
  clear_value v0
  clear_value v1
  have h5 : Keep msk sa v2 := by
    unfold v2
    exact State.emit_keep (.of hm) h4
  clear_value v2
  clear_value v3
  refine keep_ite ?_ ?_
  · intro x6
    exact h4
  · intro x7
    exact keep_mk 67108864 (.of hm) h5

theorem State.fabBytes_keep {s : State} {fl : List Word} (hm : Sub 64 msk) (k0 : Keep msk sa s) :
    Keep msk sa (@State.fabBytes s fl) := by
  unfold State.fabBytes
  exact State.acct_keep (.of hm) k0

theorem State.traceRemote_keep {s : State} {type : Nat} {sent : Bool} {dev : Nat} {part : Nat} (hm : Sub 8388624 msk) (k0 : Keep msk sa s) :
    Keep msk sa (@State.traceRemote s type sent dev part) := by
  unfold State.traceRemote
  exact State.trace_keep (.of hm) k0

theorem State.pumpFab_keep {s : State} (hm : Sub 67108928 msk) (k0 : Keep msk sa s) :
    Keep msk sa (@State.pumpFab s) := by
  unfold State.pumpFab
  extract_lets v0 v1 v2 v3 v4
  clear_value v0
  clear_value v1
  have h5 : Keep msk sa v3 := by
    unfold v3
    refine keep_foldl ?_ ?_
    · refine keep_foldl ?_ ?_
      · exact k0
      · intro x6 x7 x8
        unfold v2
        exact State.emit_keep (.of hm) (State.fabBytes_keep (.of hm) x8)
    · intro x9 x10 x11
      unfold v2
      exact State.emit_keep (.of hm) (State.fabBytes_keep (.of hm) x11)
  clear_value v3
  clear_value v4
  exact keep_mk 67108864 (.of hm) h5

theorem State.sendFlits_keep {s : State} {rep : Bool} {fs : List (List Word)} (hm : Sub 75497552 msk) (k0 : Keep msk sa s) :
    Keep msk sa (@State.sendFlits s rep fs) := by
  unfold State.sendFlits
  extract_lets v0 v1
  have h2 : Keep msk sa v0 := by
    unfold v0
    split
    · rename_i z3 z4 z5
      exact State.traceRemote_keep (.of hm) k0
    · rename_i z6
      exact k0
  clear_value v0
  clear_value v1
  exact State.pumpFab_keep (.of hm) (keep_mk 67108864 (.of hm) h2)

theorem State.replyFlit_keep {s : State} {req : List Word} {nack : Bool} {payload : List Word} (hm : Sub 75497552 msk) (k0 : Keep msk sa s) :
    Keep msk sa (@State.replyFlit s req nack payload) := by
  unfold State.replyFlit
  exact State.sendFlits_keep (.of hm) k0

theorem State.reportSignal_keep {s : State} {who : Option SigFor} {part : Nat} {e : Err} (hm : Sub 12582928 msk) (k0 : Keep msk sa s) :
    Keep msk sa (@State.reportSignal s who part e) := by
  unfold State.reportSignal
  split
  · rename_i z0
    exact State.reportPlain_keep (.of hm) k0
  · rename_i z1 z2
    exact State.reportNode_keep (.of hm) k0
  · rename_i z3 z4 z5 z6 z7
    exact State.reportCmd_keep (.of hm) k0

theorem State.applySignal_keep {s : State} {who : Option SigFor} {h : Nat} {part : Nat} {max : Bool} {v : Nat} (hm : Sub 12584144 msk) (k0 : Keep msk sa s) :
    KeepP msk sa (@State.applySignal s who h part max v) := by
  unfold State.applySignal
  split
  · rename_i z0 z1 z2
    exact keepP_mk (State.reportSignal_keep (.of hm) k0)
  · rename_i z3 z4 z5
    refine keepP_ite ?_ ?_
    · intro x6
      exact keepP_mk (State.reportSignal_keep (.of hm) k0)
    · intro x7
      split
      · rename_i z8 z9 z10 z11
        have h12 : Keep msk sa z9 := by
          refine keepP_eq z11 ?_
          exact State.checkEvent_keep (.of hm) k0
        exact keepP_mk h12
      · rename_i z13 z14 z15
        have h16 : Keep msk sa z14 := by
          refine keepP_eq z15 ?_
          exact State.checkEvent_keep (.of hm) k0
        split
        · rename_i z17 z18 z19 z20
          extract_lets v21
          have h22 : Keep msk sa v21 := by
            unfold v21
            exact State.storeEvent_keep (.of hm) h16
          clear_value v21
          refine keepP_ite ?_ ?_
          · intro x23
            exact keepP_mk (State.reportSignal_keep (.of hm) h22)
          · intro x24
            exact keepP_mk h22

theorem State.startSignal_keep {s : State} {who : SigFor} {dev : Nat} {h : Nat} {max : Bool} {v : Nat} {part : Nat} (hm : Sub 79693008 msk) (k0 : Keep msk sa s) :
    KeepP msk sa (@State.startSignal s who dev h max v part) := by
  unfold State.startSignal
  refine keepP_ite ?_ ?_
  · intro x0
    split
    · rename_i z1 z2 z3 z4 z5
      have h6 : Keep msk sa z2 := by
        refine keepP_eq z5 ?_
        exact State.applySignal_keep (.of hm) k0
      exact keepP_mk h6
  · intro x7
    refine keepP_ite ?_ ?_
    · intro x8
      exact keepP_mk (State.reportSignal_keep (.of hm) k0)
    · intro x9
      extract_lets v10 v11 v12
      clear_value v10
      clear_value v11
      have h13 : Keep msk sa v12 := by
        unfold v12
        exact keep_mk 1024 (.of hm) k0
      clear_value v12
      exact keepP_mk (State.sendFlits_keep (.of hm) h13)

/-! ### Machine/Chaff.lean -/

theorem State.chaff_keep {s : State} {p : Nat} {n : Nat} (hm : Sub 16 msk) (k0 : Keep msk sa s) :
    Keep msk sa (@State.chaff s p n) := by
  unfold State.chaff
  refine keep_ite ?_ ?_
  · intro x0
    exact State.incRf_keep (.of hm) k0
  · intro x1
    exact k0

theorem State.updStookX_keep {s : State} {k : Nat} {f : StookX → StookX} (hm : Sub 32768 msk) (k0 : Keep msk sa s) :
    Keep msk sa (@State.updStookX s k f) := by
  unfold State.updStookX
  exact keep_mk 32768 (.of hm) k0

theorem State.clearRound_keep {s : State} {k : Nat} (hm : Sub 32832 msk) (k0 : Keep msk sa s) :
    Keep msk sa (@State.clearRound s k) := by
  unfold State.clearRound
  extract_lets v0
  have h1 : Keep msk sa v0 := by
    unfold v0
    exact State.setRm_keep (.of hm) (State.setRam64_keep (.of hm) k0)
  clear_value v0
  exact State.updStookX_keep (.of hm) (State.setRm_keep (.of hm) h1)

theorem State.endRounds_keep {s : State} {tag : Nat} (hm : Sub 32848 msk) (k0 : Keep msk sa s) :
    Keep msk sa (@State.endRounds s tag) := by
  unfold State.endRounds
  refine keep_foldl ?_ ?_
  · exact k0
  · intro x0 x1 x2
    exact State.clearRound_keep (.of hm) (State.chaff_keep (.of hm) x2)

/-! ### Machine/EraOps.lean -/

theorem State.updEraStep_keep {s : State} {tag : Nat} {f : EraStep → EraStep} (hm : Sub 131072 msk) (k0 : Keep msk sa s) :
    Keep msk sa (@State.updEraStep s tag f) := by
  unfold State.updEraStep
  exact keep_mk 131072 (.of hm) k0

theorem State.dropEraSteps_keep {s : State} {p : Nat → Bool} (hm : Sub 131072 msk) (k0 : Keep msk sa s) :
    Keep msk sa (@State.dropEraSteps s p) := by
  unfold State.dropEraSteps
  exact keep_mk 131072 (.of hm) k0

theorem State.reportRouter_keep {s : State} {n : Nat} (hm : Sub 131072 msk) (k0 : Keep msk sa s) :
    Keep msk sa (@State.reportRouter s n) := by
  unfold State.reportRouter
  split
  · rename_i z0 z1
    exact k0
  · rename_i z2 z3 z4
    extract_lets v5 v6 v7 v8 v9
    clear_value v5
    clear_value v6
    clear_value v7
    have h10 : Keep msk sa v8 := by
      unfold v8
      exact State.updEraStep_keep (.of hm) k0
    clear_value v8
    clear_value v9
    refine keep_ite ?_ ?_
    · intro x11
      exact keep_mk 131072 (.of hm) h10
    · intro x12
      exact h10

theorem State.dropDeadJobs_keep {s : State} (hm : Sub 131072 msk) (k0 : Keep msk sa s) :
    Keep msk sa (@State.dropDeadJobs s) := by
  unfold State.dropDeadJobs
  exact keep_mk 131072 (.of hm) k0

theorem State.fixStep_keep {s : State} {slot : Nat} (hm : Sub 131072 msk) (k0 : Keep msk sa s) :
    Keep msk sa (@State.fixStep s slot) := by
  unfold State.fixStep
  extract_lets v0 v1 v2 v3
  clear_value v0
  clear_value v1
  clear_value v2
  clear_value v3
  exact State.updEraStep_keep (.of hm) k0

theorem State.setMark_keep {s : State} {n : Nat} (hm : Sub 131072 msk) (k0 : Keep msk sa s) :
    Keep msk sa (@State.setMark s n) := by
  unfold State.setMark
  refine keep_ite ?_ ?_
  · intro x0
    exact keep_mk 131072 (.of hm) k0
  · intro x1
    exact k0

/-! ### Machine/Graph.lean -/

theorem State.decRf_keep {s : State} {f : RF} {n : Nat} (hm : Sub 16 msk) (k0 : Keep msk sa s) :
    Keep msk sa (@State.decRf s f n) := by
  unfold State.decRf
  exact State.setRf_keep (.of hm) k0

theorem State.setReaders_keep {s : State} {tmpl : Nat} {gen : Nat} {n : Nat} (hm : Sub 2112 msk) (k0 : Keep msk sa s) :
    Keep msk sa (@State.setReaders s tmpl gen n) := by
  unfold State.setReaders
  extract_lets v0
  have h1 : Keep msk sa v0 := by
    unfold v0
    exact State.updGen_keep (.of hm) k0
  clear_value v0
  split
  · rename_i z2 z3 z4
    refine keep_ite ?_ ?_
    · intro x5
      exact h1
    · intro x6
      exact State.setRm_keep (.of hm) h1
  · rename_i z7 z8
    exact h1

theorem State.releaseTmpl_keep {s : State} {part : Nat} {nodeBase : Nat} {nodeCount : Nat} {edgeBase : Nat} {edgeCount : Nat} (hm : Sub 133328 msk) (k0 : Keep msk sa s) :
    Keep msk sa (@State.releaseTmpl s part nodeBase nodeCount edgeBase edgeCount) := by
  unfold State.releaseTmpl
  extract_lets v0 v1 v2 v3 v4
  have h5 : Keep msk sa v0 := by
    unfold v0
    refine keep_foldl ?_ ?_
    · exact k0
    · intro x6 x7 x8
      exact State.freeNode_keep (.of hm) x8
  clear_value v0
  clear_value v1
  clear_value v2
  clear_value v3
  have h9 : Keep msk sa v4 := by
    unfold v4
    exact keep_mk 2048 (.of hm) h5
  clear_value v4
  exact State.decRf_keep (.of hm) h9

theorem State.tryFreeGen_keep {s : State} {tmpl : Nat} {gen : Nat} (hm : Sub 133328 msk) (k0 : Keep msk sa s) :
    Keep msk sa (@State.tryFreeGen s tmpl gen) := by
  unfold State.tryFreeGen
  split
  · rename_i z0 z1 z2
    refine keep_ite ?_ ?_
    · intro x3
      extract_lets v4 v5
      have h6 : Keep msk sa v4 := by
        unfold v4
        exact State.releaseTmpl_keep (.of hm) k0
      clear_value v4
      clear_value v5
      exact keep_mk 2048 (.of hm) h6
    · intro x7
      exact k0
  · rename_i z8 z9
    exact k0

theorem State.dropReader_keep {s : State} {tmpl : Nat} {gen : Nat} (hm : Sub 133328 msk) (k0 : Keep msk sa s) :
    Keep msk sa (@State.dropReader s tmpl gen) := by
  unfold State.dropReader
  split
  · rename_i z0 z1 z2
    exact State.tryFreeGen_keep (.of hm) (State.setReaders_keep (.of hm) k0)
  · rename_i z3 z4
    exact k0

theorem State.insertReady_keep {s : State} {n : Nat} (hm : Sub 8392708 msk) (k0 : Keep msk sa s) :
    Keep msk sa (@State.insertReady s n) := by
  unfold State.insertReady
  extract_lets v0 v1 v2
  clear_value v0
  clear_value v1
  clear_value v2
  exact State.decision_keep (.of hm) (keep_mk 4100 (.of hm) k0)

theorem State.makeReady_keep {s : State} {n : Nat} {src : Nat} (hm : Sub 8392772 msk) (k0 : Keep msk sa s) :
    Keep msk sa (@State.makeReady s n src) := by
  unfold State.makeReady
  extract_lets v0 v1 v2
  have h3 : Keep msk sa v0 := by
    unfold v0
    exact State.setNd_keep (.of hm) k0
  clear_value v0
  clear_value v1
  clear_value v2
  refine keep_ite ?_ ?_
  · intro x4
    exact State.insertReady_keep (.of hm) (keep_mk 4 (.of hm) h3)
  · intro x5
    exact keep_mk 4096 (.of hm) h3

theorem State.drainInserts_keep {s : State} (hm : Sub 8392708 msk) (k0 : Keep msk sa s) :
    Keep msk sa (@State.drainInserts s) := by
  unfold State.drainInserts
  extract_lets v0 v1
  clear_value v0
  clear_value v1
  refine keep_foldl ?_ ?_
  · exact keep_mk 4096 (.of hm) k0
  · intro x2 x3 x4
    exact State.insertReady_keep (.of hm) x4

theorem State.setBp_keep {s : State} (hm : Sub 4096 msk) (k0 : Keep msk sa s) :
    Keep msk sa (@State.setBp s) := by
  unfold State.setBp
  extract_lets v0 v1 v2
  clear_value v0
  clear_value v1
  clear_value v2
  exact keep_mk 4096 (.of hm) k0

theorem State.enterWalk_keep {s : State} {n : Nat} {skip : Bool} (hm : Sub 4160 msk) (k0 : Keep msk sa s) :
    Keep msk sa (@State.enterWalk s n skip) := by
  unfold State.enterWalk
  extract_lets v0 v1
  have h2 : Keep msk sa v0 := by
    unfold v0
    exact State.setNd_keep (.of hm) k0
  clear_value v0
  clear_value v1
  exact State.setBp_keep (.of hm) (keep_mk 4096 (.of hm) h2)

theorem State.emptySlots_keep {s : State} {f : State → Nat → Bool} (hm : Sub 16 msk) (k0 : Keep msk sa s) :
    Keep msk sa (@State.emptySlots s f) := by
  unfold State.emptySlots
  refine keep_foldl ?_ ?_
  · exact k0
  · intro x0 x1 x2
    refine keep_ite ?_ ?_
    · intro x3
      exact State.setReg_keep (.of hm) x2
    · intro x4
      exact x2

theorem State.cleanSlots_keep {s : State} (hm : Sub 16 msk) (k0 : Keep msk sa s) :
    Keep msk sa (@State.cleanSlots s) := by
  unfold State.cleanSlots
  exact State.emptySlots_keep (.of hm) k0

theorem State.dropReady_keep {s : State} {n : Nat} (hm : Sub 4112 msk) (k0 : Keep msk sa s) :
    Keep msk sa (@State.dropReady s n) := by
  unfold State.dropReady
  exact State.emptySlots_keep (.of hm) (keep_mk 4096 (.of hm) k0)

theorem State.skipNow_keep {s : State} {n : Nat} (hm : Sub 135248 msk) (k0 : Keep msk sa s) :
    Keep msk sa (@State.skipNow s n) := by
  unfold State.skipNow
  extract_lets v0 v1
  clear_value v0
  have h2 : Keep msk sa v1 := by
    unfold v1
    exact State.setMark_keep (.of hm) k0
  clear_value v1
  refine keep_ite ?_ ?_
  · intro x3
    exact State.enterWalk_keep (.of hm) (State.dropReady_keep (.of hm) h2)
  · intro x4
    exact h2

theorem State.skipWalk_keep {s : State} {n : Nat} (hm : Sub 135248 msk) (k0 : Keep msk sa s) :
    Keep msk sa (@State.skipWalk s n) := by
  unfold State.skipWalk
  refine keep_ite ?_ ?_
  · intro x0
    exact keep_mk 4096 (.of hm) k0
  · intro x1
    exact State.skipNow_keep (.of hm) k0

theorem State.drainSkips_keep {s : State} (hm : Sub 135248 msk) (k0 : Keep msk sa s) :
    Keep msk sa (@State.drainSkips s) := by
  unfold State.drainSkips
  refine keep_foldl ?_ ?_
  · exact keep_mk 4096 (.of hm) k0
  · intro x0 x1 x2
    refine keep_ite ?_ ?_
    · intro x3
      exact keep_mk 4096 (.of hm) x2
    · intro x4
      exact State.skipNow_keep (.of hm) x2

theorem State.release_keep {s : State} {n : Nat} {src : Nat} (hm : Sub 8523860 msk) (k0 : Keep msk sa s) :
    Keep msk sa (@State.release s n src) := by
  unfold State.release
  refine keep_ite ?_ ?_
  · intro x0
    exact State.enterWalk_keep (.of hm) k0
  · intro x1
    refine keep_ite ?_ ?_
    · intro x2
      exact State.skipWalk_keep (.of hm) (State.decision_keep (.of hm) (State.setNd_keep (.of hm) k0))
    · intro x3
      exact State.makeReady_keep (.of hm) k0

theorem State.markSkip_keep {s : State} {n : Nat} (hm : Sub 135248 msk) (k0 : Keep msk sa s) :
    Keep msk sa (@State.markSkip s n) := by
  unfold State.markSkip
  refine keep_ite ?_ ?_
  · intro x0
    exact State.skipWalk_keep (.of hm) k0
  · intro x1
    exact State.setMark_keep (.of hm) k0

theorem State.progress_keep {s : State} {slot : Nat} (hm : Sub 2048 msk) (k0 : Keep msk sa s) :
    Keep msk sa (@State.progress s slot) := by
  unfold State.progress
  exact State.updLaunch_keep (.of hm) k0

theorem State.setClaim_keep {s : State} {i : Nat} {st : Nat} (hm : Sub 8388688 msk) (k0 : Keep msk sa s) :
    Keep msk sa (@State.setClaim s i st) := by
  unfold State.setClaim
  exact State.trace_keep (.of hm) (State.setRm_keep (.of hm) k0)

theorem State.freeClaim_keep {s : State} {i : Nat} (hm : Sub 143130832 msk) (k0 : Keep msk sa s) :
    Keep msk sa (@State.freeClaim s i) := by
  unfold State.freeClaim
  extract_lets v0 v1
  have h2 : Keep msk sa v0 := by
    unfold v0
    exact State.closeEpisode_keep (.of hm) (State.setRow_keep (.of hm) (State.setClaim_keep (.of hm) k0))
  clear_value v0
  clear_value v1
  exact keep_mk 524288 (.of hm) h2

theorem State.victimDone_keep {s : State} {i : Nat} (hm : Sub 524288 msk) (k0 : Keep msk sa s) :
    Keep msk sa (@State.victimDone s i) := by
  unfold State.victimDone
  exact keep_mk 524288 (.of hm) k0

theorem State.handOver_keep {s : State} (hm : Sub 8912976 msk) (k0 : Keep msk sa s) :
    Keep msk sa (@State.handOver s) := by
  unfold State.handOver
  refine keep_foldl ?_ ?_
  · exact k0
  · intro x0 x1 x2
    extract_lets v3 v4
    have h5 : Keep msk sa v3 := by
      unfold v3
      refine keep_ite ?_ ?_
      · intro x6
        exact State.setClaim_keep (.of hm) x2
      · intro x7
        exact x2
    clear_value v3
    clear_value v4
    exact keep_mk 524288 (.of hm) h5

theorem State.endClaim_keep {s : State} {i : Nat} (hm : Sub 143130832 msk) (k0 : Keep msk sa s) :
    Keep msk sa (@State.endClaim s i) := by
  unfold State.endClaim
  split
  · rename_i z0 z1
    exact keep_mk 524288 (.of hm) k0
  · rename_i z2 z3
    exact keep_mk 524288 (.of hm) k0
  · rename_i z4 z5 z6
    extract_lets v7 v8
    clear_value v7
    have h9 : Keep msk sa v8 := by
      unfold v8
      exact keep_mk 524288 (.of hm) k0
    clear_value v8
    exact State.handOver_keep (.of hm) (State.victimDone_keep (.of hm) (State.freeClaim_keep (.of hm) h9))

theorem State.endClaims_keep {s : State} {slot : Nat} (hm : Sub 143130832 msk) (k0 : Keep msk sa s) :
    Keep msk sa (@State.endClaims s slot) := by
  unfold State.endClaims
  refine keep_foldl ?_ ?_
  · exact k0
  · intro x0 x1 x2
    exact State.endClaim_keep (.of hm) x2

theorem State.enterRunning_keep {s : State} {slot : Nat} (hm : Sub 8591444 msk) (k0 : Keep msk sa s) :
    Keep msk sa (@State.enterRunning s slot) := by
  unfold State.enterRunning
  extract_lets v0 v1 v2 v3 v4 v5 v6
  have h7 : Keep msk sa v0 := by
    unfold v0
    exact State.setLaunchState_keep (.of hm) k0
  clear_value v0
  have h8 : Keep msk sa v1 := by
    unfold v1
    exact State.updLaunch_keep (.of hm) h7
  clear_value v1
  have h9 : Keep msk sa v2 := by
    unfold v2
    exact State.fixStep_keep (.of hm) h8
  clear_value v2
  have h10 : Keep msk sa v3 := by
    unfold v3
    refine keep_ite ?_ ?_
    · intro x11
      exact h8
    · intro x12
      refine keep_foldl ?_ ?_
      · exact h9
      · intro x13 x14 x15
        exact State.markSkip_keep (.of hm) x15
  clear_value v3
  have h16 : Keep msk sa v4 := by
    unfold v4
    refine keep_foldl ?_ ?_
    · exact h10
    · intro x17 x18 x19
      refine keep_ite ?_ ?_
      · intro x20
        exact State.release_keep (.of hm) x19
      · intro x21
        exact x19
  clear_value v4
  clear_value v5
  clear_value v6
  split
  · rename_i z22 z23 z24
    refine keep_ite ?_ ?_
    · intro x25
      exact keep_mk 65536 (.of hm) h16
    · intro x26
      exact h16
  · rename_i z27 z28
    exact h16

theorem State.afterCopy_keep {s : State} {slot : Nat} (hm : Sub 8591444 msk) (k0 : Keep msk sa s) :
    Keep msk sa (@State.afterCopy s slot) := by
  unfold State.afterCopy
  refine keep_ite ?_ ?_
  · intro x0
    exact State.enterRunning_keep (.of hm) k0
  · intro x1
    exact State.setLaunchState_keep (.of hm) k0

theorem State.setParamReady_keep {s : State} {slot : Nat} {base : Nat} {limit : Nat} (hm : Sub 8591444 msk) (k0 : Keep msk sa s) :
    Keep msk sa (@State.setParamReady s slot base limit) := by
  unfold State.setParamReady
  extract_lets v0 v1 v2
  have h3 : Keep msk sa v0 := by
    unfold v0
    exact State.setRam_keep (.of hm) k0
  clear_value v0
  have h4 : Keep msk sa v1 := by
    unfold v1
    exact State.setRam_keep (.of hm) h3
  clear_value v1
  have h5 : Keep msk sa v2 := by
    unfold v2
    exact State.setSl_keep (.of hm) (State.setSl_keep (.of hm) h4)
  clear_value v2
  refine keep_ite ?_ ?_
  · intro x6
    exact State.enterRunning_keep (.of hm) h5
  · intro x7
    exact h5

theorem State.replyLaunch_keep {s : State} {slot : Nat} {status : Nat} (hm : Sub 13635152 msk) (k0 : Keep msk sa s) :
    Keep msk sa (@State.replyLaunch s slot status) := by
  unfold State.replyLaunch
  split
  · rename_i z0 z1
    exact k0
  · rename_i z2 z3 z4
    refine keep_ite ?_ ?_
    · intro x5
      exact k0
    · intro x6
      extract_lets v7
      have h8 : Keep msk sa v7 := by
        unfold v7
        exact State.updLaunch_keep (.of hm) k0
      clear_value v7
      refine keep_ite ?_ ?_
      · intro x9
        exact h8
      · intro x10
        exact State.complete_keep (.of hm) h8

theorem State.doneLaunch_keep {s : State} {slot : Nat} (hm : Sub 80744148 msk) (k0 : Keep msk sa s) :
    Keep msk sa (@State.doneLaunch s slot) := by
  unfold State.doneLaunch
  split
  · rename_i z0 z1
    exact k0
  · rename_i z2 z3 z4
    extract_lets v5 v6
    clear_value v5
    have h7 : Keep msk sa v6 := by
      unfold v6
      exact State.updLaunch_keep (.of hm) k0
    clear_value v6
    split
    · rename_i z8 z9 z10 z11
      extract_lets v12
      have h13 : Keep msk sa v12 := by
        unfold v12
        split
        · rename_i z14 z15
          exact h7
        · rename_i z16 z17 z18 z19
          split
          · rename_i z20 z21 z22
            exact State.reportCmd_keep (.of hm) h7
          · rename_i z23 z24 z25
            split
            · rename_i z26 z27 z28 z29
              have h30 : Keep msk sa z27 := by
                refine keepP_eq z29 ?_
                exact State.checkEvent_keep (.of hm) h7
              exact h30
            · rename_i z31 z32 z33
              have h34 : Keep msk sa z32 := by
                refine keepP_eq z33 ?_
                exact State.checkEvent_keep (.of hm) h7
              split
              · rename_i z35 z36 z37 z38
                extract_lets v39 v40 v41
                have h42 : Keep msk sa v39 := by
                  unfold v39
                  exact State.storeEvent_keep (.of hm) h34
                clear_value v39
                clear_value v40
                have h43 : Keep msk sa v41 := by
                  unfold v41
                  exact keep_mk 4 (.of hm) h42
                clear_value v41
                refine keep_ite ?_ ?_
                · intro x44
                  exact State.reportCmd_keep (.of hm) h43
                · intro x45
                  exact h43
      clear_value v12
      split
      · rename_i z46 z47
        exact State.replyLaunch_keep (.of hm) h13
      · rename_i z48 z49 z50 z51 z52
        split
        · rename_i z53 z54 z55
          have h56 : Keep msk sa z54 := by
            refine keepP_eq z55 ?_
            exact State.startSignal_keep (.of hm) h13
          exact h56
        · rename_i z57 z58 z59 z60 z61
          have h62 : Keep msk sa z58 := by
            refine keepP_eq z61 ?_
            exact State.startSignal_keep (.of hm) h13
          exact State.replyLaunch_keep (.of hm) (State.updLaunch_keep (.of hm) h62)

theorem State.settleDone_keep {s : State} {slot : Nat} (hm : Sub 80744148 msk) (k0 : Keep msk sa s) :
    Keep msk sa (@State.settleDone s slot) := by
  unfold State.settleDone
  split
  · rename_i z0 z1
    exact k0
  · rename_i z2 z3 z4
    refine keep_ite ?_ ?_
    · intro x5
      exact k0
    · intro x6
      exact State.doneLaunch_keep (.of hm) k0

theorem State.orphanTillers_keep {s : State} {slot : Nat} (hm : Sub 12597328 msk) (k0 : Keep msk sa s) :
    Keep msk sa (@State.orphanTillers s slot) := by
  unfold State.orphanTillers
  extract_lets v0 v1 v2
  clear_value v0
  have h3 : Keep msk sa v1 := by
    unfold v1
    exact State.updLaunch_keep (.of hm) k0
  clear_value v1
  have h4 : Keep msk sa v2 := by
    unfold v2
    exact State.reportNode_keep (.of hm) h3
  clear_value v2
  refine keep_ite ?_ ?_
  · intro x5
    exact k0
  · intro x6
    refine keep_foldl ?_ ?_
    · exact h4
    · intro x7 x8 x9
      refine keep_ite ?_ ?_
      · intro x10
        exact State.killTask_keep (.of hm) x9
      · intro x11
        extract_lets v12 v13
        have h14 : Keep msk sa v12 := by
          unfold v12
          exact State.setNd_keep (.of hm) (State.dropReady_keep (.of hm) x9)
        clear_value v12
        clear_value v13
        exact State.setBp_keep (.of hm) (keep_mk 4096 (.of hm) h14)

theorem State.tryRetire_keep {s : State} {slot : Nat} (hm : Sub 215498452 msk) (k0 : Keep msk sa s) :
    Keep msk sa (@State.tryRetire s slot) := by
  unfold State.tryRetire
  extract_lets v0 v1 v2
  clear_value v0
  have h3 : Keep msk sa v1 := by
    unfold v1
    exact State.setLaunchState_keep (.of hm) k0
  clear_value v1
  have h4 : Keep msk sa v2 := by
    unfold v2
    exact State.orphanTillers_keep (.of hm) h3
  clear_value v2
  refine keep_ite ?_ ?_
  · intro x5
    exact State.settleDone_keep (.of hm) (State.endClaims_keep (.of hm) h4)
  · intro x6
    exact k0

theorem State.pushPipe_keep {s : State} {r : PipeReq} (hm : Sub 2048 msk) (k0 : Keep msk sa s) :
    Keep msk sa (@State.pushPipe s r) := by
  unfold State.pushPipe
  exact keep_mk 2048 (.of hm) k0

theorem State.readParam_keep {s : State} {slot : Nat} (hm : Sub 13834836 msk) (k0 : Keep msk sa s) :
    Keep msk sa (@State.readParam s slot) := by
  unfold State.readParam
  split
  · rename_i z0 z1
    exact k0
  · rename_i z2 z3 z4
    split
    · rename_i z5 z6 z7
      exact State.setParamReady_keep (.of hm) k0
    · rename_i z8 z9
      refine keep_ite ?_ ?_
      · intro x10
        exact State.setParamReady_keep (.of hm) k0
      · intro x11
        extract_lets v12
        have h13 : Keep msk sa v12 := by
          unfold v12
          exact State.updLaunch_keep (.of hm) k0
        clear_value v12
        exact keepP_fst (State.mmRead_keep (.of hm) h13)

theorem State.tryFinishKill_keep {s : State} {slot : Nat} (hm : Sub 148578004 msk) (k0 : Keep msk sa s) :
    Keep msk sa (@State.tryFinishKill s slot) := by
  unfold State.tryFinishKill
  split
  · rename_i z0 z1
    exact k0
  · rename_i z2 z3 z4
    refine keep_ite ?_ ?_
    · intro x5
      exact k0
    · intro x6
      extract_lets v7 v8 v9 v10 v11 v12 v13 v14 v15 v16 v17
      have h18 : Keep msk sa v7 := by
        unfold v7
        exact State.endClaims_keep (.of hm) k0
      clear_value v7
      clear_value v8
      clear_value v9
      clear_value v10
      have h19 : Keep msk sa v11 := by
        unfold v11
        refine keep_foldl ?_ ?_
        · exact h18
        · intro x20 x21 x22
          exact State.freeNode_keep (.of hm) x22
      clear_value v11
      have h23 : Keep msk sa v12 := by
        unfold v12
        exact State.incRf_keep (.of hm) h19
      clear_value v12
      have h24 : Keep msk sa v13 := by
        unfold v13
        split
        · rename_i z25 z26 z27
          refine keep_ite ?_ ?_
          · intro x28
            exact h23
          · intro x29
            exact State.setReaders_keep (.of hm) h23
        · rename_i z30 z31
          exact h23
      clear_value v13
      have h32 : Keep msk sa v14 := by
        unfold v14
        exact State.updLaunch_keep (.of hm) h24
      clear_value v14
      have h33 : Keep msk sa v15 := by
        unfold v15
        exact State.setSl_keep (.of hm) (State.setLaunchState_keep (.of hm) h32)
      clear_value v15
      have h34 : Keep msk sa v16 := by
        unfold v16
        exact State.pushPipe_keep (.of hm) h33
      clear_value v16
      have h35 : Keep msk sa v17 := by
        unfold v17
        refine keep_ite ?_ ?_
        · intro x36
          exact State.reportNode_keep (.of hm) h18
        · intro x37
          exact h18
      clear_value v17
      refine keep_ite ?_ ?_
      · intro x38
        refine keep_ite ?_ ?_
        · intro x39
          exact State.readParam_keep (.of hm) h34
        · intro x40
          exact h34
      · intro x41
        exact State.replyLaunch_keep (.of hm) h35

theorem State.freeStaleWatches_keep {s : State} (hm : Sub 16400 msk) (k0 : Keep msk sa s) :
    Keep msk sa (@State.freeStaleWatches s) := by
  unfold State.freeStaleWatches
  extract_lets v0
  clear_value v0
  refine keep_foldl ?_ ?_
  · exact k0
  · intro x1 x2 x3
    extract_lets v4 v5 v6
    have h7 : Keep msk sa v4 := by
      unfold v4
      exact State.endWait_keep (.of hm) x3
    clear_value v4
    clear_value v5
    have h8 : Keep msk sa v6 := by
      unfold v6
      exact keep_mk 16384 (.of hm) h7
    clear_value v6
    split
    · rename_i z9 z10 z11
      exact State.incRf_keep (.of hm) h8
    · rename_i z12 z13
      exact h8

theorem State.killCore_keep {s : State} {slot : Nat} {code : Nat} {cfe : Bool} (hm : Sub 148602580 msk) (k0 : Keep msk sa s) :
    Keep msk sa (@State.killCore s slot code cfe) := by
  unfold State.killCore
  split
  · rename_i z0 z1
    exact k0
  · rename_i z2 z3 z4
    extract_lets v5 v6 v7 v8 v9 v10 v11 v12 v13 v14 v15 v16
    clear_value v5
    have h17 : Keep msk sa v6 := by
      unfold v6
      exact State.updLaunch_keep (.of hm) k0
    clear_value v6
    have h18 : Keep msk sa v7 := by
      unfold v7
      exact State.freeStaleWatches_keep (.of hm) (State.setLaunchState_keep (.of hm) h17)
    clear_value v7
    clear_value v8
    have h19 : Keep msk sa v9 := by
      unfold v9
      exact keep_mk 2048 (.of hm) h18
    clear_value v9
    clear_value v10
    have h20 : Keep msk sa v11 := by
      unfold v11
      exact keep_mk 4096 (.of hm) h19
    clear_value v11
    have h21 : Keep msk sa v12 := by
      unfold v12
      refine keep_ite ?_ ?_
      · intro x22
        exact h18
      · intro x23
        refine keep_ite ?_ ?_
        · intro x24
          exact h20
        · intro x25
          exact State.dropReader_keep (.of hm) h20
    clear_value v12
    clear_value v13
    clear_value v14
    have h26 : Keep msk sa v15 := by
      unfold v15
      exact keep_mk 4096 (.of hm) h21
    clear_value v15
    have h27 : Keep msk sa v16 := by
      unfold v16
      refine keep_foldl ?_ ?_
      · exact State.setBp_keep (.of hm) h26
      · intro x28 x29 x30
        split
        · rename_i z31 z32
          exact State.setNd_keep (.of hm) x30
        · rename_i z33 z34
          exact State.setNd_keep (.of hm) x30
        · rename_i z35 z36
          exact State.setNd_keep (.of hm) x30
        · rename_i z37 z38
          exact State.killTask_keep (.of hm) x30
        · rename_i z39 z40
          exact State.setNd_keep (.of hm) x30
        · rename_i z41 z42 z43 z44 z45 z46
          exact x30
    clear_value v16
    refine keep_ite ?_ ?_
    · intro x47
      refine keep_ite ?_ ?_
      · intro x48
        exact State.updLaunch_keep (.of hm) k0
      · intro x49
        exact k0
    · intro x50
      refine keep_ite ?_ ?_
      · intro x51
        exact k0
      · intro x52
        exact State.tryFinishKill_keep (.of hm) (State.cleanSlots_keep (.of hm) h27)

theorem State.releaseLaunch_keep {s : State} {slot : Nat} (hm : Sub 142756048 msk) (k0 : Keep msk sa s) :
    Keep msk sa (@State.releaseLaunch s slot) := by
  unfold State.releaseLaunch
  extract_lets v0 v1 v2 v3 v4 v5 v6 v7 v8
  clear_value v0
  clear_value v1
  have h9 : Keep msk sa v2 := by
    unfold v2
    refine keep_foldl ?_ ?_
    · exact k0
    · intro x10 x11 x12
      exact State.freeNode_keep (.of hm) x12
  clear_value v2
  clear_value v3
  have h13 : Keep msk sa v4 := by
    unfold v4
    exact keep_mk 2048 (.of hm) h9
  clear_value v4
  have h14 : Keep msk sa v5 := by
    unfold v5
    exact State.decRf_keep (.of hm) (State.decRf_keep (.of hm) h13)
  clear_value v5
  have h15 : Keep msk sa v6 := by
    unfold v6
    exact State.setLaunchState_keep (.of hm) h14
  clear_value v6
  have h16 : Keep msk sa v7 := by
    unfold v7
    exact State.setRow_keep (.of hm) h15
  clear_value v7
  have h17 : Keep msk sa v8 := by
    unfold v8
    exact State.freeStaleWatches_keep (.of hm) (State.setRf_keep (.of hm) h16)
  clear_value v8
  refine keep_ite ?_ ?_
  · intro x18
    exact h17
  · intro x19
    exact State.closeEpisode_keep (.of hm) h17

/-! ### Machine/Kill.lean -/

theorem State.setSq_keep {s : State} {i : Nat} {f : Fld} {v : Nat} (hm : Sub 64 msk) (k0 : Keep msk sa s) :
    Keep msk sa (@State.setSq s i f v) := by
  unfold State.setSq
  exact State.setRm_keep (.of hm) k0

theorem State.recomputeSeq_keep {s : State} {i : Nat} (hm : Sub 64 msk) (k0 : Keep msk sa s) :
    Keep msk sa (@State.recomputeSeq s i) := by
  unfold State.recomputeSeq
  extract_lets v0
  clear_value v0
  refine keep_ite ?_ ?_
  · intro x1
    exact State.setSq_keep (.of hm) k0
  · intro x2
    exact k0

theorem State.dropRow_keep {s : State} {r : StepRow} (hm : Sub 64 msk) (k0 : Keep msk sa s) :
    Keep msk sa (@State.dropRow s r) := by
  unfold State.dropRow
  exact State.setSq_keep (.of hm) (State.setSq_keep (.of hm) k0)

theorem State.setTagDead_keep {s : State} {t : Nat} {dead : Bool} (hm : Sub 64 msk) (k0 : Keep msk sa s) :
    Keep msk sa (@State.setTagDead s t dead) := by
  unfold State.setTagDead
  exact State.setRam_keep (.of hm) k0

theorem State.updStream_keep {s : State} {p : Nat} {f : Stream → Stream} (hm : Sub 65536 msk) (k0 : Keep msk sa s) :
    Keep msk sa (@State.updStream s p f) := by
  unfold State.updStream
  exact keep_mk 65536 (.of hm) k0

theorem State.updStep_keep {s : State} {t : Nat} {f : Step → Step} (hm : Sub 65536 msk) (k0 : Keep msk sa s) :
    Keep msk sa (@State.updStep s t f) := by
  unfold State.updStep
  exact keep_mk 65536 (.of hm) k0

theorem State.cancelSteps_keep {s : State} {p : Nat} {code : Nat} (hm : Sub 148635348 msk) (k0 : Keep msk sa s) :
    KeepP msk sa (@State.cancelSteps s p code) := by
  unfold State.cancelSteps
  extract_lets v0 v1 v2 v3 v4 v5 v6
  clear_value v0
  have h7 : Keep msk sa v1 := by
    unfold v1
    refine keep_foldl ?_ ?_
    · exact k0
    · intro x8 x9 x10
      exact State.endRounds_keep (.of hm) (State.setTagDead_keep (.of hm) x10)
  clear_value v1
  have h11 : Keep msk sa v2 := by
    unfold v2
    refine keep_foldl ?_ ?_
    · exact h7
    · intro x12 x13 x14
      split
      · rename_i z15 z16 z17
        exact State.killCore_keep (.of hm) x14
      · rename_i z18 z19
        exact keep_mk 2048 (.of hm) x14
  clear_value v2
  clear_value v3
  have h20 : Keep msk sa v4 := by
    unfold v4
    refine keep_foldl ?_ ?_
    · exact h11
    · intro x21 x22 x23
      exact State.dropRow_keep (.of hm) x23
  clear_value v4
  have h24 : Keep msk sa v5 := by
    unfold v5
    refine keep_foldl ?_ ?_
    · exact h20
    · intro x25 x26 x27
      exact State.recomputeSeq_keep (.of hm) x27
  clear_value v5
  have h28 : Keep msk sa v6 := by
    unfold v6
    refine keep_foldl ?_ ?_
    · exact h24
    · intro x29 x30 x31
      exact State.updStep_keep (.of hm) x31
  clear_value v6
  exact keepP_mk (State.incRf_keep (.of hm) h28)

theorem State.streamFault_keep {s : State} {p : Nat} {e : Err} {launchId : Nat} {replay : Bool} (hm : Sub 148635348 msk) (k0 : Keep msk sa s) :
    Keep msk sa (@State.streamFault s p e launchId replay) := by
  unfold State.streamFault
  extract_lets v0 v1
  clear_value v0
  have h2 : Keep msk sa v1 := by
    unfold v1
    exact State.report_keep (.of hm) k0
  clear_value v1
  refine keep_ite ?_ ?_
  · intro x3
    exact k0
  · intro x4
    split
    · rename_i z5 z6 z7 z8 z9
      have h10 : Keep msk sa z6 := by
        refine keepP_eq z9 ?_
        exact State.cancelSteps_keep (.of hm) h2
      extract_lets v11 v12 v13
      have h14 : Keep msk sa v11 := by
        unfold v11
        exact State.setRf_keep (.of hm) h10
      clear_value v11
      have h15 : Keep msk sa v12 := by
        unfold v12
        exact State.setRf_keep (.of hm) h14
      clear_value v12
      have h16 : Keep msk sa v13 := by
        unfold v13
        exact State.setRf_keep (.of hm) h15
      clear_value v13
      split
      · rename_i z17 z18
        exact h16
      · rename_i z19 z20 z21
        refine keep_ite ?_ ?_
        · intro x22
          refine keep_ite ?_ ?_
          · intro x23
            exact State.updStream_keep (.of hm) (State.incRf_keep (.of hm) (State.setRf_keep (.of hm) h16))
          · intro x24
            exact State.reportPlain_keep (.of hm) h16
        · intro x25
          exact h16

theorem State.writeFault_keep {s : State} {p : Nat} (hm : Sub 148635348 msk) (k0 : Keep msk sa s) :
    Keep msk sa (@State.writeFault s p) := by
  unfold State.writeFault
  extract_lets v0 v1
  clear_value v0
  have h2 : Keep msk sa v1 := by
    unfold v1
    exact State.setRf_keep (.of hm) (State.report_keep (.of hm) k0)
  clear_value v1
  refine keep_ite ?_ ?_
  · intro x3
    exact State.streamFault_keep (.of hm) k0
  · intro x4
    exact State.setRf_keep (.of hm) (State.setRf_keep (.of hm) h2)

theorem State.killLaunch_keep {s : State} {slot : Nat} {code : Nat} {cfe : Bool} (hm : Sub 148635348 msk) (k0 : Keep msk sa s) :
    Keep msk sa (@State.killLaunch s slot code cfe) := by
  unfold State.killLaunch
  split
  · rename_i z0 z1
    exact k0
  · rename_i z2 z3 z4
    extract_lets v5 v6 v7
    clear_value v5
    clear_value v6
    have h8 : Keep msk sa v7 := by
      unfold v7
      exact State.killCore_keep (.of hm) k0
    clear_value v7
    refine keep_ite ?_ ?_
    · intro x9
      exact State.streamFault_keep (.of hm) h8
    · intro x10
      exact h8

theorem State.killWith_keep {s : State} {slot : Nat} {e : Err} {tag : Nat} (hm : Sub 148635348 msk) (k0 : Keep msk sa s) :
    Keep msk sa (@State.killWith s slot e tag) := by
  unfold State.killWith
  refine keep_ite ?_ ?_
  · intro x0
    exact State.killLaunch_keep (.of hm) (State.reportNode_keep (.of hm) k0)
  · intro x1
    exact k0

theorem State.rowFail_keep {s : State} {e : Err} {kind : Nat} {idx : Nat} {word : Nat} {slot : Nat} (hm : Sub 148635348 msk) (k0 : Keep msk sa s) :
    Keep msk sa (@State.rowFail s e kind idx word slot) := by
  unfold State.rowFail
  extract_lets v0
  have h1 : Keep msk sa v0 := by
    unfold v0
    exact State.reportRow_keep (.of hm) k0
  clear_value v0
  exact State.killLaunch_keep (.of hm) h1

theorem State.slotRead_keep {s : State} {slot : Nat} (hm : Sub 148635348 msk) (k0 : Keep msk sa s) :
    Keep msk sa (@State.slotRead s slot) := by
  unfold State.slotRead
  extract_lets v0 v1 v2
  clear_value v0
  have h3 : Keep msk sa v1 := by
    unfold v1
    exact State.corrected_keep (.of hm) k0
  clear_value v1
  clear_value v2
  refine keep_ite ?_ ?_
  · intro x4
    exact State.killLaunch_keep (.of hm) (State.reportRow_keep (.of hm) h3)
  · intro x5
    exact h3

theorem State.updJob_keep {s : State} {k : Nat} {f : Job → Job} (hm : Sub 524288 msk) (k0 : Keep msk sa s) :
    Keep msk sa (@State.updJob s k f) := by
  unfold State.updJob
  exact keep_mk 524288 (.of hm) k0

theorem State.dropJob_keep {s : State} {k : Nat} (hm : Sub 528384 msk) (k0 : Keep msk sa s) :
    Keep msk sa (@State.dropJob s k) := by
  unfold State.dropJob
  exact keep_mk 528384 (.of hm) k0

theorem State.failJob_keep {s : State} {k : Nat} {gen : Nat} (hm : Sub 148635348 msk) (k0 : Keep msk sa s) :
    Keep msk sa (@State.failJob s k gen) := by
  unfold State.failJob
  split
  · rename_i z0 z1
    exact k0
  · rename_i z2 z3 z4
    extract_lets v5 v6 v7 v8 v9 v10
    have h11 : Keep msk sa v5 := by
      unfold v5
      exact State.dropJob_keep (.of hm) k0
    clear_value v5
    clear_value v6
    clear_value v7
    have h12 : Keep msk sa v8 := by
      unfold v8
      exact State.handOver_keep (.of hm) (State.victimDone_keep (.of hm) (State.freeClaim_keep (.of hm) h11))
    clear_value v8
    clear_value v9
    have h13 : Keep msk sa v10 := by
      unfold v10
      exact State.report_keep (.of hm) h12
    clear_value v10
    refine keep_ite ?_ ?_
    · intro x14
      exact h12
    · intro x15
      refine keep_ite ?_ ?_
      · intro x16
        exact State.killLaunch_keep (.of hm) h13
      · intro x17
        exact h13

theorem State.faultTask_keep {s : State} {i : Nat} {t : OutTask} (hm : Sub 64 msk) (k0 : Keep msk sa s) :
    Keep msk sa (@State.faultTask s i t) := by
  unfold State.faultTask
  extract_lets v0
  have h1 : Keep msk sa v0 := by
    unfold v0
    exact State.chargeTask_keep (.of hm) k0
  clear_value v0
  split
  · rename_i z2 z3 z4
    exact h1
  · rename_i z5 z6
    refine keep_ite ?_ ?_
    · intro x7
      exact State.setNd_keep (.of hm) h1
    · intro x8
      exact h1

theorem State.dropLink_keep {s : State} {i : Nat} {e : Err} {cmdEnd : RF} (hm : Sub 215744212 msk) (k0 : Keep msk sa s) :
    Keep msk sa (@State.dropLink s i e cmdEnd) := by
  unfold State.dropLink
  extract_lets v0 v1 v2 v3 v4 v5
  clear_value v0
  have h6 : Keep msk sa v1 := by
    unfold v1
    exact State.endLinkCmd_keep (.of hm) k0
  clear_value v1
  have h7 : Keep msk sa v2 := by
    unfold v2
    exact State.clearIrq_keep (.of hm) h6
  clear_value v2
  have h8 : Keep msk sa v3 := by
    unfold v3
    split
    · rename_i z9 z10 z11
      exact State.freeBind_keep (.of hm) h7
    · rename_i z12 z13
      exact h7
  clear_value v3
  have h14 : Keep msk sa v4 := by
    unfold v4
    refine keep_foldl ?_ ?_
    · exact h8
    · intro x15 x16 x17
      exact State.faultTask_keep (.of hm) x17
  clear_value v4
  have h18 : Keep msk sa v5 := by
    unfold v5
    exact State.updLink_keep (.of hm) h14
  clear_value v5
  refine keep_foldl ?_ ?_
  · exact h18
  · intro x19 x20 x21
    split
    · rename_i z22 z23 z24
      exact State.failJob_keep (.of hm) x21
    · rename_i z25 z26
      refine keep_ite ?_ ?_
      · intro x27
        exact State.settleDone_keep (.of hm) (State.tryFinishKill_keep (.of hm) (State.killLaunch_keep (.of hm) x21))
      · intro x28
        exact x21

theorem State.loseLink_keep {s : State} {i : Nat} {e : Err} {cmdEnd : RF} (hm : Sub 215744212 msk) (k0 : Keep msk sa s) :
    Keep msk sa (@State.loseLink s i e cmdEnd) := by
  unfold State.loseLink
  exact State.dropLink_keep (.of hm) (State.reportLink_keep (.of hm) k0)

theorem State.offerLink_keep {s : State} {i : Nat} (hm : Sub 8208 msk) (k0 : Keep msk sa s) :
    Keep msk sa (@State.offerLink s i) := by
  unfold State.offerLink
  extract_lets v0 v1 v2 v3 v4
  have h5 : Keep msk sa v2 := by
    unfold v2
    exact keep_mk 8192 (.of hm) k0
  have h6 : Keep msk sa v3 := by
    unfold v3
    exact State.emit_keep (.of hm) h5
  have h7 : Keep msk sa v4 := by
    unfold v4
    refine keep_ite ?_ ?_
    · intro x8
      exact State.endLinkCmd_keep (.of hm) h6
    · intro x9
      exact h6
  clear_value v4
  exact State.updLink_keep (.of hm) h7

theorem State.relinkLost_keep {s : State} {i : Nat} {e : Err} {cmdEnd : RF} (hm : Sub 215744212 msk) (k0 : Keep msk sa s) :
    Keep msk sa (@State.relinkLost s i e cmdEnd) := by
  unfold State.relinkLost
  refine keep_ite ?_ ?_
  · intro x0
    exact State.reportLink_keep (.of hm) k0
  · intro x1
    extract_lets v2
    have h3 : Keep msk sa v2 := by
      unfold v2
      exact State.loseLink_keep (.of hm) k0
    clear_value v2
    refine keep_ite ?_ ?_
    · intro x4
      exact State.offerLink_keep (.of hm) h3
    · intro x5
      exact h3
end Sys2Proof.Machine
end

