-- ==== Sys2Proof/Laws/KeepPower.lean ====
section
/-! SUPPORT. What every command keeps: power, budgets, accounting, resolution and semaphores. -/

-- One declaration at a time: checked side by side, the lemmas ask for more threads than the checks may start.
set_option Elab.async false

namespace Sys2Proof.Machine

variable {msk : Nat} {sa : State}

/-! ### Machine/PscOps.lean -/

theorem State.takeClaim_keep {s : State} {i : Nat} {st : Nat} {part : Nat} {level : Nat} {ss : Nat} {slot : Nat} {first : Nat} {cnt : Nat} (hm : Sub 8913104 msk) (k0 : Keep msk sa s) :
    Keep msk sa (@State.takeClaim s i st part level ss slot first cnt) := by
  unfold State.takeClaim
  extract_lets v0 v1
  have h2 : Keep msk sa v0 := by
    unfold v0
    exact State.setRow_keep (.of hm) k0
  clear_value v0
  clear_value v1
  exact State.setClaim_keep (.of hm) (keep_mk 524288 (.of hm) h2)

theorem State.acceptPreempt_keep {s : State} {i : Nat} {part : Nat} {level : Nat} {ss : Nat} {slot : Nat} {first : Nat} {cnt : Nat} {cs : List Nat} (hm : Sub 8913104 msk) (k0 : Keep msk sa s) :
    Keep msk sa (@State.acceptPreempt s i part level ss slot first cnt cs) := by
  unfold State.acceptPreempt
  extract_lets v0 v1 v2 v3 v4
  have h5 : Keep msk sa v0 := by
    unfold v0
    exact State.takeClaim_keep (.of hm) k0
  clear_value v0
  have h6 : Keep msk sa v1 := by
    unfold v1
    refine keep_foldl ?_ ?_
    · exact h5
    · intro x7 x8 x9
      exact State.setClaim_keep (.of hm) x9
  clear_value v1
  clear_value v2
  clear_value v3
  have h10 : Keep msk sa v4 := by
    unfold v4
    exact keep_mk 524288 (.of hm) h6
  clear_value v4
  exact State.incRf_keep (.of hm) h10

theorem State.pscTest_keep {s : State} {n : Nat} {slot : Nat} {part : Nat} {level : Nat} {ss : Nat} (hm : Sub 148635348 msk) (k0 : Keep msk sa s) :
    KeepP msk sa (@State.pscTest s n slot part level ss) := by
  unfold State.pscTest
  extract_lets v0 v1 v2 v3 v4 v5
  have h6 : Keep msk sa v0 := by
    unfold v0
    exact State.corrected_keep (.of hm) k0
  clear_value v0
  have h7 : Keep msk sa v1 := by
    unfold v1
    exact State.reportRow_keep (.of hm) h6
  clear_value v1
  clear_value v2
  clear_value v3
  clear_value v4
  have h8 : Keep msk sa v5 := by
    unfold v5
    exact State.closeEpisode_keep (.of hm) h6
  clear_value v5
  refine keepP_ite ?_ ?_
  · intro x9
    exact keepP_mk h6
  · intro x10
    refine keepP_ite ?_ ?_
    · intro x11
      exact keepP_mk (State.killWith_keep (.of hm) (State.setRm_keep (.of hm) h7))
    · intro x12
      refine keepP_ite ?_ ?_
      · intro x13
        exact keepP_mk (State.killWith_keep (.of hm) h6)
      · intro x14
        split
        · rename_i z15 z16 z17
          exact keepP_mk h6
        · rename_i z18 z19
          split
          · rename_i z20 z21
            refine keepP_ite ?_ ?_
            · intro x22
              exact keepP_mk (State.reportPlain_keep (.of hm) (State.openEpisode_keep (.of hm) h6))
            · intro x23
              exact keepP_mk h6
          · rename_i z24 z25 z26
            refine keepP_ite ?_ ?_
            · intro x27
              exact keepP_mk h8
            · intro x28
              refine keepP_ite ?_ ?_
              · intro x29
                exact keepP_mk (State.acceptPreempt_keep (.of hm) h8)
              · intro x30
                exact keepP_mk h8

theorem State.offerJobs_keep {s : State} (hm : Sub 147329040 msk) (k0 : Keep msk sa s) :
    Keep msk sa (@State.offerJobs s) := by
  unfold State.offerJobs
  refine keep_foldl ?_ ?_
  · exact k0
  · intro x0 x1 x2
    extract_lets v3 v4
    clear_value v3
    have h5 : Keep msk sa v4 := by
      unfold v4
      exact keep_mk 4096 (.of hm) x2
    clear_value v4
    split
    · rename_i z6 z7
      refine keep_ite ?_ ?_
      · intro x8
        exact h5
      · intro x9
        exact State.reportPlain_keep (.of hm) (State.openEpisode_keep (.of hm) h5)
    · rename_i z10 z11 z12
      extract_lets v13 v14 v15
      have h16 : Keep msk sa v13 := by
        unfold v13
        exact State.updJob_keep (.of hm) (State.closeEpisode_keep (.of hm) h5)
      clear_value v13
      clear_value v14
      clear_value v15
      exact keep_mk 4096 (.of hm) h16

theorem State.jobDone_keep {s : State} {k : Nat} {gen : Nat} (hm : Sub 143134928 msk) (k0 : Keep msk sa s) :
    Keep msk sa (@State.jobDone s k gen) := by
  unfold State.jobDone
  split
  · rename_i z0 z1
    exact k0
  · rename_i z2 z3 z4
    extract_lets v5 v6 v7 v8 v9 v10 v11
    have h12 : Keep msk sa v5 := by
      unfold v5
      exact State.dropJob_keep (.of hm) k0
    clear_value v5
    have h13 : Keep msk sa v6 := by
      unfold v6
      exact State.acct_keep (.of hm) h12
    clear_value v6
    have h14 : Keep msk sa v7 := by
      unfold v7
      exact State.incRf_keep (.of hm) h13
    clear_value v7
    have h15 : Keep msk sa v8 := by
      unfold v8
      exact State.setRm_keep (.of hm) (State.setClaim_keep (.of hm) h14)
    clear_value v8
    clear_value v9
    have h16 : Keep msk sa v10 := by
      unfold v10
      exact State.incRf_keep (.of hm) (State.incRf_keep (.of hm) h13)
    clear_value v10
    have h17 : Keep msk sa v11 := by
      unfold v11
      refine keep_ite ?_ ?_
      · intro x18
        exact State.freeClaim_keep (.of hm) h16
      · intro x19
        exact State.setClaim_keep (.of hm) h16
    clear_value v11
    refine keep_ite ?_ ?_
    · intro x20
      refine keep_ite ?_ ?_
      · intro x21
        exact State.freeClaim_keep (.of hm) h14
      · intro x22
        refine keep_ite ?_ ?_
        · intro x23
          exact keep_mk 524288 (.of hm) h15
        · intro x24
          exact h15
    · intro x25
      exact State.handOver_keep (.of hm) (State.victimDone_keep (.of hm) h17)

/-! ### Machine/BgOps.lean -/

theorem State.updBg_keep {s : State} {p : Nat} {f : BgPart → BgPart} (hm : Sub 262144 msk) (k0 : Keep msk sa s) :
    Keep msk sa (@State.updBg s p f) := by
  unfold State.updBg
  exact keep_mk 262144 (.of hm) k0

theorem State.bgCheck_keep {s : State} {p : Nat} (hm : Sub 12845072 msk) (k0 : Keep msk sa s) :
    Keep msk sa (@State.bgCheck s p) := by
  unfold State.bgCheck
  extract_lets v0
  clear_value v0
  refine keep_ite ?_ ?_
  · intro x1
    exact k0
  · intro x2
    exact State.updBg_keep (.of hm) (State.reportRow_keep (.of hm) k0)

theorem State.word48_keep {s : State} {v : ℤ} (hm : Sub 268435456 msk) (k0 : Keep msk sa s) :
    KeepQ msk sa (@State.word48 s v) := by
  unfold State.word48
  refine keepQ_ite ?_ ?_
  · intro x0
    exact keepQ_mk k0
  · intro x1
    split
    · rename_i z2 z3 z4 z5
      have h6 : Keep msk sa z4 := by
        refine keepQ_eq z5 ?_
        exact State.takeFree_keep (.of hm) k0
      split
      · rename_i z7 z8 z9 z10
        have h11 : Keep msk sa z9 := by
          refine keepQ_eq z10 ?_
          exact State.takeFree_keep (.of hm) h6
        exact keepQ_mk h11

theorem State.setCredit_keep {s : State} {p : Nat} {v : ℤ} (hm : Sub 268697600 msk) (k0 : Keep msk sa s) :
    Keep msk sa (@State.setCredit s p v) := by
  unfold State.setCredit
  refine keep_ite ?_ ?_
  · intro x0
    exact k0
  · intro x1
    split
    · rename_i z2 z3 z4 z5
      have h6 : Keep msk sa z4 := by
        refine keepQ_eq z5 ?_
        exact State.word48_keep (.of hm) k0
      exact State.updBg_keep (.of hm) h6

theorem State.setLent_keep {s : State} {p : Nat} {v : ℤ} (hm : Sub 268697600 msk) (k0 : Keep msk sa s) :
    Keep msk sa (@State.setLent s p v) := by
  unfold State.setLent
  refine keep_ite ?_ ?_
  · intro x0
    exact k0
  · intro x1
    split
    · rename_i z2 z3 z4 z5
      have h6 : Keep msk sa z4 := by
        refine keepQ_eq z5 ?_
        exact State.word48_keep (.of hm) k0
      exact State.updBg_keep (.of hm) h6

theorem State.checkLevel_keep {s : State} {p : Nat} {i : Nat} (hm : Sub 12583120 msk) (k0 : Keep msk sa s) :
    Keep msk sa (@State.checkLevel s p i) := by
  unfold State.checkLevel
  extract_lets v0 v1 v2
  clear_value v0
  have h3 : Keep msk sa v1 := by
    unfold v1
    exact State.corrected_keep (.of hm) k0
  clear_value v1
  have h4 : Keep msk sa v2 := by
    unfold v2
    refine keep_ite ?_ ?_
    · intro x5
      exact State.reportRow_keep (.of hm) h3
    · intro x6
      exact State.reportRow_keep (.of hm) h3
  clear_value v2
  refine keep_ite ?_ ?_
  · intro x7
    exact State.setRow_keep (.of hm) h4
  · intro x8
    exact h3

theorem State.setLevel_keep {s : State} {p : Nat} {i : Nat} {v : ℤ} (hm : Sub 268435520 msk) (k0 : Keep msk sa s) :
    Keep msk sa (@State.setLevel s p i v) := by
  unfold State.setLevel
  extract_lets v0
  clear_value v0
  split
  · rename_i z1 z2 z3 z4
    have h5 : Keep msk sa z3 := by
      refine keepQ_eq z4 ?_
      refine keepQ_ite ?_ ?_
      · intro x6
        exact keepQ_mk k0
      · intro x7
        exact State.takeFree_keep (.of hm) k0
    exact State.setRam_keep (.of hm) (State.setRam_keep (.of hm) h5)

theorem State.chargeBw_keep {s : State} {p : Nat} {cls : Nat} {ecls : Nat} {c : Nat} (hm : Sub 281018576 msk) (k0 : Keep msk sa s) :
    Keep msk sa (@State.chargeBw s p cls ecls c) := by
  unfold State.chargeBw
  refine keep_ite ?_ ?_
  · intro x0
    refine keep_foldl ?_ ?_
    · exact k0
    · intro x1 x2 x3
      exact State.setLevel_keep (.of hm) (State.checkLevel_keep (.of hm) x3)
  · intro x4
    exact k0

theorem State.addUsed_keep {s : State} {p : Nat} {e : Nat} (hm : Sub 262144 msk) (k0 : Keep msk sa s) :
    Keep msk sa (@State.addUsed s p e) := by
  unfold State.addUsed
  exact State.updBg_keep (.of hm) k0

theorem State.chargeEst_keep {s : State} {p : Nat} {c : Nat} {e : Nat} {bytes : Nat} (hm : Sub 262208 msk) (k0 : Keep msk sa s) :
    Keep msk sa (@State.chargeEst s p c e bytes) := by
  unfold State.chargeEst
  extract_lets v0 v1 v2 v3 v4 v5
  clear_value v0
  have h6 : Keep msk sa v1 := by
    unfold v1
    exact State.updBg_keep (.of hm) k0
  clear_value v1
  have h7 : Keep msk sa v2 := by
    unfold v2
    exact State.acct_keep (.of hm) h6
  clear_value v2
  have h8 : Keep msk sa v3 := by
    unfold v3
    exact State.acct_keep (.of hm) h7
  clear_value v3
  clear_value v4
  clear_value v5
  exact keep_mk 262144 (.of hm) h8

theorem State.draw_keep {s : State} {p : Nat} {short : ℤ} (hm : Sub 281280528 msk) (k0 : Keep msk sa s) :
    KeepP msk sa (@State.draw s p short) := by
  unfold State.draw
  extract_lets v0 v1
  clear_value v0
  have h2 : Keep msk sa v1 := by
    unfold v1
    refine keep_foldl ?_ ?_
    · exact k0
    · intro x3 x4 x5
      exact State.bgCheck_keep (.of hm) x5
  clear_value v1
  refine keepP_ite ?_ ?_
  · intro x6
    exact keepP_mk h2
  · intro x7
    refine keepP_mk ?_
    refine keepP_fst ?_
    refine keepP_foldl ?_ ?_
    · exact keepP_mk h2
    · intro x8 x9 x10
      extract_lets v11 v12 v13
      clear_value v11
      have h14 : Keep msk sa v12 := by
        unfold v12
        exact State.setLent_keep (.of hm) (keepP_fst x10)
      clear_value v12
      have h15 : Keep msk sa v13 := by
        unfold v13
        refine keep_ite ?_ ?_
        · intro x16
          exact h14
        · intro x17
          exact State.updBg_keep (.of hm) h14
      clear_value v13
      exact keepP_mk h15

theorem State.refuseEnergy_keep {s : State} {p : Nat} {node : Nat} {ngen : Nat} (hm : Sub 16 msk) (k0 : Keep msk sa s) :
    Keep msk sa (@State.refuseEnergy s p node ngen) := by
  unfold State.refuseEnergy
  extract_lets v0
  have h1 : Keep msk sa v0 := by
    unfold v0
    exact State.incRf_keep (.of hm) k0
  clear_value v0
  refine keep_ite ?_ ?_
  · intro x2
    exact h1
  · intro x3
    exact State.setReg_keep (.of hm) h1

theorem State.energyTest_keep {s : State} {p : Nat} {node : Nat} {ngen : Nat} {e : Nat} (hm : Sub 281280528 msk) (k0 : Keep msk sa s) :
    KeepP msk sa (@State.energyTest s p node ngen e) := by
  unfold State.energyTest
  extract_lets v0 v1 v2 v3 v4
  have h5 : Keep msk sa v0 := by
    unfold v0
    exact State.bgCheck_keep (.of hm) k0
  clear_value v0
  clear_value v1
  clear_value v2
  clear_value v3
  have h6 : Keep msk sa v4 := by
    unfold v4
    exact State.incRf_keep (.of hm) (State.setCredit_keep (.of hm) h5)
  clear_value v4
  refine keepP_ite ?_ ?_
  · intro x7
    exact keepP_mk (State.setCredit_keep (.of hm) h5)
  · intro x8
    refine keepP_ite ?_ ?_
    · intro x9
      exact keepP_mk (State.refuseEnergy_keep (.of hm) h5)
    · intro x10
      refine keepP_ite ?_ ?_
      · intro x11
        exact keepP_mk (State.reportPlain_keep (.of hm) h6)
      · intro x12
        refine keepP_ite ?_ ?_
        · intro x13
          exact keepP_mk (State.setCredit_keep (.of hm) h5)
        · intro x14
          refine keepP_ite ?_ ?_
          · intro x15
            split
            · rename_i z16 z17 z18
              have h19 : Keep msk sa z17 := by
                refine keepP_eq z18 ?_
                exact State.draw_keep (.of hm) h5
              exact keepP_mk (State.setCredit_keep (.of hm) h19)
            · rename_i z20 z21 z22
              have h23 : Keep msk sa z21 := by
                refine keepP_eq z22 ?_
                exact State.draw_keep (.of hm) h5
              exact keepP_mk (State.refuseEnergy_keep (.of hm) h23)
          · intro x24
            exact keepP_mk (State.refuseEnergy_keep (.of hm) h5)

theorem State.bgAdmit_keep {s : State} {internal : Bool} {p : Nat} {cls : Nat} {ecls : Nat} {c : Nat} {node : Nat} {ngen : Nat} (hm : Sub 415498448 msk) (k0 : Keep msk sa s) :
    KeepP msk sa (@State.bgAdmit s internal p cls ecls c node ngen) := by
  unfold State.bgAdmit
  extract_lets v0 v1 v2 v3 v4 v5 v6 v7
  clear_value v0
  clear_value v1
  have h8 : Keep msk sa v2 := by
    unfold v2
    exact State.bgCheck_keep (.of hm) k0
  clear_value v2
  have h9 : Keep msk sa v3 := by
    unfold v3
    exact State.setCredit_keep (.of hm) h8
  clear_value v3
  have h10 : Keep msk sa v4 := by
    unfold v4
    exact State.incRf_keep (.of hm) k0
  clear_value v4
  clear_value v5
  have h11 : Keep msk sa v6 := by
    unfold v6
    refine keep_foldl ?_ ?_
    · exact k0
    · intro x12 x13 x14
      exact State.checkLevel_keep (.of hm) x14
  clear_value v6
  clear_value v7
  refine keepP_ite ?_ ?_
  · intro x15
    exact keepP_mk (State.chargeEst_keep (.of hm) (State.chargeBw_keep (.of hm) h9))
  · intro x16
    refine keepP_ite ?_ ?_
    · intro x17
      refine keepP_mk ?_
      refine keep_ite ?_ ?_
      · intro x18
        exact h10
      · intro x19
        exact State.reportPlain_keep (.of hm) (State.openEpisode_keep (.of hm) h10)
    · intro x20
      refine keepP_ite ?_ ?_
      · intro x21
        exact keepP_mk (State.incRf_keep (.of hm) h11)
      · intro x22
        split
        · rename_i z23 z24 z25
          have h26 : Keep msk sa z24 := by
            refine keepP_eq z25 ?_
            exact State.energyTest_keep (.of hm) h11
          exact keepP_mk h26
        · rename_i z27 z28 z29
          have h30 : Keep msk sa z28 := by
            refine keepP_eq z29 ?_
            exact State.energyTest_keep (.of hm) h11
          extract_lets v31
          have h32 : Keep msk sa v31 := by
            unfold v31
            refine keep_ite ?_ ?_
            · intro x33
              exact State.incRf_keep (.of hm) h30
            · intro x34
              exact h30
          clear_value v31
          exact keepP_mk (State.chargeEst_keep (.of hm) (State.addUsed_keep (.of hm) (State.chargeBw_keep (.of hm) h32)))

/-! ### Machine/Acct.lean -/

theorem State.acctClear_keep {s : State} {p : Nat} (hm : Sub 192 msk) (k0 : Keep msk sa s) :
    Keep msk sa (@State.acctClear s p) := by
  unfold State.acctClear
  exact State.setRow_keep (.of hm) k0

theorem State.acctLate_keep {s : State} {p : Nat} {e : Err} (hm : Sub 148897808 msk) (k0 : Keep msk sa s) :
    Keep msk sa (@State.acctLate s p e) := by
  unfold State.acctLate
  extract_lets v0 v1 v2 v3
  have h4 : Keep msk sa v0 := by
    unfold v0
    exact State.incRf_keep (.of hm) k0
  clear_value v0
  have h5 : Keep msk sa v1 := by
    unfold v1
    exact State.setRf_keep (.of hm) h4
  clear_value v1
  clear_value v2
  have h6 : Keep msk sa v3 := by
    unfold v3
    exact keep_mk 2097152 (.of hm) h5
  clear_value v3
  refine keep_ite ?_ ?_
  · intro x7
    exact State.reportPlain_keep (.of hm) h6
  · intro x8
    refine keep_ite ?_ ?_
    · intro x9
      exact h6
    · intro x10
      exact State.reportPlain_keep (.of hm) (State.openEpisode_keep (.of hm) h6)

theorem State.acctBack_keep {s : State} {p : Nat} {ws : List Word} (hm : Sub 64 msk) (k0 : Keep msk sa s) :
    Keep msk sa (@State.acctBack s p ws) := by
  unfold State.acctBack
  extract_lets v0 v1
  have h2 : Keep msk sa v0 := by
    unfold v0
    refine keep_foldl ?_ ?_
    · exact k0
    · intro x3 x4 x5
      refine keep_ite ?_ ?_
      · intro x6
        exact State.setRam64_keep (.of hm) x5
      · intro x7
        exact State.acct_keep (.of hm) x5
  clear_value v0
  have h8 : Keep msk sa v1 := by
    unfold v1
    exact State.setRam_keep (.of hm) h2
  clear_value v1
  exact State.setRam64_keep (.of hm) h8

theorem State.setAcctOut_keep {s : State} {p : Nat} {rs : List (List Word)} (hm : Sub 2097152 msk) (k0 : Keep msk sa s) :
    Keep msk sa (@State.setAcctOut s p rs) := by
  unfold State.setAcctOut
  exact keep_mk 2097152 (.of hm) k0

theorem State.acctSend_keep {s : State} {p : Nat} (hm : Sub 149946960 msk) (k0 : Keep msk sa s) :
    Keep msk sa (@State.acctSend s p) := by
  unfold State.acctSend
  split
  · rename_i z0 z1
    exact k0
  · rename_i z2 z3 z4 z5
    extract_lets v6 v7 v8 v9 v10
    clear_value v6
    clear_value v7
    have h11 : Keep msk sa v8 := by
      unfold v8
      exact State.closeEpisode_keep (.of hm) k0
    clear_value v8
    clear_value v9
    clear_value v10
    refine keep_ite ?_ ?_
    · intro x12
      refine keep_foldl ?_ ?_
      · exact State.setAcctOut_keep (.of hm) k0
      · intro x13 x14 x15
        exact State.acctLate_keep (.of hm) (State.acctBack_keep (.of hm) x15)
    · intro x16
      exact keepP_fst (State.mmWrite_keep (.of hm) (State.setAcctOut_keep (.of hm) h11))

theorem State.acctWrite_keep {s : State} {p : Nat} {final : Bool} (hm : Sub 149947088 msk) (k0 : Keep msk sa s) :
    Keep msk sa (@State.acctWrite s p final) := by
  unfold State.acctWrite
  extract_lets v0 v1 v2
  clear_value v0
  clear_value v1
  have h3 : Keep msk sa v2 := by
    unfold v2
    exact State.setAcctOut_keep (.of hm) (State.acctClear_keep (.of hm) k0)
  clear_value v2
  refine keep_ite ?_ ?_
  · intro x4
    exact State.acctSend_keep (.of hm) h3
  · intro x5
    exact h3

theorem State.acctAnswered_keep {s : State} {p : Nat} {ok : Bool} (hm : Sub 149946960 msk) (k0 : Keep msk sa s) :
    Keep msk sa (@State.acctAnswered s p ok) := by
  unfold State.acctAnswered
  split
  · rename_i z0 z1
    exact k0
  · rename_i z2 z3 z4 z5
    refine keep_ite ?_ ?_
    · intro x6
      extract_lets v7 v8 v9
      have h10 : Keep msk sa v7 := by
        unfold v7
        exact State.setAcctOut_keep (.of hm) k0
      clear_value v7
      clear_value v8
      have h11 : Keep msk sa v9 := by
        unfold v9
        exact keep_mk 2097152 (.of hm) h10
      clear_value v9
      exact State.acctSend_keep (.of hm) (State.setRf_keep (.of hm) h11)
    · intro x12
      split
      · rename_i z13
        exact State.acctLate_keep (.of hm) (State.acctBack_keep (.of hm) (State.setAcctOut_keep (.of hm) k0))
      · rename_i z14 z15 z16
        exact State.acctSend_keep (.of hm) (State.acctLate_keep (.of hm) (State.setAcctOut_keep (.of hm) k0))

theorem State.attribute_keep {s : State} {c : Nat} {meas : Nat} (hm : Sub 80 msk) (k0 : Keep msk sa s) :
    Keep msk sa (@State.attribute s c meas) := by
  unfold State.attribute
  extract_lets v0 v1 v2 v3 v4
  clear_value v0
  clear_value v1
  have h5 : Keep msk sa v3 := by
    unfold v3
    refine keep_foldl ?_ ?_
    · exact k0
    · intro x6 x7 x8
      exact State.acct_keep (.of hm) x8
  clear_value v3
  clear_value v4
  exact State.setReg64_keep (.of hm) h5

theorem State.acctEpoch_keep {s : State} {old : Nat} {p : Nat} (hm : Sub 150209232 msk) (k0 : Keep msk sa s) :
    Keep msk sa (@State.acctEpoch s old p) := by
  unfold State.acctEpoch
  extract_lets v0 v1 v2 v3 v4 v5
  clear_value v0
  have h6 : Keep msk sa v1 := by
    unfold v1
    refine keep_ite ?_ ?_
    · intro x7
      exact State.setRam64_keep (.of hm) k0
    · intro x8
      exact k0
  clear_value v1
  have h9 : Keep msk sa v2 := by
    unfold v2
    exact State.setRam_keep (.of hm) h6
  clear_value v2
  clear_value v3
  clear_value v4
  clear_value v5
  refine keep_ite ?_ ?_
  · intro x10
    exact keep_mk 262144 (.of hm) h9
  · intro x11
    exact State.acctWrite_keep (.of hm) (keep_mk 262144 (.of hm) h9)

/-! ### Machine/Resolve.lean -/

theorem State.decrement_keep {s : State} {n : Nat} {amt : Nat} {src : Nat} (hm : Sub 148635348 msk) (k0 : Keep msk sa s) :
    Keep msk sa (@State.decrement s n amt src) := by
  unfold State.decrement
  extract_lets v0 v1 v2 v3
  clear_value v0
  have h4 : Keep msk sa v1 := by
    unfold v1
    exact State.readNode_keep (.of hm) k0
  clear_value v1
  clear_value v2
  have h5 : Keep msk sa v3 := by
    unfold v3
    exact State.decision_keep (.of hm) (State.progress_keep (.of hm) (State.setDep_keep (.of hm) h4))
  clear_value v3
  split
  · rename_i z6 z7 z8 z9
    exact State.rowFail_keep (.of hm) h4
  · rename_i z10 z11
    refine keep_ite ?_ ?_
    · intro x12
      refine keep_ite ?_ ?_
      · intro x13
        exact h5
      · intro x14
        refine keep_ite ?_ ?_
        · intro x15
          exact State.release_keep (.of hm) h5
        · intro x16
          exact State.setNd_keep (.of hm) h5
    · intro x17
      exact State.killWith_keep (.of hm) h4

theorem State.remoteEdge_keep {s : State} {n : Nat} {k : Nat} (hm : Sub 148635348 msk) (k0 : Keep msk sa s) :
    Keep msk sa (@State.remoteEdge s n k) := by
  unfold State.remoteEdge
  extract_lets v0 v1 v2 v3
  clear_value v0
  clear_value v1
  clear_value v2
  clear_value v3
  refine keep_ite ?_ ?_
  · intro x4
    exact State.killWith_keep (.of hm) k0
  · intro x5
    split
    · rename_i z6 z7
      exact k0
    · rename_i z8 z9 z10
      split
      · rename_i z11 z12
        exact State.killWith_keep (.of hm) k0
      · rename_i z13 z14 z15
        extract_lets v16
        clear_value v16
        exact keep_mk 4096 (.of hm) k0

theorem State.postEdge_keep {s : State} {n : Nat} {k : Nat} (hm : Sub 6144 msk) (k0 : Keep msk sa s) :
    Keep msk sa (@State.postEdge s n k) := by
  unfold State.postEdge
  extract_lets v0 v1 v2 v3
  clear_value v0
  clear_value v1
  have h4 : Keep msk sa v2 := by
    unfold v2
    exact State.updLaunch_keep (.of hm) k0
  clear_value v2
  clear_value v3
  exact keep_mk 4096 (.of hm) h4

theorem State.walkEdge_keep {s0 : State} {es : List TakenEdge} {x : State × List Nat} {e : TakenEdge} (hm : Sub 148635348 msk) (k0 : Keep msk sa s0) (k1 : KeepP msk sa x) :
    KeepP msk sa (@State.walkEdge s0 es x e) := by
  unfold State.walkEdge
  split
  · rename_i z0 z1 z2
    extract_lets v3 v4
    have h5 : Keep msk sa v3 := by
      unfold v3
      exact State.corrected_keep (.of hm) k1
    clear_value v3
    clear_value v4
    refine keepP_ite ?_ ?_
    · intro x6
      exact keepP_mk h5
    · intro x7
      refine keepP_ite ?_ ?_
      · intro x8
        exact keepP_mk (State.rowFail_keep (.of hm) h5)
      · intro x9
        split
        · rename_i z10 z11
          refine keepP_ite ?_ ?_
          · intro x12
            exact keepP_mk h5
          · intro x13
            exact keepP_mk (State.decrement_keep (.of hm) h5)
        · rename_i z14 z15
          exact keepP_mk (State.remoteEdge_keep (.of hm) h5)
        · rename_i z16 z17
          exact keepP_mk (State.postEdge_keep (.of hm) h5)
        · rename_i z18 z19 z20 z21
          exact keepP_mk h5

theorem State.retireNode_keep {s : State} {w : WalkEnt} (hm : Sub 215629524 msk) (k0 : Keep msk sa s) :
    Keep msk sa (@State.retireNode s w) := by
  unfold State.retireNode
  extract_lets v0 v1 v2 v3
  clear_value v0
  clear_value v1
  clear_value v2
  have h4 : Keep msk sa v3 := by
    unfold v3
    exact State.reportRouter_keep (.of hm) (State.setNd_keep (.of hm) k0)
  clear_value v3
  refine keep_ite ?_ ?_
  · intro x5
    exact k0
  · intro x6
    refine keep_ite ?_ ?_
    · intro x7
      exact keep_mk 4096 (.of hm) k0
    · intro x8
      refine keep_ite ?_ ?_
      · intro x9
        exact State.freeNode_keep (.of hm) h4
      · intro x10
        refine keep_ite ?_ ?_
        · intro x11
          exact State.tryRetire_keep (.of hm) h4
        · intro x12
          exact h4

theorem State.walkCheck_keep {s : State} (hm : Sub 148635348 msk) (k0 : Keep msk sa s) :
    Keep msk sa (@State.walkCheck s) := by
  unfold State.walkCheck
  refine keep_foldl ?_ ?_
  · exact k0
  · intro x0 x1 x2
    extract_lets v3
    have h4 : Keep msk sa v3 := by
      unfold v3
      exact State.readNode_keep (.of hm) x2
    clear_value v3
    refine keep_ite ?_ ?_
    · intro x5
      exact h4
    · intro x6
      split
      · rename_i z7 z8 z9 z10
        exact State.rowFail_keep (.of hm) h4
      · rename_i z11 z12
        exact h4

theorem State.walkCc_keep {s : State} (hm : Sub 215744212 msk) (k0 : Keep msk sa s) :
    Keep msk sa (@State.walkCc s) := by
  unfold State.walkCc
  extract_lets v0 v1 v2 v3
  clear_value v0
  have h4 : Keep msk sa v1 := by
    unfold v1
    exact State.walkCheck_keep (.of hm) (keep_mk 4 (.of hm) k0)
  clear_value v1
  clear_value v2
  clear_value v3
  split
  · rename_i z5 z6 z7 z8 z9
    extract_lets v10
    have h11 : Keep msk sa v10 := by
      unfold v10
      exact State.setBp_keep (.of hm) (keep_mk 4096 (.of hm) h4)
    clear_value v10
    split
    · rename_i z12 z13 z14 z15
      have h16 : Keep msk sa z13 := by
        refine keepP_eq z15 ?_
        refine keepP_foldl ?_ ?_
        · exact keepP_mk h11
        · intro x17 x18 x19
          refine State.walkEdge_keep (.of hm) ?_ ?_
          · exact h11
          · exact x19
      refine keep_foldl ?_ ?_
      · exact h16
      · intro x20 x21 x22
        exact State.retireNode_keep (.of hm) x22

theorem State.makeTiller_keep {s : State} {d : List Word} {slot : Nat} {level : Nat} {part : Nat} {n : Nat} {i : Nat} (hm : Sub 8392900 msk) (k0 : Keep msk sa s) :
    Keep msk sa (@State.makeTiller s d slot level part n i) := by
  unfold State.makeTiller
  extract_lets v0 v1 v2 v3
  clear_value v0
  clear_value v1
  have h4 : Keep msk sa v2 := by
    unfold v2
    exact State.setRow_keep (.of hm) k0
  clear_value v2
  have h5 : Keep msk sa v3 := by
    unfold v3
    exact State.setRow_keep (.of hm) h4
  clear_value v3
  exact State.makeReady_keep (.of hm) h5

theorem State.spawnRemainder_keep {s : State} {w : Spawn} {d : List Word} (hm : Sub 148635348 msk) (k0 : Keep msk sa s) :
    Keep msk sa (@State.spawnRemainder s w d) := by
  unfold State.spawnRemainder
  refine keep_ite ?_ ?_
  · intro x0
    exact k0
  · intro x1
    exact State.decrement_keep (.of hm) k0

theorem State.makeTillers_keep {s : State} {w : Spawn} {d : List Word} {free : List Nat} (hm : Sub 8392900 msk) (k0 : Keep msk sa s) :
    Keep msk sa (@State.makeTillers s w d free) := by
  unfold State.makeTillers
  refine keep_ite ?_ ?_
  · intro x0
    exact k0
  · intro x1
    refine keep_foldl ?_ ?_
    · exact k0
    · intro x2 x3 x4
      exact State.makeTiller_keep (.of hm) x4

theorem State.acceptSpawn_keep {s : State} (hm : Sub 148635348 msk) (k0 : Keep msk sa s) :
    Keep msk sa (@State.acceptSpawn s) := by
  unfold State.acceptSpawn
  split
  · rename_i z0 z1
    exact k0
  · rename_i z2 z3 z4 z5
    split
    · rename_i z6 z7
      exact k0
    · rename_i z8 z9 z10
      extract_lets v11 v12 v13
      clear_value v11
      clear_value v12
      clear_value v13
      refine keep_ite ?_ ?_
      · intro x14
        exact k0
      · intro x15
        refine keep_ite ?_ ?_
        · intro x16
          exact keep_mk 4096 (.of hm) k0
        · intro x17
          exact State.makeTillers_keep (.of hm) (State.spawnRemainder_keep (.of hm) (keep_mk 4096 (.of hm) k0))

theorem execRemoteEdgeSend_keep {s : State} (hm : Sub 75501648 msk) (k0 : Keep msk sa s) :
    KeepO msk sa (@execRemoteEdgeSend s) := by
  unfold execRemoteEdgeSend
  split
  · rename_i z0 z1
    exact keepO_next k0
  · rename_i z2 z3 z4
    extract_lets v5 v6 v7 v8 v9
    clear_value v5
    clear_value v7
    have h10 : Keep msk sa v8 := by
      unfold v8
      exact keep_mk 4096 (.of hm) k0
    clear_value v8
    have h11 : Keep msk sa v9 := by
      unfold v9
      exact State.incRf_keep (.of hm) h10
    clear_value v9
    exact keepO_next (State.sendFlits_keep (.of hm) h11)

theorem execSpawnAccept_keep {s : State} (hm : Sub 148635348 msk) (k0 : Keep msk sa s) :
    KeepO msk sa (@execSpawnAccept s) := by
  unfold execSpawnAccept
  exact keepO_next (State.acceptSpawn_keep (.of hm) k0)

/-! ### Machine/SemOps.lean -/

theorem State.setSem_keep {s : State} {i : Nat} {v : Nat} (hm : Sub 8388672 msk) (k0 : Keep msk sa s) :
    Keep msk sa (@State.setSem s i v) := by
  unfold State.setSem
  exact State.decision_keep (.of hm) (State.setRam_keep (.of hm) (State.setRam_keep (.of hm) k0))

theorem State.reportSem_keep {s : State} {e : Err} {i : Nat} (hm : Sub 12582928 msk) (k0 : Keep msk sa s) :
    Keep msk sa (@State.reportSem s e i) := by
  unfold State.reportSem
  exact State.reportRow_keep (.of hm) k0

theorem State.checkSem_keep {s : State} {i : Nat} (hm : Sub 12583056 msk) (k0 : Keep msk sa s) :
    KeepP msk sa (@State.checkSem s i) := by
  unfold State.checkSem
  extract_lets v0
  have h1 : Keep msk sa v0 := by
    unfold v0
    exact State.corrected_keep (.of hm) k0
  clear_value v0
  split
  · rename_i z2 z3 z4
    exact keepP_mk (State.reportSem_keep (.of hm) h1)
  · rename_i z5 z6
    exact keepP_mk h1

theorem State.misuse_keep {s : State} {p : Nat} (hm : Sub 16 msk) (k0 : Keep msk sa s) :
    Keep msk sa (@State.misuse s p) := by
  unfold State.misuse
  exact State.incRf_keep (.of hm) k0

theorem State.wakeBindingLink_keep {s : State} {b : Bind} (hm : Sub 24576 msk) (k0 : Keep msk sa s) :
    Keep msk sa (@State.wakeBindingLink s b) := by
  unfold State.wakeBindingLink
  extract_lets v0 v1
  have h2 : Keep msk sa v0 := by
    unfold v0
    exact State.wakeLink_keep (.of hm) k0
  clear_value v0
  clear_value v1
  exact keep_mk 16384 (.of hm) h2

theorem State.grantWait_keep {s : State} {w : SemWait} {v : Nat} (hm : Sub 148635348 msk) (k0 : Keep msk sa s) :
    Keep msk sa (@State.grantWait s w v) := by
  unfold State.grantWait
  split
  · rename_i z0 z1 z2 z3
    extract_lets v4 v5
    clear_value v4
    have h6 : Keep msk sa v5 := by
      unfold v5
      exact keep_mk 16384 (.of hm) k0
    clear_value v5
    split
    · rename_i z7 z8 z9
      refine keep_ite ?_ ?_
      · intro x10
        exact State.makePending_keep (.of hm) h6
      · intro x11
        exact h6
    · rename_i z12 z13
      exact h6
  · rename_i z14 z15 z16
    extract_lets v17 v18 v19
    have h20 : Keep msk sa v17 := by
      unfold v17
      exact State.dropWait_keep (.of hm) k0
    clear_value v17
    clear_value v18
    have h21 : Keep msk sa v19 := by
      unfold v19
      exact keep_mk 16384 (.of hm) h20
    clear_value v19
    split
    · rename_i z22 z23
      exact h20
    · rename_i z24 z25 z26
      extract_lets v27
      have h28 : Keep msk sa v27 := by
        unfold v27
        exact State.updLaunch_keep (.of hm) h21
      clear_value v27
      exact State.decrement_keep (.of hm) h28
  · rename_i z29 z30 z31
    split
    · rename_i z32 z33
      exact State.dropWait_keep (.of hm) k0
    · rename_i z34 z35 z36
      refine keep_ite ?_ ?_
      · intro x37
        exact State.wakeBindingLink_keep (.of hm) (State.dropWait_keep (.of hm) k0)
      · intro x38
        exact k0

theorem State.serveConsumer_keep {s : State} {i : Nat} {who : WaitFor} (hm : Sub 148635348 msk) (k0 : Keep msk sa s) :
    Keep msk sa (@State.serveConsumer s i who) := by
  unfold State.serveConsumer
  split
  · rename_i z0 z1
    exact k0
  · rename_i z2 z3 z4
    refine keep_ite ?_ ?_
    · intro x5
      exact k0
    · intro x6
      extract_lets v7
      clear_value v7
      exact State.grantWait_keep (.of hm) (State.setSem_keep (.of hm) k0)

theorem State.serveViewer_keep {s : State} {i : Nat} {who : WaitFor} (hm : Sub 148635348 msk) (k0 : Keep msk sa s) :
    Keep msk sa (@State.serveViewer s i who) := by
  unfold State.serveViewer
  split
  · rename_i z0 z1
    exact k0
  · rename_i z2 z3 z4
    refine keep_ite ?_ ?_
    · intro x5
      exact State.grantWait_keep (.of hm) k0
    · intro x6
      exact k0

theorem State.evalSems_keep {s : State} (hm : Sub 148635348 msk) (k0 : Keep msk sa s) :
    Keep msk sa (@State.evalSems s) := by
  unfold State.evalSems
  extract_lets v0 v1 v2 v3
  clear_value v0
  clear_value v1
  clear_value v2
  have h4 : Keep msk sa v3 := by
    unfold v3
    exact keep_mk 16384 (.of hm) k0
  clear_value v3
  split
  · rename_i z5 z6 z7 z8
    have h9 : Keep msk sa z6 := by
      refine keepP_eq z8 ?_
      refine keepP_foldl ?_ ?_
      · exact keepP_mk h4
      · intro x10 x11 x12
        refine keepP_ite ?_ ?_
        · intro x13
          exact x12
        · intro x14
          split
          · rename_i z15 z16 z17
            have h18 : Keep msk sa z16 := by
              refine keepP_eq z17 ?_
              exact State.checkSem_keep (.of hm) (keepP_fst x12)
            exact keepP_mk h18
          · rename_i z19 z20 z21 z22
            have h23 : Keep msk sa z20 := by
              refine keepP_eq z22 ?_
              exact State.checkSem_keep (.of hm) (keepP_fst x12)
            exact keepP_mk h23
    extract_lets v24
    unfold v24
    refine keep_foldl ?_ ?_
    · refine keep_foldl ?_ ?_
      · exact h9
      · intro x25 x26 x27
        refine keep_foldl ?_ ?_
        · exact x27
        · intro x28 x29 x30
          exact State.serveConsumer_keep (.of hm) x30
    · intro x31 x32 x33
      refine keep_foldl ?_ ?_
      · exact x33
      · intro x34 x35 x36
        exact State.serveViewer_keep (.of hm) x36

theorem State.addWait_keep {s : State} {i : Nat} {thresh : Nat} {consume : Bool} {who : WaitFor} (hm : Sub 16384 msk) (k0 : Keep msk sa s) :
    Keep msk sa (@State.addWait s i thresh consume who) := by
  unfold State.addWait
  exact State.touchSem_keep (.of hm) (keep_mk 16384 (.of hm) k0)

theorem State.semOp_keep {s : State} {k : Nat} (hm : Sub 4 msk) (k0 : Keep msk sa s) :
    Keep msk sa (@State.semOp s k) := by
  unfold State.semOp
  exact keep_mk 4 (.of hm) k0

theorem State.setShv_keep {s : State} {k : Nat} {f : Fld} {v : Nat} (hm : Sub 64 msk) (k0 : Keep msk sa s) :
    Keep msk sa (@State.setShv s k f v) := by
  unfold State.setShv
  exact State.setRm_keep (.of hm) k0

theorem State.updSheafX_keep {s : State} {k : Nat} {f : SheafX → SheafX} (hm : Sub 16384 msk) (k0 : Keep msk sa s) :
    Keep msk sa (@State.updSheafX s k f) := by
  unfold State.updSheafX
  exact keep_mk 16384 (.of hm) k0

theorem State.faultSheaf_keep {s : State} {k : Nat} {e : Err} (hm : Sub 12582992 msk) (k0 : Keep msk sa s) :
    Keep msk sa (@State.faultSheaf s k e) := by
  unfold State.faultSheaf
  exact State.setShv_keep (.of hm) (State.reportPlain_keep (.of hm) k0)

theorem State.sendSheaf_keep {s : State} {type : Nat} {k : Nat} {dev : Nat} {gen : Nat} (hm : Sub 75514960 msk) (k0 : Keep msk sa s) :
    Keep msk sa (@State.sendSheaf s type k dev gen) := by
  unfold State.sendSheaf
  extract_lets v0 v1 v2 v3
  clear_value v0
  clear_value v1
  clear_value v2
  have h4 : Keep msk sa v3 := by
    unfold v3
    exact keep_mk 17408 (.of hm) k0
  clear_value v3
  exact State.sendFlits_keep (.of hm) h4

theorem State.nextGen_keep {s : State} {k : Nat} (hm : Sub 16448 msk) (k0 : Keep msk sa s) :
    Keep msk sa (@State.nextGen s k) := by
  unfold State.nextGen
  extract_lets v0 v1 v2 v3
  have h4 : Keep msk sa v0 := by
    unfold v0
    exact State.setRam64_keep (.of hm) k0
  clear_value v0
  have h5 : Keep msk sa v1 := by
    unfold v1
    exact State.setShv_keep (.of hm) h4
  clear_value v1
  have h6 : Keep msk sa v2 := by
    unfold v2
    exact State.setRam64_keep (.of hm) h5
  clear_value v2
  have h7 : Keep msk sa v3 := by
    unfold v3
    exact State.setShv_keep (.of hm) (State.setRam64_keep (.of hm) h6)
  clear_value v3
  exact State.updSheafX_keep (.of hm) h7

theorem State.queueRelease_keep {s : State} {k : Nat} (hm : Sub 16384 msk) (k0 : Keep msk sa s) :
    Keep msk sa (@State.queueRelease s k) := by
  unfold State.queueRelease
  exact keep_mk 16384 (.of hm) k0

theorem State.releaseRemote_keep {s : State} {k : Nat} {g : Nat} {srcs : List Nat} (hm : Sub 75514960 msk) (k0 : Keep msk sa s) :
    Keep msk sa (@State.releaseRemote s k g srcs) := by
  unfold State.releaseRemote
  refine keep_ite ?_ ?_
  · intro x0
    refine keep_foldl ?_ ?_
    · exact k0
    · intro x1 x2 x3
      exact State.sendSheaf_keep (.of hm) x3
  · intro x4
    exact k0

theorem State.completeSheaf_keep {s : State} {k : Nat} (hm : Sub 75514960 msk) (k0 : Keep msk sa s) :
    Keep msk sa (@State.completeSheaf s k) := by
  unfold State.completeSheaf
  exact State.releaseRemote_keep (.of hm) (State.queueRelease_keep (.of hm) (State.nextGen_keep (.of hm) k0))

theorem State.checkSheaf_keep {s : State} {k : Nat} (hm : Sub 79709264 msk) (k0 : Keep msk sa s) :
    Keep msk sa (@State.checkSheaf s k) := by
  unfold State.checkSheaf
  refine keep_ite ?_ ?_
  · intro x0
    exact k0
  · intro x1
    refine keep_ite ?_ ?_
    · intro x2
      refine keep_ite ?_ ?_
      · intro x3
        exact State.completeSheaf_keep (.of hm) k0
      · intro x4
        exact k0
    · intro x5
      refine keep_ite ?_ ?_
      · intro x6
        exact State.faultSheaf_keep (.of hm) k0
      · intro x7
        exact State.sendSheaf_keep (.of hm) (State.setShv_keep (.of hm) k0)

theorem State.arrive_keep {s : State} {k : Nat} {v : Nat} (hm : Sub 79709264 msk) (k0 : Keep msk sa s) :
    Keep msk sa (@State.arrive s k v) := by
  unfold State.arrive
  extract_lets v0 v1 v2 v3
  clear_value v0
  have h4 : Keep msk sa v1 := by
    unfold v1
    exact State.setRam64_keep (.of hm) k0
  clear_value v1
  have h5 : Keep msk sa v2 := by
    unfold v2
    exact State.updSheafX_keep (.of hm) h4
  clear_value v2
  have h6 : Keep msk sa v3 := by
    unfold v3
    exact State.setRam64_keep (.of hm) k0
  clear_value v3
  refine keep_ite ?_ ?_
  · intro x7
    exact State.misuse_keep (.of hm) k0
  · intro x8
    refine keep_ite ?_ ?_
    · intro x9
      exact State.reportPlain_keep (.of hm) (State.misuse_keep (.of hm) k0)
    · intro x10
      refine keep_ite ?_ ?_
      · intro x11
        exact State.checkSheaf_keep (.of hm) h5
      · intro x12
        refine keep_ite ?_ ?_
        · intro x13
          exact State.updSheafX_keep (.of hm) h6
        · intro x14
          exact State.reportPlain_keep (.of hm) (State.misuse_keep (.of hm) k0)

theorem State.semAdd_keep {s : State} {i : Nat} {v : Nat} (hm : Sub 79709392 msk) (k0 : Keep msk sa s) :
    KeepP msk sa (@State.semAdd s i v) := by
  unfold State.semAdd
  split
  · rename_i z0 z1 z2 z3
    have h4 : Keep msk sa z1 := by
      refine keepP_eq z3 ?_
      exact State.checkSem_keep (.of hm) k0
    exact keepP_mk h4
  · rename_i z5 z6 z7
    have h8 : Keep msk sa z6 := by
      refine keepP_eq z7 ?_
      exact State.checkSem_keep (.of hm) k0
    split
    · rename_i z9 z10 z11
      exact keepP_mk (State.arrive_keep (.of hm) h8)
    · rename_i z12 z13
      extract_lets v14 v15 v16 v17
      clear_value v14
      have h18 : Keep msk sa v15 := by
        unfold v15
        exact State.setSem_keep (.of hm) h8
      clear_value v15
      clear_value v16
      have h19 : Keep msk sa v17 := by
        unfold v17
        refine State.touchSem_keep (.of hm) ?_
        refine keep_ite ?_ ?_
        · intro x20
          exact State.setRm_keep (.of hm) h18
        · intro x21
          exact h18
      clear_value v17
      exact keepP_mk h19

theorem State.reportSat_keep {s : State} {i : Nat} {a : SemAnswer} (hm : Sub 12582928 msk) (k0 : Keep msk sa s) :
    Keep msk sa (@State.reportSat s i a) := by
  unfold State.reportSat
  refine keep_ite ?_ ?_
  · intro x0
    exact State.reportPlain_keep (.of hm) k0
  · intro x1
    exact k0

theorem State.semSub_keep {s : State} {i : Nat} {v : Nat} (hm : Sub 12599504 msk) (k0 : Keep msk sa s) :
    KeepP msk sa (@State.semSub s i v) := by
  unfold State.semSub
  split
  · rename_i z0 z1 z2 z3
    have h4 : Keep msk sa z1 := by
      refine keepP_eq z3 ?_
      exact State.checkSem_keep (.of hm) k0
    exact keepP_mk h4
  · rename_i z5 z6 z7
    have h8 : Keep msk sa z6 := by
      refine keepP_eq z7 ?_
      exact State.checkSem_keep (.of hm) k0
    split
    · rename_i z9 z10 z11
      exact keepP_mk (State.misuse_keep (.of hm) h8)
    · rename_i z12 z13
      refine keepP_ite ?_ ?_
      · intro x14
        exact keepP_mk (State.setRm_keep (.of hm) h8)
      · intro x15
        extract_lets v16
        have h17 : Keep msk sa v16 := by
          unfold v16
          exact State.touchSem_keep (.of hm) (State.setSem_keep (.of hm) h8)
        clear_value v16
        exact keepP_mk h17

theorem State.applyReleases_keep {s : State} (hm : Sub 79709396 msk) (k0 : Keep msk sa s) :
    Keep msk sa (@State.applyReleases s) := by
  unfold State.applyReleases
  extract_lets v0 v1
  clear_value v0
  clear_value v1
  refine keep_foldl ?_ ?_
  · exact keep_mk 16384 (.of hm) k0
  · intro x2 x3 x4
    extract_lets v5
    clear_value v5
    split
    · rename_i z6 z7 z8 z9
      have h10 : Keep msk sa z7 := by
        refine keepP_eq z9 ?_
        exact State.semAdd_keep (.of hm) (State.semOp_keep (.of hm) x4)
      exact State.checkSheaf_keep (.of hm) (State.reportSat_keep (.of hm) h10)
end Sys2Proof.Machine
end

