-- ==== Sys2Proof/Laws/KeepLaunch.lean ====
section
/-! SUPPORT. What every command keeps: templates, launches, events, the streams and queue heads. -/

-- One declaration at a time: checked side by side, the lemmas ask for more threads than the checks may start.
set_option Elab.async false

namespace Sys2Proof.Machine

variable {msk : Nat} {sa : State}

/-! ### Machine/TmplOps.lean -/

theorem State.damageGen_keep {s : State} {tmpl : Nat} {gen : Nat} {e : Err} {part : Nat} {idx : Nat} {word : Nat} (hm : Sub 148635348 msk) (k0 : Keep msk sa s) :
    Keep msk sa (@State.damageGen s tmpl gen e part idx word) := by
  unfold State.damageGen
  extract_lets v0 v1
  have h2 : Keep msk sa v0 := by
    unfold v0
    exact State.reportRow_keep (.of hm) k0
  clear_value v0
  have h3 : Keep msk sa v1 := by
    unfold v1
    exact State.updGen_keep (.of hm) h2
  clear_value v1
  refine keep_foldl ?_ ?_
  · exact h3
  · intro x4 x5 x6
    exact State.killLaunch_keep (.of hm) x6

theorem State.dirRead_keep {s : State} {i : Nat} (hm : Sub 148635348 msk) (k0 : Keep msk sa s) :
    Keep msk sa (@State.dirRead s i) := by
  unfold State.dirRead
  extract_lets v0 v1
  clear_value v0
  have h2 : Keep msk sa v1 := by
    unfold v1
    exact State.corrected_keep (.of hm) k0
  clear_value v1
  split
  · rename_i z3 z4 z5
    refine keep_ite ?_ ?_
    · intro x6
      exact State.damageGen_keep (.of hm) h2
    · intro x7
      exact h2
  · rename_i z8 z9
    exact h2

theorem State.genRead_keep {s : State} {g : Gen} (hm : Sub 12583056 msk) (k0 : Keep msk sa s) :
    Keep msk sa (@State.genRead s g) := by
  unfold State.genRead
  extract_lets v0
  have h1 : Keep msk sa v0 := by
    unfold v0
    refine keep_foldl ?_ ?_
    · exact k0
    · intro x2 x3 x4
      exact State.corrected_keep (.of hm) x4
  clear_value v0
  refine keep_foldl ?_ ?_
  · exact h1
  · intro x5 x6 x7
    exact State.corrected_keep (.of hm) x7

theorem State.freeDir_keep {s : State} {i : Nat} (hm : Sub 192 msk) (k0 : Keep msk sa s) :
    Keep msk sa (@State.freeDir s i) := by
  unfold State.freeDir
  exact State.setRow_keep (.of hm) k0

theorem State.updTmplJob_keep {s : State} {c : Nat} {q : Nat} {f : TmplJob → TmplJob} (hm : Sub 2048 msk) (k0 : Keep msk sa s) :
    Keep msk sa (@State.updTmplJob s c q f) := by
  unfold State.updTmplJob
  exact keep_mk 2048 (.of hm) k0

theorem State.dropTmplJob_keep {s : State} {c : Nat} {q : Nat} (hm : Sub 133328 msk) (k0 : Keep msk sa s) :
    Keep msk sa (@State.dropTmplJob s c q) := by
  unfold State.dropTmplJob
  split
  · rename_i z0 z1
    exact k0
  · rename_i z2 z3 z4
    extract_lets v5 v6 v7 v8
    have h9 : Keep msk sa v7 := by
      unfold v7
      exact keep_mk 2048 (.of hm) k0
    have h10 : Keep msk sa v8 := by
      unfold v8
      refine keep_ite ?_ ?_
      · intro x11
        exact State.releaseTmpl_keep (.of hm) h9
      · intro x12
        exact h9
    refine keep_ite ?_ ?_
    · intro x13
      refine keep_ite ?_ ?_
      · intro x14
        exact State.setRm_keep (.of hm) h10
      · intro x15
        exact h10
    · intro x16
      exact State.freeDir_keep (.of hm) h9

theorem State.refuseTmpl_keep {s : State} {c : Nat} {q : Nat} {pkt : List Word} {e : Err} {result : optParam Nat 0} (hm : Sub 13766352 msk) (k0 : Keep msk sa s) :
    Keep msk sa (@State.refuseTmpl s c q pkt e result) := by
  unfold State.refuseTmpl
  exact State.refuse_keep (.of hm) (State.dropTmplJob_keep (.of hm) k0)

theorem State.allocTmpl_keep {s : State} {p : Nat} {nodes : Nat} {edges : Nat} (hm : Sub 2064 msk) (k0 : Keep msk sa s) :
    KeepE msk sa (@State.allocTmpl s p nodes edges) := by
  unfold State.allocTmpl
  extract_lets v0 v1 v2
  clear_value v0
  clear_value v1
  clear_value v2
  refine keepE_ite ?_ ?_
  · intro x3
    exact keepE_error
  · intro x4
    split
    · rename_i z5 z6 z7 z8 z9 z10
      extract_lets v11
      have h12 : Keep msk sa v11 := by
        unfold v11
        exact keep_mk 2048 (.of hm) k0
      clear_value v11
      exact keepE_ok (keepP_mk (State.setRf_keep (.of hm) h12))
    · rename_i z13 z14 z15
      exact keepE_error

theorem State.writeImage_keep {s : State} {p : Nat} {nodeBase : Nat} {edgeBase : Nat} {st : Nat} {m : Image} (hm : Sub 192 msk) (k0 : Keep msk sa s) :
    Keep msk sa (@State.writeImage s p nodeBase edgeBase st m) := by
  unfold State.writeImage
  extract_lets v0
  have h1 : Keep msk sa v0 := by
    unfold v0
    refine keep_foldl ?_ ?_
    · exact k0
    · intro x2 x3 x4
      extract_lets v5 v6 v7
      clear_value v5
      clear_value v6
      exact State.setRow_keep (.of hm) x4
  clear_value v0
  refine keep_foldl ?_ ?_
  · exact h1
  · intro x8 x9 x10
    exact State.setRow_keep (.of hm) x10

theorem State.commitTmpl_keep {s : State} {c : Nat} {q : Nat} {pkt : List Word} {patch : Bool} {i : Nat} {p : Nat} {nodeBase : Nat} {edgeBase : Nat} {m : Image} (hm : Sub 15732432 msk) (k0 : Keep msk sa s) :
    Keep msk sa (@State.commitTmpl s c q pkt patch i p nodeBase edgeBase m) := by
  unfold State.commitTmpl
  extract_lets v0 v1 v2 v3 v4 v5
  clear_value v0
  have h6 : Keep msk sa v1 := by
    unfold v1
    exact State.setRow_keep (.of hm) k0
  clear_value v1
  clear_value v2
  clear_value v3
  clear_value v4
  have h7 : Keep msk sa v5 := by
    unfold v5
    exact keep_mk 2099200 (.of hm) h6
  clear_value v5
  exact State.finishHead_keep (.of hm) h7

theorem State.retireGen_keep {s : State} {i : Nat} (hm : Sub 133328 msk) (k0 : Keep msk sa s) :
    Keep msk sa (@State.retireGen s i) := by
  unfold State.retireGen
  extract_lets v0
  clear_value v0
  exact State.tryFreeGen_keep (.of hm) (State.updGen_keep (.of hm) k0)

theorem State.copyPatch_keep {s : State} {c : Nat} {q : Nat} (hm : Sub 148635348 msk) (k0 : Keep msk sa s) :
    Keep msk sa (@State.copyPatch s c q) := by
  unfold State.copyPatch
  split
  · rename_i z0 z1
    exact k0
  · rename_i z2 z3 z4
    split
    · rename_i z5 z6
      exact k0
    · rename_i z7 z8 z9
      extract_lets v10 v11 v12
      have h13 : Keep msk sa v10 := by
        unfold v10
        exact State.genRead_keep (.of hm) k0
      clear_value v10
      clear_value v11
      clear_value v12
      split
      · rename_i z14 z15 z16 z17 z18
        exact State.updTmplJob_keep (.of hm) (State.damageGen_keep (.of hm) h13)
      · rename_i z19 z20
        exact State.updTmplJob_keep (.of hm) (State.writeImage_keep (.of hm) h13)

theorem State.tmplData_keep {s : State} {c : Nat} {q : Nat} {pkt : List Word} {ok : Bool} {ws : List Word} (hm : Sub 13766352 msk) (k0 : Keep msk sa s) :
    Keep msk sa (@State.tmplData s c q pkt ok ws) := by
  unfold State.tmplData
  split
  · rename_i z0 z1
    exact k0
  · rename_i z2 z3 z4
    refine keep_ite ?_ ?_
    · intro x5
      exact State.refuseTmpl_keep (.of hm) k0
    · intro x6
      refine keep_ite ?_ ?_
      · intro x7
        exact State.updTmplJob_keep (.of hm) k0
      · intro x8
        refine keep_ite ?_ ?_
        · intro x9
          extract_lets v10 v11 v12
          clear_value v10
          have h13 : Keep msk sa v11 := by
            unfold v11
            exact State.updTmplJob_keep (.of hm) k0
          clear_value v11
          clear_value v12
          refine keep_ite ?_ ?_
          · intro x14
            exact State.refuseTmpl_keep (.of hm) k0
          · intro x15
            exact keepP_fst (State.mmRead_keep (.of hm) h13)
        · intro x16
          exact State.updTmplJob_keep (.of hm) k0

/-! ### Machine/Template.lean -/

theorem State.slowAway_keep {s : State} {c : Nat} {q : Nat} (hm : Sub 1024 msk) (k0 : Keep msk sa s) :
    Keep msk sa (@State.slowAway s c q) := by
  unfold State.slowAway
  exact keep_mk 1024 (.of hm) k0

theorem execLoadTemplate_keep {c : Nat} {q : Nat} {s : State} (hm : Sub 13635152 msk) (k0 : Keep msk sa s) :
    KeepO msk sa (@execLoadTemplate c q s) := by
  unfold execLoadTemplate
  split
  · rename_i z0 z1
    exact keepO_next k0
  · rename_i z2 z3 z4
    split
    · rename_i z5 z6
      exact keepO_next (State.refuse_keep (.of hm) k0)
    · rename_i z7 z8 z9
      extract_lets v10 v11 v12 v13
      clear_value v10
      have h14 : Keep msk sa v11 := by
        unfold v11
        exact State.setRm_keep (.of hm) (State.setRm_keep (.of hm) k0)
      clear_value v11
      clear_value v12
      have h15 : Keep msk sa v13 := by
        unfold v13
        exact State.slowAway_keep (.of hm) (keep_mk 2048 (.of hm) h14)
      clear_value v13
      exact keepO_next (keepP_fst (State.mmRead_keep (.of hm) h15))

theorem execTemplateCheckDone_keep {c : Nat} {q : Nat} {s : State} (hm : Sub 15863504 msk) (k0 : Keep msk sa s) :
    KeepO msk sa (@execTemplateCheckDone c q s) := by
  unfold execTemplateCheckDone
  split
  · rename_i z0 z1
    exact keepO_next k0
  · rename_i z2 z3 z4
    extract_lets v5 v6 v7 v8
    clear_value v5
    clear_value v6
    clear_value v7
    clear_value v8
    refine keepO_ite ?_ ?_
    · intro x9
      exact keepO_next k0
    · intro x10
      refine keepO_ite ?_ ?_
      · intro x11
        exact keepO_next (State.refuseTmpl_keep (.of hm) k0)
      · intro x12
        split
        · rename_i z13 z14 z15
          exact keepO_next (State.refuseTmpl_keep (.of hm) k0)
        · rename_i z16 z17 z18 z19 z20
          have h21 : Keep msk sa z17 := by
            refine keepE_eq z20 ?_
            exact State.allocTmpl_keep (.of hm) k0
          exact keepO_next (State.commitTmpl_keep (.of hm) (State.writeImage_keep (.of hm) h21))

theorem State.patchGo_keep {s : State} {c : Nat} {q : Nat} {j : TmplJob} {pkt : List Word} {g : Gen} (hm : Sub 13766352 msk) (k0 : Keep msk sa s) :
    Keep msk sa (@State.patchGo s c q j pkt g) := by
  unfold State.patchGo
  refine keep_ite ?_ ?_
  · intro x0
    refine keep_ite ?_ ?_
    · intro x1
      exact k0
    · intro x2
      exact State.pushPipe_keep (.of hm) (State.updTmplJob_keep (.of hm) k0)
  · intro x3
    refine keep_ite ?_ ?_
    · intro x4
      exact k0
    · intro x5
      split
      · rename_i z6 z7 z8
        exact State.refuseTmpl_keep (.of hm) k0
      · rename_i z9 z10 z11 z12 z13
        have h14 : Keep msk sa z10 := by
          refine keepE_eq z13 ?_
          exact State.allocTmpl_keep (.of hm) k0
        extract_lets v15 v16 v17
        have h18 : Keep msk sa v15 := by
          unfold v15
          exact State.setRm_keep (.of hm) h14
        clear_value v15
        clear_value v16
        have h19 : Keep msk sa v17 := by
          unfold v17
          exact State.updTmplJob_keep (.of hm) h18
        clear_value v17
        refine keep_ite ?_ ?_
        · intro x20
          exact h19
        · intro x21
          exact State.pushPipe_keep (.of hm) h19

theorem execPatchTemplate_keep {c : Nat} {q : Nat} {s : State} (hm : Sub 148635348 msk) (k0 : Keep msk sa s) :
    KeepO msk sa (@execPatchTemplate c q s) := by
  unfold execPatchTemplate
  extract_lets v0 v1
  clear_value v0
  clear_value v1
  split
  · rename_i z2 z3 z4
    extract_lets v5 v6 v7
    have h8 : Keep msk sa v5 := by
      unfold v5
      exact State.dirRead_keep (.of hm) k0
    clear_value v5
    clear_value v6
    clear_value v7
    split
    · rename_i z9 z10 z11
      exact keepO_next (State.refuse_keep (.of hm) h8)
    · rename_i z12 z13 z14
      extract_lets v15
      have h16 : Keep msk sa v15 := by
        unfold v15
        exact State.slowAway_keep (.of hm) (keep_mk 2048 (.of hm) h8)
      clear_value v15
      exact keepO_next (keepP_fst (State.mmRead_keep (.of hm) h16))
  · rename_i z17 z18
    split
    · rename_i z19 z20
      exact keepO_next k0
    · rename_i z21 z22 z23
      refine keepO_ite ?_ ?_
      · intro x24
        exact keepO_next k0
      · intro x25
        split
        · rename_i z26 z27 z28
          exact keepO_next (State.refuseTmpl_keep (.of hm) k0)
        · rename_i z29 z30 z31
          split
          · rename_i z32 z33
            exact keepO_next k0
          · rename_i z34 z35 z36
            split
            · rename_i z37 z38 z39
              exact keepO_next (State.refuseTmpl_keep (.of hm) k0)
            · rename_i z40 z41
              exact keepO_next (State.patchGo_keep (.of hm) k0)

theorem execPatchCommit_keep {c : Nat} {q : Nat} {s : State} (hm : Sub 15863504 msk) (k0 : Keep msk sa s) :
    KeepO msk sa (@execPatchCommit c q s) := by
  unfold execPatchCommit
  split
  · rename_i z0 z1
    exact keepO_next k0
  · rename_i z2 z3 z4
    extract_lets v5 v6 v7
    clear_value v5
    have h8 : Keep msk sa v6 := by
      unfold v6
      refine keep_foldl ?_ ?_
      · exact k0
      · intro x9 x10 x11
        exact State.setNd_keep (.of hm) x11
    clear_value v6
    have h12 : Keep msk sa v7 := by
      unfold v7
      exact State.updTmplJob_keep (.of hm) h8
    clear_value v7
    refine keepO_ite ?_ ?_
    · intro x13
      exact keepO_next k0
    · intro x14
      split
      · rename_i z15 z16
        exact keepO_next k0
      · rename_i z17 z18 z19
        extract_lets v20 v21
        clear_value v20
        clear_value v21
        refine keepO_ite ?_ ?_
        · intro x22
          exact keepO_next (State.refuseTmpl_keep (.of hm) k0)
        · intro x23
          refine keepO_ite ?_ ?_
          · intro x24
            exact keepO_next (State.refuseTmpl_keep (.of hm) k0)
          · intro x25
            exact keepO_next (State.commitTmpl_keep (.of hm) (State.retireGen_keep (.of hm) h12))

theorem State.abandonPatches_keep {s : State} {i : Nat} (hm : Sub 13766352 msk) (k0 : Keep msk sa s) :
    Keep msk sa (@State.abandonPatches s i) := by
  unfold State.abandonPatches
  extract_lets v0 v1 v2
  clear_value v0
  have h3 : Keep msk sa v1 := by
    unfold v1
    refine keep_foldl ?_ ?_
    · exact k0
    · intro x4 x5 x6
      exact State.refuseTmpl_keep (.of hm) x6
  clear_value v1
  clear_value v2
  refine keep_foldl ?_ ?_
  · exact h3
  · intro x7 x8 x9
    exact State.refuse_keep (.of hm) x9

theorem execFreeTemplate_keep {c : Nat} {q : Nat} {s : State} (hm : Sub 13766352 msk) (k0 : Keep msk sa s) :
    KeepO msk sa (@execFreeTemplate c q s) := by
  unfold execFreeTemplate
  split
  · rename_i z0 z1
    exact keepO_next k0
  · rename_i z2 z3 z4
    split
    · rename_i z5 z6 z7
      exact keepO_next (State.refuse_keep (.of hm) k0)
    · rename_i z8 z9 z10
      refine keepO_ite ?_ ?_
      · intro x11
        exact keepO_next k0
      · intro x12
        extract_lets v13
        have h14 : Keep msk sa v13 := by
          unfold v13
          exact State.retireGen_keep (.of hm) (State.abandonPatches_keep (.of hm) k0)
        clear_value v13
        exact keepO_next (State.finishHead_keep (.of hm) (State.freeDir_keep (.of hm) h14))

/-! ### Machine/Launch.lean -/

theorem State.refuseEvent_keep {s : State} {c : Nat} {q : Nat} {pkt : List Word} {h : Nat} {e : Err} (hm : Sub 13633104 msk) (k0 : Keep msk sa s) :
    Keep msk sa (@State.refuseEvent s c q pkt h e) := by
  unfold State.refuseEvent
  refine keep_ite ?_ ?_
  · intro x0
    exact State.refuse_keep (.of hm) k0
  · intro x1
    exact State.finishHead_keep (.of hm) (State.reportRow_keep (.of hm) k0)

theorem State.launchArrive_keep {s : State} {c : Nat} {q : Nat} {op : Nat} (hm : Sub 148635348 msk) (k0 : Keep msk sa s) :
    Keep msk sa (@State.launchArrive s c q op) := by
  unfold State.launchArrive
  split
  · rename_i z0 z1
    exact k0
  · rename_i z2 z3 z4
    extract_lets v5 v6 v7 v8 v9
    clear_value v5
    have h10 : Keep msk sa v6 := by
      unfold v6
      refine keep_ite ?_ ?_
      · intro x11
        exact k0
      · intro x12
        exact State.dirRead_keep (.of hm) k0
    clear_value v6
    clear_value v7
    have h13 : Keep msk sa v8 := by
      unfold v8
      exact State.blockHead_keep (.of hm) h10
    clear_value v8
    clear_value v9
    refine keep_ite ?_ ?_
    · intro x14
      exact k0
    · intro x15
      split
      · rename_i z16 z17 z18 z19
        exact State.refuseEvent_keep (.of hm) h10
      · rename_i z20 z21
        split
        · rename_i z22 z23 z24
          exact State.refuse_keep (.of hm) h10
        · rename_i z25 z26
          exact keep_mk 2048 (.of hm) h13

theorem State.acceptLaunch_keep {s : State} {w : Waiting} {n : Nat} {e : Nat} {i : Option Nat} {slot : Nat} {nb : Nat} {eb : Nat} (hm : Sub 13700816 msk) (k0 : Keep msk sa s) :
    Keep msk sa (@State.acceptLaunch s w n e i slot nb eb) := by
  unfold State.acceptLaunch
  extract_lets v0 v1 v2 v3 v4 v5 v6 v7 v8 v9 v10 v11 v12 v13 v14 v15 v16 v17
  clear_value v0
  clear_value v1
  clear_value v2
  clear_value v3
  clear_value v4
  clear_value v5
  clear_value v6
  clear_value v7
  clear_value v8
  have h18 : Keep msk sa v9 := by
    unfold v9
    exact keep_mk 2048 (.of hm) k0
  clear_value v9
  have h19 : Keep msk sa v10 := by
    unfold v10
    exact State.setRow_keep (.of hm) h18
  clear_value v10
  have h20 : Keep msk sa v11 := by
    unfold v11
    exact State.setRf_keep (.of hm) h19
  clear_value v11
  have h21 : Keep msk sa v12 := by
    unfold v12
    exact State.setRf_keep (.of hm) h20
  clear_value v12
  have h22 : Keep msk sa v13 := by
    unfold v13
    exact State.setRf_keep (.of hm) h21
  clear_value v13
  have h23 : Keep msk sa v14 := by
    unfold v14
    exact State.setRf_keep (.of hm) h22
  clear_value v14
  have h24 : Keep msk sa v15 := by
    unfold v15
    split
    · rename_i z25 z26
      split
      · rename_i z27 z28 z29
        exact State.setReaders_keep (.of hm) h23
      · rename_i z30 z31
        exact h23
    · rename_i z32
      exact h23
  clear_value v15
  have h33 : Keep msk sa v16 := by
    unfold v16
    refine keep_ite ?_ ?_
    · intro x34
      exact State.setRf_keep (.of hm) h24
    · intro x35
      exact h24
  clear_value v16
  have h36 : Keep msk sa v17 := by
    unfold v17
    exact State.pushPipe_keep (.of hm) (State.setLaunchState_keep (.of hm) h33)
  clear_value v17
  refine keep_ite ?_ ?_
  · intro x37
    exact State.updStep_keep (.of hm) h36
  · intro x38
    exact State.consume_keep (.of hm) h36

theorem State.refuseWaiting_keep {s : State} {w : Waiting} {e : Err} (hm : Sub 148635348 msk) (k0 : Keep msk sa s) :
    Keep msk sa (@State.refuseWaiting s w e) := by
  unfold State.refuseWaiting
  extract_lets v0 v1
  clear_value v0
  have h2 : Keep msk sa v1 := by
    unfold v1
    exact keep_mk 2048 (.of hm) k0
  clear_value v1
  refine keep_ite ?_ ?_
  · intro x3
    exact State.streamFault_keep (.of hm) (State.reportPlain_keep (.of hm) h2)
  · intro x4
    exact State.refuse_keep (.of hm) h2

theorem State.tryLaunch_keep {s : State} {w : Waiting} (hm : Sub 148635348 msk) (k0 : Keep msk sa s) :
    KeepP msk sa (@State.tryLaunch s w) := by
  unfold State.tryLaunch
  split
  · rename_i z0 z1 z2
    exact keepP_mk (State.refuseWaiting_keep (.of hm) k0)
  · rename_i z3 z4 z5 z6 z7
    refine keepP_ite ?_ ?_
    · intro x8
      exact keepP_mk (State.refuseWaiting_keep (.of hm) k0)
    · intro x9
      refine keepP_ite ?_ ?_
      · intro x10
        exact keepP_mk k0
      · intro x11
        refine keepP_ite ?_ ?_
        · intro x12
          refine keepP_ite ?_ ?_
          · intro x13
            exact keepP_mk k0
          · intro x14
            exact keepP_mk (State.reportPlain_keep (.of hm) (State.openEpisode_keep (.of hm) k0))
        · intro x15
          split
          · rename_i z16 z17
            exact keepP_mk k0
          · rename_i z18 z19 z20 z21 z22
            exact keepP_mk (State.acceptLaunch_keep (.of hm) k0)

theorem State.copyNode_keep {s : State} {slot : Nat} {level : Nat} {t : Nat} {n : Nat} {edgeBase : Nat} (hm : Sub 192 msk) (k0 : Keep msk sa s) :
    Keep msk sa (@State.copyNode s slot level t n edgeBase) := by
  unfold State.copyNode
  extract_lets v0 v1 v2 v3 v4 v5
  clear_value v0
  clear_value v2
  clear_value v3
  clear_value v4
  clear_value v5
  exact State.setRow_keep (.of hm) k0

theorem State.copyEdge_keep {s : State} {t : Nat} {e : Nat} {nodeBase : Nat} (hm : Sub 192 msk) (k0 : Keep msk sa s) :
    Keep msk sa (@State.copyEdge s t e nodeBase) := by
  unfold State.copyEdge
  extract_lets v0
  clear_value v0
  exact State.setRow_keep (.of hm) k0

theorem State.copyOp_keep {s : State} {slot : Nat} {pkt : List Word} (hm : Sub 192 msk) (k0 : Keep msk sa s) :
    Keep msk sa (@State.copyOp s slot pkt) := by
  unfold State.copyOp
  extract_lets v0 v1
  clear_value v0
  clear_value v1
  exact State.setRow_keep (.of hm) k0

theorem State.applyEarly_keep {s : State} {slot : Nat} {p : Nat} {round : Nat} (hm : Sub 148635348 msk) (k0 : Keep msk sa s) :
    Keep msk sa (@State.applyEarly s slot p round) := by
  unfold State.applyEarly
  extract_lets v0 v1 v2 v3 v4 v5
  clear_value v1
  clear_value v2
  have h6 : Keep msk sa v3 := by
    unfold v3
    exact keep_mk 4096 (.of hm) k0
  clear_value v3
  clear_value v4
  have h7 : Keep msk sa v5 := by
    unfold v5
    refine keep_ite ?_ ?_
    · intro x8
      exact State.killWith_keep (.of hm) h6
    · intro x9
      exact h6
  clear_value v5
  refine keep_foldl ?_ ?_
  · exact h7
  · intro x10 x11 x12
    refine keep_ite ?_ ?_
    · intro x13
      exact State.reportRow_keep (.of hm) x12
    · intro x14
      refine keep_ite ?_ ?_
      · intro x15
        exact State.decrement_keep (.of hm) x12
      · intro x16
        exact x12

theorem State.copyEarly_keep {s : State} {slot : Nat} {l : Launch} (hm : Sub 148635348 msk) (k0 : Keep msk sa s) :
    Keep msk sa (@State.copyEarly s slot l) := by
  unfold State.copyEarly
  split
  · rename_i z0 z1 z2
    exact State.applyEarly_keep (.of hm) k0
  · rename_i z3 z4
    exact k0

theorem State.copyEnd_keep {s : State} {slot : Nat} (hm : Sub 8591444 msk) (k0 : Keep msk sa s) :
    Keep msk sa (@State.copyEnd s slot) := by
  unfold State.copyEnd
  refine keep_ite ?_ ?_
  · intro x0
    exact State.afterCopy_keep (.of hm) k0
  · intro x1
    exact k0

theorem State.copyDone_keep {s : State} {slot : Nat} {l : Launch} (hm : Sub 148635348 msk) (k0 : Keep msk sa s) :
    Keep msk sa (@State.copyDone s slot l) := by
  unfold State.copyDone
  exact State.copyEnd_keep (.of hm) (State.copyEarly_keep (.of hm) (State.updLaunch_keep (.of hm) k0))

theorem State.copyLaunch_keep {s : State} {slot : Nat} (hm : Sub 148635348 msk) (k0 : Keep msk sa s) :
    Keep msk sa (@State.copyLaunch s slot) := by
  unfold State.copyLaunch
  split
  · rename_i z0 z1
    exact k0
  · rename_i z2 z3 z4
    extract_lets v5 v6
    clear_value v5
    clear_value v6
    split
    · rename_i z7 z8 z9
      exact State.copyDone_keep (.of hm) (State.copyOp_keep (.of hm) k0)
    · rename_i z10 z11
      split
      · rename_i z12 z13
        exact k0
      · rename_i z14 z15 z16
        extract_lets v17 v18 v19
        have h20 : Keep msk sa v17 := by
          unfold v17
          exact State.genRead_keep (.of hm) k0
        clear_value v17
        have h21 : Keep msk sa v18 := by
          unfold v18
          refine keep_foldl ?_ ?_
          · exact h20
          · intro x22 x23 x24
            exact State.copyNode_keep (.of hm) x24
        clear_value v18
        have h25 : Keep msk sa v19 := by
          unfold v19
          refine keep_foldl ?_ ?_
          · exact h21
          · intro x26 x27 x28
            exact State.copyEdge_keep (.of hm) x28
        clear_value v19
        split
        · rename_i z29 z30 z31 z32 z33
          refine keep_ite ?_ ?_
          · intro x34
            exact State.killLaunch_keep (.of hm) h20
          · intro x35
            exact State.damageGen_keep (.of hm) h20
        · rename_i z36 z37
          exact State.dropReader_keep (.of hm) (State.copyDone_keep (.of hm) h25)

theorem execLaunchOp_keep {c : Nat} {q : Nat} {s : State} (hm : Sub 148635348 msk) (k0 : Keep msk sa s) :
    KeepO msk sa (@execLaunchOp c q s) := by
  unfold execLaunchOp
  exact keepO_next (State.launchArrive_keep (.of hm) k0)

theorem execLaunchGraph_keep {c : Nat} {q : Nat} {s : State} (hm : Sub 148635348 msk) (k0 : Keep msk sa s) :
    KeepO msk sa (@execLaunchGraph c q s) := by
  unfold execLaunchGraph
  exact keepO_next (State.launchArrive_keep (.of hm) k0)

theorem execLaunchAt_keep {c : Nat} {q : Nat} {s : State} (hm : Sub 148635348 msk) (k0 : Keep msk sa s) :
    KeepO msk sa (@execLaunchAt c q s) := by
  unfold execLaunchAt
  exact keepO_next (State.launchArrive_keep (.of hm) k0)

theorem execLaunchAccept_keep {s : State} (hm : Sub 148635348 msk) (k0 : Keep msk sa s) :
    KeepO msk sa (@execLaunchAccept s) := by
  unfold execLaunchAccept
  refine keepO_ite ?_ ?_
  · intro x0
    exact keepO_next k0
  · intro x1
    refine keepO_next ?_
    refine keepP_fst ?_
    refine keepP_foldl ?_ ?_
    · exact keepP_mk k0
    · intro x2 x3 x4
      refine keepP_ite ?_ ?_
      · intro x5
        exact x4
      · intro x6
        exact State.tryLaunch_keep (.of hm) (keepP_fst x4)

theorem execCopyFinish_keep {s : State} (hm : Sub 148635348 msk) (k0 : Keep msk sa s) :
    KeepO msk sa (@execCopyFinish s) := by
  unfold execCopyFinish
  split
  · rename_i z0 z1
    exact keepO_next k0
  · rename_i z2 z3 z4 z5
    extract_lets v6 v7
    clear_value v6
    have h8 : Keep msk sa v7 := by
      unfold v7
      exact keep_mk 2048 (.of hm) k0
    clear_value v7
    split
    · rename_i z9 z10
      exact keepO_next (State.copyLaunch_keep (.of hm) h8)
    · rename_i z11 z12 z13
      exact keepO_next (State.copyPatch_keep (.of hm) h8)

theorem execWaitsClear_keep {slot : Nat} {s : State} (hm : Sub 148635348 msk) (k0 : Keep msk sa s) :
    KeepO msk sa (@execWaitsClear slot s) := by
  unfold execWaitsClear
  split
  · rename_i z0 z1
    exact keepO_next k0
  · rename_i z2 z3 z4
    extract_lets v5
    have h6 : Keep msk sa v5 := by
      unfold v5
      exact State.slotRead_keep (.of hm) k0
    clear_value v5
    refine keepO_ite ?_ ?_
    · intro x7
      exact keepO_next h6
    · intro x8
      split
      · rename_i z9 z10 z11 z12
        extract_lets v13
        have h14 : Keep msk sa v13 := by
          unfold v13
          refine keep_ite ?_ ?_
          · intro x15
            exact State.reportNode_keep (.of hm) h6
          · intro x16
            exact State.reportRow_keep (.of hm) h6
        clear_value v13
        exact keepO_next (State.killLaunch_keep (.of hm) h14)
      · rename_i z17 z18
        refine keepO_ite ?_ ?_
        · intro x19
          exact keepO_next (State.readParam_keep (.of hm) (State.setSl_keep (.of hm) h6))
        · intro x20
          exact keepO_next h6

theorem execLaunchRelease_keep {slot : Nat} {s : State} (hm : Sub 142756048 msk) (k0 : Keep msk sa s) :
    KeepO msk sa (@execLaunchRelease slot s) := by
  unfold execLaunchRelease
  refine keepO_ite ?_ ?_
  · intro x0
    exact keepO_next (State.releaseLaunch_keep (.of hm) k0)
  · intro x1
    exact keepO_next k0

/-! ### Machine/Event.lean -/

theorem State.pendOrRun_keep {s : State} {c : Nat} {q : Nat} {pkt : List Word} {f : State → Nat → State} (hm : Sub 13633104 msk) (k0 : Keep msk sa s) (k1 : ∀ (a : State) (a_1 : Nat), Keep msk sa a → Keep msk sa (f a a_1)) :
    Keep msk sa (@State.pendOrRun s c q pkt f) := by
  unfold State.pendOrRun
  extract_lets v0
  clear_value v0
  refine keep_ite ?_ ?_
  · intro x1
    refine k1 _ _ ?_
    exact State.consume_keep (.of hm) k0
  · intro x2
    split
    · rename_i z3 z4
      exact k0
    · rename_i z5 z6 z7
      refine keep_ite ?_ ?_
      · intro x8
        exact State.updQueue_keep (.of hm) (State.consume_keep (.of hm) k0)
      · intro x9
        exact State.blockHead_keep (.of hm) k0

theorem State.applyRecord_keep {s : State} {c : Nat} {q : Nat} {n : Nat} {pkt : List Word} (hm : Sub 13633232 msk) (k0 : Keep msk sa s) :
    Keep msk sa (@State.applyRecord s c q n pkt) := by
  unfold State.applyRecord
  extract_lets v0
  clear_value v0
  split
  · rename_i z1 z2 z3
    exact State.complete_keep (.of hm) (State.reportCmd_keep (.of hm) k0)
  · rename_i z4 z5 z6
    split
    · rename_i z7 z8 z9 z10
      have h11 : Keep msk sa z8 := by
        refine keepP_eq z10 ?_
        exact State.checkEvent_keep (.of hm) k0
      exact State.complete_keep (.of hm) h11
    · rename_i z12 z13 z14
      have h15 : Keep msk sa z13 := by
        refine keepP_eq z14 ?_
        exact State.checkEvent_keep (.of hm) k0
      split
      · rename_i z16 z17 z18 z19
        extract_lets v20
        have h21 : Keep msk sa v20 := by
          unfold v20
          exact State.storeEvent_keep (.of hm) h15
        clear_value v20
        refine keep_ite ?_ ?_
        · intro x22
          exact State.complete_keep (.of hm) (State.reportCmd_keep (.of hm) h21)
        · intro x23
          exact State.complete_keep (.of hm) h21

theorem State.recordHead_keep {s : State} {c : Nat} {q : Nat} (hm : Sub 13633232 msk) (k0 : Keep msk sa s) :
    Keep msk sa (@State.recordHead s c q) := by
  unfold State.recordHead
  split
  · rename_i z0 z1
    exact k0
  · rename_i z2 z3 z4
    split
    · rename_i z5 z6 z7
      exact State.refuseEvent_keep (.of hm) k0
    · rename_i z8 z9
      refine State.pendOrRun_keep (.of hm) ?_ ?_
      · exact k0
      · intro x10 x11 x12
        exact State.applyRecord_keep (.of hm) x12

theorem execWaitEvent_keep {c : Nat} {q : Nat} {s : State} (hm : Sub 13633104 msk) (k0 : Keep msk sa s) :
    KeepO msk sa (@execWaitEvent c q s) := by
  unfold execWaitEvent
  split
  · rename_i z0 z1
    exact keepO_next k0
  · rename_i z2 z3 z4
    extract_lets v5 v6 v7 v8 v9
    clear_value v5
    clear_value v6
    clear_value v7
    have h10 : Keep msk sa v8 := by
      unfold v8
      exact State.blockHead_keep (.of hm) k0
    clear_value v8
    clear_value v9
    split
    · rename_i z11 z12 z13
      exact keepO_next (State.refuseEvent_keep (.of hm) k0)
    · rename_i z14 z15
      refine keepO_ite ?_ ?_
      · intro x16
        exact keepO_next (State.finishHead_keep (.of hm) k0)
      · intro x17
        refine keepO_next ?_
        refine keep_ite ?_ ?_
        · intro x18
          exact keep_mk 1024 (.of hm) h10
        · intro x19
          exact h10

/-! ### Machine/Sem.lean -/

theorem State.applySem_keep {s : State} {c : Nat} {q : Nat} {n : Nat} {pkt : List Word} (hm : Sub 80758480 msk) (k0 : Keep msk sa s) :
    Keep msk sa (@State.applySem s c q n pkt) := by
  unfold State.applySem
  extract_lets v0 v1 v2
  clear_value v0
  clear_value v1
  clear_value v2
  refine keep_ite ?_ ?_
  · intro x3
    exact State.complete_keep (.of hm) (State.reportCmd_keep (.of hm) k0)
  · intro x4
    split
    · rename_i z5 z6 z7 z8
      have h9 : Keep msk sa z6 := by
        refine keepP_eq z8 ?_
        refine keepP_ite ?_ ?_
        · intro x10
          exact State.semSub_keep (.of hm) k0
        · intro x11
          exact State.semAdd_keep (.of hm) k0
      split
      · rename_i z12 z13
        refine State.complete_keep (.of hm) ?_
        refine keep_ite ?_ ?_
        · intro x14
          exact State.reportCmd_keep (.of hm) h9
        · intro x15
          exact h9
      · rename_i z16 z17 z18
        extract_lets v19
        have h20 : Keep msk sa v19 := by
          unfold v19
          refine keep_ite ?_ ?_
          · intro x21
            exact h9
          · intro x22
            exact State.reportCmd_keep (.of hm) h9
        clear_value v19
        exact State.complete_keep (.of hm) h20

theorem State.semCount_keep {s : State} {c : Nat} {q : Nat} {op : Nat} (hm : Sub 80758480 msk) (k0 : Keep msk sa s) :
    Keep msk sa (@State.semCount s c q op) := by
  unfold State.semCount
  split
  · rename_i z0 z1
    exact k0
  · rename_i z2 z3 z4
    split
    · rename_i z5 z6 z7
      exact State.refuse_keep (.of hm) k0
    · rename_i z8 z9
      refine keep_ite ?_ ?_
      · intro x10
        refine State.pendOrRun_keep (.of hm) ?_ ?_
        · exact k0
        · intro x11 x12 x13
          exact State.applySem_keep (.of hm) x13
      · intro x14
        exact State.blockHead_keep (.of hm) k0

theorem State.semWaitOp_keep {s : State} {c : Nat} {q : Nat} {op : Nat} {consume : Bool} (hm : Sub 13649616 msk) (k0 : Keep msk sa s) :
    Keep msk sa (@State.semWaitOp s c q op consume) := by
  unfold State.semWaitOp
  split
  · rename_i z0 z1
    exact k0
  · rename_i z2 z3 z4
    extract_lets v5 v6 v7
    clear_value v5
    clear_value v6
    split
    · rename_i z8 z9 z10
      unfold v7
      split
      · rename_i z11 z12 z13
        split
        · rename_i z14 z15 z16
          exact State.finishHead_keep (.of hm) (State.dropWait_keep (.of hm) k0)
        · rename_i z17 z18
          exact State.blockHead_keep (.of hm) k0
      · rename_i z19 z20
        exact k0
    · rename_i z21 z22
      split
      · rename_i z23 z24 z25
        exact State.refuse_keep (.of hm) k0
      · rename_i z26 z27
        refine keep_ite ?_ ?_
        · intro x28
          exact State.blockHead_keep (.of hm) k0
        · intro x29
          split
          · rename_i z30 z31 z32 z33
            have h34 : Keep msk sa z31 := by
              refine keepP_eq z33 ?_
              exact State.checkSem_keep (.of hm) k0
            exact State.finishHead_keep (.of hm) h34
          · rename_i z35 z36 z37
            have h38 : Keep msk sa z36 := by
              refine keepP_eq z37 ?_
              exact State.checkSem_keep (.of hm) k0
            split
            · rename_i z39 z40 z41
              exact State.refuse_keep (.of hm) (State.misuse_keep (.of hm) h38)
            · rename_i z42 z43
              refine keep_ite ?_ ?_
              · intro x44
                exact State.finishHead_keep (.of hm) h38
              · intro x45
                unfold v7
                split
                · rename_i z46 z47 z48
                  split
                  · rename_i z49 z50 z51
                    exact State.finishHead_keep (.of hm) (State.dropWait_keep (.of hm) (State.addWait_keep (.of hm) h38))
                  · rename_i z52 z53
                    exact State.blockHead_keep (.of hm) (State.addWait_keep (.of hm) h38)
                · rename_i z54 z55
                  exact State.addWait_keep (.of hm) h38

/-! ### Machine/StreamOps.lean -/

theorem State.sweepSteps_keep {s : State} {p : Nat} (hm : Sub 1277952 msk) (k0 : Keep msk sa s) :
    Keep msk sa (@State.sweepSteps s p) := by
  unfold State.sweepSteps
  extract_lets v0 v1 v2 v3 v4 v5 v6
  clear_value v0
  clear_value v1
  have h7 : Keep msk sa v3 := by
    unfold v3
    exact State.dropEraSteps_keep (.of hm) k0
  clear_value v3
  clear_value v4
  clear_value v5
  clear_value v6
  exact keep_mk 1146880 (.of hm) h7

theorem State.idleStream_keep {s : State} {p : Nat} (hm : Sub 13698640 msk) (k0 : Keep msk sa s) :
    Keep msk sa (@State.idleStream s p) := by
  unfold State.idleStream
  extract_lets v0 v1
  have h2 : Keep msk sa v0 := by
    unfold v0
    exact State.setRf_keep (.of hm) k0
  clear_value v0
  have h3 : Keep msk sa v1 := by
    unfold v1
    exact State.updStream_keep (.of hm) h2
  clear_value v1
  split
  · rename_i z4 z5
    exact h2
  · rename_i z6 z7 z8
    refine keep_foldl ?_ ?_
    · exact h3
    · intro x9 x10 x11
      exact State.finishHead_keep (.of hm) x11

theorem State.settleStream_keep {s : State} {p : Nat} (hm : Sub 13862480 msk) (k0 : Keep msk sa s) :
    Keep msk sa (@State.settleStream s p) := by
  unfold State.settleStream
  extract_lets v0
  have h1 : Keep msk sa v0 := by
    unfold v0
    exact State.sweepSteps_keep (.of hm) k0
  clear_value v0
  refine keep_ite ?_ ?_
  · intro x2
    exact State.idleStream_keep (.of hm) h1
  · intro x3
    exact h1

theorem State.stopStream_keep {s : State} {p : Nat} (hm : Sub 13862480 msk) (k0 : Keep msk sa s) :
    Keep msk sa (@State.stopStream s p) := by
  unfold State.stopStream
  refine keep_ite ?_ ?_
  · intro x0
    exact State.settleStream_keep (.of hm) (State.setRf_keep (.of hm) k0)
  · intro x1
    exact k0

theorem State.killStream_keep {s : State} {p : Nat} {code : Nat} (hm : Sub 148635348 msk) (k0 : Keep msk sa s) :
    Keep msk sa (@State.killStream s p code) := by
  unfold State.killStream
  extract_lets v0
  clear_value v0
  refine keep_ite ?_ ?_
  · intro x1
    exact State.settleStream_keep (.of hm) (State.setRf_keep (.of hm) (keepP_fst (State.cancelSteps_keep (.of hm) k0)))
  · intro x2
    exact k0

theorem State.settleStreams_keep {s : State} (hm : Sub 13862480 msk) (k0 : Keep msk sa s) :
    Keep msk sa (@State.settleStreams s) := by
  unfold State.settleStreams
  refine keep_foldl ?_ ?_
  · exact k0
  · intro x0 x1 x2
    exact State.settleStream_keep (.of hm) x2

/-! ### Machine/HeadOps.lean -/

theorem State.endHeadCmd_keep {s : State} {c : Nat} {q : Nat} (hm : Sub 216784 msk) (k0 : Keep msk sa s) :
    Keep msk sa (@State.endHeadCmd s c q) := by
  unfold State.endHeadCmd
  extract_lets v0 v1 v2 v3
  have h4 : Keep msk sa v0 := by
    unfold v0
    exact State.dropTmplJob_keep (.of hm) (State.endWait_keep (.of hm) k0)
  clear_value v0
  clear_value v1
  clear_value v2
  clear_value v3
  exact keep_mk 69120 (.of hm) h4

theorem State.faultWith_keep {s : State} {c : Nat} {q : Nat} {e : Err} (hm : Sub 13848272 msk) (k0 : Keep msk sa s) :
    Keep msk sa (@State.faultWith s c q e) := by
  unfold State.faultWith
  split
  · rename_i z0 z1
    exact k0
  · rename_i z2 z3 z4
    refine keep_ite ?_ ?_
    · intro x5
      exact k0
    · intro x6
      extract_lets v7 v8 v9 v10
      clear_value v7
      have h11 : Keep msk sa v8 := by
        unfold v8
        exact State.reportCmd_keep (.of hm) k0
      clear_value v8
      have h12 : Keep msk sa v9 := by
        unfold v9
        exact State.setQState_keep (.of hm) (State.endHeadCmd_keep (.of hm) h11)
      clear_value v9
      have h13 : Keep msk sa v10 := by
        unfold v10
        split
        · rename_i z14 z15
          exact State.finishHead_keep (.of hm) h12
        · rename_i z16
          exact h12
      clear_value v10
      exact State.faultQueue_keep (.of hm) h13

theorem State.signalDone_keep {s : State} {g : Signal} {code : Nat} {value : Nat} (hm : Sub 13635152 msk) (k0 : Keep msk sa s) :
    Keep msk sa (@State.signalDone s g code value) := by
  unfold State.signalDone
  extract_lets v0 v1
  clear_value v0
  have h2 : Keep msk sa v1 := by
    unfold v1
    exact keep_mk 1024 (.of hm) k0
  clear_value v1
  split
  · rename_i z3 z4 z5
    refine State.replyLaunch_keep (.of hm) ?_
    refine keep_ite ?_ ?_
    · intro x6
      exact h2
    · intro x7
      exact State.updLaunch_keep (.of hm) h2
  · rename_i z8 z9 z10 z11 z12 z13
    exact State.finishHead_keep (.of hm) h2

theorem State.ringData_keep {s : State} {c : Nat} {q : Nat} {idx : Nat} {grant : Nat} {ok : Bool} {ws : List Word} (hm : Sub 13848272 msk) (k0 : Keep msk sa s) :
    Keep msk sa (@State.ringData s c q idx grant ok ws) := by
  unfold State.ringData
  split
  · rename_i z0 z1
    exact k0
  · rename_i z2 z3 z4
    refine keep_ite ?_ ?_
    · intro x5
      exact k0
    · intro x6
      refine keep_ite ?_ ?_
      · intro x7
        exact State.faultWith_keep (.of hm) k0
      · intro x8
        extract_lets v9 v10
        clear_value v9
        clear_value v10
        exact State.fetchMore_keep (.of hm) (State.updHead_keep (.of hm) k0)

/-! ### Machine/Input.lean -/

theorem State.hold_keep {s : State} {i : Instr} (hm : Sub 1048576 msk) (k0 : Keep msk sa s) :
    Keep msk sa (@State.hold s i) := by
  unfold State.hold
  exact keep_mk 1048576 (.of hm) k0

theorem State.input_keep {s : State} {d : ResetDom} {i : Instr} {f : State → State} (hm : Sub 1048576 msk) (k0 : Keep msk sa s) (k1 : ∀ (a : State), Keep msk sa a → Keep msk sa (f a)) :
    Keep msk sa (@State.input s d i f) := by
  unfold State.input
  refine keep_ite ?_ ?_
  · intro x0
    exact k0
  · intro x1
    refine keep_ite ?_ ?_
    · intro x2
      exact State.hold_keep (.of hm) k0
    · intro x3
      refine k1 _ ?_
      exact k0

theorem State.expireUnlock_keep {s : State} (hm : Sub 272 msk) (k0 : Keep msk sa s) :
    Keep msk sa (@State.expireUnlock s) := by
  unfold State.expireUnlock
  split
  · rename_i z0 z1 z2
    refine keep_ite ?_ ?_
    · intro x3
      extract_lets v4 v5
      have h6 : Keep msk sa v4 := by
        unfold v4
        exact State.setRf_keep (.of hm) k0
      clear_value v4
      clear_value v5
      exact keep_mk 256 (.of hm) h6
    · intro x7
      exact k0
  · rename_i z8 z9
    exact k0

theorem State.unlatch_keep {s : State} (hm : Sub 272 msk) (k0 : Keep msk sa s) :
    Keep msk sa (@State.unlatch s) := by
  unfold State.unlatch
  extract_lets v0 v1
  have h2 : Keep msk sa v0 := by
    unfold v0
    exact State.expireUnlock_keep (.of hm) k0
  clear_value v0
  clear_value v1
  exact keep_mk 256 (.of hm) h2

theorem State.regDone_keep {s : State} {f : State → State} (hm : Sub 272 msk) (k0 : Keep msk sa s) (k1 : ∀ (a : State), Keep msk sa a → Keep msk sa (f a)) :
    Keep msk sa (@State.regDone s f) := by
  unfold State.regDone
  refine State.emit_keep (.of hm) ?_
  refine k1 _ ?_
  exact State.unlatch_keep (.of hm) k0

theorem State.readDone_keep {s : State} {f : State → State × Word} (hm : Sub 272 msk) (k0 : Keep msk sa s) (k1 : ∀ (a : State), Keep msk sa a → KeepP msk sa (f a)) :
    Keep msk sa (@State.readDone s f) := by
  unfold State.readDone
  split
  · rename_i z0 z1 z2 z3
    have h4 : Keep msk sa z1 := by
      refine keepP_eq z3 ?_
      refine k1 _ ?_
      exact State.unlatch_keep (.of hm) k0
    exact State.emit_keep (.of hm) h4

theorem State.enclIgnored_keep {s : State} {p : Nat} (hm : Sub 12582928 msk) (k0 : Keep msk sa s) :
    Keep msk sa (@State.enclIgnored s p) := by
  unfold State.enclIgnored
  exact State.reportPlain_keep (.of hm) (State.setRf_keep (.of hm) k0)

theorem State.regInput_keep {s : State} {i : Instr} {f : State → State} (hm : Sub 1048848 msk) (k0 : Keep msk sa s) (k1 : ∀ (a : State), Keep msk sa a → Keep msk sa (f a)) :
    Keep msk sa (@State.regInput s i f) := by
  unfold State.regInput
  refine keep_ite ?_ ?_
  · intro x0
    exact k0
  · intro x1
    refine keep_ite ?_ ?_
    · intro x2
      refine State.regDone_keep (.of hm) ?_ ?_
      · exact k0
      · intro x3 x4
        exact x4
    · intro x5
      refine keep_ite ?_ ?_
      · intro x6
        exact State.hold_keep (.of hm) k0
      · intro x7
        refine State.regDone_keep (.of hm) ?_ ?_
        · exact k0
        · intro x8 x9
          refine k1 _ ?_
          exact x9

theorem State.regRead_keep {s : State} {i : Instr} {a : Nat} {f : State → State × Word} (hm : Sub 1048848 msk) (k0 : Keep msk sa s) (k1 : ∀ (a : State), Keep msk sa a → KeepP msk sa (f a)) :
    Keep msk sa (@State.regRead s i a f) := by
  unfold State.regRead
  refine keep_ite ?_ ?_
  · intro x0
    exact k0
  · intro x1
    refine keep_ite ?_ ?_
    · intro x2
      refine State.readDone_keep (.of hm) ?_ ?_
      · exact k0
      · intro x3 x4
        exact keepP_mk x4
    · intro x5
      refine keep_ite ?_ ?_
      · intro x6
        exact State.hold_keep (.of hm) k0
      · intro x7
        refine State.readDone_keep (.of hm) ?_ ?_
        · exact k0
        · intro x8 x9
          refine k1 _ ?_
          exact x9

/-! ### Machine/Doorbell.lean -/

theorem State.dropDoorbell_keep {s : State} {part : Option Nat} (hm : Sub 12582928 msk) (k0 : Keep msk sa s) :
    Keep msk sa (@State.dropDoorbell s part) := by
  unfold State.dropDoorbell
  exact State.reportPlain_keep (.of hm) (State.incRf_keep (.of hm) k0)

theorem State.ring_keep {s : State} {addr : Nat} {data : Nat} (hm : Sub 13848272 msk) (k0 : Keep msk sa s) :
    Keep msk sa (@State.ring s addr data) := by
  unfold State.ring
  extract_lets v0 v1 v2 v3 v4
  clear_value v0
  clear_value v1
  clear_value v2
  clear_value v3
  clear_value v4
  refine keep_ite ?_ ?_
  · intro x5
    exact State.dropDoorbell_keep (.of hm) k0
  · intro x6
    split
    · rename_i z7 z8
      exact State.dropDoorbell_keep (.of hm) k0
    · rename_i z9 z10 z11
      refine keep_ite ?_ ?_
      · intro x12
        exact State.dropDoorbell_keep (.of hm) k0
      · intro x13
        refine keep_ite ?_ ?_
        · intro x14
          exact k0
        · intro x15
          refine keep_ite ?_ ?_
          · intro x16
            exact State.faultWith_keep (.of hm) k0
          · intro x17
            extract_lets v18
            have h19 : Keep msk sa v18 := by
              unfold v18
              exact State.updQueue_keep (.of hm) k0
            clear_value v18
            refine keep_ite ?_ ?_
            · intro x20
              exact State.makePending_keep (.of hm) h19
            · intro x21
              exact State.fetchMore_keep (.of hm) h19

theorem execDoorbellWrite_keep {addr : BitVec 22} {data : BitVec 64} {s : State} (hm : Sub 1049600 msk) (k0 : Keep msk sa s) :
    KeepO msk sa (@execDoorbellWrite addr data s) := by
  unfold execDoorbellWrite
  refine keepO_ite ?_ ?_
  · intro x0
    exact keepO_next k0
  · intro x1
    refine keepO_next ?_
    refine State.input_keep (.of hm) ?_ ?_
    · exact k0
    · intro x2 x3
      exact keep_mk 1024 (.of hm) x3

theorem execDoorbellProcess_keep {s : State} (hm : Sub 13848272 msk) (k0 : Keep msk sa s) :
    KeepO msk sa (@execDoorbellProcess s) := by
  unfold execDoorbellProcess
  split
  · rename_i z0 z1
    exact keepO_next k0
  · rename_i z2 z3 z4 z5 z6
    exact keepO_next (State.ring_keep (.of hm) (keep_mk 1024 (.of hm) k0))
end Sys2Proof.Machine
end

