-- ==== Sys2Proof/Laws/KeepTick.lean ====
section
/-! SUPPORT. What every command keeps: messages, the fabric, semaphore commands and the core cycle. -/

-- One declaration at a time: checked side by side, the lemmas ask for more threads than the checks may start.
set_option Elab.async false

namespace Sys2Proof.Machine

variable {msk : Nat} {sa : State}

/-! ### Machine/HubOps.lean -/

theorem State.setRq_keep {s : State} {q : Nat} {f : Fld} {v : Nat} (hm : Sub 64 msk) (k0 : Keep msk sa s) :
    Keep msk sa (@State.setRq s q f v) := by
  unfold State.setRq
  exact State.setRm_keep (.of hm) k0

theorem State.refuseMsg_keep {s : State} {sp : Nat} {p : Option Nat} {e : Err} (hm : Sub 12582928 msk) (k0 : Keep msk sa s) :
    KeepP msk sa (@State.refuseMsg s sp p e) := by
  unfold State.refuseMsg
  extract_lets v0 v1
  have h2 : Keep msk sa v0 := by
    unfold v0
    exact State.reportPlain_keep (.of hm) k0
  clear_value v0
  have h3 : Keep msk sa v1 := by
    unfold v1
    split
    · rename_i z4 z5
      refine keep_ite ?_ ?_
      · intro x6
        exact State.incRf_keep (.of hm) h2
      · intro x7
        exact h2
    · rename_i z8
      exact h2
  clear_value v1
  exact keepP_mk h3

theorem State.countMsg_keep {s : State} {q : Nat} (hm : Sub 64 msk) (k0 : Keep msk sa s) :
    Keep msk sa (@State.countMsg s q) := by
  unfold State.countMsg
  exact State.setRq_keep (.of hm) k0

theorem State.placeMsg_keep {s : State} {q : Nat} {m : List Word} (hm : Sub 32832 msk) (k0 : Keep msk sa s) :
    Keep msk sa (@State.placeMsg s q m) := by
  unfold State.placeMsg
  extract_lets v0 v1
  clear_value v0
  have h2 : Keep msk sa v1 := by
    unfold v1
    exact keep_mk 32768 (.of hm) k0
  clear_value v1
  exact State.setRq_keep (.of hm) h2

theorem State.noteArrival_keep {s : State} {q : Nat} {m : List Word} (hm : Sub 4 msk) (k0 : Keep msk sa s) :
    Keep msk sa (@State.noteArrival s q m) := by
  unfold State.noteArrival
  exact keep_mk 4 (.of hm) k0

theorem State.granaryWriteBad_keep {s : State} {q : Nat} (hm : Sub 12582992 msk) (k0 : Keep msk sa s) :
    Keep msk sa (@State.granaryWriteBad s q) := by
  unfold State.granaryWriteBad
  extract_lets v0
  have h1 : Keep msk sa v0 := by
    unfold v0
    exact State.reportPlain_keep (.of hm) k0
  clear_value v0
  refine keep_ite ?_ ?_
  · intro x2
    exact State.setRq_keep (.of hm) h1
  · intro x3
    exact h1

theorem State.ringPut_keep {s : State} {q : Nat} {ws : List Word} {bytes : Nat} {tag : Nat} (hm : Sub 13664848 msk) (k0 : Keep msk sa s) :
    Keep msk sa (@State.ringPut s q ws bytes tag) := by
  unfold State.ringPut
  extract_lets v0 v1 v2 v3 v4 v5
  clear_value v0
  clear_value v1
  have h6 : Keep msk sa v2 := by
    unfold v2
    exact State.setRq_keep (.of hm) k0
  clear_value v2
  have h7 : Keep msk sa v3 := by
    unfold v3
    exact State.setRq_keep (.of hm) h6
  clear_value v3
  clear_value v4
  have h8 : Keep msk sa v5 := by
    unfold v5
    exact keep_mk 32768 (.of hm) h7
  clear_value v5
  split
  · rename_i z9 z10 z11
    have h12 : Keep msk sa z10 := by
      refine keepP_eq z11 ?_
      exact State.mmWrite_keep (.of hm) h8
    exact h12
  · rename_i z13 z14 z15
    have h16 : Keep msk sa z14 := by
      refine keepP_eq z15 ?_
      exact State.mmWrite_keep (.of hm) h8
    exact State.granaryWriteBad_keep (.of hm) h16

theorem State.ringPlace_keep {s : State} {sp : Nat} {q : Nat} {m : List Word} (hm : Sub 13664848 msk) (k0 : Keep msk sa s) :
    KeepP msk sa (@State.ringPlace s sp q m) := by
  unfold State.ringPlace
  extract_lets v0 v1 v2 v3 v4 v5 v6
  clear_value v0
  clear_value v1
  clear_value v2
  clear_value v3
  clear_value v4
  clear_value v6
  refine keepP_ite ?_ ?_
  · intro x7
    unfold v5
    exact keepP_mk (State.incRf_keep (.of hm) (State.countMsg_keep (.of hm) (State.ringPut_keep (.of hm) k0)))
  · intro x8
    refine keepP_ite ?_ ?_
    · intro x9
      unfold v5
      exact keepP_mk (State.incRf_keep (.of hm) (State.countMsg_keep (.of hm) (State.ringPut_keep (.of hm) (State.ringPut_keep (.of hm) k0))))
    · intro x10
      exact State.refuseMsg_keep (.of hm) (State.setRq_keep (.of hm) k0)

theorem State.emptyRxq_keep {s : State} {q : Nat} (hm : Sub 33280 msk) (k0 : Keep msk sa s) :
    Keep msk sa (@State.emptyRxq s q) := by
  unfold State.emptyRxq
  extract_lets v0 v1
  clear_value v1
  exact keep_mk 33280 (.of hm) k0

theorem State.closeRxq_keep {s : State} {q : Nat} (hm : Sub 33344 msk) (k0 : Keep msk sa s) :
    Keep msk sa (@State.closeRxq s q) := by
  unfold State.closeRxq
  exact State.emptyRxq_keep (.of hm) (State.setRq_keep (.of hm) (State.setRq_keep (.of hm) k0))

theorem State.checkRxq_keep {s : State} {q : Nat} (hm : Sub 12616400 msk) (k0 : Keep msk sa s) :
    Keep msk sa (@State.checkRxq s q) := by
  unfold State.checkRxq
  extract_lets v0
  have h1 : Keep msk sa v0 := by
    unfold v0
    exact State.corrected_keep (.of hm) k0
  clear_value v0
  refine keep_ite ?_ ?_
  · intro x2
    exact State.closeRxq_keep (.of hm) (State.reportRow_keep (.of hm) h1)
  · intro x3
    exact h1

theorem State.deliver_keep {s : State} {sp : Nat} {q : Nat} {m : List Word} (hm : Sub 13664980 msk) (k0 : Keep msk sa s) :
    KeepP msk sa (@State.deliver s sp q m) := by
  unfold State.deliver
  extract_lets v0 v1 v2
  have h3 : Keep msk sa v0 := by
    unfold v0
    refine State.noteArrival_keep (.of hm) ?_
    refine keep_ite ?_ ?_
    · intro x4
      exact State.checkRxq_keep (.of hm) k0
    · intro x5
      exact k0
  clear_value v0
  clear_value v1
  clear_value v2
  refine keepP_ite ?_ ?_
  · intro x6
    exact State.refuseMsg_keep (.of hm) h3
  · intro x7
    refine keepP_ite ?_ ?_
    · intro x8
      exact State.refuseMsg_keep (.of hm) h3
    · intro x9
      refine keepP_ite ?_ ?_
      · intro x10
        exact keepP_mk (State.chaff_keep (.of hm) h3)
      · intro x11
        refine keepP_ite ?_ ?_
        · intro x12
          exact keepP_mk (State.countMsg_keep (.of hm) (State.placeMsg_keep (.of hm) h3))
        · intro x13
          refine keepP_ite ?_ ?_
          · intro x14
            exact State.refuseMsg_keep (.of hm) (State.setRq_keep (.of hm) h3)
          · intro x15
            refine keepP_ite ?_ ?_
            · intro x16
              exact State.refuseMsg_keep (.of hm) (State.setRq_keep (.of hm) h3)
            · intro x17
              exact State.ringPlace_keep (.of hm) h3

theorem State.ringTake_keep {s : State} {q : Nat} {bytes : Nat} (hm : Sub 32832 msk) (k0 : Keep msk sa s) :
    Keep msk sa (@State.ringTake s q bytes) := by
  unfold State.ringTake
  extract_lets v0 v1 v2 v3
  have h4 : Keep msk sa v0 := by
    unfold v0
    exact State.setRq_keep (.of hm) k0
  clear_value v0
  clear_value v2
  have h5 : Keep msk sa v3 := by
    unfold v3
    exact keep_mk 32768 (.of hm) h4
  clear_value v3
  refine keep_ite ?_ ?_
  · intro x6
    exact State.setRq_keep (.of hm) h5
  · intro x7
    exact h5

theorem State.refillTake_keep {q n : Nat} {ws : List Word} {s : State} (hm : Sub 32848 msk) (k0 : Keep msk sa s) :
    Keep msk sa (@State.refillTake q n ws s) := by
  induction n generalizing s ws with
  | zero => exact k0
  | succ n ih =>
    unfold State.refillTake
    refine keep_ite (fun _ => k0) fun _ => keep_ite (fun _ => ih (State.ringTake_keep (.of hm) k0)) fun _ =>
      keep_ite (fun _ => ih (State.chaff_keep (.of hm) (State.ringTake_keep (.of hm) k0))) fun _ => keep_ite (fun _ => k0) fun _ =>
        ih (State.ringTake_keep (.of hm) (State.placeMsg_keep (.of hm) k0))

theorem State.refillBad_keep {s : State} {q : Nat} (hm : Sub 12615760 msk) (k0 : Keep msk sa s) :
    Keep msk sa (@State.refillBad s q) := by
  unfold State.refillBad
  extract_lets v0 v1 v2 v3
  have h4 : Keep msk sa v0 := by
    unfold v0
    exact State.setRq_keep (.of hm) k0
  clear_value v0
  have h5 : Keep msk sa v1 := by
    unfold v1
    exact State.setRq_keep (.of hm) (State.setRq_keep (.of hm) h4)
  clear_value v1
  clear_value v2
  have h6 : Keep msk sa v3 := by
    unfold v3
    exact keep_mk 32768 (.of hm) h5
  clear_value v3
  exact State.reportPlain_keep (.of hm) h6

theorem State.refill_keep {s : State} {q : Nat} (hm : Sub 13664848 msk) (k0 : Keep msk sa s) :
    Keep msk sa (@State.refill s q) := by
  unfold State.refill
  extract_lets v0 v1 v2 v3 v4 v5 v6
  clear_value v0
  clear_value v1
  clear_value v2
  clear_value v3
  clear_value v4
  clear_value v5
  have h7 : Keep msk sa v6 := by
    unfold v6
    exact keep_mk 32768 (.of hm) k0
  clear_value v6
  refine keep_ite ?_ ?_
  · intro x8
    exact k0
  · intro x9
    split
    · rename_i z10 z11 z12
      have h13 : Keep msk sa z11 := by
        refine keepP_eq z12 ?_
        exact State.mmRead_keep (.of hm) h7
      exact h13
    · rename_i z14 z15 z16
      have h17 : Keep msk sa z15 := by
        refine keepP_eq z16 ?_
        exact State.mmRead_keep (.of hm) h7
      exact State.refillBad_keep (.of hm) (keep_mk 32768 (.of hm) h17)

theorem State.refillData_keep {s : State} {q : Nat} {ok : Bool} {ws : List Word} (hm : Sub 12615760 msk) (k0 : Keep msk sa s) :
    Keep msk sa (@State.refillData s q ok ws) := by
  unfold State.refillData
  split
  · rename_i z0 z1
    exact k0
  · rename_i z2 z3 z4
    extract_lets v5 v6
    clear_value v5
    have h7 : Keep msk sa v6 := by
      unfold v6
      exact keep_mk 32768 (.of hm) k0
    clear_value v6
    refine keep_ite ?_ ?_
    · intro x8
      exact State.refillTake_keep (.of hm) h7
    · intro x9
      exact State.refillBad_keep (.of hm) h7

theorem State.faultStook_keep {s : State} {k : Nat} (hm : Sub 32832 msk) (k0 : Keep msk sa s) :
    Keep msk sa (@State.faultStook s k) := by
  unfold State.faultStook
  exact State.updStookX_keep (.of hm) (State.setRm_keep (.of hm) k0)

theorem State.offerResult_keep {s : State} {k : Nat} (hm : Sub 13664980 msk) (k0 : Keep msk sa s) :
    Keep msk sa (@State.offerResult s k) := by
  unfold State.offerResult
  split
  · rename_i z0 z1 z2 z3
    have h4 : Keep msk sa z1 := by
      refine keepP_eq z3 ?_
      exact State.deliver_keep (.of hm) k0
    refine keep_ite ?_ ?_
    · intro x5
      exact State.updStookX_keep (.of hm) h4
    · intro x6
      exact State.clearRound_keep (.of hm) (State.setRm_keep (.of hm) h4)

theorem State.foldNext_keep {s : State} {k : Nat} (hm : Sub 13664980 msk) (k0 : Keep msk sa s) :
    Keep msk sa (@State.foldNext s k) := by
  unfold State.foldNext
  extract_lets v0
  clear_value v0
  split
  · rename_i z1 z2
    exact k0
  · rename_i z3 z4 z5 z6
    extract_lets v7 v8 v9
    clear_value v7
    have h10 : Keep msk sa v8 := by
      unfold v8
      exact State.updStookX_keep (.of hm) k0
    clear_value v8
    have h11 : Keep msk sa v9 := by
      unfold v9
      exact State.setRm_keep (.of hm) h10
    clear_value v9
    refine keep_ite ?_ ?_
    · intro x12
      exact State.offerResult_keep (.of hm) h11
    · intro x13
      exact h11

theorem State.foldStooks_keep {s : State} (hm : Sub 13664980 msk) (k0 : Keep msk sa s) :
    Keep msk sa (@State.foldStooks s) := by
  unfold State.foldStooks
  refine keep_foldl ?_ ?_
  · exact k0
  · intro x0 x1 x2
    exact State.foldNext_keep (.of hm) x2

theorem State.checkStook_keep {s : State} {k : Nat} (hm : Sub 12615888 msk) (k0 : Keep msk sa s) :
    Keep msk sa (@State.checkStook s k) := by
  unfold State.checkStook
  extract_lets v0
  have h1 : Keep msk sa v0 := by
    unfold v0
    exact State.corrected_keep (.of hm) k0
  clear_value v0
  refine keep_ite ?_ ?_
  · intro x2
    exact State.faultStook_keep (.of hm) (State.reportRow_keep (.of hm) h1)
  · intro x3
    exact h1

theorem State.contribute_keep {s : State} {sp : Nat} {k : Nat} {m : List Word} (hm : Sub 13664980 msk) (k0 : Keep msk sa s) :
    KeepP msk sa (@State.contribute s sp k m) := by
  unfold State.contribute
  extract_lets v0 v1 v2 v3 v4 v5 v6 v7 v8 v9
  clear_value v0
  clear_value v1
  clear_value v2
  clear_value v3
  clear_value v4
  clear_value v5
  have h10 : Keep msk sa v6 := by
    unfold v6
    refine keep_ite ?_ ?_
    · intro x11
      exact State.checkStook_keep (.of hm) k0
    · intro x12
      exact k0
  clear_value v6
  have h13 : Keep msk sa v7 := by
    unfold v7
    exact State.setRam64_keep (.of hm) h10
  clear_value v7
  have h14 : Keep msk sa v8 := by
    unfold v8
    refine keep_ite ?_ ?_
    · intro x15
      exact State.setRm_keep (.of hm) h13
    · intro x16
      exact h13
  clear_value v8
  have h17 : Keep msk sa v9 := by
    unfold v9
    exact State.updStookX_keep (.of hm) h14
  clear_value v9
  refine keepP_ite ?_ ?_
  · intro x18
    exact State.refuseMsg_keep (.of hm) h10
  · intro x19
    refine keepP_ite ?_ ?_
    · intro x20
      exact State.refuseMsg_keep (.of hm) h10
    · intro x21
      refine keepP_ite ?_ ?_
      · intro x22
        exact State.refuseMsg_keep (.of hm) h10
      · intro x23
        refine keepP_ite ?_ ?_
        · intro x24
          exact keepP_mk (State.chaff_keep (.of hm) h10)
        · intro x25
          refine keepP_ite ?_ ?_
          · intro x26
            exact State.refuseMsg_keep (.of hm) h10
          · intro x27
            refine keepP_ite ?_ ?_
            · intro x28
              exact State.refuseMsg_keep (.of hm) (State.faultStook_keep (.of hm) h10)
            · intro x29
              refine keepP_ite ?_ ?_
              · intro x30
                exact State.refuseMsg_keep (.of hm) h10
              · intro x31
                refine keepP_mk ?_
                refine keep_ite ?_ ?_
                · intro x32
                  exact State.foldNext_keep (.of hm) h17
                · intro x33
                  exact h17

theorem State.handleMsg_keep {s : State} {sp : Nat} {m : List Word} (hm : Sub 13664980 msk) (k0 : Keep msk sa s) :
    KeepP msk sa (@State.handleMsg s sp m) := by
  unfold State.handleMsg
  refine keepP_ite ?_ ?_
  · intro x0
    exact State.contribute_keep (.of hm) k0
  · intro x1
    exact State.deliver_keep (.of hm) k0

theorem State.countSend_keep {s : State} {c : Nat} {route : Option Nat} {result : Nat} (hm : Sub 80 msk) (k0 : Keep msk sa s) :
    Keep msk sa (@State.countSend s c route result) := by
  unfold State.countSend
  extract_lets v0 v1 v2 v3
  have h4 : Keep msk sa v1 := by
    unfold v1
    refine keep_ite ?_ ?_
    · intro x5
      unfold v0
      exact State.setReg_keep (.of hm) k0
    · intro x6
      exact k0
  clear_value v1
  have h7 : Keep msk sa v2 := by
    unfold v2
    refine keep_ite ?_ ?_
    · intro x8
      unfold v0
      exact State.setReg_keep (.of hm) h4
    · intro x9
      exact h4
  clear_value v2
  have h10 : Keep msk sa v3 := by
    unfold v3
    refine keep_ite ?_ ?_
    · intro x11
      unfold v0
      exact State.setReg_keep (.of hm) h7
    · intro x12
      exact h7
  clear_value v3
  split
  · rename_i z13
    exact h10
  · rename_i z14 z15
    extract_lets v16 v17
    have h18 : Keep msk sa v17 := by
      unfold v17
      refine keep_ite ?_ ?_
      · intro x19
        unfold v16
        exact State.setRm_keep (.of hm) h10
      · intro x20
        exact h10
    clear_value v17
    refine keep_ite ?_ ?_
    · intro x21
      unfold v16
      exact State.setRm_keep (.of hm) h18
    · intro x22
      exact h18

theorem State.sendStatus_keep {s : State} {c : Nat} {result : Nat} {code : Nat} (hm : Sub 16 msk) (k0 : Keep msk sa s) :
    Keep msk sa (@State.sendStatus s c result code) := by
  unfold State.sendStatus
  exact State.setReg_keep (.of hm) k0

theorem State.sendEnd_keep {s : State} {c : Nat} {route : Option Nat} {a : MsgAnswer} (hm : Sub 80 msk) (k0 : Keep msk sa s) :
    Keep msk sa (@State.sendEnd s c route a) := by
  unfold State.sendEnd
  exact State.countSend_keep (.of hm) (State.sendStatus_keep (.of hm) k0)

theorem State.sendRefuse_keep {s : State} {c : Nat} {p : Nat} {route : Option Nat} {e : Err} (hm : Sub 12582992 msk) (k0 : Keep msk sa s) :
    Keep msk sa (@State.sendRefuse s c p route e) := by
  unfold State.sendRefuse
  exact State.sendEnd_keep (.of hm) (State.reportPlain_keep (.of hm) k0)

theorem State.sendRemote_keep {s : State} {c : Nat} {p : Nat} {route : Option Nat} {m : List Word} (hm : Sub 79724624 msk) (k0 : Keep msk sa s) :
    Keep msk sa (@State.sendRemote s c p route m) := by
  unfold State.sendRemote
  extract_lets v0 v1 v2 v3 v4 v5
  clear_value v0
  clear_value v1
  clear_value v2
  clear_value v3
  clear_value v4
  have h6 : Keep msk sa v5 := by
    unfold v5
    exact keep_mk 32768 (.of hm) k0
  clear_value v5
  refine keep_ite ?_ ?_
  · intro x7
    exact State.sendRefuse_keep (.of hm) k0
  · intro x8
    refine keep_ite ?_ ?_
    · intro x9
      exact State.sendRefuse_keep (.of hm) k0
    · intro x10
      exact State.sendStatus_keep (.of hm) (State.sendFlits_keep (.of hm) h6)

theorem State.endSend_keep {s : State} {x : MsgSend} {result : Nat} {code : Nat} (hm : Sub 32848 msk) (k0 : Keep msk sa s) :
    Keep msk sa (@State.endSend s x result code) := by
  unfold State.endSend
  extract_lets v0 v1
  clear_value v0
  have h2 : Keep msk sa v1 := by
    unfold v1
    exact keep_mk 32768 (.of hm) k0
  clear_value v1
  exact State.countSend_keep (.of hm) h2

theorem State.checkRoute_keep {s : State} {r : Nat} (hm : Sub 12583120 msk) (k0 : Keep msk sa s) :
    Keep msk sa (@State.checkRoute s r) := by
  unfold State.checkRoute
  extract_lets v0
  have h1 : Keep msk sa v0 := by
    unfold v0
    exact State.corrected_keep (.of hm) k0
  clear_value v0
  refine keep_ite ?_ ?_
  · intro x2
    exact State.setRm_keep (.of hm) (State.reportRow_keep (.of hm) h1)
  · intro x3
    exact h1

theorem State.sendGo_keep {s : State} {c : Nat} (hm : Sub 80773844 msk) (k0 : Keep msk sa s) :
    Keep msk sa (@State.sendGo s c) := by
  unfold State.sendGo
  extract_lets v0 v1 v2 v3 v4 v5 v6 v7 v8 v9 v10 v11 v12 v13
  clear_value v0
  clear_value v1
  clear_value v2
  clear_value v3
  clear_value v4
  clear_value v5
  have h14 : Keep msk sa v6 := by
    unfold v6
    refine keep_ite ?_ ?_
    · intro x15
      exact State.checkRoute_keep (.of hm) k0
    · intro x16
      exact k0
  clear_value v6
  clear_value v7
  clear_value v8
  clear_value v9
  clear_value v10
  clear_value v11
  clear_value v12
  clear_value v13
  refine keep_ite ?_ ?_
  · intro x17
    exact k0
  · intro x18
    refine keep_ite ?_ ?_
    · intro x19
      exact State.sendRefuse_keep (.of hm) k0
    · intro x20
      refine keep_ite ?_ ?_
      · intro x21
        exact State.sendRefuse_keep (.of hm) k0
      · intro x22
        refine keep_ite ?_ ?_
        · intro x23
          exact State.sendRefuse_keep (.of hm) h14
        · intro x24
          refine keep_ite ?_ ?_
          · intro x25
            exact State.sendRefuse_keep (.of hm) h14
          · intro x26
            refine keep_ite ?_ ?_
            · intro x27
              exact State.sendRemote_keep (.of hm) h14
            · intro x28
              split
              · rename_i z29 z30 z31 z32
                have h33 : Keep msk sa z30 := by
                  refine keepP_eq z32 ?_
                  exact State.handleMsg_keep (.of hm) h14
                exact State.sendEnd_keep (.of hm) h33

theorem State.popLive_keep {q n : Nat} {s : State} (hm : Sub 32848 msk) (k0 : Keep msk sa s) :
    KeepP msk sa (@State.popLive q n s) := by
  induction n generalizing s with
  | zero => exact k0
  | succ n ih =>
    unfold State.popLive
    split
    · exact k0
    · exact keepP_ite (fun _ => ih (State.chaff_keep (.of hm) (State.setRq_keep (.of hm) (keep_mk 32768 (.of hm) k0))))
        fun _ => State.setRq_keep (.of hm) (keep_mk 32768 (.of hm) k0)

theorem State.rxPop_keep {s : State} {c : Nat} (hm : Sub 12616400 msk) (k0 : Keep msk sa s) :
    KeepP msk sa (@State.rxPop s c) := by
  unfold State.rxPop
  extract_lets v0 v1 v2
  clear_value v0
  clear_value v1
  have h3 : Keep msk sa v2 := by
    unfold v2
    refine keep_ite ?_ ?_
    · intro x4
      exact State.checkRxq_keep (.of hm) k0
    · intro x5
      exact k0
  clear_value v2
  refine keepP_ite ?_ ?_
  · intro x6
    exact keepP_mk k0
  · intro x7
    refine keepP_ite ?_ ?_
    · intro x8
      exact keepP_mk h3
    · intro x9
      split
      · rename_i z10 z11 z12
        have h13 : Keep msk sa z11 := by
          refine keepP_eq z12 ?_
          exact State.popLive_keep (.of hm) h3
        exact keepP_mk (State.incRf_keep (.of hm) (State.setRq_keep (.of hm) h13))
      · rename_i z14 z15 z16 z17
        have h18 : Keep msk sa z15 := by
          refine keepP_eq z17 ?_
          exact State.popLive_keep (.of hm) h3
        extract_lets v19 v20 v21
        have h22 : Keep msk sa v19 := by
          unfold v19
          refine keep_foldl ?_ ?_
          · exact h18
          · intro x23 x24 x25
            exact State.setReg_keep (.of hm) x25
        clear_value v19
        have h26 : Keep msk sa v20 := by
          unfold v20
          exact State.setReg_keep (.of hm) h22
        clear_value v20
        clear_value v21
        exact keepP_mk (State.setReg_keep (.of hm) h26)

theorem State.outPop_keep {s : State} {c : Nat} (hm : Sub 32784 msk) (k0 : Keep msk sa s) :
    KeepP msk sa (@State.outPop s c) := by
  unfold State.outPop
  split
  · rename_i z0 z1
    exact keepP_mk k0
  · rename_i z2 z3 z4
    extract_lets v5 v6 v7
    clear_value v6
    have h8 : Keep msk sa v7 := by
      unfold v7
      exact keep_mk 32768 (.of hm) k0
    clear_value v7
    exact keepP_mk (State.setReg_keep (.of hm) h8)

/-! ### Machine/Domain.lean -/

theorem State.setMember_keep {s : State} {d : Nat} {b : Bool} (hm : Sub 64 msk) (k0 : Keep msk sa s) :
    Keep msk sa (@State.setMember s d b) := by
  unfold State.setMember
  extract_lets v0
  clear_value v0
  exact State.setRam_keep (.of hm) k0

theorem State.failEdge_keep {s : State} {e : RemoteSend} {err : Err} (hm : Sub 148635348 msk) (k0 : Keep msk sa s) :
    Keep msk sa (@State.failEdge s e err) := by
  unfold State.failEdge
  extract_lets v0 v1
  clear_value v0
  have h2 : Keep msk sa v1 := by
    unfold v1
    exact keep_mk 4096 (.of hm) k0
  clear_value v1
  refine keep_ite ?_ ?_
  · intro x3
    exact State.killWith_keep (.of hm) h2
  · intro x4
    exact h2

theorem State.failSheafMsg_keep {s : State} {m : SheafMsg} {e : Err} {departed : Bool} (hm : Sub 12599376 msk) (k0 : Keep msk sa s) :
    Keep msk sa (@State.failSheafMsg s m e departed) := by
  unfold State.failSheafMsg
  extract_lets v0 v1
  clear_value v0
  have h2 : Keep msk sa v1 := by
    unfold v1
    exact keep_mk 16384 (.of hm) k0
  clear_value v1
  refine keep_ite ?_ ?_
  · intro x3
    refine keep_ite ?_ ?_
    · intro x4
      exact h2
    · intro x5
      exact State.reportPlain_keep (.of hm) h2
  · intro x6
    refine keep_ite ?_ ?_
    · intro x7
      exact State.faultSheaf_keep (.of hm) h2
    · intro x8
      exact h2

theorem State.failTraffic_keep {s : State} {gone : Nat → Bool} (hm : Sub 148635348 msk) (k0 : Keep msk sa s) :
    Keep msk sa (@State.failTraffic s gone) := by
  unfold State.failTraffic
  extract_lets v0 v1 v2
  have h3 : Keep msk sa v0 := by
    unfold v0
    refine keep_foldl ?_ ?_
    · exact k0
    · intro x4 x5 x6
      exact State.failEdge_keep (.of hm) x6
  clear_value v0
  have h7 : Keep msk sa v1 := by
    unfold v1
    refine keep_foldl ?_ ?_
    · exact h3
    · intro x8 x9 x10
      exact State.signalDone_keep (.of hm) (State.reportSignal_keep (.of hm) x10)
  clear_value v1
  have h11 : Keep msk sa v2 := by
    unfold v2
    refine keep_foldl ?_ ?_
    · exact h7
    · intro x12 x13 x14
      exact State.endSend_keep (.of hm) (State.reportPlain_keep (.of hm) x14)
  clear_value v2
  refine keep_foldl ?_ ?_
  · exact h11
  · intro x15 x16 x17
    exact State.failSheafMsg_keep (.of hm) x17

theorem State.endDomCmd_keep {s : State} {member : Nat} (hm : Sub 4112 msk) (k0 : Keep msk sa s) :
    Keep msk sa (@State.endDomCmd s member) := by
  unfold State.endDomCmd
  extract_lets v0 v1
  have h2 : Keep msk sa v0 := by
    unfold v0
    exact State.setRf_keep (.of hm) (State.setRf_keep (.of hm) (State.setRf_keep (.of hm) k0))
  clear_value v0
  clear_value v1
  exact keep_mk 4096 (.of hm) h2

theorem State.keepSelf_keep {s : State} (hm : Sub 64 msk) (k0 : Keep msk sa s) :
    Keep msk sa (@State.keepSelf s) := by
  unfold State.keepSelf
  refine keep_foldl ?_ ?_
  · exact k0
  · intro x0 x1 x2
    extract_lets v3
    clear_value v3
    exact State.setRam_keep (.of hm) x2

theorem State.settleDomain_keep {s : State} (hm : Sub 4176 msk) (k0 : Keep msk sa s) :
    Keep msk sa (@State.settleDomain s) := by
  unfold State.settleDomain
  refine keep_ite ?_ ?_
  · intro x0
    exact k0
  · intro x1
    refine keep_ite ?_ ?_
    · intro x2
      exact State.endDomCmd_keep (.of hm) (State.keepSelf_keep (.of hm) k0)
    · intro x3
      refine keep_ite ?_ ?_
      · intro x4
        exact State.endDomCmd_keep (.of hm) k0
      · intro x5
        exact k0

theorem State.sendDeparts_keep {s : State} {join : Bool} {ds : List Nat} (hm : Sub 75502672 msk) (k0 : Keep msk sa s) :
    Keep msk sa (@State.sendDeparts s join ds) := by
  unfold State.sendDeparts
  refine keep_foldl ?_ ?_
  · exact k0
  · intro x0 x1 x2
    extract_lets v3 v4 v5 v6
    clear_value v3
    clear_value v4
    clear_value v5
    have h7 : Keep msk sa v6 := by
      unfold v6
      exact keep_mk 5120 (.of hm) x2
    clear_value v6
    exact State.sendFlits_keep (.of hm) h7

theorem State.endDepart_keep {s : State} {d : Depart} {ok : Bool} (hm : Sub 12587088 msk) (k0 : Keep msk sa s) :
    Keep msk sa (@State.endDepart s d ok) := by
  unfold State.endDepart
  extract_lets v0 v1 v2
  clear_value v0
  have h3 : Keep msk sa v1 := by
    unfold v1
    exact keep_mk 4096 (.of hm) k0
  clear_value v1
  have h4 : Keep msk sa v2 := by
    unfold v2
    refine keep_ite ?_ ?_
    · intro x5
      exact State.report_keep (.of hm) (State.setMember_keep (.of hm) h3)
    · intro x6
      exact h3
  clear_value v2
  exact State.settleDomain_keep (.of hm) h4

theorem State.refuseDomain_keep {s : State} (hm : Sub 12582928 msk) (k0 : Keep msk sa s) :
    Keep msk sa (@State.refuseDomain s) := by
  unfold State.refuseDomain
  extract_lets v0 v1
  have h2 : Keep msk sa v0 := by
    unfold v0
    exact State.reportPlain_keep (.of hm) k0
  clear_value v0
  have h3 : Keep msk sa v1 := by
    unfold v1
    exact State.setRf_keep (.of hm) (State.setRf_keep (.of hm) h2)
  clear_value v1
  exact State.setRf_keep (.of hm) h3

theorem State.startDomain_keep {s : State} {cmd : Nat} (hm : Sub 4112 msk) (k0 : Keep msk sa s) :
    Keep msk sa (@State.startDomain s cmd) := by
  unfold State.startDomain
  extract_lets v0 v1 v2
  have h3 : Keep msk sa v0 := by
    unfold v0
    exact State.setRf_keep (.of hm) (State.setRf_keep (.of hm) k0)
  clear_value v0
  have h4 : Keep msk sa v1 := by
    unfold v1
    exact State.setRf_keep (.of hm) (State.setRf_keep (.of hm) h3)
  clear_value v1
  clear_value v2
  exact keep_mk 4096 (.of hm) h4

theorem State.domainLeave_keep {s : State} (hm : Sub 12587024 msk) (k0 : Keep msk sa s) :
    Keep msk sa (@State.domainLeave s) := by
  unfold State.domainLeave
  refine keep_ite ?_ ?_
  · intro x0
    exact k0
  · intro x1
    refine keep_ite ?_ ?_
    · intro x2
      exact State.refuseDomain_keep (.of hm) k0
    · intro x3
      exact State.startDomain_keep (.of hm) k0

theorem State.domainJoin_keep {s : State} (hm : Sub 79696976 msk) (k0 : Keep msk sa s) :
    Keep msk sa (@State.domainJoin s) := by
  unfold State.domainJoin
  refine keep_ite ?_ ?_
  · intro x0
    exact k0
  · intro x1
    refine keep_ite ?_ ?_
    · intro x2
      exact State.refuseDomain_keep (.of hm) k0
    · intro x3
      exact State.settleDomain_keep (.of hm) (State.sendDeparts_keep (.of hm) (State.startDomain_keep (.of hm) k0))

theorem State.domainCmd_keep {s : State} {op : Nat} (hm : Sub 79696976 msk) (k0 : Keep msk sa s) :
    Keep msk sa (@State.domainCmd s op) := by
  unfold State.domainCmd
  split
  · rename_i z0
    exact State.domainLeave_keep (.of hm) k0
  · rename_i z1
    exact State.domainJoin_keep (.of hm) k0
  · rename_i z2 z3 z4
    exact k0

theorem State.leaveSend_keep {s : State} (hm : Sub 75502672 msk) (k0 : Keep msk sa s) :
    Keep msk sa (@State.leaveSend s) := by
  unfold State.leaveSend
  refine keep_ite ?_ ?_
  · intro x0
    exact State.settleDomain_keep (.of hm) (State.sendDeparts_keep (.of hm) (keep_mk 4096 (.of hm) k0))
  · intro x1
    exact k0

theorem State.fabDown_keep {s : State} (hm : Sub 215744212 msk) (k0 : Keep msk sa s) :
    Keep msk sa (@State.fabDown s) := by
  unfold State.fabDown
  extract_lets v0 v1 v2
  have h3 : Keep msk sa v0 := by
    unfold v0
    refine keep_ite ?_ ?_
    · intro x4
      exact State.failTraffic_keep (.of hm) k0
    · intro x5
      exact k0
  clear_value v0
  have h6 : Keep msk sa v1 := by
    unfold v1
    refine keep_foldl ?_ ?_
    · exact h3
    · intro x7 x8 x9
      exact State.endDepart_keep (.of hm) x9
  clear_value v1
  have h10 : Keep msk sa v2 := by
    unfold v2
    exact State.setRf_keep (.of hm) h6
  clear_value v2
  exact keep_mk 67108864 (.of hm) h10

theorem State.fabLinkup_keep {s : State} (hm : Sub 64 msk) (k0 : Keep msk sa s) :
    Keep msk sa (@State.fabLinkup s) := by
  unfold State.fabLinkup
  extract_lets v0
  clear_value v0
  exact State.emit_keep (.of hm) (State.fabBytes_keep (.of hm) k0)

theorem execDomainLeave_keep {s : State} (hm : Sub 13635856 msk) (k0 : Keep msk sa s) :
    KeepO msk sa (@execDomainLeave s) := by
  unfold execDomainLeave
  refine keepO_next ?_
  refine State.regInput_keep (.of hm) ?_ ?_
  · exact k0
  · intro x0 x1
    exact State.domainLeave_keep (.of hm) x1

theorem execDomainJoin_keep {s : State} (hm : Sub 80745808 msk) (k0 : Keep msk sa s) :
    KeepO msk sa (@execDomainJoin s) := by
  unfold execDomainJoin
  refine keepO_next ?_
  refine State.regInput_keep (.of hm) ?_ ?_
  · exact k0
  · intro x0 x1
    exact State.domainJoin_keep (.of hm) x1

theorem execDomainLeaveSend_keep {s : State} (hm : Sub 75502672 msk) (k0 : Keep msk sa s) :
    KeepO msk sa (@execDomainLeaveSend s) := by
  unfold execDomainLeaveSend
  exact keepO_next (State.leaveSend_keep (.of hm) k0)

theorem execDepartTimeout_keep {dev : Nat} {s : State} (hm : Sub 12587088 msk) (k0 : Keep msk sa s) :
    KeepO msk sa (@execDepartTimeout dev s) := by
  unfold execDepartTimeout
  split
  · rename_i z0 z1 z2
    exact keepO_next (State.endDepart_keep (.of hm) k0)
  · rename_i z3 z4
    exact keepO_next k0

/-! ### Machine/Fabric.lean -/

theorem State.fpRise_keep {s : State} (hm : Sub 67108928 msk) (k0 : Keep msk sa s) :
    Keep msk sa (@State.fpRise s) := by
  unfold State.fpRise
  extract_lets v0 v1
  clear_value v0
  have h2 : Keep msk sa v1 := by
    unfold v1
    exact keep_mk 67108864 (.of hm) k0
  clear_value v1
  refine keep_ite ?_ ?_
  · intro x3
    exact State.fabLinkup_keep (.of hm) h2
  · intro x4
    exact h2

theorem State.fpFall_keep {s : State} (hm : Sub 215744212 msk) (k0 : Keep msk sa s) :
    Keep msk sa (@State.fpFall s) := by
  unfold State.fpFall
  extract_lets v0 v1
  clear_value v0
  have h2 : Keep msk sa v1 := by
    unfold v1
    exact keep_mk 67108864 (.of hm) k0
  clear_value v1
  refine keep_ite ?_ ?_
  · intro x3
    exact State.fabDown_keep (.of hm) h2
  · intro x4
    exact h2

theorem State.setFpPin_keep {s : State} {b : Bool} (hm : Sub 8 msk) (k0 : Keep msk sa s) :
    Keep msk sa (@State.setFpPin s b) := by
  unfold State.setFpPin
  exact keep_mk 8 (.of hm) k0

theorem State.seeFabric_keep {s : State} (hm : Sub 215744212 msk) (k0 : Keep msk sa s) :
    Keep msk sa (@State.seeFabric s) := by
  unfold State.seeFabric
  refine keep_ite ?_ ?_
  · intro x0
    exact k0
  · intro x1
    refine keep_ite ?_ ?_
    · intro x2
      exact State.fpFall_keep (.of hm) k0
    · intro x3
      refine keep_ite ?_ ?_
      · intro x4
        exact State.fpRise_keep (.of hm) k0
      · intro x5
        exact k0

theorem State.fpLinkup_keep {s : State} {f : List Word} (hm : Sub 96469072 msk) (k0 : Keep msk sa s) :
    Keep msk sa (@State.fpLinkup s f) := by
  unfold State.fpLinkup
  refine keep_ite ?_ ?_
  · intro x0
    exact k0
  · intro x1
    refine keep_ite ?_ ?_
    · intro x2
      exact k0
    · intro x3
      refine keep_ite ?_ ?_
      · intro x4
        extract_lets v5 v6
        clear_value v5
        have h7 : Keep msk sa v6 := by
          unfold v6
          exact keep_mk 67108864 (.of hm) k0
        clear_value v6
        exact State.report_keep (.of hm) h7
      · intro x8
        extract_lets v9 v10 v11 v12 v13 v14
        clear_value v9
        have h15 : Keep msk sa v10 := by
          unfold v10
          exact keep_mk 67108864 (.of hm) k0
        clear_value v10
        clear_value v11
        have h16 : Keep msk sa v12 := by
          unfold v12
          exact State.pumpFab_keep (.of hm) (State.setRf_keep (.of hm) h15)
        clear_value v12
        clear_value v13
        have h17 : Keep msk sa v14 := by
          unfold v14
          exact keep_mk 16777216 (.of hm) h16
        clear_value v14
        split
        · rename_i z18 z19
          exact h16
        · rename_i z20 z21 z22
          refine keep_ite ?_ ?_
          · intro x23
            exact h17
          · intro x24
            exact State.reportPlain_keep (.of hm) (State.setRf_keep (.of hm) (State.keepSelf_keep (.of hm) h17))

theorem execFpPresentRise_keep {s : State} (hm : Sub 68157512 msk) (k0 : Keep msk sa s) :
    KeepO msk sa (@execFpPresentRise s) := by
  unfold execFpPresentRise
  refine keepO_next ?_
  refine State.input_keep (.of hm) ?_ ?_
  · exact State.setFpPin_keep (.of hm) k0
  · intro x0 x1
    exact State.fpRise_keep (.of hm) x1

theorem execFpPresentFall_keep {s : State} (hm : Sub 215744220 msk) (k0 : Keep msk sa s) :
    KeepO msk sa (@execFpPresentFall s) := by
  unfold execFpPresentFall
  extract_lets v0 v1
  have h2 : Keep msk sa v0 := by
    unfold v0
    exact State.setFpPin_keep (.of hm) k0
  clear_value v0
  clear_value v1
  refine keepO_next ?_
  refine keep_ite ?_ ?_
  · intro x3
    exact keep_mk 1048576 (.of hm) h2
  · intro x4
    refine State.input_keep (.of hm) ?_ ?_
    · exact h2
    · intro x5 x6
      exact State.fpFall_keep (.of hm) x6

theorem execFpLinkup_keep {flit : List (BitVec 32)} {s : State} (hm : Sub 97517648 msk) (k0 : Keep msk sa s) :
    KeepO msk sa (@execFpLinkup flit s) := by
  unfold execFpLinkup
  refine keepO_next ?_
  refine State.input_keep (.of hm) ?_ ?_
  · exact k0
  · intro x0 x1
    refine State.fpLinkup_keep (.of hm) ?_
    refine keep_ite ?_ ?_
    · intro x2
      exact State.fabBytes_keep (.of hm) x1
    · intro x3
      exact x1

theorem execFpCreditReturn_keep {rep : Bool} {s : State} (hm : Sub 67108928 msk) (k0 : Keep msk sa s) :
    KeepO msk sa (@execFpCreditReturn rep s) := by
  unfold execFpCreditReturn
  refine keepO_ite ?_ ?_
  · intro x0
    exact keepO_next k0
  · intro x1
    extract_lets v2
    clear_value v2
    exact keepO_next (State.pumpFab_keep (.of hm) (keep_mk 67108864 (.of hm) k0))

theorem State.returnCredit_keep {s : State} {rep : Bool} {n : Nat} (hm : Sub 67108864 msk) (k0 : Keep msk sa s) :
    Keep msk sa (@State.returnCredit s rep n) := by
  unfold State.returnCredit
  extract_lets v0 v1 v2
  have h3 : Keep msk sa v0 := by
    unfold v0
    exact keep_mk 67108864 (.of hm) k0
  clear_value v1
  have h4 : Keep msk sa v2 := by
    unfold v2
    exact State.emit_keep (.of hm) h3
  clear_value v2
  refine keep_ite ?_ ?_
  · intro x5
    exact keep_mk 67108864 (.of hm) h3
  · intro x6
    exact keep_mk 67108864 (.of hm) h4

theorem State.arriveFlits_keep {s : State} {rep : Bool} {fs : List (List Word)} {act : State → State} (hm : Sub 79691856 msk) (k0 : Keep msk sa s) (k1 : ∀ (a : State), Keep msk sa a → Keep msk sa (act a)) :
    Keep msk sa (@State.arriveFlits s rep fs act) := by
  unfold State.arriveFlits
  extract_lets v0 v1 v2
  clear_value v0
  clear_value v1
  have h3 : Keep msk sa v2 := by
    unfold v2
    refine State.returnCredit_keep (.of hm) ?_
    refine keep_foldl ?_ ?_
    · exact k0
    · intro x4 x5 x6
      exact State.fabBytes_keep (.of hm) x6
  clear_value v2
  refine keep_ite ?_ ?_
  · intro x7
    refine k1 _ ?_
    exact h3
  · intro x8
    exact State.report_keep (.of hm) h3

theorem State.flitInput_keep {s : State} {i : Instr} {rep : Bool} {ok : Nat → Bool} {fs : List (List Word)} {f : State → State} (hm : Sub 80740432 msk) (k0 : Keep msk sa s) (k1 : ∀ (a : State), Keep msk sa a → Keep msk sa (f a)) :
    Keep msk sa (@State.flitInput s i rep ok fs f) := by
  unfold State.flitInput
  extract_lets v0
  clear_value v0
  refine keep_ite ?_ ?_
  · intro x1
    exact k0
  · intro x2
    refine State.arriveFlits_keep (.of hm) ?_ ?_
    · exact k0
    · intro x3 x4
      refine State.settleCredits_keep (.of hm) ?_
      refine State.input_keep (.of hm) ?_ ?_
      · exact x4
      · intro x5 x6
        refine k1 _ ?_
        exact x6

theorem State.recv_keep {s : State} {fs : List (List Word)} {act : State → List Word → State} (hm : Sub 8388624 msk) (k0 : Keep msk sa s) (k1 : ∀ (a : State) (a_1 : List Word), Keep msk sa a → Keep msk sa (act a a_1)) :
    Keep msk sa (@State.recv s fs act) := by
  unfold State.recv
  extract_lets v0
  clear_value v0
  refine k1 _ _ ?_
  exact State.traceRemote_keep (.of hm) k0

theorem State.nackFlit_keep {s : State} {f : List Word} {e : Err} (hm : Sub 79691856 msk) (k0 : Keep msk sa s) :
    Keep msk sa (@State.nackFlit s f e) := by
  unfold State.nackFlit
  extract_lets v0
  clear_value v0
  exact State.replyFlit_keep (.of hm) (State.reportPlain_keep (.of hm) k0)

theorem State.recvReq_keep {s : State} {fs : List (List Word)} {act : State → List Word → State} (hm : Sub 79691856 msk) (k0 : Keep msk sa s) (k1 : ∀ (a : State) (a_1 : List Word), Keep msk sa a → Keep msk sa (act a a_1)) :
    Keep msk sa (@State.recvReq s fs act) := by
  unfold State.recvReq
  refine State.recv_keep (.of hm) ?_ ?_
  · exact k0
  · intro x0 x1 x2
    refine keep_ite ?_ ?_
    · intro x3
      refine k1 _ _ ?_
      exact x2
    · intro x4
      exact State.nackFlit_keep (.of hm) x2

theorem State.holdEarly_keep {s : State} {p : Nat} {tmpl : Nat} {r : Nat} {target : Nat} {amount : Nat} (hm : Sub 4096 msk) (k0 : Keep msk sa s) :
    KeepS msk sa (@State.holdEarly s p tmpl r target amount) := by
  unfold State.holdEarly
  refine keepS_ite ?_ ?_
  · intro x0
    exact keepS_some (keep_mk 4096 (.of hm) k0)
  · intro x1
    refine keepS_ite ?_ ?_
    · intro x2
      exact keepS_some (keep_mk 4096 (.of hm) k0)
    · intro x3
      exact keepS_none

theorem State.ackEdge_keep {s : State} {f : List Word} {result : Nat} (hm : Sub 75497552 msk) (k0 : Keep msk sa s) :
    Keep msk sa (@State.ackEdge s f result) := by
  unfold State.ackEdge
  extract_lets v0
  have h1 : Keep msk sa v0 := by
    unfold v0
    refine keep_ite ?_ ?_
    · intro x2
      exact State.incRf_keep (.of hm) k0
    · intro x3
      exact k0
  clear_value v0
  exact State.replyFlit_keep (.of hm) h1

theorem State.earlyEdge_keep {s : State} {f : List Word} (hm : Sub 79695952 msk) (k0 : Keep msk sa s) :
    Keep msk sa (@State.earlyEdge s f) := by
  unfold State.earlyEdge
  extract_lets v0
  clear_value v0
  split
  · rename_i z1 z2 z3
    have h4 : Keep msk sa z2 := by
      refine keepS_eq z3 ?_
      exact State.holdEarly_keep (.of hm) k0
    exact State.ackEdge_keep (.of hm) h4
  · rename_i z5 z6
    exact State.nackFlit_keep (.of hm) k0

theorem State.edgeDec_keep {s : State} {f : List Word} (hm : Sub 215744212 msk) (k0 : Keep msk sa s) :
    Keep msk sa (@State.edgeDec s f) := by
  unfold State.edgeDec
  extract_lets v0 v1 v2 v3
  clear_value v0
  clear_value v1
  clear_value v2
  refine keep_ite ?_ ?_
  · intro x4
    exact State.nackFlit_keep (.of hm) k0
  · intro x5
    split
    · rename_i z6 z7 z8
      refine keep_ite ?_ ?_
      · intro x9
        exact State.ackEdge_keep (.of hm) (State.chaff_keep (.of hm) k0)
      · intro x10
        refine keep_ite ?_ ?_
        · intro x11
          exact State.replyFlit_keep (.of hm) (State.killWith_keep (.of hm) k0)
        · intro x12
          refine keep_ite ?_ ?_
          · intro x13
            exact State.ackEdge_keep (.of hm) (State.decrement_keep (.of hm) k0)
          · intro x14
            exact State.earlyEdge_keep (.of hm) k0
    · rename_i z15 z16
      refine keep_ite ?_ ?_
      · intro x17
        exact State.earlyEdge_keep (.of hm) k0
      · intro x18
        refine keep_ite ?_ ?_
        · intro x19
          exact State.nackFlit_keep (.of hm) k0
        · intro x20
          exact State.ackEdge_keep (.of hm) (State.reportPlain_keep (.of hm) k0)

theorem State.edgeArrive_keep {s : State} {f : List Word} (hm : Sub 215744212 msk) (k0 : Keep msk sa s) :
    Keep msk sa (@State.edgeArrive s f) := by
  unfold State.edgeArrive
  refine keep_ite ?_ ?_
  · intro x0
    exact keep_mk 67108864 (.of hm) k0
  · intro x1
    refine State.recvReq_keep (.of hm) ?_ ?_
    · exact keep_mk 4 (.of hm) k0
    · intro x2 x3 x4
      exact State.edgeDec_keep (.of hm) x4

theorem State.drainEdges_keep {s : State} (hm : Sub 215744212 msk) (k0 : Keep msk sa s) :
    Keep msk sa (@State.drainEdges s) := by
  unfold State.drainEdges
  refine keep_foldl ?_ ?_
  · exact keep_mk 67108864 (.of hm) k0
  · intro x0 x1 x2
    split
    · rename_i z3 z4 z5
      exact State.edgeArrive_keep (.of hm) x2
    · rename_i z6 z7
      exact x2

theorem execEdgeDec_keep {flit : List (BitVec 32)} {s : State} (hm : Sub 215744212 msk) (k0 : Keep msk sa s) :
    KeepO msk sa (@execEdgeDec flit s) := by
  unfold execEdgeDec
  refine keepO_next ?_
  refine State.flitInput_keep (.of hm) ?_ ?_
  · exact k0
  · intro x0 x1
    exact State.edgeArrive_keep (.of hm) x1

theorem State.signalFlit_keep {s : State} {f : List Word} (hm : Sub 79693008 msk) (k0 : Keep msk sa s) :
    Keep msk sa (@State.signalFlit s f) := by
  unfold State.signalFlit
  split
  · rename_i z0 z1 z2 z3 z4
    have h5 : Keep msk sa z1 := by
      refine keepP_eq z4 ?_
      exact State.applySignal_keep (.of hm) k0
    refine keep_ite ?_ ?_
    · intro x6
      exact State.replyFlit_keep (.of hm) h5
    · intro x7
      exact State.replyFlit_keep (.of hm) h5

theorem State.sheafArriveFlit_keep {s : State} {f : List Word} (hm : Sub 79709264 msk) (k0 : Keep msk sa s) :
    Keep msk sa (@State.sheafArriveFlit s f) := by
  unfold State.sheafArriveFlit
  extract_lets v0 v1 v2 v3
  clear_value v0
  clear_value v1
  have h4 : Keep msk sa v2 := by
    unfold v2
    exact State.updSheafX_keep (.of hm) k0
  clear_value v2
  have h5 : Keep msk sa v3 := by
    unfold v3
    exact State.setShv_keep (.of hm) h4
  clear_value v3
  refine keep_ite ?_ ?_
  · intro x6
    exact State.checkSheaf_keep (.of hm) (State.replyFlit_keep (.of hm) h5)
  · intro x7
    exact State.nackFlit_keep (.of hm) k0

theorem State.sheafReleaseFlit_keep {s : State} {f : List Word} (hm : Sub 79709264 msk) (k0 : Keep msk sa s) :
    Keep msk sa (@State.sheafReleaseFlit s f) := by
  unfold State.sheafReleaseFlit
  extract_lets v0
  clear_value v0
  refine keep_ite ?_ ?_
  · intro x1
    exact State.replyFlit_keep (.of hm) (State.setShv_keep (.of hm) (State.completeSheaf_keep (.of hm) k0))
  · intro x2
    exact State.nackFlit_keep (.of hm) k0

theorem State.sheafFlit_keep {s : State} {i : Instr} {f : List Word} {act : State → List Word → State} (hm : Sub 79691860 msk) (k0 : Keep msk sa s) (k1 : ∀ (a : State) (a_1 : List Word), Keep msk sa a → Keep msk sa (act a a_1)) :
    Keep msk sa (@State.sheafFlit s i f act) := by
  unfold State.sheafFlit
  refine keep_ite ?_ ?_
  · intro x0
    exact keep_mk 67108864 (.of hm) k0
  · intro x1
    refine State.recvReq_keep (.of hm) ?_ ?_
    · exact State.semOp_keep (.of hm) k0
    · intro x2 x3 x4
      refine k1 _ _ ?_
      exact x4

theorem State.drainSheaves_keep {s : State} (hm : Sub 79709268 msk) (k0 : Keep msk sa s) :
    Keep msk sa (@State.drainSheaves s) := by
  unfold State.drainSheaves
  refine keep_foldl ?_ ?_
  · exact keep_mk 67108864 (.of hm) k0
  · intro x0 x1 x2
    split
    · rename_i z3 z4 z5
      refine State.sheafFlit_keep (.of hm) ?_ ?_
      · exact x2
      · intro x6 x7 x8
        exact State.sheafArriveFlit_keep (.of hm) x8
    · rename_i z9 z10 z11
      refine State.sheafFlit_keep (.of hm) ?_ ?_
      · exact x2
      · intro x12 x13 x14
        exact State.sheafReleaseFlit_keep (.of hm) x14
    · rename_i z15 z16 z17
      exact x2

theorem execSheafArrive_keep {flit : List (BitVec 32)} {s : State} (hm : Sub 80757844 msk) (k0 : Keep msk sa s) :
    KeepO msk sa (@execSheafArrive flit s) := by
  unfold execSheafArrive
  refine keepO_next ?_
  refine State.flitInput_keep (.of hm) ?_ ?_
  · exact k0
  · intro x0 x1
    refine State.sheafFlit_keep (.of hm) ?_ ?_
    · exact x1
    · intro x2 x3 x4
      exact State.sheafArriveFlit_keep (.of hm) x4

theorem execSheafRelease_keep {flit : List (BitVec 32)} {s : State} (hm : Sub 80757844 msk) (k0 : Keep msk sa s) :
    KeepO msk sa (@execSheafRelease flit s) := by
  unfold execSheafRelease
  refine keepO_next ?_
  refine State.flitInput_keep (.of hm) ?_ ?_
  · exact k0
  · intro x0 x1
    refine State.sheafFlit_keep (.of hm) ?_ ?_
    · exact x1
    · intro x2 x3 x4
      exact State.sheafReleaseFlit_keep (.of hm) x4

theorem State.msgArrive_keep {s : State} {fs : List (List Word)} {f : List Word} (hm : Sub 80773844 msk) (k0 : Keep msk sa s) :
    Keep msk sa (@State.msgArrive s fs f) := by
  unfold State.msgArrive
  extract_lets v0 v1
  clear_value v0
  clear_value v1
  split
  · rename_i z2 z3 z4 z5
    have h6 : Keep msk sa z3 := by
      refine keepP_eq z5 ?_
      refine keepP_ite ?_ ?_
      · intro x7
        exact State.refuseMsg_keep (.of hm) k0
      · intro x8
        exact State.handleMsg_keep (.of hm) k0
    split
    · rename_i z9 z10
      exact State.replyFlit_keep (.of hm) h6
    · rename_i z11 z12 z13
      exact State.replyFlit_keep (.of hm) h6

theorem State.hubArrive_keep {s : State} {fs : List (List Word)} (hm : Sub 80773844 msk) (k0 : Keep msk sa s) :
    Keep msk sa (@State.hubArrive s fs) := by
  unfold State.hubArrive
  refine keep_ite ?_ ?_
  · intro x0
    exact keep_mk 67108864 (.of hm) k0
  · intro x1
    refine State.recvReq_keep (.of hm) ?_ ?_
    · exact k0
    · intro x2 x3 x4
      exact State.msgArrive_keep (.of hm) x4

theorem State.drainMsgs_keep {s : State} (hm : Sub 80773844 msk) (k0 : Keep msk sa s) :
    Keep msk sa (@State.drainMsgs s) := by
  unfold State.drainMsgs
  refine keep_foldl ?_ ?_
  · exact keep_mk 67108864 (.of hm) k0
  · intro x0 x1 x2
    split
    · rename_i z3 z4 z5
      exact State.hubArrive_keep (.of hm) x2
    · rename_i z6 z7
      exact x2

theorem execMsg_keep {flits : List (List (BitVec 32))} {s : State} (hm : Sub 80773844 msk) (k0 : Keep msk sa s) :
    KeepO msk sa (@execMsg flits s) := by
  unfold execMsg
  refine keepO_next ?_
  refine State.flitInput_keep (.of hm) ?_ ?_
  · exact k0
  · intro x0 x1
    exact State.hubArrive_keep (.of hm) x1

theorem State.departLeave_keep {s : State} {f : List Word} (hm : Sub 215744212 msk) (k0 : Keep msk sa s) :
    Keep msk sa (@State.departLeave s f) := by
  unfold State.departLeave
  extract_lets v0
  clear_value v0
  exact State.replyFlit_keep (.of hm) (State.failTraffic_keep (.of hm) (State.setMember_keep (.of hm) k0))

theorem State.departLost_keep {s : State} {f : List Word} (hm : Sub 148635348 msk) (k0 : Keep msk sa s) :
    Keep msk sa (@State.departLost s f) := by
  unfold State.departLost
  extract_lets v0 v1 v2
  clear_value v0
  have h3 : Keep msk sa v1 := by
    unfold v1
    exact State.failTraffic_keep (.of hm) (State.setMember_keep (.of hm) k0)
  clear_value v1
  have h4 : Keep msk sa v2 := by
    unfold v2
    refine keep_foldl ?_ ?_
    · exact h3
    · intro x5 x6 x7
      exact State.killWith_keep (.of hm) x7
  clear_value v2
  refine keep_foldl ?_ ?_
  · exact h4
  · intro x8 x9 x10
    exact State.faultSheaf_keep (.of hm) x10

theorem State.departJoin_keep {s : State} {f : List Word} (hm : Sub 75497552 msk) (k0 : Keep msk sa s) :
    Keep msk sa (@State.departJoin s f) := by
  unfold State.departJoin
  extract_lets v0
  clear_value v0
  refine keep_ite ?_ ?_
  · intro x1
    exact State.replyFlit_keep (.of hm) (State.setMember_keep (.of hm) k0)
  · intro x2
    exact State.replyFlit_keep (.of hm) k0

theorem execDepartLeave_keep {flit : List (BitVec 32)} {s : State} (hm : Sub 215744212 msk) (k0 : Keep msk sa s) :
    KeepO msk sa (@execDepartLeave flit s) := by
  unfold execDepartLeave
  refine keepO_next ?_
  refine State.flitInput_keep (.of hm) ?_ ?_
  · exact k0
  · intro x0 x1
    refine State.recv_keep (.of hm) ?_ ?_
    · exact x1
    · intro x2 x3 x4
      exact State.departLeave_keep (.of hm) x4

theorem execDepartLost_keep {flit : List (BitVec 32)} {s : State} (hm : Sub 215744212 msk) (k0 : Keep msk sa s) :
    KeepO msk sa (@execDepartLost flit s) := by
  unfold execDepartLost
  refine keepO_next ?_
  refine State.flitInput_keep (.of hm) ?_ ?_
  · exact k0
  · intro x0 x1
    refine State.recv_keep (.of hm) ?_ ?_
    · exact x1
    · intro x2 x3 x4
      exact State.departLost_keep (.of hm) x4

theorem execDepartJoin_keep {flit : List (BitVec 32)} {s : State} (hm : Sub 80740432 msk) (k0 : Keep msk sa s) :
    KeepO msk sa (@execDepartJoin flit s) := by
  unfold execDepartJoin
  refine keepO_next ?_
  refine State.flitInput_keep (.of hm) ?_ ?_
  · exact k0
  · intro x0 x1
    refine State.recv_keep (.of hm) ?_ ?_
    · exact x1
    · intro x2 x3 x4
      exact State.departJoin_keep (.of hm) x4

theorem State.reply_keep {s : State} {nack : Bool} {f : List Word} (hm : Sub 215744212 msk) (k0 : Keep msk sa s) :
    Keep msk sa (@State.reply s nack f) := by
  unfold State.reply
  extract_lets v0 v1 v2 v3 v4
  clear_value v0
  clear_value v1
  clear_value v2
  clear_value v3
  clear_value v4
  split
  · rename_i z5 z6 z7
    refine keep_ite ?_ ?_
    · intro x8
      exact State.tryRetire_keep (.of hm) (keep_mk 4096 (.of hm) k0)
    · intro x9
      refine keep_ite ?_ ?_
      · intro x10
        exact keep_mk 4096 (.of hm) k0
      · intro x11
        exact State.failEdge_keep (.of hm) k0
  · rename_i z12 z13
    split
    · rename_i z14 z15 z16
      exact State.signalDone_keep (.of hm) k0
    · rename_i z17 z18
      split
      · rename_i z19 z20 z21
        refine keep_ite ?_ ?_
        · intro x22
          exact State.failSheafMsg_keep (.of hm) k0
        · intro x23
          exact keep_mk 16384 (.of hm) k0
      · rename_i z24 z25
        split
        · rename_i z26 z27 z28
          refine keep_ite ?_ ?_
          · intro x29
            exact State.endSend_keep (.of hm) k0
          · intro x30
            exact State.endSend_keep (.of hm) k0
        · rename_i z31 z32
          split
          · rename_i z33 z34 z35
            exact State.endDepart_keep (.of hm) k0
          · rename_i z36 z37
            exact k0

theorem execAck_keep {flit : List (BitVec 32)} {s : State} (hm : Sub 215744212 msk) (k0 : Keep msk sa s) :
    KeepO msk sa (@execAck flit s) := by
  unfold execAck
  refine keepO_next ?_
  refine State.flitInput_keep (.of hm) ?_ ?_
  · exact k0
  · intro x0 x1
    refine State.recv_keep (.of hm) ?_ ?_
    · exact x1
    · intro x2 x3 x4
      exact State.reply_keep (.of hm) x4

theorem execNack_keep {flit : List (BitVec 32)} {s : State} (hm : Sub 215744212 msk) (k0 : Keep msk sa s) :
    KeepO msk sa (@execNack flit s) := by
  unfold execNack
  refine keepO_next ?_
  refine State.flitInput_keep (.of hm) ?_ ?_
  · exact k0
  · intro x0 x1
    refine State.recv_keep (.of hm) ?_ ?_
    · exact x1
    · intro x2 x3 x4
      exact State.reply_keep (.of hm) x4

theorem execEdgeDecResend_keep {seq : BitVec 32} {s : State} (hm : Sub 75501648 msk) (k0 : Keep msk sa s) :
    KeepO msk sa (@execEdgeDecResend seq s) := by
  unfold execEdgeDecResend
  split
  · rename_i z0 z1
    exact keepO_next k0
  · rename_i z2 z3 z4
    extract_lets v5 v6 v7 v8
    clear_value v5
    clear_value v6
    have h9 : Keep msk sa v7 := by
      unfold v7
      exact keep_mk 4096 (.of hm) k0
    clear_value v7
    have h10 : Keep msk sa v8 := by
      unfold v8
      exact State.incRf_keep (.of hm) h9
    clear_value v8
    exact keepO_next (State.sendFlits_keep (.of hm) h10)

theorem execRemoteEdgeTimeout_keep {seq : BitVec 32} {s : State} (hm : Sub 148635348 msk) (k0 : Keep msk sa s) :
    KeepO msk sa (@execRemoteEdgeTimeout seq s) := by
  unfold execRemoteEdgeTimeout
  split
  · rename_i z0 z1 z2
    exact keepO_next (State.failEdge_keep (.of hm) k0)
  · rename_i z3 z4
    exact keepO_next k0

theorem execRemoteStall_keep {slot : Nat} {s : State} (hm : Sub 148635348 msk) (k0 : Keep msk sa s) :
    KeepO msk sa (@execRemoteStall slot s) := by
  unfold execRemoteStall
  split
  · rename_i z0 z1
    exact keepO_next k0
  · rename_i z2 z3 z4
    extract_lets v5 v6
    clear_value v5
    clear_value v6
    refine keepO_ite ?_ ?_
    · intro x7
      exact keepO_next (State.killWith_keep (.of hm) k0)
    · intro x8
      exact keepO_next k0

/-! ### Machine/SemCmd.lean -/

theorem State.refuseSemCmd_keep {s : State} {i : Nat} {e : Err} (hm : Sub 12582928 msk) (k0 : Keep msk sa s) :
    Keep msk sa (@State.refuseSemCmd s i e) := by
  unfold State.refuseSemCmd
  extract_lets v0 v1
  have h2 : Keep msk sa v0 := by
    unfold v0
    exact State.setRf_keep (.of hm) k0
  clear_value v0
  have h3 : Keep msk sa v1 := by
    unfold v1
    exact State.reportPlain_keep (.of hm) h2
  clear_value v1
  split
  · rename_i z4 z5 z6
    refine keep_ite ?_ ?_
    · intro x7
      exact State.misuse_keep (.of hm) h3
    · intro x8
      exact h3
  · rename_i z9 z10
    exact h3

theorem State.semSet_keep {s : State} {i : Nat} {v : Nat} (hm : Sub 12599504 msk) (k0 : Keep msk sa s) :
    Keep msk sa (@State.semSet s i v) := by
  unfold State.semSet
  split
  · rename_i z0 z1 z2
    exact State.refuseSemCmd_keep (.of hm) k0
  · rename_i z3 z4
    extract_lets v5
    have h6 : Keep msk sa v5 := by
      unfold v5
      exact keep_mk 128 (.of hm) k0
    clear_value v5
    exact State.touchSem_keep (.of hm) (State.setSem_keep (.of hm) (State.setRf_keep (.of hm) h6))

theorem State.semClear_keep {s : State} {i : Nat} (hm : Sub 12582992 msk) (k0 : Keep msk sa s) :
    Keep msk sa (@State.semClear s i) := by
  unfold State.semClear
  split
  · rename_i z0 z1 z2
    exact State.refuseSemCmd_keep (.of hm) k0
  · rename_i z3 z4
    exact State.setRm_keep (.of hm) (State.setRm_keep (.of hm) (State.setRf_keep (.of hm) k0))

theorem State.semCmdNow_keep {s : State} {op : Nat} {i : Nat} {v : Nat} (hm : Sub 12599504 msk) (k0 : Keep msk sa s) :
    Keep msk sa (@State.semCmdNow s op i v) := by
  unfold State.semCmdNow
  split
  · rename_i z0
    exact State.semSet_keep (.of hm) k0
  · rename_i z1
    exact State.semClear_keep (.of hm) k0
  · rename_i z2 z3 z4
    exact k0

theorem State.semCmd_keep {s : State} {op : Nat} (hm : Sub 12599508 msk) (k0 : Keep msk sa s) :
    Keep msk sa (@State.semCmd s op) := by
  unfold State.semCmd
  extract_lets v0 v1 v2
  clear_value v0
  clear_value v1
  clear_value v2
  refine keep_ite ?_ ?_
  · intro x3
    exact k0
  · intro x4
    refine keep_ite ?_ ?_
    · intro x5
      exact State.semCmdNow_keep (.of hm) (State.semOp_keep (.of hm) k0)
    · intro x6
      exact keep_mk 16384 (.of hm) k0

theorem State.semCycle_keep {s : State} (hm : Sub 79709396 msk) (k0 : Keep msk sa s) :
    Keep msk sa (@State.semCycle s) := by
  unfold State.semCycle
  refine keep_ite ?_ ?_
  · intro x0
    exact k0
  · intro x1
    extract_lets v2 v3
    have h4 : Keep msk sa v2 := by
      unfold v2
      exact State.applyReleases_keep (.of hm) k0
    clear_value v2
    clear_value v3
    split
    · rename_i z5 z6 z7 z8 z9
      refine keep_ite ?_ ?_
      · intro x10
        exact State.semCmdNow_keep (.of hm) (State.semOp_keep (.of hm) (keep_mk 16384 (.of hm) h4))
      · intro x11
        exact h4
    · rename_i z12 z13
      exact h4

theorem execSemCmdSet_keep {s : State} (hm : Sub 13648340 msk) (k0 : Keep msk sa s) :
    KeepO msk sa (@execSemCmdSet s) := by
  unfold execSemCmdSet
  refine keepO_next ?_
  refine State.regInput_keep (.of hm) ?_ ?_
  · exact k0
  · intro x0 x1
    exact State.semCmd_keep (.of hm) x1

theorem execSemCmdClearFlags_keep {s : State} (hm : Sub 13648340 msk) (k0 : Keep msk sa s) :
    KeepO msk sa (@execSemCmdClearFlags s) := by
  unfold execSemCmdClearFlags
  refine keepO_next ?_
  refine State.regInput_keep (.of hm) ?_ ?_
  · exact k0
  · intro x0 x1
    exact State.semCmd_keep (.of hm) x1

theorem State.watchStatus_keep {s : State} {idx : Nat} {e : Option Err} (hm : Sub 16 msk) (k0 : Keep msk sa s) :
    Keep msk sa (@State.watchStatus s idx e) := by
  unfold State.watchStatus
  exact State.setReg_keep (.of hm) k0

theorem State.armWatch_keep {s : State} (hm : Sub 12599312 msk) (k0 : Keep msk sa s) :
    Keep msk sa (@State.armWatch s) := by
  unfold State.armWatch
  refine keep_ite ?_ ?_
  · intro x0
    exact k0
  · intro x1
    refine keep_ite ?_ ?_
    · intro x2
      exact State.watchStatus_keep (.of hm) (State.reportPlain_keep (.of hm) k0)
    · intro x3
      split
      · rename_i z4 z5
        exact State.watchStatus_keep (.of hm) (State.reportPlain_keep (.of hm) k0)
      · rename_i z6 z7 z8
        extract_lets v9 v10 v11 v12 v13 v14
        clear_value v9
        clear_value v10
        clear_value v11
        clear_value v12
        clear_value v13
        have h15 : Keep msk sa v14 := by
          unfold v14
          exact keep_mk 16384 (.of hm) k0
        clear_value v14
        exact State.addWait_keep (.of hm) (State.watchStatus_keep (.of hm) h15)

theorem State.cancelWatch_keep {s : State} {i : Nat} (hm : Sub 16400 msk) (k0 : Keep msk sa s) :
    Keep msk sa (@State.cancelWatch s i) := by
  unfold State.cancelWatch
  refine keep_ite ?_ ?_
  · intro x0
    exact k0
  · intro x1
    exact State.setReg_keep (.of hm) (keep_mk 16384 (.of hm) k0)

theorem State.endCancels_keep {s : State} (hm : Sub 16400 msk) (k0 : Keep msk sa s) :
    Keep msk sa (@State.endCancels s) := by
  unfold State.endCancels
  refine keep_foldl ?_ ?_
  · exact keep_mk 16384 (.of hm) k0
  · intro x0 x1 x2
    extract_lets v3 v4
    have h5 : Keep msk sa v3 := by
      unfold v3
      exact State.endWait_keep (.of hm) x2
    clear_value v3
    clear_value v4
    exact State.watchStatus_keep (.of hm) (keep_mk 16384 (.of hm) h5)

theorem State.semEnd_keep {s : State} (hm : Sub 148635348 msk) (k0 : Keep msk sa s) :
    Keep msk sa (@State.semEnd s) := by
  unfold State.semEnd
  refine keep_ite ?_ ?_
  · intro x0
    exact k0
  · intro x1
    exact State.endCancels_keep (.of hm) (State.evalSems_keep (.of hm) k0)

theorem execWatchArm_keep {s : State} (hm : Sub 13648144 msk) (k0 : Keep msk sa s) :
    KeepO msk sa (@execWatchArm s) := by
  unfold execWatchArm
  refine keepO_next ?_
  refine State.regInput_keep (.of hm) ?_ ?_
  · exact k0
  · intro x0 x1
    exact State.armWatch_keep (.of hm) x1

theorem execWatchCancel_keep {index : Nat} {s : State} (hm : Sub 1065232 msk) (k0 : Keep msk sa s) :
    KeepO msk sa (@execWatchCancel index s) := by
  unfold execWatchCancel
  refine keepO_next ?_
  refine State.regInput_keep (.of hm) ?_ ?_
  · exact k0
  · intro x0 x1
    exact State.cancelWatch_keep (.of hm) x1

theorem State.wakeStatus_keep {s : State} {idx : Nat} {e : Option Err} (hm : Sub 16 msk) (k0 : Keep msk sa s) :
    Keep msk sa (@State.wakeStatus s idx e) := by
  unfold State.wakeStatus
  exact State.setReg_keep (.of hm) k0

theorem State.addBind_keep {s : State} {b : Bind} (hm : Sub 24576 msk) (k0 : Keep msk sa s) :
    Keep msk sa (@State.addBind s b) := by
  unfold State.addBind
  extract_lets v0 v1
  clear_value v0
  have h2 : Keep msk sa v1 := by
    unfold v1
    exact keep_mk 16384 (.of hm) k0
  clear_value v1
  exact State.updLink_keep (.of hm) h2

theorem State.wakeBind_keep {s : State} (hm : Sub 12607504 msk) (k0 : Keep msk sa s) :
    Keep msk sa (@State.wakeBind s) := by
  unfold State.wakeBind
  extract_lets v0 v1 v2 v3
  clear_value v0
  clear_value v1
  clear_value v2
  refine keep_ite ?_ ?_
  · intro x4
    exact k0
  · intro x5
    refine keep_ite ?_ ?_
    · intro x6
      unfold v3
      exact State.wakeStatus_keep (.of hm) (State.reportPlain_keep (.of hm) k0)
    · intro x7
      refine keep_ite ?_ ?_
      · intro x8
        unfold v3
        exact State.wakeStatus_keep (.of hm) (State.reportPlain_keep (.of hm) k0)
      · intro x9
        split
        · rename_i z10 z11
          unfold v3
          exact State.wakeStatus_keep (.of hm) (State.reportPlain_keep (.of hm) k0)
        · rename_i z12 z13 z14
          exact State.wakeStatus_keep (.of hm) (State.addBind_keep (.of hm) k0)

theorem State.unbindUp_keep {s : State} {b : Bind} (hm : Sub 24576 msk) (k0 : Keep msk sa s) :
    Keep msk sa (@State.unbindUp s b) := by
  unfold State.unbindUp
  exact State.updLink_keep (.of hm) (State.freeBind_keep (.of hm) k0)

theorem State.endBind_keep {s : State} {b : Bind} (hm : Sub 24576 msk) (k0 : Keep msk sa s) :
    Keep msk sa (@State.endBind s b) := by
  unfold State.endBind
  split
  · rename_i z0 z1
    exact State.unbindUp_keep (.of hm) k0
  · rename_i z2 z3
    exact State.wakeLink_keep (.of hm) (State.freeBind_keep (.of hm) k0)
  · rename_i z4 z5
    exact State.freeBind_keep (.of hm) k0

theorem State.wakeCancel_keep {s : State} (hm : Sub 24592 msk) (k0 : Keep msk sa s) :
    Keep msk sa (@State.wakeCancel s) := by
  unfold State.wakeCancel
  refine keep_ite ?_ ?_
  · intro x0
    exact k0
  · intro x1
    split
    · rename_i z2 z3
      exact State.wakeStatus_keep (.of hm) k0
    · rename_i z4 z5 z6
      exact State.wakeStatus_keep (.of hm) (State.endBind_keep (.of hm) k0)

theorem State.bindSleep_keep {s : State} {b : Bind} (hm : Sub 12607696 msk) (k0 : Keep msk sa s) :
    Keep msk sa (@State.bindSleep s b) := by
  unfold State.bindSleep
  extract_lets v0 v1
  clear_value v0
  refine keep_ite ?_ ?_
  · intro x2
    exact k0
  · intro x3
    split
    · rename_i z4 z5
      unfold v1
      extract_lets v6 v7
      clear_value v6
      have h8 : Keep msk sa v7 := by
        unfold v7
        exact keep_mk 16384 (.of hm) k0
      clear_value v7
      exact State.sendCtrl_keep (.of hm) h8
    · rename_i z9 z10 z11
      extract_lets v12
      clear_value v12
      split
      · rename_i z13 z14 z15 z16
        have h17 : Keep msk sa z14 := by
          refine keepP_eq z16 ?_
          exact State.checkSem_keep (.of hm) k0
        refine keep_ite ?_ ?_
        · intro x18
          refine State.unbindUp_keep (.of hm) ?_
          refine keep_ite ?_ ?_
          · intro x19
            exact State.setSem_keep (.of hm) h17
          · intro x20
            exact h17
        · intro x21
          refine State.addWait_keep (.of hm) ?_
          unfold v1
          extract_lets v22 v23
          clear_value v22
          have h24 : Keep msk sa v23 := by
            unfold v23
            exact keep_mk 16384 (.of hm) h17
          clear_value v23
          exact State.sendCtrl_keep (.of hm) h24

theorem execWakeBind_keep {s : State} (hm : Sub 13656336 msk) (k0 : Keep msk sa s) :
    KeepO msk sa (@execWakeBind s) := by
  unfold execWakeBind
  refine keepO_next ?_
  refine State.regInput_keep (.of hm) ?_ ?_
  · exact k0
  · intro x0 x1
    exact State.wakeBind_keep (.of hm) x1

theorem execWakeCancel_keep {s : State} (hm : Sub 1073424 msk) (k0 : Keep msk sa s) :
    KeepO msk sa (@execWakeCancel s) := by
  unfold execWakeCancel
  refine keepO_next ?_
  refine State.regInput_keep (.of hm) ?_ ?_
  · exact k0
  · intro x0 x1
    exact State.wakeCancel_keep (.of hm) x1

theorem execWakeTimeout_keep {index : Nat} {s : State} (hm : Sub 12607504 msk) (k0 : Keep msk sa s) :
    KeepO msk sa (@execWakeTimeout index s) := by
  unfold execWakeTimeout
  split
  · rename_i z0 z1 z2
    refine keepO_ite ?_ ?_
    · intro x3
      exact keepO_next (State.endBind_keep (.of hm) (State.reportPlain_keep (.of hm) k0))
    · intro x4
      exact keepO_next k0
  · rename_i z5 z6
    exact keepO_next k0

/-! ### Machine/IfmOps.lean -/

theorem State.placeRecovery_keep {s : State} (hm : Sub 24576 msk) (k0 : Keep msk sa s) :
    Keep msk sa (@State.placeRecovery s) := by
  unfold State.placeRecovery
  refine keep_foldl ?_ ?_
  · exact k0
  · intro x0 x1 x2
    split
    · rename_i z3 z4
      exact x2
    · rename_i z5 z6 z7
      exact State.addBind_keep (.of hm) x2

theorem State.endRecovery_keep {s : State} (hm : Sub 24576 msk) (k0 : Keep msk sa s) :
    Keep msk sa (@State.endRecovery s) := by
  unfold State.endRecovery
  refine keep_ite ?_ ?_
  · intro x0
    exact k0
  · intro x1
    refine keep_foldl ?_ ?_
    · exact k0
    · intro x2 x3 x4
      exact State.endBind_keep (.of hm) x4

theorem State.startRebuild_keep {s : State} (hm : Sub 552976 msk) (k0 : Keep msk sa s) :
    Keep msk sa (@State.startRebuild s) := by
  unfold State.startRebuild
  refine keep_ite ?_ ?_
  · intro x0
    exact k0
  · intro x1
    extract_lets v2 v3 v4 v5 v6
    have h7 : Keep msk sa v2 := by
      unfold v2
      exact State.setRf_keep (.of hm) k0
    clear_value v2
    clear_value v4
    clear_value v5
    have h8 : Keep msk sa v6 := by
      unfold v6
      exact keep_mk 528384 (.of hm) h7
    clear_value v6
    exact State.placeRecovery_keep (.of hm) h8

theorem State.endRebuild_keep {s : State} (hm : Sub 8417300 msk) (k0 : Keep msk sa s) :
    Keep msk sa (@State.endRebuild s) := by
  unfold State.endRebuild
  refine keep_ite ?_ ?_
  · intro x0
    exact k0
  · intro x1
    extract_lets v2 v3 v4
    clear_value v2
    clear_value v3
    have h5 : Keep msk sa v4 := by
      unfold v4
      exact keep_mk 4096 (.of hm) k0
    clear_value v4
    refine State.endRecovery_keep (.of hm) ?_
    refine State.setRf_keep (.of hm) ?_
    refine keep_foldl ?_ ?_
    · exact h5
    · intro x6 x7 x8
      exact State.insertReady_keep (.of hm) x8

theorem State.drRestart_keep {s : State} {code : Nat} (hm : Sub 215744212 msk) (k0 : Keep msk sa s) :
    Keep msk sa (@State.drRestart s code) := by
  unfold State.drRestart
  refine keep_ite ?_ ?_
  · intro x0
    exact k0
  · intro x1
    extract_lets v2 v3 v4 v5 v6 v7 v8 v9
    have h10 : Keep msk sa v2 := by
      unfold v2
      exact State.setRf_keep (.of hm) k0
    clear_value v2
    clear_value v3
    clear_value v4
    have h11 : Keep msk sa v5 := by
      unfold v5
      exact keep_mk 67112960 (.of hm) h10
    clear_value v5
    have h12 : Keep msk sa v6 := by
      unfold v6
      refine keep_foldl ?_ ?_
      · exact h11
      · intro x13 x14 x15
        exact State.killLaunch_keep (.of hm) x15
    clear_value v6
    clear_value v7
    have h16 : Keep msk sa v8 := by
      unfold v8
      refine keep_foldl ?_ ?_
      · exact h12
      · intro x17 x18 x19
        refine keep_ite ?_ ?_
        · intro x20
          exact State.setNd_keep (.of hm) x19
        · intro x21
          exact x19
    clear_value v8
    clear_value v9
    exact State.placeRecovery_keep (.of hm) (State.setBp_keep (.of hm) (keep_mk 4096 (.of hm) h16))

theorem State.drRestartDone_keep {s : State} (hm : Sub 24592 msk) (k0 : Keep msk sa s) :
    Keep msk sa (@State.drRestartDone s) := by
  unfold State.drRestartDone
  refine keep_ite ?_ ?_
  · intro x0
    exact State.endRecovery_keep (.of hm) (State.setRf_keep (.of hm) k0)
  · intro x1
    exact k0

theorem State.sliceRestart_keep {s : State} {slice : Nat} (hm : Sub 215744212 msk) (k0 : Keep msk sa s) :
    Keep msk sa (@State.sliceRestart s slice) := by
  unfold State.sliceRestart
  refine keep_ite ?_ ?_
  · intro x0
    exact k0
  · intro x1
    extract_lets v2 v3 v4 v5 v6
    have h7 : Keep msk sa v2 := by
      unfold v2
      exact State.setRf_keep (.of hm) k0
    clear_value v2
    have h8 : Keep msk sa v3 := by
      unfold v3
      exact State.setFifo_keep (.of hm) (State.setFifo_keep (.of hm) h7)
    clear_value v3
    have h9 : Keep msk sa v4 := by
      unfold v4
      refine keep_foldl ?_ ?_
      · exact h8
      · intro x10 x11 x12
        exact State.dropLink_keep (.of hm) x12
    clear_value v4
    clear_value v5
    have h13 : Keep msk sa v6 := by
      unfold v6
      exact keep_mk 8192 (.of hm) h9
    clear_value v6
    refine keep_ite ?_ ?_
    · intro x14
      exact h13
    · intro x15
      refine keep_foldl ?_ ?_
      · exact h13
      · intro x16 x17 x18
        exact State.offerLink_keep (.of hm) x18

theorem State.sliceRejoin_keep {s : State} {slice : Nat} (hm : Sub 8208 msk) (k0 : Keep msk sa s) :
    Keep msk sa (@State.sliceRejoin s slice) := by
  unfold State.sliceRejoin
  split
  · rename_i z0 z1
    exact k0
  · rename_i z2 z3 z4 z5
    refine keep_ite ?_ ?_
    · intro x6
      exact k0
    · intro x7
      extract_lets v8 v9
      clear_value v8
      have h10 : Keep msk sa v9 := by
        unfold v9
        exact keep_mk 8192 (.of hm) k0
      clear_value v9
      exact State.setRf_keep (.of hm) h10

theorem State.clearEcc_keep {s : State} {k : Nat} (hm : Sub 128 msk) (k0 : Keep msk sa s) :
    Keep msk sa (@State.clearEcc s k) := by
  unfold State.clearEcc
  exact keep_mk 128 (.of hm) k0

theorem State.readDamage_keep {s : State} {m : Nat × Nat} (hm : Sub 215744212 msk) (k0 : Keep msk sa s) :
    Keep msk sa (@State.readDamage s m) := by
  unfold State.readDamage
  extract_lets v0 v1 v2 v3 v4
  clear_value v0
  clear_value v1
  have h5 : Keep msk sa v2 := by
    unfold v2
    exact State.clearEcc_keep (.of hm) k0
  clear_value v2
  clear_value v3
  have h6 : Keep msk sa v4 := by
    unfold v4
    exact State.reportRow_keep (.of hm) h5
  clear_value v4
  refine keep_ite ?_ ?_
  · intro x7
    exact State.reportRow_keep (.of hm) h5
  · intro x8
    split
    · rename_i z9
      exact State.sliceRestart_keep (.of hm) h6
    · rename_i z10
      exact State.drRestart_keep (.of hm) h6
    · rename_i z11 z12 z13
      exact State.startRebuild_keep (.of hm) h6

theorem State.readMarks_keep {s : State} {lo : Nat} {hi : Nat} (hm : Sub 215744212 msk) (k0 : Keep msk sa s) :
    Keep msk sa (@State.readMarks s lo hi) := by
  unfold State.readMarks
  refine keep_foldl ?_ ?_
  · exact k0
  · intro x0 x1 x2
    exact State.readDamage_keep (.of hm) x2

theorem State.dealChecks_keep {s : State} (hm : Sub 215744212 msk) (k0 : Keep msk sa s) :
    Keep msk sa (@State.dealChecks s) := by
  unfold State.dealChecks
  exact State.readMarks_keep (.of hm) k0

theorem State.sliceChecks_keep {s : State} {slice : Nat} (hm : Sub 215744212 msk) (k0 : Keep msk sa s) :
    Keep msk sa (@State.sliceChecks s slice) := by
  unfold State.sliceChecks
  refine keep_foldl ?_ ?_
  · exact k0
  · intro x0 x1 x2
    exact State.readDamage_keep (.of hm) x2

/-! ### Machine/Tick.lean -/

theorem State.sampleEngines_keep {s : State} (hm : Sub 4096 msk) (k0 : Keep msk sa s) :
    Keep msk sa (@State.sampleEngines s) := by
  unfold State.sampleEngines
  exact keep_mk 4096 (.of hm) k0

theorem State.reachStarts_keep {s : State} (hm : Sub 2048 msk) (k0 : Keep msk sa s) :
    Keep msk sa (@State.reachStarts s) := by
  unfold State.reachStarts
  exact keep_mk 2048 (.of hm) k0

theorem State.traceDropped_keep {s : State} {n : Nat} (hm : Sub 8388624 msk) (k0 : Keep msk sa s) :
    Keep msk sa (@State.traceDropped s n) := by
  unfold State.traceDropped
  extract_lets v0 v1
  have h2 : Keep msk sa v0 := by
    unfold v0
    exact State.incRf_keep (.of hm) k0
  clear_value v0
  clear_value v1
  exact keep_mk 8388608 (.of hm) h2

theorem State.traceWriteFailed_keep {s : State} {n : Nat} (hm : Sub 146800656 msk) (k0 : Keep msk sa s) :
    Keep msk sa (@State.traceWriteFailed s n) := by
  unfold State.traceWriteFailed
  extract_lets v0
  have h1 : Keep msk sa v0 := by
    unfold v0
    exact State.traceDropped_keep (.of hm) k0
  clear_value v0
  refine keep_ite ?_ ?_
  · intro x2
    exact h1
  · intro x3
    exact State.report_keep (.of hm) (State.openEpisode_keep (.of hm) h1)

theorem State.traceBeat_keep {s : State} (hm : Sub 147849808 msk) (k0 : Keep msk sa s) :
    Keep msk sa (@State.traceBeat s) := by
  unfold State.traceBeat
  extract_lets v0 v1 v2 v3 v4 v5 v6 v7
  clear_value v0
  clear_value v1
  have h8 : Keep msk sa v2 := by
    unfold v2
    exact keep_mk 8388608 (.of hm) k0
  clear_value v5
  clear_value v6
  have h9 : Keep msk sa v7 := by
    unfold v7
    exact State.setRf_keep (.of hm) h8
  clear_value v7
  refine keep_ite ?_ ?_
  · intro x10
    exact k0
  · intro x11
    refine keep_ite ?_ ?_
    · intro x12
      exact State.traceDropped_keep (.of hm) h8
    · intro x13
      split
      · rename_i z14 z15 z16
        have h17 : Keep msk sa z15 := by
          refine keepP_eq z16 ?_
          exact State.mmWrite_keep (.of hm) h9
        exact h17
      · rename_i z18 z19 z20
        have h21 : Keep msk sa z19 := by
          refine keepP_eq z20 ?_
          exact State.mmWrite_keep (.of hm) h9
        exact State.traceWriteFailed_keep (.of hm) h21

theorem State.traceDrain_keep {s : State} (hm : Sub 147849808 msk) (k0 : Keep msk sa s) :
    Keep msk sa (@State.traceDrain s) := by
  unfold State.traceDrain
  extract_lets v0 v1 v2
  have h3 : Keep msk sa v0 := by
    unfold v0
    refine keep_ite ?_ ?_
    · intro x4
      exact State.traceLost_keep (.of hm) k0
    · intro x5
      exact k0
  clear_value v0
  clear_value v1
  clear_value v2
  split
  · rename_i z6 z7
    exact h3
  · rename_i z8 z9 z10 z11
    extract_lets v12 v13 v14 v15 v16
    have h17 : Keep msk sa v12 := by
      unfold v12
      exact keep_mk 8388608 (.of hm) h3
    clear_value v12
    have h18 : Keep msk sa v13 := by
      unfold v13
      refine keep_ite ?_ ?_
      · intro x19
        exact h17
      · intro x20
        exact State.emit_keep (.of hm) h17
    clear_value v13
    clear_value v14
    clear_value v15
    have h21 : Keep msk sa v16 := by
      unfold v16
      exact keep_mk 8388608 (.of hm) h18
    clear_value v16
    refine keep_ite ?_ ?_
    · intro x22
      exact h18
    · intro x23
      refine keep_ite ?_ ?_
      · intro x24
        exact h21
      · intro x25
        exact State.traceBeat_keep (.of hm) h21

theorem State.flowControl_keep {s : State} (hm : Sub 8 msk) (k0 : Keep msk sa s) :
    Keep msk sa (@State.flowControl s) := by
  unfold State.flowControl
  extract_lets v0 v1
  clear_value v0
  clear_value v1
  exact keep_mk 8 (.of hm) k0

theorem State.relatch_keep {s : State} (hm : Sub 8388608 msk) (k0 : Keep msk sa s) :
    Keep msk sa (@State.relatch s) := by
  unfold State.relatch
  refine keep_ite ?_ ?_
  · intro x0
    exact keep_mk 8388608 (.of hm) k0
  · intro x1
    exact k0

theorem State.countIdle_keep {s : State} (hm : Sub 8192 msk) (k0 : Keep msk sa s) :
    Keep msk sa (@State.countIdle s) := by
  unfold State.countIdle
  refine keep_ite ?_ ?_
  · intro x0
    exact keep_mk 8192 (.of hm) k0
  · intro x1
    refine keep_ite ?_ ?_
    · intro x2
      exact k0
    · intro x3
      exact keep_mk 8192 (.of hm) k0

theorem State.ccEnd_keep {s : State} (hm : Sub 148635348 msk) (k0 : Keep msk sa s) :
    Keep msk sa (@State.ccEnd s) := by
  unfold State.ccEnd
  extract_lets v0
  have h1 : Keep msk sa v0 := by
    unfold v0
    refine keep_ite ?_ ?_
    · intro x2
      exact State.clearCounters_keep (.of hm) k0
    · intro x3
      exact k0
  clear_value v0
  exact State.countIdle_keep (.of hm) (State.relatch_keep (.of hm) (State.semEnd_keep (.of hm) h1))

theorem State.ccNext_keep {s : State} (hm : Sub 7 msk) (k0 : Keep msk sa s) :
    Keep msk sa (@State.ccNext s) := by
  unfold State.ccNext
  exact keep_mk 7 (.of hm) k0

theorem State.ccBegin_keep {s : State} (hm : Sub 79715540 msk) (k0 : Keep msk sa s) :
    Keep msk sa (@State.ccBegin s) := by
  unfold State.ccBegin
  extract_lets v0 v1
  have h2 : Keep msk sa v0 := by
    unfold v0
    refine keep_ite ?_ ?_
    · intro x3
      exact State.sampleEngines_keep (.of hm) k0
    · intro x4
      exact k0
  clear_value v0
  have h5 : Keep msk sa v1 := by
    unfold v1
    refine keep_ite ?_ ?_
    · intro x6
      exact h2
    · intro x7
      exact State.reachStarts_keep (.of hm) h2
  clear_value v1
  exact State.semCycle_keep (.of hm) h5

theorem State.ccDrain_keep {s : State} (hm : Sub 215744212 msk) (k0 : Keep msk sa s) :
    Keep msk sa (@State.ccDrain s) := by
  unfold State.ccDrain
  extract_lets v0 v1
  have h2 : Keep msk sa v0 := by
    unfold v0
    refine keep_ite ?_ ?_
    · intro x3
      exact k0
    · intro x4
      exact State.drainInserts_keep (.of hm) k0
  clear_value v0
  have h5 : Keep msk sa v1 := by
    unfold v1
    refine keep_ite ?_ ?_
    · intro x6
      exact State.placeRecovery_keep (.of hm) h2
    · intro x7
      exact h2
  clear_value v1
  exact State.dropDeadJobs_keep (.of hm) (State.settleStreams_keep (.of hm) (State.foldStooks_keep (.of hm) (State.drainMsgs_keep (.of hm) (State.drainSheaves_keep (.of hm) (State.drainEdges_keep (.of hm) (State.drainSkips_keep (.of hm) h5))))))

theorem State.tick_keep {s : State} (hm : Sub 215744223 msk) (k0 : Keep msk sa s) :
    Keep msk sa (@State.tick s) := by
  unfold State.tick
  refine keep_ite ?_ ?_
  · intro x0
    exact k0
  · intro x1
    exact State.settleCredits_keep (.of hm) (State.flowControl_keep (.of hm) (State.traceDrain_keep (.of hm) (State.ccDrain_keep (.of hm) (State.ccBegin_keep (.of hm) (State.ccNext_keep (.of hm) (State.ccEnd_keep (.of hm) k0))))))

theorem State.nextCcIf_keep {s : State} {b : Bool} (hm : Sub 215744223 msk) (k0 : Keep msk sa s) :
    Keep msk sa (@State.nextCcIf s b) := by
  unfold State.nextCcIf
  refine keep_ite ?_ ?_
  · intro x0
    exact State.tick_keep (.of hm) k0
  · intro x1
    exact k0

theorem State.hubTurn_keep {s : State} {src : Nat} (hm : Sub 215744223 msk) (k0 : Keep msk sa s) :
    Keep msk sa (@State.hubTurn s src) := by
  unfold State.hubTurn
  exact State.nextCcIf_keep (.of hm) k0
end Sys2Proof.Machine
end

