-- ==== Sys2Proof/Laws/KeepHub.lean ====
section
/-! SUPPORT. What every command keeps: semaphore operations, heads, contexts, sheaves, budgets, messages, route jobs and the determinism log. -/

-- One declaration at a time: checked side by side, the lemmas ask for more threads than the checks may start.
set_option Elab.async false

namespace Sys2Proof.Machine

variable {msk : Nat} {sa : State}

/-! ### Machine/SemPort.lean -/

theorem State.semTurn_keep {s : State} {k : Nat} (hm : Sub 215744223 msk) (k0 : Keep msk sa s) :
    Keep msk sa (@State.semTurn s k) := by
  unfold State.semTurn
  exact State.semOp_keep (.of hm) (State.nextCcIf_keep (.of hm) k0)

theorem State.recordTurn_keep {s : State} {c : Nat} {q : Nat} {n : Nat} (hm : Sub 215744223 msk) (k0 : Keep msk sa s) :
    Keep msk sa (@State.recordTurn s c q n) := by
  unfold State.recordTurn
  extract_lets v0 v1 v2
  clear_value v0
  have h3 : Keep msk sa v1 := by
    unfold v1
    exact State.nextCcIf_keep (.of hm) k0
  clear_value v1
  clear_value v2
  exact keep_mk 4 (.of hm) h3

theorem execRecordEvent_keep {c : Nat} {q : Nat} {s : State} (hm : Sub 215744223 msk) (k0 : Keep msk sa s) :
    KeepO msk sa (@execRecordEvent c q s) := by
  unfold execRecordEvent
  refine keepO_next ?_
  refine State.recordHead_keep (.of hm) ?_
  refine keep_ite ?_ ?_
  · intro x0
    exact State.recordTurn_keep (.of hm) k0
  · intro x1
    exact k0

theorem execSignal_keep {flit : List (BitVec 32)} {s : State} (hm : Sub 215744223 msk) (k0 : Keep msk sa s) :
    KeepO msk sa (@execSignal flit s) := by
  unfold execSignal
  refine keepO_next ?_
  refine State.flitInput_keep (.of hm) ?_ ?_
  · exact k0
  · intro x0 x1
    refine State.recvReq_keep (.of hm) ?_ ?_
    · exact State.nextCcIf_keep (.of hm) x1
    · intro x2 x3 x4
      exact State.signalFlit_keep (.of hm) x4

theorem State.semTurnOf_keep {s : State} {c : Nat} {q : Nat} {n : Nat} (hm : Sub 215744223 msk) (k0 : Keep msk sa s) :
    Keep msk sa (@State.semTurnOf s c q n) := by
  unfold State.semTurnOf
  extract_lets v0 v1 v2
  clear_value v0
  have h3 : Keep msk sa v1 := by
    unfold v1
    exact State.nextCcIf_keep (.of hm) k0
  clear_value v1
  clear_value v2
  exact State.semOp_keep (.of hm) (keep_mk 4 (.of hm) h3)

theorem State.headTurn_keep {s : State} {c : Nat} {q : Nat} {op : Nat} (hm : Sub 215744223 msk) (k0 : Keep msk sa s) :
    Keep msk sa (@State.headTurn s c q op) := by
  unfold State.headTurn
  refine keep_ite ?_ ?_
  · intro x0
    exact State.semTurnOf_keep (.of hm) k0
  · intro x1
    exact k0

theorem execSemOpAdd_keep {c : Nat} {q : Nat} {s : State} (hm : Sub 215744223 msk) (k0 : Keep msk sa s) :
    KeepO msk sa (@execSemOpAdd c q s) := by
  unfold execSemOpAdd
  exact keepO_next (State.semCount_keep (.of hm) (State.headTurn_keep (.of hm) k0))

theorem execSemOpSub_keep {c : Nat} {q : Nat} {s : State} (hm : Sub 215744223 msk) (k0 : Keep msk sa s) :
    KeepO msk sa (@execSemOpSub c q s) := by
  unfold execSemOpSub
  exact keepO_next (State.semCount_keep (.of hm) (State.headTurn_keep (.of hm) k0))

theorem execSemOpWaitGe_keep {c : Nat} {q : Nat} {s : State} (hm : Sub 13649616 msk) (k0 : Keep msk sa s) :
    KeepO msk sa (@execSemOpWaitGe c q s) := by
  unfold execSemOpWaitGe
  exact keepO_next (State.semWaitOp_keep (.of hm) k0)

theorem execSemOpWaitGeSub_keep {c : Nat} {q : Nat} {s : State} (hm : Sub 13649616 msk) (k0 : Keep msk sa s) :
    KeepO msk sa (@execSemOpWaitGeSub c q s) := by
  unfold execSemOpWaitGeSub
  exact keepO_next (State.semWaitOp_keep (.of hm) k0)

theorem State.killPoster_keep {s : State} {e : PostEnt} {code : Nat} (hm : Sub 148635348 msk) (k0 : Keep msk sa s) :
    Keep msk sa (@State.killPoster s e code) := by
  unfold State.killPoster
  refine keep_ite ?_ ?_
  · intro x0
    exact State.killLaunch_keep (.of hm) k0
  · intro x1
    exact k0

theorem State.applyPost_keep {s : State} {e : PostEnt} (hm : Sub 215744212 msk) (k0 : Keep msk sa s) :
    Keep msk sa (@State.applyPost s e) := by
  unfold State.applyPost
  refine keep_ite ?_ ?_
  · intro x0
    exact State.killPoster_keep (.of hm) (State.reportNode_keep (.of hm) k0)
  · intro x1
    split
    · rename_i z2 z3 z4 z5
      have h6 : Keep msk sa z3 := by
        refine keepP_eq z5 ?_
        exact State.semAdd_keep (.of hm) k0
      split
      · rename_i z7 z8 z9
        exact State.killPoster_keep (.of hm) h6
      · rename_i z10 z11
        exact State.reportSat_keep (.of hm) h6

theorem execSemPost_keep {s : State} (hm : Sub 215744223 msk) (k0 : Keep msk sa s) :
    KeepO msk sa (@execSemPost s) := by
  unfold execSemPost
  split
  · rename_i z0 z1
    exact keepO_next k0
  · rename_i z2 z3 z4 z5
    refine keepO_next ?_
    refine keep_ite ?_ ?_
    · intro x6
      exact k0
    · intro x7
      exact State.applyPost_keep (.of hm) (State.semTurn_keep (.of hm) (keep_mk 4096 (.of hm) k0))

theorem execWakeBindingSleep_keep {index : Nat} {s : State} (hm : Sub 215744223 msk) (k0 : Keep msk sa s) :
    KeepO msk sa (@execWakeBindingSleep index s) := by
  unfold execWakeBindingSleep
  split
  · rename_i z0 z1 z2
    exact keepO_next (State.bindSleep_keep (.of hm) (State.nextCcIf_keep (.of hm) k0))
  · rename_i z3 z4
    exact keepO_next k0

/-! ### Machine/Head.lean -/

theorem State.evict_keep {s : State} {h : Head} (hm : Sub 1088 msk) (k0 : Keep msk sa s) :
    Keep msk sa (@State.evict s h) := by
  unfold State.evict
  exact State.dropHead_keep (.of hm) (State.updQueue_keep (.of hm) (State.setQState_keep (.of hm) k0))

theorem State.grant_keep {s : State} {x : Queue} (hm : Sub 13633104 msk) (k0 : Keep msk sa s) :
    Keep msk sa (@State.grant s x) := by
  unfold State.grant
  extract_lets v0 v1 v2
  clear_value v0
  clear_value v1
  have h3 : Keep msk sa v2 := by
    unfold v2
    exact keep_mk 1024 (.of hm) k0
  clear_value v2
  exact State.fetchMore_keep (.of hm) (State.setQState_keep (.of hm) h3)

theorem State.rotateHeads_keep {s : State} (hm : Sub 1088 msk) (k0 : Keep msk sa s) :
    Keep msk sa (@State.rotateHeads s) := by
  unfold State.rotateHeads
  refine keep_foldl ?_ ?_
  · exact k0
  · intro x0 x1 x2
    exact State.makePending_keep (.of hm) (State.dropHead_keep (.of hm) x2)

theorem State.grantNextQueue_keep {s : State} (hm : Sub 13633104 msk) (k0 : Keep msk sa s) :
    Keep msk sa (@State.grantNextQueue s) := by
  unfold State.grantNextQueue
  split
  · rename_i z0 z1
    exact k0
  · rename_i z2 z3 z4
    refine keep_ite ?_ ?_
    · intro x5
      exact State.grant_keep (.of hm) k0
    · intro x6
      split
      · rename_i z7 z8
        exact k0
      · rename_i z9 z10 z11
        exact State.grant_keep (.of hm) (State.evict_keep (.of hm) k0)

theorem execHeadGrant_keep {s : State} (hm : Sub 13633104 msk) (k0 : Keep msk sa s) :
    KeepO msk sa (@execHeadGrant s) := by
  unfold execHeadGrant
  refine keepO_next ?_
  refine keep_ite ?_ ?_
  · intro x0
    exact k0
  · intro x1
    exact State.grantNextQueue_keep (.of hm) (State.rotateHeads_keep (.of hm) k0)

theorem State.pushSlow_keep {s : State} {c : Nat} {q : Nat} {pkt : List Word} (hm : Sub 1024 msk) (k0 : Keep msk sa s) :
    Keep msk sa (@State.pushSlow s c q pkt) := by
  unfold State.pushSlow
  refine keep_ite ?_ ?_
  · intro x0
    exact k0
  · intro x1
    exact keep_mk 1024 (.of hm) k0

theorem State.decodeHead_keep {s : State} {c : Nat} {q : Nat} {i : Nat} {pkt : List Word} (hm : Sub 13633104 msk) (k0 : Keep msk sa s) :
    Keep msk sa (@State.decodeHead s c q i pkt) := by
  unfold State.decodeHead
  extract_lets v0
  have h1 : Keep msk sa v0 := by
    unfold v0
    exact State.updHead_keep (.of hm) k0
  clear_value v0
  split
  · rename_i z2 z3 z4
    exact State.refuse_keep (.of hm) h1
  · rename_i z5 z6
    refine keep_ite ?_ ?_
    · intro x7
      exact State.pushSlow_keep (.of hm) (State.blockHead_keep (.of hm) h1)
    · intro x8
      exact h1

theorem execPacketDecode_keep {c : Nat} {q : Nat} {s : State} (hm : Sub 13633104 msk) (k0 : Keep msk sa s) :
    KeepO msk sa (@execPacketDecode c q s) := by
  unfold execPacketDecode
  split
  · rename_i z0 z1 z2 z3 z4 z5
    refine keepO_ite ?_ ?_
    · intro x6
      exact keepO_next k0
    · intro x7
      split
      · rename_i z8 z9 z10
        refine keepO_next ?_
        refine keep_ite ?_ ?_
        · intro x11
          exact State.pushSlow_keep (.of hm) k0
        · intro x12
          exact k0
      · rename_i z13 z14
        split
        · rename_i z15 z16 z17 z18
          exact keepO_next (State.decodeHead_keep (.of hm) k0)
        · rename_i z19 z20
          exact keepO_next (State.fetchMore_keep (.of hm) k0)
  · rename_i z21 z22 z23
    exact keepO_next k0

theorem execThresherCommandStart_keep {s : State} (hm : Sub 1024 msk) (k0 : Keep msk sa s) :
    KeepO msk sa (@execThresherCommandStart s) := by
  unfold execThresherCommandStart
  refine keepO_ite ?_ ?_
  · intro x0
    exact keepO_next k0
  · intro x1
    split
    · rename_i z2 z3
      exact keepO_next k0
    · rename_i z4 z5 z6
      exact keepO_next (keep_mk 1024 (.of hm) k0)

theorem execPendingTakeEffect_keep {c : Nat} {q : Nat} {s : State} (hm : Sub 215744223 msk) (k0 : Keep msk sa s) :
    KeepO msk sa (@execPendingTakeEffect c q s) := by
  unfold execPendingTakeEffect
  split
  · rename_i z0 z1
    exact keepO_next k0
  · rename_i z2 z3 z4
    split
    · rename_i z5 z6
      exact keepO_next k0
    · rename_i z7 z8 z9 z10
      refine keepO_ite ?_ ?_
      · intro x11
        exact keepO_next k0
      · intro x12
        extract_lets v13
        have h14 : Keep msk sa v13 := by
          unfold v13
          exact State.updQueue_keep (.of hm) k0
        clear_value v13
        refine keepO_next ?_
        refine keep_ite ?_ ?_
        · intro x15
          exact State.applyRecord_keep (.of hm) (State.recordTurn_keep (.of hm) h14)
        · intro x16
          exact State.applySem_keep (.of hm) (State.semTurnOf_keep (.of hm) h14)

theorem execShadowRecordWrite_keep {c : Nat} {q : Nat} {s : State} (hm : Sub 13633104 msk) (k0 : Keep msk sa s) :
    KeepO msk sa (@execShadowRecordWrite c q s) := by
  unfold execShadowRecordWrite
  split
  · rename_i z0 z1
    exact keepO_next k0
  · rename_i z2 z3 z4
    refine keepO_ite ?_ ?_
    · intro x5
      exact keepO_next (State.writeShadow_keep (.of hm) k0)
    · intro x6
      exact keepO_next k0

theorem execEventCycleWalk_keep {s : State} (hm : Sub 13848272 msk) (k0 : Keep msk sa s) :
    KeepO msk sa (@execEventCycleWalk s) := by
  unfold execEventCycleWalk
  split
  · rename_i z0 z1
    exact keepO_next k0
  · rename_i z2 z3 z4 z5 z6 z7
    extract_lets v8 v9
    clear_value v8
    have h10 : Keep msk sa v9 := by
      unfold v9
      exact keep_mk 1024 (.of hm) k0
    clear_value v9
    refine keepO_next ?_
    refine keep_ite ?_ ?_
    · intro x11
      exact h10
    · intro x12
      split
      · rename_i z13 z14
        exact h10
      · rename_i z15 z16 z17
        refine keep_foldl ?_ ?_
        · exact h10
        · intro x18 x19 x20
          exact State.faultWith_keep (.of hm) x20

theorem execHeadTimeout_keep {c : Nat} {q : Nat} {s : State} (hm : Sub 13848272 msk) (k0 : Keep msk sa s) :
    KeepO msk sa (@execHeadTimeout c q s) := by
  unfold execHeadTimeout
  split
  · rename_i z0 z1 z2 z3 z4 z5
    refine keepO_ite ?_ ?_
    · intro x6
      exact keepO_next (State.faultWith_keep (.of hm) k0)
    · intro x7
      exact keepO_next k0
  · rename_i z8 z9 z10
    exact keepO_next k0

theorem execWaitTimeout_keep {slot : Nat} {s : State} (hm : Sub 148635348 msk) (k0 : Keep msk sa s) :
    KeepO msk sa (@execWaitTimeout slot s) := by
  unfold execWaitTimeout
  split
  · rename_i z0 z1
    exact keepO_next k0
  · rename_i z2 z3 z4
    split
    · rename_i z5 z6
      exact keepO_next k0
    · rename_i z7 z8 z9
      refine keepO_ite ?_ ?_
      · intro x10
        exact keepO_next (State.killLaunch_keep (.of hm) (State.reportNode_keep (.of hm) k0))
      · intro x11
        exact keepO_next k0

theorem execSignalTimeout_keep {seq : BitVec 32} {s : State} (hm : Sub 13635152 msk) (k0 : Keep msk sa s) :
    KeepO msk sa (@execSignalTimeout seq s) := by
  unfold execSignalTimeout
  split
  · rename_i z0 z1
    exact keepO_next k0
  · rename_i z2 z3 z4
    refine keepO_ite ?_ ?_
    · intro x5
      exact keepO_next (State.signalDone_keep (.of hm) (State.reportSignal_keep (.of hm) k0))
    · intro x6
      exact keepO_next k0

/-! ### Machine/Context.lean -/

theorem State.ctxBusy_keep {s : State} (hm : Sub 16 msk) (k0 : Keep msk sa s) :
    Keep msk sa (@State.ctxBusy s) := by
  unfold State.ctxBusy
  exact State.setReg_keep (.of hm) k0

theorem State.ctxRefuse_keep {s : State} {e : Err} {part : Option Nat} (hm : Sub 12582928 msk) (k0 : Keep msk sa s) :
    Keep msk sa (@State.ctxRefuse s e part) := by
  unfold State.ctxRefuse
  exact State.setReg_keep (.of hm) (State.reportPlain_keep (.of hm) k0)

theorem State.ctxDone_keep {s : State} (hm : Sub 16 msk) (k0 : Keep msk sa s) :
    Keep msk sa (@State.ctxDone s) := by
  unfold State.ctxDone
  exact State.setReg_keep (.of hm) k0

theorem State.ctxDescData_keep {s : State} {ok : Bool} {d : List Word} (hm : Sub 12583952 msk) (k0 : Keep msk sa s) :
    Keep msk sa (@State.ctxDescData s ok d) := by
  unfold State.ctxDescData
  extract_lets v0 v1
  clear_value v0
  clear_value v1
  refine keep_ite ?_ ?_
  · intro x2
    exact State.ctxRefuse_keep (.of hm) k0
  · intro x3
    refine keep_ite ?_ ?_
    · intro x4
      exact State.ctxRefuse_keep (.of hm) k0
    · intro x5
      split
      · rename_i z6 z7
        exact State.ctxRefuse_keep (.of hm) k0
      · rename_i z8 z9 z10
        extract_lets v11 v12 v13 v14
        clear_value v11
        clear_value v12
        clear_value v13
        have h15 : Keep msk sa v14 := by
          unfold v14
          exact keep_mk 1024 (.of hm) k0
        clear_value v14
        exact State.ctxDone_keep (.of hm) (State.setReg_keep (.of hm) h15)

theorem State.ctxCreate_keep {s : State} (hm : Sub 13632080 msk) (k0 : Keep msk sa s) :
    Keep msk sa (@State.ctxCreate s) := by
  unfold State.ctxCreate
  refine keep_ite ?_ ?_
  · intro x0
    exact k0
  · intro x1
    refine keep_ite ?_ ?_
    · intro x2
      exact State.ctxRefuse_keep (.of hm) k0
    · intro x3
      extract_lets v4
      clear_value v4
      exact keepP_fst (State.mmRead_keep (.of hm) (State.ctxBusy_keep (.of hm) k0))

theorem State.destroyQueue_keep {s : State} {c : Nat} {q : Nat} {kill : Bool} (hm : Sub 13848272 msk) (k0 : Keep msk sa s) :
    Keep msk sa (@State.destroyQueue s c q kill) := by
  unfold State.destroyQueue
  split
  · rename_i z0 z1
    exact k0
  · rename_i z2 z3 z4
    extract_lets v5 v6 v7 v8 v9 v10 v11
    clear_value v5
    clear_value v6
    have h12 : Keep msk sa v7 := by
      unfold v7
      exact State.endHeadCmd_keep (.of hm) k0
    clear_value v7
    have h13 : Keep msk sa v8 := by
      unfold v8
      split
      · rename_i z14 z15
        refine keep_ite ?_ ?_
        · intro x16
          exact State.finishHead_keep (.of hm) (State.reportCmd_keep (.of hm) h12)
        · intro x17
          exact h12
      · rename_i z18
        exact h12
    clear_value v8
    have h19 : Keep msk sa v9 := by
      unfold v9
      exact State.dropHead_keep (.of hm) (State.setQState_keep (.of hm) h13)
    clear_value v9
    have h20 : Keep msk sa v10 := by
      unfold v10
      exact State.updQueue_keep (.of hm) h19
    clear_value v10
    have h21 : Keep msk sa v11 := by
      unfold v11
      exact State.updQueue_keep (.of hm) h20
    clear_value v11
    refine keep_ite ?_ ?_
    · intro x22
      refine keep_foldl ?_ ?_
      · exact h21
      · intro x23 x24 x25
        exact State.complete_keep (.of hm) (State.reportCmd_keep (.of hm) x25)
    · intro x26
      exact h20

theorem State.ctxTryFree_keep {s : State} {c : Nat} (hm : Sub 1040 msk) (k0 : Keep msk sa s) :
    Keep msk sa (@State.ctxTryFree s c) := by
  unfold State.ctxTryFree
  refine keep_ite ?_ ?_
  · intro x0
    extract_lets v1 v2 v3 v4 v5
    have h6 : Keep msk sa v1 := by
      unfold v1
      exact State.updCtx_keep (.of hm) k0
    have h7 : Keep msk sa v3 := by
      unfold v3
      exact keep_mk 1024 (.of hm) h6
    have h8 : Keep msk sa v4 := by
      unfold v4
      exact State.ctxDone_keep (.of hm) h7
    clear_value v4
    clear_value v5
    refine keep_ite ?_ ?_
    · intro x9
      exact keep_mk 1024 (.of hm) h8
    · intro x10
      exact h7
  · intro x11
    exact k0

theorem State.destroyLaunch_keep {s : State} {l : Launch} (hm : Sub 148635348 msk) (k0 : Keep msk sa s) :
    Keep msk sa (@State.destroyLaunch s l) := by
  unfold State.destroyLaunch
  extract_lets v0 v1
  clear_value v0
  have h2 : Keep msk sa v1 := by
    unfold v1
    refine keep_ite ?_ ?_
    · intro x3
      exact State.reportCmd_keep (.of hm) k0
    · intro x4
      exact k0
  clear_value v1
  exact State.killLaunch_keep (.of hm) h2

theorem State.destroyCtx_keep {s : State} {c : Nat} {kill : Bool} (hm : Sub 148635348 msk) (k0 : Keep msk sa s) :
    Keep msk sa (@State.destroyCtx s c kill) := by
  unfold State.destroyCtx
  extract_lets v0 v1 v2 v3 v4
  have h5 : Keep msk sa v0 := by
    unfold v0
    exact State.updCtx_keep (.of hm) k0
  clear_value v0
  have h6 : Keep msk sa v1 := by
    unfold v1
    refine keep_foldl ?_ ?_
    · exact h5
    · intro x7 x8 x9
      exact State.destroyQueue_keep (.of hm) x9
  clear_value v1
  clear_value v2
  have h10 : Keep msk sa v3 := by
    unfold v3
    refine keep_foldl ?_ ?_
    · exact h6
    · intro x11 x12 x13
      refine keep_ite ?_ ?_
      · intro x14
        exact State.killStream_keep (.of hm) x13
      · intro x15
        exact State.stopStream_keep (.of hm) x13
  clear_value v3
  have h16 : Keep msk sa v4 := by
    unfold v4
    refine keep_ite ?_ ?_
    · intro x17
      refine keep_foldl ?_ ?_
      · exact h10
      · intro x18 x19 x20
        exact State.destroyLaunch_keep (.of hm) x20
    · intro x21
      exact h10
  clear_value v4
  exact State.ctxTryFree_keep (.of hm) h16

theorem State.ctxDestroy_keep {s : State} {kill : Bool} (hm : Sub 148635348 msk) (k0 : Keep msk sa s) :
    Keep msk sa (@State.ctxDestroy s kill) := by
  unfold State.ctxDestroy
  refine keep_ite ?_ ?_
  · intro x0
    exact k0
  · intro x1
    split
    · rename_i z2 z3
      exact State.ctxRefuse_keep (.of hm) k0
    · rename_i z4 z5 z6
      extract_lets v7 v8
      have h9 : Keep msk sa v7 := by
        unfold v7
        exact State.ctxBusy_keep (.of hm) k0
      clear_value v7
      clear_value v8
      exact State.destroyCtx_keep (.of hm) (keep_mk 1024 (.of hm) h9)

theorem State.ctxReset_keep {s : State} {q : Nat} (hm : Sub 13633104 msk) (k0 : Keep msk sa s) :
    Keep msk sa (@State.ctxReset s q) := by
  unfold State.ctxReset
  refine keep_ite ?_ ?_
  · intro x0
    exact k0
  · intro x1
    split
    · rename_i z2 z3
      exact State.ctxRefuse_keep (.of hm) k0
    · rename_i z4 z5 z6
      extract_lets v7 v8 v9
      clear_value v7
      clear_value v8
      have h10 : Keep msk sa v9 := by
        unfold v9
        exact State.updQueue_keep (.of hm) (State.setQState_keep (.of hm) k0)
      clear_value v9
      split
      · rename_i z11 z12
        exact State.ctxRefuse_keep (.of hm) k0
      · rename_i z13 z14 z15
        refine keep_ite ?_ ?_
        · intro x16
          exact State.ctxRefuse_keep (.of hm) k0
        · intro x17
          exact State.ctxDone_keep (.of hm) (State.writeShadow_keep (.of hm) h10)

theorem execContextCreate_keep {s : State} (hm : Sub 13632336 msk) (k0 : Keep msk sa s) :
    KeepO msk sa (@execContextCreate s) := by
  unfold execContextCreate
  refine keepO_next ?_
  refine State.regInput_keep (.of hm) ?_ ?_
  · exact k0
  · intro x0 x1
    exact State.ctxCreate_keep (.of hm) x1

theorem execDestroyDrain_keep {s : State} (hm : Sub 148635604 msk) (k0 : Keep msk sa s) :
    KeepO msk sa (@execDestroyDrain s) := by
  unfold execDestroyDrain
  refine keepO_next ?_
  refine State.regInput_keep (.of hm) ?_ ?_
  · exact k0
  · intro x0 x1
    exact State.ctxDestroy_keep (.of hm) x1

theorem execDestroyKill_keep {s : State} (hm : Sub 148635604 msk) (k0 : Keep msk sa s) :
    KeepO msk sa (@execDestroyKill s) := by
  unfold execDestroyKill
  refine keepO_next ?_
  refine State.regInput_keep (.of hm) ?_ ?_
  · exact k0
  · intro x0 x1
    exact State.ctxDestroy_keep (.of hm) x1

theorem execContextFree_keep {ctx : Nat} {s : State} (hm : Sub 1040 msk) (k0 : Keep msk sa s) :
    KeepO msk sa (@execContextFree ctx s) := by
  unfold execContextFree
  exact keepO_next (State.ctxTryFree_keep (.of hm) k0)

theorem execQueueReset_keep {q : Nat} {s : State} (hm : Sub 13633360 msk) (k0 : Keep msk sa s) :
    KeepO msk sa (@execQueueReset q s) := by
  unfold execQueueReset
  refine keepO_next ?_
  refine State.regInput_keep (.of hm) ?_ ?_
  · exact k0
  · intro x0 x1
    exact State.ctxReset_keep (.of hm) x1

/-! ### Machine/Sheaf.lean -/

theorem State.sheafStatus_keep {s : State} {e : Option Err} (hm : Sub 16 msk) (k0 : Keep msk sa s) :
    Keep msk sa (@State.sheafStatus s e) := by
  unfold State.sheafStatus
  exact State.setReg_keep (.of hm) k0

theorem State.clearArrivals_keep {s : State} {k : Nat} (hm : Sub 16448 msk) (k0 : Keep msk sa s) :
    Keep msk sa (@State.clearArrivals s k) := by
  unfold State.clearArrivals
  extract_lets v0
  have h1 : Keep msk sa v0 := by
    unfold v0
    exact State.setRam64_keep (.of hm) (State.setRam64_keep (.of hm) k0)
  clear_value v0
  exact State.updSheafX_keep (.of hm) (State.setShv_keep (.of hm) h1)

theorem State.armSheaf_keep {s : State} {k : Nat} (hm : Sub 12599504 msk) (k0 : Keep msk sa s) :
    Keep msk sa (@State.armSheaf s k) := by
  unfold State.armSheaf
  refine keep_ite ?_ ?_
  · intro x0
    exact k0
  · intro x1
    extract_lets v2
    clear_value v2
    split
    · rename_i z3 z4 z5 z6
      have h7 : Keep msk sa z4 := by
        refine keepP_eq z6 ?_
        exact State.checkSem_keep (.of hm) k0
      exact State.sheafStatus_keep (.of hm) h7
    · rename_i z8 z9 z10
      have h11 : Keep msk sa z9 := by
        refine keepP_eq z10 ?_
        exact State.checkSem_keep (.of hm) k0
      refine keep_ite ?_ ?_
      · intro x12
        exact State.sheafStatus_keep (.of hm) (State.reportPlain_keep (.of hm) h11)
      · intro x13
        extract_lets v14
        have h15 : Keep msk sa v14 := by
          unfold v14
          exact State.setRm_keep (.of hm) (State.setShv_keep (.of hm) (State.clearArrivals_keep (.of hm) h11))
        clear_value v14
        exact State.sheafStatus_keep (.of hm) (State.setShv_keep (.of hm) h15)

theorem State.idleSheaf_keep {s : State} {k : Nat} (hm : Sub 16448 msk) (k0 : Keep msk sa s) :
    Keep msk sa (@State.idleSheaf s k) := by
  unfold State.idleSheaf
  extract_lets v0
  have h1 : Keep msk sa v0 := by
    unfold v0
    refine keep_ite ?_ ?_
    · intro x2
      exact k0
    · intro x3
      exact State.setRm_keep (.of hm) k0
  clear_value v0
  exact State.setShv_keep (.of hm) (State.clearArrivals_keep (.of hm) h1)

theorem State.disarmSheaf_keep {s : State} {k : Nat} (hm : Sub 16464 msk) (k0 : Keep msk sa s) :
    Keep msk sa (@State.disarmSheaf s k) := by
  unfold State.disarmSheaf
  refine keep_ite ?_ ?_
  · intro x0
    exact k0
  · intro x1
    exact State.sheafStatus_keep (.of hm) (State.idleSheaf_keep (.of hm) k0)

theorem State.clearSheaf_keep {s : State} {k : Nat} (hm : Sub 16464 msk) (k0 : Keep msk sa s) :
    Keep msk sa (@State.clearSheaf s k) := by
  unfold State.clearSheaf
  refine keep_ite ?_ ?_
  · intro x0
    exact k0
  · intro x1
    refine State.sheafStatus_keep (.of hm) ?_
    refine keep_ite ?_ ?_
    · intro x2
      exact State.idleSheaf_keep (.of hm) k0
    · intro x3
      exact k0

theorem State.sheafCmd_keep {s : State} {k : Nat} {op : Nat} (hm : Sub 12599504 msk) (k0 : Keep msk sa s) :
    Keep msk sa (@State.sheafCmd s k op) := by
  unfold State.sheafCmd
  split
  · rename_i z0
    exact State.armSheaf_keep (.of hm) k0
  · rename_i z1
    exact State.disarmSheaf_keep (.of hm) k0
  · rename_i z2
    exact State.clearSheaf_keep (.of hm) k0
  · rename_i z3 z4 z5 z6
    exact k0

theorem execSheafArm_keep {sheaf : Nat} {s : State} (hm : Sub 13648336 msk) (k0 : Keep msk sa s) :
    KeepO msk sa (@execSheafArm sheaf s) := by
  unfold execSheafArm
  refine keepO_next ?_
  refine State.regInput_keep (.of hm) ?_ ?_
  · exact k0
  · intro x0 x1
    exact State.armSheaf_keep (.of hm) x1

theorem execSheafDisarm_keep {sheaf : Nat} {s : State} (hm : Sub 1065296 msk) (k0 : Keep msk sa s) :
    KeepO msk sa (@execSheafDisarm sheaf s) := by
  unfold execSheafDisarm
  refine keepO_next ?_
  refine State.regInput_keep (.of hm) ?_ ?_
  · exact k0
  · intro x0 x1
    exact State.disarmSheaf_keep (.of hm) x1

theorem execSheafClearFault_keep {sheaf : Nat} {s : State} (hm : Sub 1065296 msk) (k0 : Keep msk sa s) :
    KeepO msk sa (@execSheafClearFault sheaf s) := by
  unfold execSheafClearFault
  refine keepO_next ?_
  refine State.regInput_keep (.of hm) ?_ ?_
  · exact k0
  · intro x0 x1
    exact State.clearSheaf_keep (.of hm) x1

theorem execSheafTimeout_keep {sheaf : Nat} {s : State} (hm : Sub 12582992 msk) (k0 : Keep msk sa s) :
    KeepO msk sa (@execSheafTimeout sheaf s) := by
  unfold execSheafTimeout
  extract_lets v0 v1
  clear_value v0
  clear_value v1
  split
  · rename_i z2 z3 z4
    refine keepO_ite ?_ ?_
    · intro x5
      exact keepO_next (State.faultSheaf_keep (.of hm) k0)
    · intro x6
      exact keepO_next k0
  · rename_i z7 z8
    exact keepO_next k0

/-! ### Machine/Budget.lean -/

theorem State.driveLend_keep {s : State} (hm : Sub 0 msk) (k0 : Keep msk sa s) :
    Keep msk sa (@State.driveLend s) := by
  unfold State.driveLend
  split
  · rename_i z0 z1
    exact k0
  · rename_i z2 z3 z4 z5 z6 z7
    exact State.emit_keep (.of hm) k0

theorem State.queueLend_keep {s : State} {p : Nat} {ret : Bool} {nj : Nat} (hm : Sub 12845072 msk) (k0 : Keep msk sa s) :
    Keep msk sa (@State.queueLend s p ret nj) := by
  unfold State.queueLend
  refine keep_ite ?_ ?_
  · intro x0
    exact State.reportPlain_keep (.of hm) (State.incRf_keep (.of hm) k0)
  · intro x1
    extract_lets v2 v3 v4
    clear_value v2
    clear_value v3
    have h5 : Keep msk sa v4 := by
      unfold v4
      exact keep_mk 262144 (.of hm) k0
    clear_value v4
    refine keep_ite ?_ ?_
    · intro x6
      exact State.driveLend_keep (.of hm) h5
    · intro x7
      exact h5

theorem State.budgetIn_keep {s : State} {p : Nat} {nj : BitVec 32} (hm : Sub 262144 msk) (k0 : Keep msk sa s) :
    Keep msk sa (@State.budgetIn s p nj) := by
  unfold State.budgetIn
  refine keep_ite ?_ ?_
  · intro x0
    exact State.updBg_keep (.of hm) k0
  · intro x1
    exact k0

theorem execPmBudget_keep {part : Nat} {nj : BitVec 32} {s : State} (hm : Sub 1310720 msk) (k0 : Keep msk sa s) :
    KeepO msk sa (@execPmBudget part nj s) := by
  unfold execPmBudget
  refine keepO_ite ?_ ?_
  · intro x0
    exact keepO_next k0
  · intro x1
    extract_lets v2
    have h3 : Keep msk sa v2 := by
      unfold v2
      exact State.emit_keep (.of hm) k0
    clear_value v2
    refine keepO_next ?_
    refine keep_ite ?_ ?_
    · intro x4
      exact h3
    · intro x5
      refine State.input_keep (.of hm) ?_ ?_
      · exact h3
      · intro x6 x7
        exact State.budgetIn_keep (.of hm) x7

theorem State.measIn_keep {s : State} {c : Nat} {nj : BitVec 32} {temp : BitVec 12} (hm : Sub 134479888 msk) (k0 : Keep msk sa s) :
    Keep msk sa (@State.measIn s c nj temp) := by
  unfold State.measIn
  refine keep_ite ?_ ?_
  · intro x0
    exact k0
  · intro x1
    extract_lets v2 v3 v4
    have h5 : Keep msk sa v2 := by
      unfold v2
      exact State.setRf_keep (.of hm) k0
    clear_value v2
    clear_value v3
    have h6 : Keep msk sa v4 := by
      unfold v4
      exact keep_mk 262144 (.of hm) h5
    clear_value v4
    refine keep_ite ?_ ?_
    · intro x7
      exact State.closeEpisode_keep (.of hm) h6
    · intro x8
      exact h6

theorem execPmMeas_keep {cluster : Nat} {nj : BitVec 32} {temp : BitVec 12} {s : State} (hm : Sub 135528464 msk) (k0 : Keep msk sa s) :
    KeepO msk sa (@execPmMeas cluster nj temp s) := by
  unfold execPmMeas
  refine keepO_ite ?_ ?_
  · intro x0
    exact keepO_next k0
  · intro x1
    extract_lets v2
    have h3 : Keep msk sa v2 := by
      unfold v2
      exact State.emit_keep (.of hm) k0
    clear_value v2
    refine keepO_next ?_
    refine keep_ite ?_ ?_
    · intro x4
      exact h3
    · intro x5
      refine State.input_keep (.of hm) ?_ ?_
      · exact h3
      · intro x6 x7
        exact State.measIn_keep (.of hm) x7

theorem State.lendAck_keep {s : State} (hm : Sub 262144 msk) (k0 : Keep msk sa s) :
    Keep msk sa (@State.lendAck s) := by
  unfold State.lendAck
  exact State.driveLend_keep (.of hm) (keep_mk 262144 (.of hm) k0)

theorem execPmLendAck_keep {s : State} (hm : Sub 1310720 msk) (k0 : Keep msk sa s) :
    KeepO msk sa (@execPmLendAck s) := by
  unfold execPmLendAck
  refine keepO_next ?_
  refine keep_ite ?_ ?_
  · intro x0
    exact k0
  · intro x1
    refine State.input_keep (.of hm) ?_ ?_
    · exact k0
    · intro x2 x3
      exact State.lendAck_keep (.of hm) x3

theorem State.handWaits_keep {s : State} (hm : Sub 16 msk) (k0 : Keep msk sa s) :
    Keep msk sa (@State.handWaits s) := by
  unfold State.handWaits
  refine keep_ite ?_ ?_
  · intro x0
    exact k0
  · intro x1
    refine keep_foldl ?_ ?_
    · exact k0
    · intro x2 x3 x4
      exact State.setRf_keep (.of hm) (State.setRf_keep (.of hm) x4)

theorem State.closeEpoch_keep {s : State} {p : Nat} (hm : Sub 12845136 msk) (k0 : Keep msk sa s) :
    KeepP msk sa (@State.closeEpoch s p) := by
  unfold State.closeEpoch
  extract_lets v0 v1 v2 v3 v4 v5 v6 v7 v8
  have h9 : Keep msk sa v0 := by
    unfold v0
    exact State.bgCheck_keep (.of hm) k0
  clear_value v0
  clear_value v1
  clear_value v2
  clear_value v3
  have h10 : Keep msk sa v4 := by
    unfold v4
    exact State.setRf_keep (.of hm) h9
  clear_value v4
  have h11 : Keep msk sa v5 := by
    unfold v5
    exact State.acct_keep (.of hm) h10
  clear_value v5
  clear_value v6
  have h12 : Keep msk sa v7 := by
    unfold v7
    exact State.setRam64_keep (.of hm) h11
  clear_value v7
  have h13 : Keep msk sa v8 := by
    unfold v8
    refine keep_ite ?_ ?_
    · intro x14
      exact State.queueLend_keep (.of hm) h12
    · intro x15
      exact h11
  clear_value v8
  exact keepP_mk (State.updBg_keep (.of hm) h13)

theorem State.flipModel_keep {s : State} (hm : Sub 262160 msk) (k0 : Keep msk sa s) :
    Keep msk sa (@State.flipModel s) := by
  unfold State.flipModel
  extract_lets v0 v1 v2
  have h3 : Keep msk sa v0 := by
    unfold v0
    refine keep_ite ?_ ?_
    · intro x4
      exact State.setRf_keep (.of hm) (State.setRf_keep (.of hm) k0)
    · intro x5
      exact k0
  clear_value v0
  clear_value v1
  have h6 : Keep msk sa v2 := by
    unfold v2
    exact keep_mk 262144 (.of hm) h3
  clear_value v2
  refine keep_foldl ?_ ?_
  · exact h6
  · intro x7 x8 x9
    refine keep_ite ?_ ?_
    · intro x10
      extract_lets v11
      clear_value v11
      exact State.setRf_keep (.of hm) (State.setRf_keep (.of hm) x9)
    · intro x12
      exact x9

theorem State.newCredit_keep {s : State} {p : Nat} (hm : Sub 281280528 msk) (k0 : Keep msk sa s) :
    Keep msk sa (@State.newCredit s p) := by
  unfold State.newCredit
  extract_lets v0 v1 v2 v3
  clear_value v0
  clear_value v1
  have h4 : Keep msk sa v2 := by
    unfold v2
    refine keep_ite ?_ ?_
    · intro x5
      exact k0
    · intro x6
      exact State.reportPlain_keep (.of hm) k0
  clear_value v2
  have h7 : Keep msk sa v3 := by
    unfold v3
    exact State.setRf_keep (.of hm) (State.updBg_keep (.of hm) h4)
  clear_value v3
  exact State.setCredit_keep (.of hm) h7

theorem State.lend_keep {s : State} {p : Nat} {r : ℤ} (hm : Sub 268697680 msk) (k0 : Keep msk sa s) :
    KeepP msk sa (@State.lend s p r) := by
  unfold State.lend
  extract_lets v0 v1 v2
  clear_value v0
  have h3 : Keep msk sa v1 := by
    unfold v1
    exact State.setLent_keep (.of hm) (State.setCredit_keep (.of hm) k0)
  clear_value v1
  have h4 : Keep msk sa v2 := by
    unfold v2
    exact State.setRam64_keep (.of hm) h3
  clear_value v2
  exact keepP_mk (State.setRf_keep (.of hm) h4)

theorem State.attributeAll_keep {s : State} (hm : Sub 262224 msk) (k0 : Keep msk sa s) :
    Keep msk sa (@State.attributeAll s) := by
  unfold State.attributeAll
  extract_lets v0 v1
  have h2 : Keep msk sa v0 := by
    unfold v0
    refine keep_foldl ?_ ?_
    · exact k0
    · intro x3 x4 x5
      extract_lets v6 v7 v8
      clear_value v6
      clear_value v7
      have h9 : Keep msk sa v8 := by
        unfold v8
        exact State.setRf_keep (.of hm) x5
      clear_value v8
      exact State.attribute_keep (.of hm) (State.setRf_keep (.of hm) h9)
  clear_value v0
  clear_value v1
  exact keep_mk 262144 (.of hm) h2

theorem State.epochBoundary_keep {s : State} {k : Nat} (hm : Sub 418644688 msk) (k0 : Keep msk sa s) :
    Keep msk sa (@State.epochBoundary s k) := by
  unfold State.epochBoundary
  extract_lets v0 v1 v2 v3 v4
  clear_value v0
  clear_value v1
  clear_value v2
  have h5 : Keep msk sa v3 := by
    unfold v3
    exact keep_mk 262144 (.of hm) k0
  clear_value v3
  have h6 : Keep msk sa v4 := by
    unfold v4
    exact State.handWaits_keep (.of hm) (State.emit_keep (.of hm) h5)
  clear_value v4
  split
  · rename_i z7 z8 z9 z10
    have h11 : Keep msk sa z8 := by
      refine keepP_eq z10 ?_
      refine keepP_foldl ?_ ?_
      · exact keepP_mk h6
      · intro x12 x13 x14
        split
        · rename_i z15 z16 z17 z18
          have h19 : Keep msk sa z16 := by
            refine keepP_eq z18 ?_
            exact State.closeEpoch_keep (.of hm) (keepP_fst x14)
          exact keepP_mk h19
    extract_lets v20 v21 v22 v23
    have h24 : Keep msk sa v20 := by
      unfold v20
      exact State.attributeAll_keep (.of hm) h11
    clear_value v20
    have h25 : Keep msk sa v21 := by
      unfold v21
      refine keep_foldl ?_ ?_
      · exact h24
      · intro x26 x27 x28
        exact State.acctEpoch_keep (.of hm) x28
    clear_value v21
    have h29 : Keep msk sa v22 := by
      unfold v22
      exact State.flipModel_keep (.of hm) h25
    clear_value v22
    have h30 : Keep msk sa v23 := by
      unfold v23
      refine keep_foldl ?_ ?_
      · exact h29
      · intro x31 x32 x33
        exact State.newCredit_keep (.of hm) x33
    clear_value v23
    split
    · rename_i z34 z35 z36 z37
      have h38 : Keep msk sa z35 := by
        refine keepP_eq z37 ?_
        refine keepP_foldl ?_ ?_
        · exact keepP_mk h30
        · intro x39 x40 x41
          split
          · rename_i z42 z43 z44
            split
            · rename_i z45 z46 z47 z48
              have h49 : Keep msk sa z46 := by
                refine keepP_eq z48 ?_
                exact State.lend_keep (.of hm) (keepP_fst x41)
              exact keepP_mk h49
      refine keep_foldl ?_ ?_
      · exact h38
      · intro x50 x51 x52
        split
        · rename_i z53 z54 z55
          exact State.queueLend_keep (.of hm) x52

theorem execBudgetEpochBoundary_keep {s : State} (hm : Sub 418644688 msk) (k0 : Keep msk sa s) :
    KeepO msk sa (@execBudgetEpochBoundary s) := by
  unfold execBudgetEpochBoundary
  extract_lets v0
  clear_value v0
  refine keepO_ite ?_ ?_
  · intro x1
    exact keepO_next k0
  · intro x2
    exact keepO_next (State.epochBoundary_keep (.of hm) k0)

theorem State.refillLevel_keep {s : State} {p : Nat} {i : Nat} {n : Nat} (hm : Sub 281018576 msk) (k0 : Keep msk sa s) :
    Keep msk sa (@State.refillLevel s p i n) := by
  unfold State.refillLevel
  extract_lets v0 v1
  have h2 : Keep msk sa v0 := by
    unfold v0
    exact State.checkLevel_keep (.of hm) k0
  clear_value v0
  clear_value v1
  exact State.setLevel_keep (.of hm) h2

theorem execRegulatorRefill_keep {s : State} (hm : Sub 281280720 msk) (k0 : Keep msk sa s) :
    KeepO msk sa (@execRegulatorRefill s) := by
  unfold execRegulatorRefill
  extract_lets v0 v1 v2 v3
  clear_value v0
  clear_value v1
  clear_value v2
  have h4 : Keep msk sa v3 := by
    unfold v3
    exact keep_mk 262144 (.of hm) k0
  clear_value v3
  refine keepO_ite ?_ ?_
  · intro x5
    exact keepO_next k0
  · intro x6
    refine keepO_next ?_
    refine keep_foldl ?_ ?_
    · exact h4
    · intro x7 x8 x9
      refine keep_foldl ?_ ?_
      · exact x9
      · intro x10 x11 x12
        exact State.refillLevel_keep (.of hm) x12

theorem State.modelSwap_keep {s : State} (hm : Sub 12582928 msk) (k0 : Keep msk sa s) :
    Keep msk sa (@State.modelSwap s) := by
  unfold State.modelSwap
  extract_lets v0 v1 v2
  clear_value v0
  clear_value v1
  have h3 : Keep msk sa v2 := by
    unfold v2
    exact State.reportPlain_keep (.of hm) k0
  clear_value v2
  split
  · rename_i z4 z5 z6 z7 z8
    extract_lets v9
    have h10 : Keep msk sa v9 := by
      unfold v9
      exact State.setReg_keep (.of hm) h3
    clear_value v9
    exact State.setReg_keep (.of hm) h10
  · rename_i z11 z12
    exact State.setReg_keep (.of hm) (State.setReg_keep (.of hm) k0)

theorem execBgModelSwap_keep {s : State} (hm : Sub 13631760 msk) (k0 : Keep msk sa s) :
    KeepO msk sa (@execBgModelSwap s) := by
  unfold execBgModelSwap
  refine keepO_next ?_
  refine State.regInput_keep (.of hm) ?_ ?_
  · exact k0
  · intro x0 x1
    exact State.modelSwap_keep (.of hm) x1

/-! ### Machine/Hub.lean -/

theorem State.stookStatus_keep {s : State} {e : Option Err} (hm : Sub 16 msk) (k0 : Keep msk sa s) :
    Keep msk sa (@State.stookStatus s e) := by
  unfold State.stookStatus
  exact State.setReg_keep (.of hm) k0

theorem State.stookNone_keep {s : State} (hm : Sub 12582928 msk) (k0 : Keep msk sa s) :
    Keep msk sa (@State.stookNone s) := by
  unfold State.stookNone
  exact State.stookStatus_keep (.of hm) (State.reportPlain_keep (.of hm) k0)

theorem State.stookOpen_keep {s : State} {k : Nat} (hm : Sub 12615760 msk) (k0 : Keep msk sa s) :
    Keep msk sa (@State.stookOpen s k) := by
  unfold State.stookOpen
  refine keep_ite ?_ ?_
  · intro x0
    exact k0
  · intro x1
    refine keep_ite ?_ ?_
    · intro x2
      exact State.stookNone_keep (.of hm) k0
    · intro x3
      refine keep_ite ?_ ?_
      · intro x4
        exact State.stookStatus_keep (.of hm) (State.reportPlain_keep (.of hm) k0)
      · intro x5
        extract_lets v6
        have h7 : Keep msk sa v6 := by
          unfold v6
          exact State.setRm_keep (.of hm) (State.clearRound_keep (.of hm) k0)
        clear_value v6
        exact State.stookStatus_keep (.of hm) (State.setRm_keep (.of hm) h7)

theorem State.stookIdle_keep {s : State} {k : Nat} (hm : Sub 32832 msk) (k0 : Keep msk sa s) :
    Keep msk sa (@State.stookIdle s k) := by
  unfold State.stookIdle
  exact State.updStookX_keep (.of hm) (State.setRm_keep (.of hm) k0)

theorem State.stookClose_keep {s : State} {k : Nat} (hm : Sub 12615760 msk) (k0 : Keep msk sa s) :
    Keep msk sa (@State.stookClose s k) := by
  unfold State.stookClose
  refine keep_ite ?_ ?_
  · intro x0
    exact k0
  · intro x1
    refine keep_ite ?_ ?_
    · intro x2
      exact State.stookNone_keep (.of hm) k0
    · intro x3
      exact State.stookStatus_keep (.of hm) (State.stookIdle_keep (.of hm) k0)

theorem State.stookClear_keep {s : State} {k : Nat} (hm : Sub 12615760 msk) (k0 : Keep msk sa s) :
    Keep msk sa (@State.stookClear s k) := by
  unfold State.stookClear
  refine keep_ite ?_ ?_
  · intro x0
    exact k0
  · intro x1
    refine keep_ite ?_ ?_
    · intro x2
      exact State.stookNone_keep (.of hm) k0
    · intro x3
      refine State.stookStatus_keep (.of hm) ?_
      refine keep_ite ?_ ?_
      · intro x4
        exact State.stookIdle_keep (.of hm) k0
      · intro x5
        exact k0

theorem State.stookCmd_keep {s : State} {k : Nat} {op : Nat} (hm : Sub 12615760 msk) (k0 : Keep msk sa s) :
    Keep msk sa (@State.stookCmd s k op) := by
  unfold State.stookCmd
  split
  · rename_i z0
    exact State.stookOpen_keep (.of hm) k0
  · rename_i z1
    exact State.stookClose_keep (.of hm) k0
  · rename_i z2
    exact State.stookClear_keep (.of hm) k0
  · rename_i z3 z4 z5 z6
    exact k0

theorem State.popTurn_keep {s : State} {core : Nat} (hm : Sub 215744223 msk) (k0 : Keep msk sa s) :
    Keep msk sa (@State.popTurn s core) := by
  unfold State.popTurn
  exact State.nextCcIf_keep (.of hm) k0

theorem execRxPop_keep {core : Nat} {s : State} (hm : Sub 215744479 msk) (k0 : Keep msk sa s) :
    KeepO msk sa (@execRxPop core s) := by
  unfold execRxPop
  refine keepO_next ?_
  refine State.regRead_keep (.of hm) ?_ ?_
  · exact k0
  · intro x0 x1
    exact State.rxPop_keep (.of hm) (State.popTurn_keep (.of hm) x1)

theorem execSendGo_keep {core : Nat} {s : State} (hm : Sub 80774100 msk) (k0 : Keep msk sa s) :
    KeepO msk sa (@execSendGo core s) := by
  unfold execSendGo
  refine keepO_next ?_
  refine State.regInput_keep (.of hm) ?_ ?_
  · exact k0
  · intro x0 x1
    exact State.sendGo_keep (.of hm) x1

theorem execOutPop_keep {core : Nat} {s : State} (hm : Sub 1081616 msk) (k0 : Keep msk sa s) :
    KeepO msk sa (@execOutPop core s) := by
  unfold execOutPop
  refine keepO_next ?_
  refine State.regRead_keep (.of hm) ?_ ?_
  · exact k0
  · intro x0 x1
    exact State.outPop_keep (.of hm) x1

theorem execGranaryRefill_keep {queue : Nat} {s : State} (hm : Sub 13664848 msk) (k0 : Keep msk sa s) :
    KeepO msk sa (@execGranaryRefill queue s) := by
  unfold execGranaryRefill
  exact keepO_next (State.refill_keep (.of hm) k0)

theorem execStookOpen_keep {stook : Nat} {s : State} (hm : Sub 13664592 msk) (k0 : Keep msk sa s) :
    KeepO msk sa (@execStookOpen stook s) := by
  unfold execStookOpen
  refine keepO_next ?_
  refine State.regInput_keep (.of hm) ?_ ?_
  · exact k0
  · intro x0 x1
    exact State.stookOpen_keep (.of hm) x1

theorem execStookClose_keep {stook : Nat} {s : State} (hm : Sub 13664592 msk) (k0 : Keep msk sa s) :
    KeepO msk sa (@execStookClose stook s) := by
  unfold execStookClose
  refine keepO_next ?_
  refine State.regInput_keep (.of hm) ?_ ?_
  · exact k0
  · intro x0 x1
    exact State.stookClose_keep (.of hm) x1

theorem execStookClearFault_keep {stook : Nat} {s : State} (hm : Sub 13664592 msk) (k0 : Keep msk sa s) :
    KeepO msk sa (@execStookClearFault stook s) := by
  unfold execStookClearFault
  refine keepO_next ?_
  refine State.regInput_keep (.of hm) ?_ ?_
  · exact k0
  · intro x0 x1
    exact State.stookClear_keep (.of hm) x1

theorem execStookResultRetry_keep {stook : Nat} {s : State} (hm : Sub 215744223 msk) (k0 : Keep msk sa s) :
    KeepO msk sa (@execStookResultRetry stook s) := by
  unfold execStookResultRetry
  split
  · rename_i z0 z1 z2
    refine keepO_ite ?_ ?_
    · intro x3
      exact keepO_next (State.offerResult_keep (.of hm) (State.updStookX_keep (.of hm) (State.hubTurn_keep (.of hm) k0)))
    · intro x4
      exact keepO_next k0
  · rename_i z5 z6
    exact keepO_next k0

theorem execMsgRemoteTimeout_keep {seq : BitVec 32} {s : State} (hm : Sub 12615760 msk) (k0 : Keep msk sa s) :
    KeepO msk sa (@execMsgRemoteTimeout seq s) := by
  unfold execMsgRemoteTimeout
  split
  · rename_i z0 z1 z2
    refine keepO_ite ?_ ?_
    · intro x3
      exact keepO_next (State.endSend_keep (.of hm) (State.reportPlain_keep (.of hm) k0))
    · intro x4
      exact keepO_next k0
  · rename_i z5 z6
    exact keepO_next k0

/-! ### Machine/EraJob.lean -/

theorem State.bindBanks_keep {s : State} {p : Nat} {inFlight : Bool} (hm : Sub 16 msk) (k0 : Keep msk sa s) :
    KeepP msk sa (@State.bindBanks s p inFlight) := by
  unfold State.bindBanks
  extract_lets v0
  split
  · rename_i z1 z2 z3 z4
    have h5 : Keep msk sa z2 := by
      refine keepP_eq z4 ?_
      unfold v0
      extract_lets v6 v7
      have h8 : Keep msk sa v6 := by
        unfold v6
        refine keep_ite ?_ ?_
        · intro x9
          exact State.setRf_keep (.of hm) (State.setRf_keep (.of hm) k0)
        · intro x10
          exact k0
      clear_value v6
      have h11 : Keep msk sa v7 := by
        unfold v7
        exact State.setRf_keep (.of hm) (State.setRf_keep (.of hm) h8)
      clear_value v7
      refine keepP_ite ?_ ?_
      · intro x12
        refine keepP_ite ?_ ?_
        · intro x13
          exact keepP_mk h8
        · intro x14
          exact keepP_mk h11
      · intro x15
        exact keepP_mk h8
    split
    · rename_i z16 z17 z18 z19
      have h20 : Keep msk sa z17 := by
        refine keepP_eq z19 ?_
        unfold v0
        extract_lets v21 v22
        have h23 : Keep msk sa v21 := by
          unfold v21
          refine keep_ite ?_ ?_
          · intro x24
            exact State.setRf_keep (.of hm) (State.setRf_keep (.of hm) h5)
          · intro x25
            exact h5
        clear_value v21
        have h26 : Keep msk sa v22 := by
          unfold v22
          exact State.setRf_keep (.of hm) (State.setRf_keep (.of hm) h23)
        clear_value v22
        refine keepP_ite ?_ ?_
        · intro x27
          refine keepP_ite ?_ ?_
          · intro x28
            exact keepP_mk h23
          · intro x29
            exact keepP_mk h26
        · intro x30
          exact keepP_mk h23
      exact keepP_mk h20

theorem State.flipBanks_keep {s : State} {p : Nat} (hm : Sub 16 msk) (k0 : Keep msk sa s) :
    Keep msk sa (@State.flipBanks s p) := by
  unfold State.flipBanks
  extract_lets v0
  unfold v0
  refine keep_ite ?_ ?_
  · intro x1
    refine State.setRf_keep (.of hm) ?_
    refine State.setRf_keep (.of hm) ?_
    refine keep_ite ?_ ?_
    · intro x2
      exact State.setRf_keep (.of hm) (State.setRf_keep (.of hm) k0)
    · intro x3
      exact k0
  · intro x4
    refine keep_ite ?_ ?_
    · intro x5
      exact State.setRf_keep (.of hm) (State.setRf_keep (.of hm) k0)
    · intro x6
      exact k0

theorem State.biasLayer_keep {s : State} {p : Nat} {l : Nat} {act : Nat} (hm : Sub 64 msk) (k0 : Keep msk sa s) :
    Keep msk sa (@State.biasLayer s p l act) := by
  unfold State.biasLayer
  extract_lets v0 v1 v2 v3 v4
  clear_value v0
  clear_value v1
  clear_value v2
  clear_value v3
  clear_value v4
  refine keep_foldl ?_ ?_
  · exact k0
  · intro x5 x6 x7
    extract_lets v8 v9 v10
    clear_value v8
    clear_value v9
    clear_value v10
    exact State.setRam_keep (.of hm) x7

theorem State.zeroLoads_keep {s : State} {p : Nat} {l : Nat} (hm : Sub 64 msk) (k0 : Keep msk sa s) :
    Keep msk sa (@State.zeroLoads s p l) := by
  unfold State.zeroLoads
  refine keep_foldl ?_ ?_
  · exact k0
  · intro x0 x1 x2
    exact State.setRam_keep (.of hm) x2

theorem State.biasLoop_keep {s : State} {p : Nat} (hm : Sub 131152 msk) (k0 : Keep msk sa s) :
    Keep msk sa (@State.biasLoop s p) := by
  unfold State.biasLoop
  extract_lets v0 v1 v2 v3 v4 v5 v6 v7 v8
  clear_value v1
  have h9 : Keep msk sa v2 := by
    unfold v2
    exact keep_mk 131072 (.of hm) k0
  clear_value v3
  clear_value v4
  have h10 : Keep msk sa v5 := by
    unfold v5
    refine keep_foldl ?_ ?_
    · exact h9
    · intro x11 x12 x13
      exact State.setRam_keep (.of hm) x13
  clear_value v5
  clear_value v6
  have h14 : Keep msk sa v7 := by
    unfold v7
    refine keep_foldl ?_ ?_
    · exact h10
    · intro x15 x16 x17
      exact State.biasLayer_keep (.of hm) x17
  clear_value v7
  have h18 : Keep msk sa v8 := by
    unfold v8
    refine keep_foldl ?_ ?_
    · exact h14
    · intro x19 x20 x21
      exact State.zeroLoads_keep (.of hm) x21
  clear_value v8
  refine keep_ite ?_ ?_
  · intro x22
    exact h9
  · intro x23
    exact State.setRf_keep (.of hm) h18

theorem State.killStep_keep {s : State} {tag : Nat} {e : Err} (hm : Sub 148635348 msk) (k0 : Keep msk sa s) :
    Keep msk sa (@State.killStep s tag e) := by
  unfold State.killStep
  split
  · rename_i z0 z1
    exact k0
  · rename_i z2 z3 z4
    split
    · rename_i z5 z6 z7
      refine keep_ite ?_ ?_
      · intro x8
        exact State.killWith_keep (.of hm) k0
      · intro x9
        exact k0
    · rename_i z10 z11
      exact State.streamFault_keep (.of hm) (State.reportPlain_keep (.of hm) k0)

theorem State.eraOut_keep {s : State} {tag : Nat} {pub : Bool} {n : ℤ} (hm : Sub 131072 msk) (k0 : Keep msk sa s) :
    Keep msk sa (@State.eraOut s tag pub n) := by
  unfold State.eraOut
  exact State.updEraStep_keep (.of hm) k0

theorem State.eraWrite_keep {s : State} {tag : Nat} {part : Nat} {pub : Bool} {addr : Nat} {beats : Nat} {data : List (List Word × Nat)} (hm : Sub 148635348 msk) (k0 : Keep msk sa s) :
    Keep msk sa (@State.eraWrite s tag part pub addr beats data) := by
  unfold State.eraWrite
  split
  · rename_i z0 z1 z2
    have h3 : Keep msk sa z1 := by
      refine keepP_eq z2 ?_
      exact State.mmStart_keep (.of hm) k0
    exact State.eraOut_keep (.of hm) h3
  · rename_i z4 z5 z6
    have h7 : Keep msk sa z5 := by
      refine keepP_eq z6 ?_
      exact State.mmStart_keep (.of hm) k0
    exact State.killStep_keep (.of hm) h7

theorem State.bankRead_keep {s : State} {key : Nat} {n : Nat} {p : Nat} {i : Nat} (hm : Sub 12583056 msk) (k0 : Keep msk sa s) :
    Keep msk sa (@State.bankRead s key n p i) := by
  unfold State.bankRead
  refine keep_foldl ?_ ?_
  · exact k0
  · intro x0 x1 x2
    exact State.corrected_keep (.of hm) x2

theorem State.publish_keep {s : State} {tag : Nat} {buf : Nat} (hm : Sub 148635348 msk) (k0 : Keep msk sa s) :
    Keep msk sa (@State.publish s tag buf) := by
  unfold State.publish
  split
  · rename_i z0 z1
    exact k0
  · rename_i z2 z3 z4
    refine keep_ite ?_ ?_
    · intro x5
      exact k0
    · intro x6
      refine keep_foldl ?_ ?_
      · exact k0
      · intro x7 x8 x9
        extract_lets v10 v11 v12 v13 v14
        clear_value v10
        clear_value v11
        have h15 : Keep msk sa v12 := by
          unfold v12
          exact State.bankRead_keep (.of hm) x9
        clear_value v12
        clear_value v13
        clear_value v14
        refine keep_ite ?_ ?_
        · intro x16
          exact State.killStep_keep (.of hm) (State.reportRow_keep (.of hm) h15)
        · intro x17
          exact State.eraWrite_keep (.of hm) h15

theorem State.updEraJob_keep {s : State} {f : EraJob → EraJob} (hm : Sub 131072 msk) (k0 : Keep msk sa s) :
    Keep msk sa (@State.updEraJob s f) := by
  unfold State.updEraJob
  split
  · rename_i z0 z1
    exact k0
  · rename_i z2 z3 z4 z5
    exact keep_mk 131072 (.of hm) k0

theorem State.endEraJob_keep {s : State} (hm : Sub 131584 msk) (k0 : Keep msk sa s) :
    Keep msk sa (@State.endEraJob s) := by
  unfold State.endEraJob
  extract_lets v0 v1 v2
  clear_value v0
  clear_value v2
  exact keep_mk 131584 (.of hm) k0

theorem State.failEraJob_keep {s : State} {tag : Nat} {e : Err} (hm : Sub 148635348 msk) (k0 : Keep msk sa s) :
    Keep msk sa (@State.failEraJob s tag e) := by
  unfold State.failEraJob
  exact State.killStep_keep (.of hm) (State.endEraJob_keep (.of hm) k0)

theorem State.startEraJob_keep {s : State} {j : EraJob} (hm : Sub 148635348 msk) (k0 : Keep msk sa s) :
    Keep msk sa (@State.startEraJob s j) := by
  unfold State.startEraJob
  split
  · rename_i z0 z1
    exact State.endEraJob_keep (.of hm) k0
  · rename_i z2 z3 z4
    extract_lets v5 v6 v7 v8 v9 v10 v11 v12 v13 v14 v15
    clear_value v5
    clear_value v6
    clear_value v7
    clear_value v8
    clear_value v9
    clear_value v10
    clear_value v11
    have h16 : Keep msk sa v13 := by
      unfold v13
      exact State.updEraJob_keep (.of hm) k0
    clear_value v13
    have h17 : Keep msk sa v15 := by
      unfold v15
      unfold v14
      exact keepP_fst (State.mmRead_keep (.of hm) h16)
    clear_value v15
    refine keep_ite ?_ ?_
    · intro x18
      exact State.failEraJob_keep (.of hm) k0
    · intro x19
      refine keep_ite ?_ ?_
      · intro x20
        exact h17
      · intro x21
        unfold v14
        exact keepP_fst (State.mmRead_keep (.of hm) h17)

theorem State.writeList_keep {s : State} {j : EraJob} {es : List Word} {e : Nat} {b : Nat} (hm : Sub 148635348 msk) (k0 : Keep msk sa s) :
    Keep msk sa (@State.writeList s j es e b) := by
  unfold State.writeList
  extract_lets v0 v1
  clear_value v0
  clear_value v1
  exact State.eraWrite_keep (.of hm) k0

theorem State.writeOuts_keep {s : State} {j : EraJob} {outs : List Nat} {b : Nat} (hm : Sub 148635348 msk) (k0 : Keep msk sa s) :
    Keep msk sa (@State.writeOuts s j outs b) := by
  unfold State.writeOuts
  extract_lets v0
  clear_value v0
  exact State.eraWrite_keep (.of hm) k0

theorem State.runToken_keep {x : EraStep} {j : EraJob} {cap : Nat} {acc : State × Admission} {t : Nat} {live : Bool} (hm : Sub 148635348 msk) (k0 : KeepP msk sa acc) :
    KeepP msk sa (@State.runToken x j cap acc t live) := by
  unfold State.runToken
  split
  · rename_i z0 z1 z2
    refine keepP_ite ?_ ?_
    · intro x3
      exact keepP_mk k0
    · intro x4
      extract_lets v5 v6
      clear_value v5
      have h7 : Keep msk sa v6 := by
        unfold v6
        refine keep_foldl ?_ ?_
        · exact k0
        · intro x8 x9 x10
          extract_lets v11
          clear_value v11
          exact State.writeList_keep (.of hm) x10
      clear_value v6
      refine keepP_ite ?_ ?_
      · intro x12
        exact keepP_mk k0
      · intro x13
        refine keepP_mk ?_
        refine keep_ite ?_ ?_
        · intro x14
          exact State.writeOuts_keep (.of hm) h7
        · intro x15
          exact h7

theorem State.admitAll_keep {s : State} {x : EraStep} {j : EraJob} (hm : Sub 148635348 msk) (k0 : Keep msk sa s) :
    KeepP msk sa (@State.admitAll s x j) := by
  unfold State.admitAll
  extract_lets v0 v1
  clear_value v0
  clear_value v1
  refine keepP_foldl ?_ ?_
  · exact keepP_mk k0
  · intro x2 x3 x4
    split
    · rename_i z5 z6 z7
      exact State.runToken_keep (.of hm) x4

theorem State.writeRests_keep {s : State} {j : EraJob} {a : Admission} (hm : Sub 148635348 msk) (k0 : Keep msk sa s) :
    Keep msk sa (@State.writeRests s j a) := by
  unfold State.writeRests
  extract_lets v0
  have h1 : Keep msk sa v0 := by
    unfold v0
    refine keep_foldl ?_ ?_
    · exact k0
    · intro x2 x3 x4
      split
      · rename_i z5 z6 z7
        refine keep_ite ?_ ?_
        · intro x8
          exact x4
        · intro x9
          exact State.writeList_keep (.of hm) x4
  clear_value v0
  refine keep_ite ?_ ?_
  · intro x10
    exact h1
  · intro x11
    exact State.writeOuts_keep (.of hm) h1

theorem State.markTiles_keep {s : State} {j : EraJob} {outs : List Nat} (hm : Sub 135248 msk) (k0 : Keep msk sa s) :
    Keep msk sa (@State.markTiles s j outs) := by
  unfold State.markTiles
  extract_lets v0 v1 v2
  clear_value v0
  clear_value v1
  clear_value v2
  refine keep_foldl ?_ ?_
  · exact k0
  · intro x3 x4 x5
    refine keep_ite ?_ ?_
    · intro x6
      exact x5
    · intro x7
      exact State.markSkip_keep (.of hm) x5

theorem State.readJobBank_keep {s : State} {x : EraStep} {j : EraJob} (hm : Sub 12583056 msk) (k0 : Keep msk sa s) :
    Keep msk sa (@State.readJobBank s x j) := by
  unfold State.readJobBank
  extract_lets v0 v1
  clear_value v0
  clear_value v1
  refine keep_ite ?_ ?_
  · intro x2
    exact State.corrected_keep (.of hm) k0
  · intro x3
    exact State.bankRead_keep (.of hm) k0

theorem State.runEraJob_keep {s : State} {j : EraJob} (hm : Sub 148635348 msk) (k0 : Keep msk sa s) :
    Keep msk sa (@State.runEraJob s j) := by
  unfold State.runEraJob
  split
  · rename_i z0 z1
    exact State.endEraJob_keep (.of hm) k0
  · rename_i z2 z3 z4
    extract_lets v5 v6
    clear_value v5
    have h7 : Keep msk sa v6 := by
      unfold v6
      exact State.readJobBank_keep (.of hm) k0
    clear_value v6
    split
    · rename_i z8 z9 z10 z11
      exact State.failEraJob_keep (.of hm) (State.reportRow_keep (.of hm) h7)
    · rename_i z12 z13
      split
      · rename_i z14 z15 z16 z17
        have h18 : Keep msk sa z15 := by
          refine keepP_eq z17 ?_
          exact State.admitAll_keep (.of hm) h7
        refine keep_ite ?_ ?_
        · intro x19
          exact State.failEraJob_keep (.of hm) h18
        · intro x20
          extract_lets v21 v22 v23 v24 v25 v26 v27
          have h28 : Keep msk sa v21 := by
            unfold v21
            exact State.writeRests_keep (.of hm) h18
          clear_value v21
          clear_value v22
          have h29 : Keep msk sa v24 := by
            unfold v24
            exact State.incRf_keep (.of hm) h28
          clear_value v24
          have h30 : Keep msk sa v25 := by
            unfold v25
            exact State.incRf_keep (.of hm) h29
          clear_value v25
          have h31 : Keep msk sa v26 := by
            unfold v26
            exact State.incRf_keep (.of hm) h30
          clear_value v26
          have h32 : Keep msk sa v27 := by
            unfold v27
            exact State.updEraJob_keep (.of hm) h31
          clear_value v27
          exact State.markTiles_keep (.of hm) h32

theorem State.eraData_keep {s : State} {what : Nat} {tag : Nat} {ok : Bool} {ws : List Word} (hm : Sub 148635348 msk) (k0 : Keep msk sa s) :
    Keep msk sa (@State.eraData s what tag ok ws) := by
  unfold State.eraData
  split
  · rename_i z0 z1
    exact k0
  · rename_i z2 z3 z4 z5
    refine keep_ite ?_ ?_
    · intro x6
      exact k0
    · intro x7
      refine keep_ite ?_ ?_
      · intro x8
        exact State.chaff_keep (.of hm) (State.endEraJob_keep (.of hm) k0)
      · intro x9
        refine keep_ite ?_ ?_
        · intro x10
          exact State.failEraJob_keep (.of hm) k0
        · intro x11
          extract_lets v12 v13
          clear_value v12
          have h14 : Keep msk sa v13 := by
            unfold v13
            exact State.updEraJob_keep (.of hm) k0
          clear_value v13
          refine keep_ite ?_ ?_
          · intro x15
            exact State.runEraJob_keep (.of hm) h14
          · intro x16
            exact h14

theorem State.eraWritten_keep {s : State} {what : Nat} {tag : Nat} {ok : Bool} (hm : Sub 148635348 msk) (k0 : Keep msk sa s) :
    Keep msk sa (@State.eraWritten s what tag ok) := by
  unfold State.eraWritten
  extract_lets v0
  have h1 : Keep msk sa v0 := by
    unfold v0
    exact State.eraOut_keep (.of hm) k0
  clear_value v0
  refine keep_ite ?_ ?_
  · intro x2
    exact h1
  · intro x3
    exact State.killStep_keep (.of hm) h1

theorem State.postNotices_keep {s : State} {j : EraJob} {es : List Nat} (hm : Sub 13664980 msk) (k0 : Keep msk sa s) :
    KeepP msk sa (@State.postNotices s j es) := by
  unfold State.postNotices
  refine keepP_foldl ?_ ?_
  · exact keepP_mk k0
  · intro x0 x1 x2
    split
    · rename_i z3 z4 z5
      refine keepP_ite ?_ ?_
      · intro x6
        exact keepP_mk x2
      · intro x7
        split
        · rename_i z8 z9 z10 z11
          have h12 : Keep msk sa z9 := by
            refine keepP_eq z11 ?_
            exact State.deliver_keep (.of hm) x2
          exact keepP_mk h12

theorem State.finishEraJob_keep {s : State} {j : EraJob} (hm : Sub 148635348 msk) (k0 : Keep msk sa s) :
    Keep msk sa (@State.finishEraJob s j) := by
  unfold State.finishEraJob
  extract_lets v0
  clear_value v0
  split
  · rename_i z1 z2 z3
    have h4 : Keep msk sa z2 := by
      refine keepP_eq z3 ?_
      exact State.postNotices_keep (.of hm) k0
    exact State.failEraJob_keep (.of hm) h4
  · rename_i z5 z6 z7
    have h8 : Keep msk sa z6 := by
      refine keepP_eq z7 ?_
      exact State.postNotices_keep (.of hm) k0
    extract_lets v9 v10
    clear_value v9
    have h11 : Keep msk sa v10 := by
      unfold v10
      refine keep_ite ?_ ?_
      · intro x12
        exact h8
      · intro x13
        refine keep_foldl ?_ ?_
        · exact h8
        · intro x14 x15 x16
          exact State.setRam_keep (.of hm) x16
    clear_value v10
    exact State.endEraJob_keep (.of hm) (State.incRf_keep (.of hm) h11)

/-! ### Machine/DcOps.lean -/

theorem State.logDrop_keep {s : State} (hm : Sub 147849232 msk) (k0 : Keep msk sa s) :
    Keep msk sa (@State.logDrop s) := by
  unfold State.logDrop
  extract_lets v0 v1 v2 v3
  have h4 : Keep msk sa v0 := by
    unfold v0
    exact State.incRf_keep (.of hm) k0
  clear_value v0
  clear_value v1
  have h5 : Keep msk sa v2 := by
    unfold v2
    exact keep_mk 1048576 (.of hm) h4
  clear_value v2
  have h6 : Keep msk sa v3 := by
    unfold v3
    exact State.setRf_keep (.of hm) h5
  clear_value v3
  refine keep_ite ?_ ?_
  · intro x7
    exact h6
  · intro x8
    exact State.reportPlain_keep (.of hm) (State.openEpisode_keep (.of hm) h6)

theorem State.logFailed_keep {s : State} (hm : Sub 147849232 msk) (k0 : Keep msk sa s) :
    Keep msk sa (@State.logFailed s) := by
  unfold State.logFailed
  exact State.logDrop_keep (.of hm) (State.reportPlain_keep (.of hm) k0)

theorem State.logPut_keep {s : State} {ws : List Word} (hm : Sub 147849808 msk) (k0 : Keep msk sa s) :
    Keep msk sa (@State.logPut s ws) := by
  unfold State.logPut
  extract_lets v0 v1 v2
  clear_value v0
  clear_value v1
  have h3 : Keep msk sa v2 := by
    unfold v2
    exact State.setRf_keep (.of hm) k0
  clear_value v2
  split
  · rename_i z4 z5 z6
    have h7 : Keep msk sa z5 := by
      refine keepP_eq z6 ?_
      exact State.mmWrite_keep (.of hm) h3
    exact h7
  · rename_i z8 z9 z10
    have h11 : Keep msk sa z9 := by
      refine keepP_eq z10 ?_
      exact State.mmWrite_keep (.of hm) h3
    exact State.logFailed_keep (.of hm) h11

theorem State.logGap_keep {s : State} (hm : Sub 147849808 msk) (k0 : Keep msk sa s) :
    Keep msk sa (@State.logGap s) := by
  unfold State.logGap
  refine keep_ite ?_ ?_
  · intro x0
    exact k0
  · intro x1
    exact State.logPut_keep (.of hm) (keep_mk 1048576 (.of hm) k0)

theorem State.logFlush_keep {s : State} (hm : Sub 147849808 msk) (k0 : Keep msk sa s) :
    Keep msk sa (@State.logFlush s) := by
  unfold State.logFlush
  extract_lets v0 v1
  clear_value v0
  clear_value v1
  refine keep_foldl ?_ ?_
  · exact keep_mk 1048576 (.of hm) k0
  · intro x2 x3 x4
    extract_lets v5 v6
    have h7 : Keep msk sa v5 := by
      unfold v5
      exact State.logGap_keep (.of hm) x4
    clear_value v5
    clear_value v6
    refine keep_ite ?_ ?_
    · intro x8
      exact State.logPut_keep (.of hm) h7
    · intro x9
      refine keep_ite ?_ ?_
      · intro x10
        exact keep_mk 1048576 (.of hm) h7
      · intro x11
        exact State.logDrop_keep (.of hm) h7

theorem State.logEmit_keep {s : State} {ws : List Word} (hm : Sub 147849808 msk) (k0 : Keep msk sa s) :
    Keep msk sa (@State.logEmit s ws) := by
  unfold State.logEmit
  exact State.logFlush_keep (.of hm) (keep_mk 1048576 (.of hm) k0)

theorem State.logRec_keep {s : State} {kind : Nat} {part : Option Nat} {payload : List Word} (hm : Sub 147849808 msk) (k0 : Keep msk sa s) :
    Keep msk sa (@State.logRec s kind part payload) := by
  unfold State.logRec
  refine keep_ite ?_ ?_
  · intro x0
    exact k0
  · intro x1
    exact State.logEmit_keep (.of hm) k0

theorem State.diverge_keep {s : State} (hm : Sub 13631504 msk) (k0 : Keep msk sa s) :
    Keep msk sa (@State.diverge s) := by
  unfold State.diverge
  refine keep_ite ?_ ?_
  · intro x0
    exact k0
  · intro x1
    extract_lets v2 v3 v4
    have h5 : Keep msk sa v2 := by
      unfold v2
      exact State.setRf_keep (.of hm) (State.reportPlain_keep (.of hm) k0)
    clear_value v2
    have h6 : Keep msk sa v3 := by
      unfold v3
      exact State.setReg64_keep (.of hm) h5
    clear_value v3
    clear_value v4
    exact keep_mk 1048576 (.of hm) h6

theorem State.replayData_keep {s : State} {ok : Bool} {ws : List Word} (hm : Sub 13631504 msk) (k0 : Keep msk sa s) :
    Keep msk sa (@State.replayData s ok ws) := by
  unfold State.replayData
  extract_lets v0 v1 v2
  clear_value v0
  clear_value v1
  have h3 : Keep msk sa v2 := by
    unfold v2
    exact State.reportPlain_keep (.of hm) k0
  clear_value v2
  refine keep_ite ?_ ?_
  · intro x4
    exact keep_mk 1048576 (.of hm) k0
  · intro x5
    exact keep_mk 1048576 (.of hm) h3

theorem State.takeReplay_keep {s : State} {f : List Word → Bool} (hm : Sub 1048576 msk) (k0 : Keep msk sa s) :
    KeepP msk sa (@State.takeReplay s f) := by
  unfold State.takeReplay
  split
  · rename_i z0 z1
    exact keepP_mk k0
  · rename_i z2 z3 z4
    exact keepP_mk (keep_mk 1048576 (.of hm) k0)

theorem State.latchDigests_keep {s : State} {x : Step} (hm : Sub 147849808 msk) (k0 : Keep msk sa s) :
    Keep msk sa (@State.latchDigests s x) := by
  unfold State.latchDigests
  extract_lets v0 v1 v2 v3 v4 v5 v6 v7 v8 v9
  clear_value v0
  clear_value v1
  clear_value v2
  have h10 : Keep msk sa v3 := by
    unfold v3
    exact keep_mk 1048576 (.of hm) k0
  clear_value v3
  have h11 : Keep msk sa v4 := by
    unfold v4
    exact State.setRf_keep (.of hm) h10
  clear_value v4
  have h12 : Keep msk sa v5 := by
    unfold v5
    exact State.setRf_keep (.of hm) h11
  clear_value v5
  have h13 : Keep msk sa v6 := by
    unfold v6
    exact State.setRf_keep (.of hm) h12
  clear_value v6
  clear_value v7
  clear_value v8
  have h14 : Keep msk sa v9 := by
    unfold v9
    exact State.logRec_keep (.of hm) h13
  clear_value v9
  refine keep_ite ?_ ?_
  · intro x15
    exact h10
  · intro x16
    refine keep_ite ?_ ?_
    · intro x17
      exact h14
    · intro x18
      split
      · rename_i z19 z20 z21
        have h22 : Keep msk sa z20 := by
          refine keepP_eq z21 ?_
          exact State.takeReplay_keep (.of hm) h14
        exact State.diverge_keep (.of hm) h22
      · rename_i z23 z24 z25 z26
        have h27 : Keep msk sa z24 := by
          refine keepP_eq z26 ?_
          exact State.takeReplay_keep (.of hm) h14
        refine keep_ite ?_ ?_
        · intro x28
          exact h27
        · intro x29
          exact State.diverge_keep (.of hm) h27

theorem State.ckptEnd_keep {s : State} {p : Nat} {ok : Bool} (hm : Sub 13631504 msk) (k0 : Keep msk sa s) :
    Keep msk sa (@State.ckptEnd s p ok) := by
  unfold State.ckptEnd
  extract_lets v0 v1
  clear_value v0
  have h2 : Keep msk sa v1 := by
    unfold v1
    exact keep_mk 1048576 (.of hm) k0
  clear_value v1
  refine keep_ite ?_ ?_
  · intro x3
    exact State.setReg_keep (.of hm) h2
  · intro x4
    exact State.setReg_keep (.of hm) (State.reportPlain_keep (.of hm) h2)

theorem State.ckptStart_keep {s : State} {p : Nat} {n : Nat} (hm : Sub 13632080 msk) (k0 : Keep msk sa s) :
    Keep msk sa (@State.ckptStart s p n) := by
  unfold State.ckptStart
  extract_lets v0 v1
  clear_value v0
  have h2 : Keep msk sa v1 := by
    unfold v1
    exact keep_mk 1048576 (.of hm) k0
  clear_value v1
  split
  · rename_i z3 z4 z5
    have h6 : Keep msk sa z4 := by
      refine keepP_eq z5 ?_
      exact State.mmWrite_keep (.of hm) h2
    exact h6
  · rename_i z7 z8 z9
    have h10 : Keep msk sa z8 := by
      refine keepP_eq z9 ?_
      exact State.mmWrite_keep (.of hm) h2
    exact State.ckptEnd_keep (.of hm) h10
end Sys2Proof.Machine
end

