-- ==== Sys2Proof/Laws/KeepStream.lean ====
section
/-! SUPPORT. What every command keeps: partitions, sequences, streams, restarts and completions. -/

-- One declaration at a time: checked side by side, the lemmas ask for more threads than the checks may start.
set_option Elab.async false

namespace Sys2Proof.Machine

variable {msk : Nat} {sa : State}

/-! ### Machine/SeqOps.lean -/

theorem State.nudge_keep {s : State} {p : Nat} (hm : Sub 65536 msk) (k0 : Keep msk sa s) :
    Keep msk sa (@State.nudge s p) := by
  unfold State.nudge
  refine keep_ite ?_ ?_
  · intro x0
    exact State.updStream_keep (.of hm) k0
  · intro x1
    exact k0

theorem State.shWritten_keep {s : State} {p : Nat} (hm : Sub 65568 msk) (k0 : Keep msk sa s) :
    Keep msk sa (@State.shWritten s p) := by
  unfold State.shWritten
  refine keep_ite ?_ ?_
  · intro x0
    exact State.nudge_keep (.of hm) (State.applySh_keep (.of hm) k0)
  · intro x1
    exact k0

theorem State.deadRow_keep {s : State} {x : Step} {i : Nat} {r : StepRow} {u : MmUse} (hm : Sub 13697616 msk) (k0 : Keep msk sa s) :
    Keep msk sa (@State.deadRow s x i r u) := by
  unfold State.deadRow
  extract_lets v0 v1
  have h2 : Keep msk sa v0 := by
    unfold v0
    exact State.updStep_keep (.of hm) k0
  clear_value v0
  have h3 : Keep msk sa v1 := by
    unfold v1
    exact State.incRf_keep (.of hm) (State.dropRow_keep (.of hm) h2)
  clear_value v1
  split
  · rename_i z4 z5
    exact h3
  · rename_i z6 z7 z8
    exact keepP_fst (State.mmWrite_keep (.of hm) h3)

theorem State.makeDead_keep {s : State} {p : Nat} {seqs : List Nat} {f : Step → Bool} {u : MmUse} (hm : Sub 13697616 msk) (k0 : Keep msk sa s) :
    KeepP msk sa (@State.makeDead s p seqs f u) := by
  unfold State.makeDead
  refine keepP_foldl ?_ ?_
  · exact keepP_mk k0
  · intro x0 x1 x2
    split
    · rename_i z3 z4 z5
      refine keepP_foldl ?_ ?_
      · exact keepP_mk x2
      · intro x6 x7 x8
        split
        · rename_i z9 z10 z11
          split
          · rename_i z12 z13 z14
            refine keepP_ite ?_ ?_
            · intro x15
              exact keepP_mk (State.deadRow_keep (.of hm) x8)
            · intro x16
              exact keepP_mk x8

theorem State.setPos_keep {s : State} {i : Nat} {v : Nat} (hm : Sub 64 msk) (k0 : Keep msk sa s) :
    Keep msk sa (@State.setPos s i v) := by
  unfold State.setPos
  exact State.setSq_keep (.of hm) (State.setSq_keep (.of hm) k0)

theorem State.endSeq_keep {s : State} {i : Nat} {reason : Nat} (hm : Sub 64 msk) (k0 : Keep msk sa s) :
    Keep msk sa (@State.endSeq s i reason) := by
  unfold State.endSeq
  refine keep_ite ?_ ?_
  · intro x0
    exact k0
  · intro x1
    exact State.setSq_keep (.of hm) (State.setSq_keep (.of hm) k0)

theorem State.damageSeq_keep {s : State} {i : Nat} {e : Err} (hm : Sub 13697744 msk) (k0 : Keep msk sa s) :
    Keep msk sa (@State.damageSeq s i e) := by
  unfold State.damageSeq
  extract_lets v0 v1 v2 v3
  clear_value v0
  have h4 : Keep msk sa v1 := by
    unfold v1
    exact State.reportRow_keep (.of hm) k0
  clear_value v1
  have h5 : Keep msk sa v2 := by
    unfold v2
    exact State.setRow_keep (.of hm) h4
  clear_value v2
  have h6 : Keep msk sa v3 := by
    unfold v3
    exact State.setPos_keep (.of hm) (State.setSq_keep (.of hm) (State.setSq_keep (.of hm) h5))
  clear_value v3
  exact keepP_fst (State.makeDead_keep (.of hm) h6)

theorem State.checkSeq_keep {s : State} {i : Nat} (hm : Sub 13697744 msk) (k0 : Keep msk sa s) :
    Keep msk sa (@State.checkSeq s i) := by
  unfold State.checkSeq
  extract_lets v0
  have h1 : Keep msk sa v0 := by
    unfold v0
    exact State.corrected_keep (.of hm) k0
  clear_value v0
  split
  · rename_i z2 z3 z4
    exact State.damageSeq_keep (.of hm) h1
  · rename_i z5 z6
    exact h1

theorem State.freeSeq_keep {s : State} {i : Nat} (hm : Sub 208 msk) (k0 : Keep msk sa s) :
    Keep msk sa (@State.freeSeq s i) := by
  unfold State.freeSeq
  extract_lets v0 v1
  clear_value v0
  have h2 : Keep msk sa v1 := by
    unfold v1
    exact State.setRow_keep (.of hm) k0
  clear_value v1
  exact State.setRf_keep (.of hm) h2

theorem State.finishSeq_keep {s : State} {i : Nat} {u : MmUse} (hm : Sub 13697744 msk) (k0 : Keep msk sa s) :
    KeepP msk sa (@State.finishSeq s i u) := by
  unfold State.finishSeq
  extract_lets v0 v1 v2 v3 v4
  have h5 : Keep msk sa v0 := by
    unfold v0
    exact State.checkSeq_keep (.of hm) k0
  clear_value v0
  clear_value v1
  clear_value v2
  clear_value v3
  have h6 : Keep msk sa v4 := by
    unfold v4
    exact State.freeSeq_keep (.of hm) (State.setRf_keep (.of hm) h5)
  clear_value v4
  split
  · rename_i z7 z8
    exact keepP_mk (State.freeSeq_keep (.of hm) h5)
  · rename_i z9 z10 z11
    exact keepP_mk (keepP_fst (State.mmWrite_keep (.of hm) h6))

/-! ### Machine/Pau.lean -/

theorem State.extend_keep {s : State} {i : Nat} {d : List Nat} (hm : Sub 192 msk) (k0 : Keep msk sa s) :
    Keep msk sa (@State.extend s i d) := by
  unfold State.extend
  extract_lets v0
  clear_value v0
  exact State.setRow_keep (.of hm) k0

theorem State.setFinal_keep {s : State} {i : Nat} {b : Bool} (hm : Sub 64 msk) (k0 : Keep msk sa s) :
    Keep msk sa (@State.setFinal s i b) := by
  unfold State.setFinal
  exact State.setRam_keep (.of hm) k0

theorem execAtRequest_keep {sel : Nat} {nonce : List (BitVec 32)} {s : State} (hm : Sub 0 msk) (k0 : Keep msk sa s) :
    KeepO msk sa (@execAtRequest sel nonce s) := by
  unfold execAtRequest
  refine keepO_ite ?_ ?_
  · intro x0
    exact keepO_next k0
  · intro x1
    extract_lets v2 v3 v4 v5 v6
    clear_value v2
    clear_value v3
    clear_value v4
    clear_value v5
    clear_value v6
    exact keepO_next (State.emit_keep (.of hm) k0)

theorem execTmplExtendDone_keep {s : State} (hm : Sub 2097344 msk) (k0 : Keep msk sa s) :
    KeepO msk sa (@execTmplExtendDone s) := by
  unfold execTmplExtendDone
  split
  · rename_i z0 z1
    exact keepO_next k0
  · rename_i z2 z3 z4 z5
    refine keepO_ite ?_ ?_
    · intro x6
      exact keepO_next k0
    · intro x7
      extract_lets v8 v9 v10
      clear_value v8
      have h11 : Keep msk sa v9 := by
        unfold v9
        exact keep_mk 2097152 (.of hm) k0
      clear_value v9
      clear_value v10
      exact keepO_next (State.extend_keep (.of hm) h11)

theorem State.enclEnd_keep {s : State} {fail : Bool} {e : Option Err} (hm : Sub 16 msk) (k0 : Keep msk sa s) :
    Keep msk sa (@State.enclEnd s fail e) := by
  unfold State.enclEnd
  exact State.setReg_keep (.of hm) k0

theorem State.enclLock_keep {s : State} {p : Nat} (hm : Sub 14680080 msk) (k0 : Keep msk sa s) :
    Keep msk sa (@State.enclLock s p) := by
  unfold State.enclLock
  refine keep_ite ?_ ?_
  · intro x0
    exact k0
  · intro x1
    refine keep_ite ?_ ?_
    · intro x2
      exact State.enclEnd_keep (.of hm) (State.reportPlain_keep (.of hm) k0)
    · intro x3
      extract_lets v4 v5
      have h6 : Keep msk sa v4 := by
        unfold v4
        exact State.setReg_keep (.of hm) k0
      clear_value v4
      clear_value v5
      exact keep_mk 2097152 (.of hm) h6

theorem execEnclaveLock_keep {part : Nat} {s : State} (hm : Sub 15728912 msk) (k0 : Keep msk sa s) :
    KeepO msk sa (@execEnclaveLock part s) := by
  unfold execEnclaveLock
  refine keepO_next ?_
  refine State.regInput_keep (.of hm) ?_ ?_
  · exact k0
  · intro x0 x1
    exact State.enclLock_keep (.of hm) x1

theorem State.setLocked_keep {s : State} {p : Nat} {b : Bool} (hm : Sub 16 msk) (k0 : Keep msk sa s) :
    Keep msk sa (@State.setLocked s p b) := by
  unfold State.setLocked
  exact State.setRf_keep (.of hm) (State.setRf_keep (.of hm) k0)

theorem execEnclaveLockDone_keep {s : State} (hm : Sub 2097360 msk) (k0 : Keep msk sa s) :
    KeepO msk sa (@execEnclaveLockDone s) := by
  unfold execEnclaveLockDone
  split
  · rename_i z0 z1
    exact keepO_next k0
  · rename_i z2 z3 z4
    refine keepO_ite ?_ ?_
    · intro x5
      exact keepO_next k0
    · intro x6
      extract_lets v7 v8 v9
      have h10 : Keep msk sa v7 := by
        unfold v7
        exact State.setFinal_keep (.of hm) (State.extend_keep (.of hm) k0)
      clear_value v7
      have h11 : Keep msk sa v8 := by
        unfold v8
        exact State.enclEnd_keep (.of hm) (State.setLocked_keep (.of hm) (State.setFinal_keep (.of hm) h10))
      clear_value v8
      clear_value v9
      exact keepO_next (keep_mk 2097152 (.of hm) h11)

theorem State.enclTeardown_keep {s : State} {p : Nat} (hm : Sub 150732500 msk) (k0 : Keep msk sa s) :
    Keep msk sa (@State.enclTeardown s p) := by
  unfold State.enclTeardown
  refine keep_ite ?_ ?_
  · intro x0
    exact k0
  · intro x1
    refine keep_ite ?_ ?_
    · intro x2
      exact State.enclEnd_keep (.of hm) (State.reportPlain_keep (.of hm) k0)
    · intro x3
      extract_lets v4 v5 v6 v7
      have h8 : Keep msk sa v4 := by
        unfold v4
        exact State.setReg_keep (.of hm) k0
      clear_value v4
      have h9 : Keep msk sa v5 := by
        unfold v5
        exact State.setRf_keep (.of hm) (State.setRf_keep (.of hm) h8)
      clear_value v5
      clear_value v6
      have h10 : Keep msk sa v7 := by
        unfold v7
        exact keep_mk 2097152 (.of hm) h9
      clear_value v7
      refine keep_foldl ?_ ?_
      · exact h10
      · intro x11 x12 x13
        exact State.destroyCtx_keep (.of hm) x13

theorem execTeardown_keep {part : Nat} {s : State} (hm : Sub 150732756 msk) (k0 : Keep msk sa s) :
    KeepO msk sa (@execTeardown part s) := by
  unfold execTeardown
  refine keepO_next ?_
  refine State.regInput_keep (.of hm) ?_ ?_
  · exact k0
  · intro x0 x1
    exact State.enclTeardown_keep (.of hm) x1

theorem State.scrubTmpls_keep {s : State} {p : Nat} (hm : Sub 133328 msk) (k0 : Keep msk sa s) :
    Keep msk sa (@State.scrubTmpls s p) := by
  unfold State.scrubTmpls
  extract_lets v0 v1 v2 v3
  clear_value v0
  have h4 : Keep msk sa v1 := by
    unfold v1
    refine keep_foldl ?_ ?_
    · exact k0
    · intro x5 x6 x7
      extract_lets v8
      have h9 : Keep msk sa v8 := by
        unfold v8
        refine keep_foldl ?_ ?_
        · exact x7
        · intro x10 x11 x12
          exact State.setRow_keep (.of hm) x12
      clear_value v8
      exact State.releaseTmpl_keep (.of hm) h9
  clear_value v1
  clear_value v2
  have h13 : Keep msk sa v3 := by
    unfold v3
    exact keep_mk 2048 (.of hm) h4
  clear_value v3
  refine keep_foldl ?_ ?_
  · exact h13
  · intro x14 x15 x16
    exact State.setRow_keep (.of hm) x16

theorem State.scrubSems_keep {s : State} {p : Nat} (hm : Sub 16576 msk) (k0 : Keep msk sa s) :
    Keep msk sa (@State.scrubSems s p) := by
  unfold State.scrubSems
  extract_lets v0 v1 v2 v3 v4 v5 v6
  have h7 : Keep msk sa v0 := by
    unfold v0
    refine keep_foldl ?_ ?_
    · exact k0
    · intro x8 x9 x10
      exact State.freeBind_keep (.of hm) x10
  clear_value v0
  have h11 : Keep msk sa v1 := by
    unfold v1
    refine keep_foldl ?_ ?_
    · exact h7
    · intro x12 x13 x14
      exact State.dropWait_keep (.of hm) x14
  clear_value v1
  clear_value v3
  have h15 : Keep msk sa v4 := by
    unfold v4
    exact keep_mk 16384 (.of hm) h11
  clear_value v4
  have h16 : Keep msk sa v5 := by
    unfold v5
    refine keep_foldl ?_ ?_
    · exact h15
    · intro x17 x18 x19
      extract_lets v20
      have h21 : Keep msk sa v20 := by
        unfold v20
        exact State.idleSheaf_keep (.of hm) x19
      clear_value v20
      exact State.setRow_keep (.of hm) h21
  clear_value v5
  clear_value v6
  refine keep_foldl ?_ ?_
  · exact h16
  · intro x22 x23 x24
    exact State.setRow_keep (.of hm) x24

theorem State.scrubHub_keep {s : State} {p : Nat} (hm : Sub 33472 msk) (k0 : Keep msk sa s) :
    Keep msk sa (@State.scrubHub s p) := by
  unfold State.scrubHub
  extract_lets v0 v1
  have h2 : Keep msk sa v0 := by
    unfold v0
    refine keep_foldl ?_ ?_
    · exact k0
    · intro x3 x4 x5
      exact State.setRow_keep (.of hm) (State.closeRxq_keep (.of hm) x5)
  clear_value v0
  have h6 : Keep msk sa v1 := by
    unfold v1
    refine keep_foldl ?_ ?_
    · exact h2
    · intro x7 x8 x9
      exact State.setRow_keep (.of hm) x9
  clear_value v1
  refine keep_foldl ?_ ?_
  · exact h6
  · intro x10 x11 x12
    extract_lets v13 v14
    have h15 : Keep msk sa v13 := by
      unfold v13
      exact State.setRow_keep (.of hm) x12
    clear_value v13
    clear_value v14
    exact keep_mk 32768 (.of hm) h15

theorem State.scrubRest_keep {s : State} {p : Nat} (hm : Sub 268800192 msk) (k0 : Keep msk sa s) :
    Keep msk sa (@State.scrubRest s p) := by
  unfold State.scrubRest
  extract_lets v0 v1 v2 v3 v4 v5 v6 v7 v8 v9 v10
  clear_value v0
  clear_value v1
  have h11 : Keep msk sa v2 := by
    unfold v2
    refine keep_foldl ?_ ?_
    · exact k0
    · intro x12 x13 x14
      exact State.setRow_keep (.of hm) (State.setRow_keep (.of hm) (State.setRow_keep (.of hm) x14))
  clear_value v2
  have h15 : Keep msk sa v3 := by
    unfold v3
    refine keep_foldl ?_ ?_
    · exact h11
    · intro x16 x17 x18
      exact State.setRow_keep (.of hm) (State.setRow_keep (.of hm) x18)
  clear_value v3
  have h19 : Keep msk sa v4 := by
    unfold v4
    refine keep_foldl ?_ ?_
    · exact h15
    · intro x20 x21 x22
      exact State.setRow_keep (.of hm) x22
  clear_value v4
  have h23 : Keep msk sa v5 := by
    unfold v5
    refine keep_foldl ?_ ?_
    · exact h19
    · intro x24 x25 x26
      exact State.setRow_keep (.of hm) x26
  clear_value v5
  clear_value v6
  clear_value v7
  clear_value v8
  have h27 : Keep msk sa v9 := by
    unfold v9
    exact keep_mk 102400 (.of hm) h23
  clear_value v9
  have h28 : Keep msk sa v10 := by
    unfold v10
    exact State.updBg_keep (.of hm) h27
  clear_value v10
  refine keep_foldl ?_ ?_
  · exact h28
  · intro x29 x30 x31
    exact State.setLevel_keep (.of hm) x31

theorem State.scrubRows_keep {s : State} {p : Nat} (hm : Sub 268951248 msk) (k0 : Keep msk sa s) :
    Keep msk sa (@State.scrubRows s p) := by
  unfold State.scrubRows
  extract_lets v0 v1 v2 v3 v4
  have h5 : Keep msk sa v0 := by
    unfold v0
    exact State.scrubTmpls_keep (.of hm) k0
  clear_value v0
  have h6 : Keep msk sa v1 := by
    unfold v1
    refine keep_foldl ?_ ?_
    · exact h5
    · intro x7 x8 x9
      exact State.freeSeq_keep (.of hm) x9
  clear_value v1
  clear_value v3
  have h10 : Keep msk sa v4 := by
    unfold v4
    exact keep_mk 1024 (.of hm) h6
  clear_value v4
  exact State.scrubRest_keep (.of hm) (State.scrubHub_keep (.of hm) (State.scrubSems_keep (.of hm) h10))

theorem State.updTear_keep {s : State} {f : Tear → Tear} (hm : Sub 2097152 msk) (k0 : Keep msk sa s) :
    Keep msk sa (@State.updTear s f) := by
  unfold State.updTear
  exact keep_mk 2097152 (.of hm) k0

theorem State.scrubBad_keep {s : State} {p : Nat} (hm : Sub 12582928 msk) (k0 : Keep msk sa s) :
    Keep msk sa (@State.scrubBad s p) := by
  unfold State.scrubBad
  exact State.setRf_keep (.of hm) (State.reportPlain_keep (.of hm) k0)

theorem State.scrubGo_keep {n : Nat} {s : State} (hm : Sub 15729232 msk) (k0 : Keep msk sa s) :
    Keep msk sa (@State.scrubGo n s) := by
  induction n generalizing s with
  | zero => exact k0
  | succ n ih =>
    unfold State.scrubGo
    split
    · exact k0
    · refine keep_ite (fun _ => State.updTear_keep (.of hm) k0) fun _ => ?_
      extract_lets b s1
      have h1 : Keep msk sa s1 := State.updTear_keep (.of hm) k0
      clear_value s1
      split
      · rename_i e
        exact keepP_eq e (State.mmStart_keep (.of hm) h1)
      · rename_i e
        exact ih (State.scrubBad_keep (.of hm) (keepP_eq e (State.mmStart_keep (.of hm) h1)))

theorem State.scrubNext_keep {s : State} (hm : Sub 15729232 msk) (k0 : Keep msk sa s) :
    Keep msk sa (@State.scrubNext s) := by
  unfold State.scrubNext
  split
  · rename_i z0 z1
    exact k0
  · rename_i z2 z3 z4
    exact State.scrubGo_keep (.of hm) k0

theorem State.scrubbed_keep {s : State} {p : Nat} {ok : Bool} (hm : Sub 15729232 msk) (k0 : Keep msk sa s) :
    Keep msk sa (@State.scrubbed s p ok) := by
  unfold State.scrubbed
  refine State.scrubNext_keep (.of hm) ?_
  refine keep_ite ?_ ?_
  · intro x0
    exact k0
  · intro x1
    exact State.scrubBad_keep (.of hm) k0

theorem execTeardownScrub_keep {s : State} (hm : Sub 418897616 msk) (k0 : Keep msk sa s) :
    KeepO msk sa (@execTeardownScrub s) := by
  unfold execTeardownScrub
  split
  · rename_i z0 z1
    exact keepO_next k0
  · rename_i z2 z3 z4
    extract_lets v5 v6 v7 v8
    clear_value v5
    clear_value v6
    have h9 : Keep msk sa v7 := by
      unfold v7
      exact State.scrubRows_keep (.of hm) k0
    clear_value v7
    clear_value v8
    refine keepO_ite ?_ ?_
    · intro x10
      exact keepO_next k0
    · intro x11
      split
      · rename_i z12 z13
        refine keepO_ite ?_ ?_
        · intro x14
          exact keepO_next (State.acctWrite_keep (.of hm) (State.updTear_keep (.of hm) k0))
        · intro x15
          exact keepO_next k0
      · rename_i z16 z17
        exact keepO_next (State.scrubNext_keep (.of hm) (State.updTear_keep (.of hm) h9))
      · rename_i z18 z19
        exact keepO_next k0

theorem State.nextTear_keep {s : State} (hm : Sub 15729232 msk) (k0 : Keep msk sa s) :
    Keep msk sa (@State.nextTear s) := by
  unfold State.nextTear
  split
  · rename_i z0 z1 z2 z3 z4 z5
    extract_lets v6 v7 v8
    clear_value v6
    have h9 : Keep msk sa v7 := by
      unfold v7
      exact State.setReg_keep (.of hm) k0
    clear_value v7
    clear_value v8
    exact State.scrubNext_keep (.of hm) (keep_mk 2097152 (.of hm) h9)
  · rename_i z10 z11 z12
    exact k0

theorem execTeardownDone_keep {s : State} (hm : Sub 15991504 msk) (k0 : Keep msk sa s) :
    KeepO msk sa (@execTeardownDone s) := by
  unfold execTeardownDone
  split
  · rename_i z0 z1
    exact keepO_next k0
  · rename_i z2 z3 z4
    refine keepO_ite ?_ ?_
    · intro x5
      exact keepO_next k0
    · intro x6
      extract_lets v7 v8 v9 v10 v11 v12 v13 v14
      clear_value v7
      have h15 : Keep msk sa v8 := by
        unfold v8
        exact State.setRow_keep (.of hm) (State.setRow_keep (.of hm) k0)
      clear_value v8
      have h16 : Keep msk sa v9 := by
        unfold v9
        exact State.setRf_keep (.of hm) (State.setLocked_keep (.of hm) h15)
      clear_value v9
      have h17 : Keep msk sa v10 := by
        unfold v10
        exact State.updBg_keep (.of hm) h16
      clear_value v10
      have h18 : Keep msk sa v11 := by
        unfold v11
        exact State.acctClear_keep (.of hm) h17
      clear_value v11
      clear_value v12
      have h19 : Keep msk sa v13 := by
        unfold v13
        exact keep_mk 2097152 (.of hm) h18
      clear_value v13
      clear_value v14
      exact keepO_next (State.nextTear_keep (.of hm) (State.enclEnd_keep (.of hm) h19))

/-! ### Machine/Seq.lean -/

theorem State.admitSeq_keep {s : State} {i : Nat} {p : Nat} {pkt : List Word} (hm : Sub 65744 msk) (k0 : Keep msk sa s) :
    Keep msk sa (@State.admitSeq s i p pkt) := by
  unfold State.admitSeq
  extract_lets v0 v1 v2 v3 v4 v5 v6 v7
  clear_value v0
  clear_value v1
  clear_value v2
  clear_value v3
  clear_value v4
  have h8 : Keep msk sa v5 := by
    unfold v5
    exact State.setRow_keep (.of hm) k0
  clear_value v5
  clear_value v6
  have h9 : Keep msk sa v7 := by
    unfold v7
    exact keep_mk 65536 (.of hm) h8
  clear_value v7
  exact State.nudge_keep (.of hm) (State.setRf_keep (.of hm) h9)

theorem execSeqAdmit_keep {c : Nat} {q : Nat} {s : State} (hm : Sub 13698768 msk) (k0 : Keep msk sa s) :
    KeepO msk sa (@execSeqAdmit c q s) := by
  unfold execSeqAdmit
  split
  · rename_i z0 z1
    exact keepO_next k0
  · rename_i z2 z3 z4
    extract_lets v5
    clear_value v5
    refine keepO_ite ?_ ?_
    · intro x6
      exact keepO_next k0
    · intro x7
      refine keepO_ite ?_ ?_
      · intro x8
        exact keepO_next (State.refuse_keep (.of hm) k0)
      · intro x9
        refine keepO_ite ?_ ?_
        · intro x10
          exact keepO_next (State.refuse_keep (.of hm) k0)
        · intro x11
          refine keepO_ite ?_ ?_
          · intro x12
            exact keepO_next (State.refuse_keep (.of hm) k0)
          · intro x13
            split
            · rename_i z14 z15
              exact keepO_next (State.refuse_keep (.of hm) k0)
            · rename_i z16 z17 z18
              extract_lets v19
              have h20 : Keep msk sa v19 := by
                unfold v19
                exact State.admitSeq_keep (.of hm) k0
              clear_value v19
              exact keepO_next (State.finishHead_keep (.of hm) h20)

theorem State.seqUpdate_keep {s : State} {c : Nat} {q : Nat} {op : Nat} {f : State → Nat → Nat → State} (hm : Sub 13698768 msk) (k0 : Keep msk sa s) (k1 : ∀ (a : State) (a_1 a_2 : Nat), Keep msk sa a → Keep msk sa (f a a_1 a_2)) :
    Keep msk sa (@State.seqUpdate s c q op f) := by
  unfold State.seqUpdate
  split
  · rename_i z0 z1
    exact k0
  · rename_i z2 z3 z4
    extract_lets v5
    clear_value v5
    refine keep_ite ?_ ?_
    · intro x6
      exact k0
    · intro x7
      split
      · rename_i z8 z9
        exact State.refuse_keep (.of hm) k0
      · rename_i z10 z11 z12
        extract_lets v13
        have h14 : Keep msk sa v13 := by
          unfold v13
          exact State.checkSeq_keep (.of hm) k0
        clear_value v13
        refine keep_ite ?_ ?_
        · intro x15
          exact State.refuse_keep (.of hm) h14
        · intro x16
          refine State.finishHead_keep (.of hm) ?_
          refine k1 _ _ _ ?_
          exact h14

theorem execSetClass_keep {c : Nat} {q : Nat} {s : State} (hm : Sub 13698768 msk) (k0 : Keep msk sa s) :
    KeepO msk sa (@execSetClass c q s) := by
  unfold execSetClass
  refine keepO_next ?_
  refine State.seqUpdate_keep (.of hm) ?_ ?_
  · exact k0
  · intro x0 x1 x2 x3
    exact State.setSq_keep (.of hm) x3

theorem execHold_keep {c : Nat} {q : Nat} {s : State} (hm : Sub 13698768 msk) (k0 : Keep msk sa s) :
    KeepO msk sa (@execHold c q s) := by
  unfold execHold
  refine keepO_next ?_
  refine State.seqUpdate_keep (.of hm) ?_ ?_
  · exact k0
  · intro x0 x1 x2 x3
    exact State.setSq_keep (.of hm) x3

theorem execUnhold_keep {c : Nat} {q : Nat} {s : State} (hm : Sub 13698768 msk) (k0 : Keep msk sa s) :
    KeepO msk sa (@execUnhold c q s) := by
  unfold execUnhold
  refine keepO_next ?_
  refine State.seqUpdate_keep (.of hm) ?_ ?_
  · exact k0
  · intro x0 x1 x2 x3
    exact State.nudge_keep (.of hm) (State.setSq_keep (.of hm) x3)

theorem execSetMaxLen_keep {c : Nat} {q : Nat} {s : State} (hm : Sub 13698768 msk) (k0 : Keep msk sa s) :
    KeepO msk sa (@execSetMaxLen c q s) := by
  unfold execSetMaxLen
  refine keepO_next ?_
  refine State.seqUpdate_keep (.of hm) ?_ ?_
  · exact k0
  · intro x0 x1 x2 x3
    extract_lets v4
    have h5 : Keep msk sa v4 := by
      unfold v4
      exact State.setSq_keep (.of hm) x3
    clear_value v4
    refine keep_ite ?_ ?_
    · intro x6
      exact State.endSeq_keep (.of hm) h5
    · intro x7
      exact h5

theorem execSetUser_keep {c : Nat} {q : Nat} {s : State} (hm : Sub 13698768 msk) (k0 : Keep msk sa s) :
    KeepO msk sa (@execSetUser c q s) := by
  unfold execSetUser
  refine keepO_next ?_
  refine State.seqUpdate_keep (.of hm) ?_ ?_
  · exact k0
  · intro x0 x1 x2 x3
    exact State.setSq_keep (.of hm) x3

theorem State.startWinnow_keep {s : State} {w : Winnow} (hm : Sub 66576 msk) (k0 : Keep msk sa s) :
    Keep msk sa (@State.startWinnow s w) := by
  unfold State.startWinnow
  extract_lets v0 v1
  clear_value v0
  have h2 : Keep msk sa v1 := by
    unfold v1
    exact keep_mk 65536 (.of hm) k0
  clear_value v1
  exact State.slowAway_keep (.of hm) (State.setRf_keep (.of hm) h2)

theorem State.winnowSeqs_keep {s : State} {c : Nat} {q : Nat} {mode : Nat} {seqs : List Nat} (hm : Sub 13698640 msk) (k0 : Keep msk sa s) :
    Keep msk sa (@State.winnowSeqs s c q mode seqs) := by
  unfold State.winnowSeqs
  extract_lets v0 v1
  clear_value v0
  have h2 : Keep msk sa v1 := by
    unfold v1
    refine keep_foldl ?_ ?_
    · exact k0
    · intro x3 x4 x5
      exact State.endSeq_keep (.of hm) x5
  clear_value v1
  split
  · rename_i z6 z7 z8 z9
    have h10 : Keep msk sa z7 := by
      refine keepP_eq z9 ?_
      exact State.makeDead_keep (.of hm) h2
    exact State.startWinnow_keep (.of hm) h10

theorem execSeqCancelSeq_keep {c : Nat} {q : Nat} {s : State} (hm : Sub 13698768 msk) (k0 : Keep msk sa s) :
    KeepO msk sa (@execSeqCancelSeq c q s) := by
  unfold execSeqCancelSeq
  split
  · rename_i z0 z1
    exact keepO_next k0
  · rename_i z2 z3 z4
    split
    · rename_i z5 z6
      exact keepO_next (State.refuse_keep (.of hm) k0)
    · rename_i z7 z8 z9
      exact keepO_next (State.winnowSeqs_keep (.of hm) (State.checkSeq_keep (.of hm) k0))

theorem execSeqCancelStep_keep {c : Nat} {q : Nat} {s : State} (hm : Sub 148635348 msk) (k0 : Keep msk sa s) :
    KeepO msk sa (@execSeqCancelStep c q s) := by
  unfold execSeqCancelStep
  split
  · rename_i z0 z1
    exact keepO_next k0
  · rename_i z2 z3 z4
    extract_lets v5
    clear_value v5
    split
    · rename_i z6 z7 z8 z9 z10
      have h11 : Keep msk sa z7 := by
        refine keepP_eq z10 ?_
        exact State.cancelSteps_keep (.of hm) k0
      exact keepO_next (State.startWinnow_keep (.of hm) h11)

theorem execSeqCancelAll_keep {c : Nat} {q : Nat} {s : State} (hm : Sub 13698768 msk) (k0 : Keep msk sa s) :
    KeepO msk sa (@execSeqCancelAll c q s) := by
  unfold execSeqCancelAll
  split
  · rename_i z0 z1
    exact keepO_next k0
  · rename_i z2 z3 z4
    extract_lets v5 v6
    clear_value v5
    have h7 : Keep msk sa v6 := by
      unfold v6
      refine keep_foldl ?_ ?_
      · exact k0
      · intro x8 x9 x10
        exact State.checkSeq_keep (.of hm) x10
    clear_value v6
    exact keepO_next (State.winnowSeqs_keep (.of hm) h7)

theorem State.rewindStream_keep {s : State} {p : Nat} (hm : Sub 65536 msk) (k0 : Keep msk sa s) :
    Keep msk sa (@State.rewindStream s p) := by
  unfold State.rewindStream
  exact State.updStream_keep (.of hm) k0

theorem execWinnowDone_keep {s : State} (hm : Sub 13862608 msk) (k0 : Keep msk sa s) :
    KeepO msk sa (@execWinnowDone s) := by
  unfold execWinnowDone
  split
  · rename_i z0 z1
    exact keepO_next k0
  · rename_i z2 z3 z4
    refine keepO_ite ?_ ?_
    · intro x5
      exact keepO_next k0
    · intro x6
      extract_lets v7 v8 v9 v10 v11
      clear_value v7
      have h12 : Keep msk sa v8 := by
        unfold v8
        exact keep_mk 65536 (.of hm) k0
      clear_value v8
      have h13 : Keep msk sa v9 := by
        unfold v9
        exact State.setRf_keep (.of hm) h12
      clear_value v9
      have h14 : Keep msk sa v10 := by
        unfold v10
        refine keep_foldl ?_ ?_
        · exact h13
        · intro x15 x16 x17
          refine keep_ite ?_ ?_
          · intro x18
            exact keepP_fst (State.finishSeq_keep (.of hm) x17)
          · intro x19
            exact x17
      clear_value v10
      have h20 : Keep msk sa v11 := by
        unfold v11
        refine keep_ite ?_ ?_
        · intro x21
          exact State.settleStream_keep (.of hm) (State.rewindStream_keep (.of hm) (State.sweepSteps_keep (.of hm) h14))
        · intro x22
          exact h14
      clear_value v11
      refine keepO_next ?_
      refine keep_ite ?_ ?_
      · intro x23
        exact State.finishHead_keep (.of hm) h20
      · intro x24
        exact h20

/-! ### Machine/Stream.lean -/

theorem execStepRunStart_keep {c : Nat} {q : Nat} {s : State} (hm : Sub 13633104 msk) (k0 : Keep msk sa s) :
    KeepO msk sa (@execStepRunStart c q s) := by
  unfold execStepRunStart
  split
  · rename_i z0 z1
    exact keepO_next k0
  · rename_i z2 z3 z4
    extract_lets v5
    clear_value v5
    refine keepO_ite ?_ ?_
    · intro x6
      exact keepO_next k0
    · intro x7
      refine keepO_ite ?_ ?_
      · intro x8
        exact keepO_next (State.refuse_keep (.of hm) k0)
      · intro x9
        exact keepO_next (keepP_fst (State.mmRead_keep (.of hm) (State.slowAway_keep (.of hm) k0)))

theorem State.streamDesc_keep {s : State} {p : Nat} {arg : Nat} {ok : Bool} {d : List Word} (hm : Sub 13698640 msk) (k0 : Keep msk sa s) :
    Keep msk sa (@State.streamDesc s p arg ok d) := by
  unfold State.streamDesc
  extract_lets v0 v1 v2 v3 v4 v5
  clear_value v0
  clear_value v1
  clear_value v2
  clear_value v3
  clear_value v4
  have h6 : Keep msk sa v5 := by
    unfold v5
    exact keep_mk 65536 (.of hm) k0
  clear_value v5
  refine keep_ite ?_ ?_
  · intro x7
    exact State.refuse_keep (.of hm) k0
  · intro x8
    exact State.setRf_keep (.of hm) (State.setRf_keep (.of hm) h6)

theorem execStepRunStop_keep {c : Nat} {q : Nat} {s : State} (hm : Sub 13862480 msk) (k0 : Keep msk sa s) :
    KeepO msk sa (@execStepRunStop c q s) := by
  unfold execStepRunStop
  split
  · rename_i z0 z1
    exact keepO_next k0
  · rename_i z2 z3 z4
    extract_lets v5
    clear_value v5
    refine keepO_ite ?_ ?_
    · intro x6
      exact keepO_next k0
    · intro x7
      refine keepO_ite ?_ ?_
      · intro x8
        exact keepO_next (State.refuse_keep (.of hm) k0)
      · intro x9
        split
        · rename_i z10 z11
          exact keepO_next k0
        · rename_i z12 z13 z14
          refine keepO_ite ?_ ?_
          · intro x15
            exact keepO_next k0
          · intro x16
            exact keepO_next (State.stopStream_keep (.of hm) (State.updStream_keep (.of hm) (State.slowAway_keep (.of hm) k0)))

theorem execStepRunKvAdd_keep {c : Nat} {q : Nat} {s : State} (hm : Sub 13698640 msk) (k0 : Keep msk sa s) :
    KeepO msk sa (@execStepRunKvAdd c q s) := by
  unfold execStepRunKvAdd
  split
  · rename_i z0 z1
    exact keepO_next k0
  · rename_i z2 z3 z4
    extract_lets v5 v6
    clear_value v5
    have h7 : Keep msk sa v6 := by
      unfold v6
      exact State.nudge_keep (.of hm) (State.incRf_keep (.of hm) k0)
    clear_value v6
    refine keepO_ite ?_ ?_
    · intro x8
      exact keepO_next k0
    · intro x9
      exact keepO_next (State.finishHead_keep (.of hm) h7)

theorem State.emitRow_keep {s : State} {p : Nat} {n : Nat} {tokenIdx : Nat} {r : Nat × Nat × Bool} (hm : Sub 64 msk) (k0 : Keep msk sa s) :
    KeepP msk sa (@State.emitRow s p n tokenIdx r) := by
  unfold State.emitRow
  split
  · rename_i z0 z1 z2 z3
    extract_lets v4 v5 v6 v7 v8 v9 v10 v11
    clear_value v4
    clear_value v5
    clear_value v6
    clear_value v7
    clear_value v8
    clear_value v9
    have h12 : Keep msk sa v10 := by
      unfold v10
      exact State.setSq_keep (.of hm) k0
    clear_value v10
    have h13 : Keep msk sa v11 := by
      unfold v11
      exact State.setSq_keep (.of hm) h12
    clear_value v11
    exact keepP_mk (State.recomputeSeq_keep (.of hm) (State.setSq_keep (.of hm) h13))

theorem State.emitRows_keep {s : State} {p : Nat} {n : Nat} {rs : List (Nat × Nat × Bool)} (hm : Sub 64 msk) (k0 : Keep msk sa s) :
    KeepP msk sa (@State.emitRows s p n rs) := by
  unfold State.emitRows
  split
  · rename_i z0 z1 z2 z3 z4 z5
    have h6 : Keep msk sa z1 := by
      refine keepP_eq z5 ?_
      refine keepP_foldl ?_ ?_
      · exact keepP_mk k0
      · intro x7 x8 x9
        split
        · rename_i z10 z11 z12 z13 z14
          have h15 : Keep msk sa z11 := by
            refine keepP_eq z14 ?_
            exact State.emitRow_keep (.of hm) (keepP_fst x9)
          exact keepP_mk h15
    exact keepP_mk h6

theorem State.startDone_keep {s : State} {p : Nat} (hm : Sub 13698640 msk) (k0 : Keep msk sa s) :
    Keep msk sa (@State.startDone s p) := by
  unfold State.startDone
  split
  · rename_i z0 z1
    exact k0
  · rename_i z2 z3 z4
    split
    · rename_i z5 z6
      exact k0
    · rename_i z7 z8 z9 z10
      exact State.finishHead_keep (.of hm) (State.updStream_keep (.of hm) k0)

theorem State.synthesise_keep {s : State} {x : Stream} (hm : Sub 13828816 msk) (k0 : Keep msk sa s) :
    Keep msk sa (@State.synthesise s x) := by
  unfold State.synthesise
  extract_lets v0 v1 v2 v3 v4
  clear_value v0
  clear_value v1
  have h5 : Keep msk sa v2 := by
    unfold v2
    exact State.updStream_keep (.of hm) k0
  clear_value v2
  clear_value v3
  clear_value v4
  split
  · rename_i z6 z7 z8 z9 z10
    have h11 : Keep msk sa z7 := by
      refine keepP_eq z10 ?_
      exact State.bindBanks_keep (.of hm) h5
    extract_lets v12 v13 v14 v15 v16 v17 v18 v19 v20 v21
    have h22 : Keep msk sa v12 := by
      unfold v12
      refine keep_foldl ?_ ?_
      · exact h11
      · intro x23 x24 x25
        exact State.checkSeq_keep (.of hm) x25
    clear_value v12
    have h26 : Keep msk sa v13 := by
      unfold v13
      refine keep_foldl ?_ ?_
      · exact h22
      · intro x27 x28 x29
        exact State.setSq_keep (.of hm) x29
    clear_value v13
    clear_value v14
    have h30 : Keep msk sa v15 := by
      unfold v15
      refine keep_foldl ?_ ?_
      · exact h26
      · intro x31 x32 x33
        exact State.setSq_keep (.of hm) x33
    clear_value v15
    have h34 : Keep msk sa v16 := by
      unfold v16
      exact State.incRf_keep (.of hm) h30
    clear_value v16
    have h35 : Keep msk sa v17 := by
      unfold v17
      split
      · rename_i z36 z37 z38
        exact State.setRf_keep (.of hm) h34
      · rename_i z39 z40
        exact h34
    clear_value v17
    have h41 : Keep msk sa v18 := by
      unfold v18
      exact State.setRf_keep (.of hm) h35
    clear_value v18
    clear_value v19
    have h42 : Keep msk sa v20 := by
      unfold v20
      exact State.setRf_keep (.of hm) h41
    clear_value v20
    have h43 : Keep msk sa v21 := by
      unfold v21
      exact State.setTagDead_keep (.of hm) h42
    clear_value v21
    refine keep_ite ?_ ?_
    · intro x44
      exact State.setRf_keep (.of hm) h41
    · intro x45
      split
      · rename_i z46 z47 z48 z49 z50
        have h51 : Keep msk sa z47 := by
          refine keepP_eq z50 ?_
          exact State.emitRows_keep (.of hm) h43
        extract_lets v52 v53 v54 v55 v56 v57 v58 v59
        clear_value v52
        clear_value v53
        clear_value v54
        clear_value v55
        clear_value v56
        have h60 : Keep msk sa v57 := by
          unfold v57
          exact keep_mk 196608 (.of hm) h51
        clear_value v57
        have h61 : Keep msk sa v58 := by
          unfold v58
          exact State.updStream_keep (.of hm) h60
        clear_value v58
        have h62 : Keep msk sa v59 := by
          unfold v59
          exact keepP_fst (State.mmWrite_keep (.of hm) h61)
        clear_value v59
        exact keepP_fst (State.mmWrite_keep (.of hm) h62)

theorem State.synthWaits_keep {s : State} {p : Nat} {e : Err} (hm : Sub 146800656 msk) (k0 : Keep msk sa s) :
    Keep msk sa (@State.synthWaits s p e) := by
  unfold State.synthWaits
  refine keep_ite ?_ ?_
  · intro x0
    exact k0
  · intro x1
    exact State.reportPlain_keep (.of hm) (State.openEpisode_keep (.of hm) k0)

theorem execSynthesisStart_keep {part : Nat} {s : State} (hm : Sub 148080336 msk) (k0 : Keep msk sa s) :
    KeepO msk sa (@execSynthesisStart part s) := by
  unfold execSynthesisStart
  extract_lets v0 v1 v2
  have h3 : Keep msk sa v0 := by
    unfold v0
    exact State.settleStreams_keep (.of hm) k0
  clear_value v0
  have h4 : Keep msk sa v1 := by
    unfold v1
    exact State.startDone_keep (.of hm) h3
  clear_value v1
  have h5 : Keep msk sa v2 := by
    unfold v2
    exact State.closeEpisode_keep (.of hm) (State.closeEpisode_keep (.of hm) h4)
  clear_value v2
  split
  · rename_i z6 z7
    exact keepO_next k0
  · rename_i z8 z9 z10
    refine keepO_ite ?_ ?_
    · intro x11
      exact keepO_next k0
    · intro x12
      refine keepO_ite ?_ ?_
      · intro x13
        exact keepO_next (State.synthWaits_keep (.of hm) h4)
      · intro x14
        refine keepO_ite ?_ ?_
        · intro x15
          exact keepO_next (State.synthWaits_keep (.of hm) h4)
        · intro x16
          exact keepO_next (State.synthesise_keep (.of hm) h5)

theorem State.workWritten_keep {s : State} {p : Nat} {tag : Nat} {ok : Bool} (hm : Sub 148635348 msk) (k0 : Keep msk sa s) :
    Keep msk sa (@State.workWritten s p tag ok) := by
  unfold State.workWritten
  extract_lets v0
  have h1 : Keep msk sa v0 := by
    unfold v0
    exact State.updStep_keep (.of hm) k0
  clear_value v0
  refine keep_ite ?_ ?_
  · intro x2
    exact h1
  · intro x3
    split
    · rename_i z4 z5 z6
      refine keep_ite ?_ ?_
      · intro x7
        exact h1
      · intro x8
        exact State.streamFault_keep (.of hm) h1
    · rename_i z9 z10
      exact h1

theorem execStepLaunchSubmit_keep {part : Nat} {s : State} (hm : Sub 148635348 msk) (k0 : Keep msk sa s) :
    KeepO msk sa (@execStepLaunchSubmit part s) := by
  unfold execStepLaunchSubmit
  split
  · rename_i z0 z1 z2 z3 z4 z5
    extract_lets v6 v7 v8 v9 v10 v11 v12 v13 v14
    clear_value v6
    clear_value v7
    have h15 : Keep msk sa v8 := by
      unfold v8
      exact State.dirRead_keep (.of hm) (State.setRf_keep (.of hm) k0)
    clear_value v8
    clear_value v9
    clear_value v10
    have h16 : Keep msk sa v11 := by
      unfold v11
      exact keep_mk 2048 (.of hm) h15
    clear_value v11
    have h17 : Keep msk sa v12 := by
      unfold v12
      exact State.updStep_keep (.of hm) h16
    clear_value v12
    have h18 : Keep msk sa v13 := by
      unfold v13
      exact State.updStream_keep (.of hm) h17
    clear_value v13
    have h19 : Keep msk sa v14 := by
      unfold v14
      exact State.publish_keep (.of hm) h18
    clear_value v14
    split
    · rename_i z20 z21 z22
      exact keepO_next (State.streamFault_keep (.of hm) (State.reportPlain_keep (.of hm) h15))
    · rename_i z23 z24
      refine keepO_next ?_
      refine keep_ite ?_ ?_
      · intro x25
        exact State.stopStream_keep (.of hm) h19
      · intro x26
        exact h19
  · rename_i z27 z28 z29
    exact keepO_next k0

theorem State.applyRow_keep {s : State} {x : Step} {r : StepRow} {res : Nat} (hm : Sub 12582992 msk) (k0 : Keep msk sa s) :
    KeepP msk sa (@State.applyRow s x r res) := by
  unfold State.applyRow
  extract_lets v0 v1 v2
  clear_value v0
  have h3 : Keep msk sa v1 := by
    unfold v1
    exact State.setPos_keep (.of hm) k0
  clear_value v1
  have h4 : Keep msk sa v2 := by
    unfold v2
    exact State.setSq_keep (.of hm) (State.dropRow_keep (.of hm) h3)
  clear_value v2
  refine keepP_ite ?_ ?_
  · intro x5
    exact keepP_mk (State.endSeq_keep (.of hm) (State.reportPlain_keep (.of hm) h4))
  · intro x6
    refine keepP_ite ?_ ?_
    · intro x7
      exact keepP_mk (State.endSeq_keep (.of hm) h4)
    · intro x8
      refine keepP_ite ?_ ?_
      · intro x9
        exact keepP_mk (State.endSeq_keep (.of hm) h4)
      · intro x10
        exact keepP_mk h4

theorem State.applyStep_keep {s : State} {tag : Nat} {ws : List Word} (hm : Sub 13828848 msk) (k0 : Keep msk sa s) :
    Keep msk sa (@State.applyStep s tag ws) := by
  unfold State.applyStep
  split
  · rename_i z0 z1
    exact k0
  · rename_i z2 z3 z4
    extract_lets v5 v6 v7
    clear_value v5
    have h8 : Keep msk sa v6 := by
      unfold v6
      refine keep_foldl ?_ ?_
      · exact k0
      · intro x9 x10 x11
        exact State.checkSeq_keep (.of hm) x11
    clear_value v6
    clear_value v7
    split
    · rename_i z12 z13 z14 z15
      have h16 : Keep msk sa z13 := by
        refine keepP_eq z15 ?_
        refine keepP_foldl ?_ ?_
        · exact keepP_mk h8
        · intro x17 x18 x19
          split
          · rename_i z20 z21 z22
            refine keepP_ite ?_ ?_
            · intro x23
              exact x19
            · intro x24
              split
              · rename_i z25 z26 z27 z28
                have h29 : Keep msk sa z26 := by
                  refine keepP_eq z28 ?_
                  exact State.applyRow_keep (.of hm) (keepP_fst x19)
                exact keepP_mk h29
      extract_lets v30 v31 v32
      have h33 : Keep msk sa v30 := by
        unfold v30
        exact State.setReg64_keep (.of hm) h16
      clear_value v30
      have h34 : Keep msk sa v31 := by
        unfold v31
        exact State.updStream_keep (.of hm) h33
      clear_value v31
      have h35 : Keep msk sa v32 := by
        unfold v32
        exact State.updStep_keep (.of hm) h34
      clear_value v32
      split
      · rename_i z36 z37 z38 z39
        have h40 : Keep msk sa z37 := by
          refine keepP_eq z39 ?_
          exact State.makeDead_keep (.of hm) h35
        extract_lets v41 v42
        clear_value v41
        clear_value v42
        split
        · rename_i z43 z44 z45 z46
          have h47 : Keep msk sa z44 := by
            refine keepP_eq z46 ?_
            refine keepP_foldl ?_ ?_
            · exact keepP_mk h40
            · intro x48 x49 x50
              split
              · rename_i z51 z52 z53 z54
                have h55 : Keep msk sa z52 := by
                  refine keepP_eq z54 ?_
                  exact State.finishSeq_keep (.of hm) (keepP_fst x50)
                exact keepP_mk h55
          extract_lets v56
          have h57 : Keep msk sa v56 := by
            unfold v56
            exact State.updStep_keep (.of hm) h47
          clear_value v56
          exact State.biasLoop_keep (.of hm) (State.flipBanks_keep (.of hm) (State.applySh_keep (.of hm) h57))

theorem execBoundaryPass_keep {part : Nat} {s : State} (hm : Sub 13828848 msk) (k0 : Keep msk sa s) :
    KeepO msk sa (@execBoundaryPass part s) := by
  unfold execBoundaryPass
  split
  · rename_i z0 z1 z2 z3 z4 z5
    refine keepO_ite ?_ ?_
    · intro x6
      extract_lets v7
      have h8 : Keep msk sa v7 := by
        unfold v7
        exact State.updStep_keep (.of hm) k0
      clear_value v7
      exact keepO_next (keepP_fst (State.mmRead_keep (.of hm) h8))
    · intro x9
      exact keepO_next (State.applyStep_keep (.of hm) k0)
  · rename_i z10 z11 z12
    exact keepO_next k0

theorem State.resultsRead_keep {s : State} {p : Nat} {tag : Nat} {ok : Bool} {ws : List Word} (hm : Sub 148635380 msk) (k0 : Keep msk sa s) :
    Keep msk sa (@State.resultsRead s p tag ok ws) := by
  unfold State.resultsRead
  extract_lets v0
  have h1 : Keep msk sa v0 := by
    unfold v0
    exact State.updStep_keep (.of hm) k0
  clear_value v0
  split
  · rename_i z2 z3
    exact h1
  · rename_i z4 z5 z6
    refine keep_ite ?_ ?_
    · intro x7
      exact h1
    · intro x8
      refine keep_ite ?_ ?_
      · intro x9
        exact State.applyStep_keep (.of hm) h1
      · intro x10
        exact State.streamFault_keep (.of hm) h1

theorem State.passWritten_keep {s : State} {p : Nat} {what : Nat} {arg : Nat} {ok : Bool} (hm : Sub 148635348 msk) (k0 : Keep msk sa s) :
    Keep msk sa (@State.passWritten s p what arg ok) := by
  unfold State.passWritten
  extract_lets v0 v1
  clear_value v0
  have h2 : Keep msk sa v1 := by
    unfold v1
    refine keep_ite ?_ ?_
    · intro x3
      exact State.updStep_keep (.of hm) k0
    · intro x4
      refine keep_ite ?_ ?_
      · intro x5
        exact keep_mk 65536 (.of hm) k0
      · intro x6
        exact k0
  clear_value v1
  refine keep_ite ?_ ?_
  · intro x7
    exact h2
  · intro x8
    exact State.writeFault_keep (.of hm) h2

theorem State.latchTelem_keep {s : State} {x : Step} (hm : Sub 32784 msk) (k0 : Keep msk sa s) :
    Keep msk sa (@State.latchTelem s x) := by
  unfold State.latchTelem
  extract_lets v0 v1 v2 v3 v4 v5 v6 v7
  clear_value v0
  clear_value v1
  clear_value v2
  have h8 : Keep msk sa v3 := by
    unfold v3
    exact keep_mk 32768 (.of hm) k0
  clear_value v3
  have h9 : Keep msk sa v4 := by
    unfold v4
    exact State.setRf_keep (.of hm) h8
  clear_value v4
  have h10 : Keep msk sa v5 := by
    unfold v5
    exact State.setRf_keep (.of hm) h9
  clear_value v5
  have h11 : Keep msk sa v6 := by
    unfold v6
    exact State.setReg64_keep (.of hm) h10
  clear_value v6
  have h12 : Keep msk sa v7 := by
    unfold v7
    exact State.setRf_keep (.of hm) h11
  clear_value v7
  exact State.setRf_keep (.of hm) h12

theorem State.recordStep_keep {s : State} {p : Nat} {h : Nat} {n : Nat} (hm : Sub 12584144 msk) (k0 : Keep msk sa s) :
    Keep msk sa (@State.recordStep s p h n) := by
  unfold State.recordStep
  split
  · rename_i z0 z1 z2
    exact State.reportPlain_keep (.of hm) k0
  · rename_i z3 z4 z5
    split
    · rename_i z6 z7 z8 z9
      have h10 : Keep msk sa z7 := by
        refine keepP_eq z9 ?_
        exact State.checkEvent_keep (.of hm) k0
      exact h10
    · rename_i z11 z12 z13
      have h14 : Keep msk sa z12 := by
        refine keepP_eq z13 ?_
        exact State.checkEvent_keep (.of hm) k0
      exact State.storeEvent_keep (.of hm) h14

theorem execBoundaryPassEnd_keep {part : Nat} {s : State} (hm : Sub 148080336 msk) (k0 : Keep msk sa s) :
    KeepO msk sa (@execBoundaryPassEnd part s) := by
  unfold execBoundaryPassEnd
  split
  · rename_i z0 z1 z2 z3 z4 z5
    refine keepO_ite ?_ ?_
    · intro x6
      exact keepO_next k0
    · intro x7
      refine keepO_ite ?_ ?_
      · intro x8
        exact keepO_next (State.ckptStart_keep (.of hm) k0)
      · intro x9
        extract_lets v10 v11 v12 v13 v14 v15 v16 v17 v18 v19
        clear_value v10
        have h20 : Keep msk sa v11 := by
          unfold v11
          exact keep_mk 1048576 (.of hm) k0
        clear_value v11
        clear_value v12
        have h21 : Keep msk sa v13 := by
          unfold v13
          exact keep_mk 65536 (.of hm) h20
        clear_value v13
        have h22 : Keep msk sa v14 := by
          unfold v14
          exact State.latchTelem_keep (.of hm) h21
        clear_value v14
        have h23 : Keep msk sa v15 := by
          unfold v15
          exact State.latchDigests_keep (.of hm) h22
        clear_value v15
        have h24 : Keep msk sa v16 := by
          unfold v16
          exact State.dropEraSteps_keep (.of hm) h23
        clear_value v16
        have h25 : Keep msk sa v17 := by
          unfold v17
          exact State.trace_keep (.of hm) h24
        clear_value v17
        have h26 : Keep msk sa v18 := by
          unfold v18
          exact State.recordStep_keep (.of hm) h25
        clear_value v18
        have h27 : Keep msk sa v19 := by
          unfold v19
          exact State.updStream_keep (.of hm) h26
        clear_value v19
        exact keepO_next (State.nudge_keep (.of hm) (State.settleStream_keep (.of hm) h27))
  · rename_i z28 z29 z30
    exact keepO_next k0

/-! ### Machine/BootOps.lean -/

theorem State.clearShown_keep {s : State} (hm : Sub 48 msk) (k0 : Keep msk sa s) :
    Keep msk sa (@State.clearShown s) := by
  unfold State.clearShown
  extract_lets v0 v1 v2
  have h3 : Keep msk sa v1 := by
    unfold v1
    refine keep_foldl ?_ ?_
    · exact k0
    · intro x4 x5 x6
      unfold v0
      exact State.setRf_keep (.of hm) x6
  clear_value v1
  have h7 : Keep msk sa v2 := by
    unfold v2
    exact State.setRf_keep (.of hm) h3
  clear_value v2
  refine keep_foldl ?_ ?_
  · exact h7
  · intro x8 x9 x10
    extract_lets v11
    have h12 : Keep msk sa v11 := by
      unfold v11
      refine keep_foldl ?_ ?_
      · exact x10
      · intro x13 x14 x15
        unfold v0
        exact State.setRf_keep (.of hm) x15
    clear_value v11
    exact State.applySh_keep (.of hm) (State.setRf_keep (.of hm) h12)

theorem State.clearUnits_keep {s : State} (hm : Sub 209714928 msk) (k0 : Keep msk sa s) : Keep msk sa (@State.clearUnits s) := by
  unfold State.clearUnits
  extract_lets s1
  have h1 : Keep msk sa s1 := keep_foldl k0 fun _ _ h => State.emit_keep (.of hm) h
  clear_value s1
  exact State.clearShown_keep (.of hm) (keep_clear 209714928 (.of hm) h1 rfl rfl)

theorem State.blockRestart_keep {s : State} (hm : Sub 234880752 msk) (k0 : Keep msk sa s) :
    Keep msk sa (@State.blockRestart s) := by
  unfold State.blockRestart
  refine keep_ite ?_ ?_
  · intro x0
    exact k0
  · intro x1
    extract_lets v2 v3 v4 v5 v6 v7 v8 v9 v10
    have h11 : Keep msk sa v2 := by
      unfold v2
      exact State.reportPlain_keep (.of hm) k0
    clear_value v2
    clear_value v3
    have h12 : Keep msk sa v4 := by
      unfold v4
      exact State.clearUnits_keep (.of hm) h11
    clear_value v4
    have h13 : Keep msk sa v5 := by
      unfold v5
      refine keep_foldl ?_ ?_
      · exact h12
      · intro x14 x15 x16
        exact State.setRf_keep (.of hm) (State.setRf_keep (.of hm) x16)
    clear_value v5
    have h17 : Keep msk sa v6 := by
      unfold v6
      refine keep_ite ?_ ?_
      · intro x18
        exact h13
      · intro x19
        exact State.setRf_keep (.of hm) h13
    clear_value v6
    have h20 : Keep msk sa v7 := by
      unfold v7
      exact State.setRf_keep (.of hm) h17
    clear_value v7
    clear_value v8
    clear_value v9
    clear_value v10
    exact keep_mk 23068672 (.of hm) h20

theorem State.thrRestart_keep {s : State} (hm : Sub 13848272 msk) (k0 : Keep msk sa s) :
    Keep msk sa (@State.thrRestart s) := by
  unfold State.thrRestart
  refine keep_ite ?_ ?_
  · intro x0
    exact k0
  · intro x1
    extract_lets v2 v3 v4
    have h5 : Keep msk sa v2 := by
      unfold v2
      exact State.setRf_keep (.of hm) k0
    clear_value v2
    clear_value v3
    have h6 : Keep msk sa v4 := by
      unfold v4
      exact keep_mk 4194304 (.of hm) h5
    clear_value v4
    refine keep_foldl ?_ ?_
    · exact h6
    · intro x7 x8 x9
      exact State.refuse_keep (.of hm) (State.endHeadCmd_keep (.of hm) x9)

theorem State.maybeQuiesce_keep {s : State} (hm : Sub 16777232 msk) (k0 : Keep msk sa s) :
    Keep msk sa (@State.maybeQuiesce s) := by
  unfold State.maybeQuiesce
  refine keep_ite ?_ ?_
  · intro x0
    extract_lets v1 v2
    have h3 : Keep msk sa v1 := by
      unfold v1
      exact State.setRf_keep (.of hm) k0
    clear_value v1
    clear_value v2
    exact keep_mk 16777216 (.of hm) h3
  · intro x4
    exact k0

/-! ### Machine/Completion.lean -/

theorem State.acceptRec_keep {s : State} {link : Nat} {w0 : Word} {w1 : Word} (hm : Sub 215744212 msk) (k0 : Keep msk sa s) :
    Keep msk sa (@State.acceptRec s link w0 w1) := by
  unfold State.acceptRec
  extract_lets v0 v1
  clear_value v0
  clear_value v1
  refine keep_ite ?_ ?_
  · intro x2
    exact k0
  · intro x3
    refine keep_ite ?_ ?_
    · intro x4
      exact State.relinkLost_keep (.of hm) k0
    · intro x5
      exact State.setFifo_keep (.of hm) k0

theorem State.popRec_keep {s : State} {r : CmpRec} (hm : Sub 8192 msk) (k0 : Keep msk sa s) :
    Keep msk sa (@State.popRec s r) := by
  unfold State.popRec
  extract_lets v0
  clear_value v0
  exact State.setFifo_keep (.of hm) k0

theorem State.setTaken_keep {s : State} {slice : Nat} (hm : Sub 4 msk) (k0 : Keep msk sa s) :
    Keep msk sa (@State.setTaken s slice) := by
  unfold State.setTaken
  exact keep_mk 4 (.of hm) k0

theorem State.takeRec_keep {s : State} {slice : Nat} {kinds : List Nat} {f : State → CmpRec → State} (hm : Sub 215744223 msk) (k0 : Keep msk sa s) (k1 : ∀ (a : State) (a_1 : CmpRec), Keep msk sa a → Keep msk sa (f a a_1)) :
    Keep msk sa (@State.takeRec s slice kinds f) := by
  unfold State.takeRec
  extract_lets v0
  have h1 : Keep msk sa v0 := by
    unfold v0
    exact State.sliceChecks_keep (.of hm) (State.nextCcIf_keep (.of hm) k0)
  clear_value v0
  refine keep_ite ?_ ?_
  · intro x2
    exact h1
  · intro x3
    split
    · rename_i z4 z5
      exact h1
    · rename_i z6 z7 z8
      refine keep_ite ?_ ?_
      · intro x9
        exact State.relinkLost_keep (.of hm) (State.popRec_keep (.of hm) (State.setTaken_keep (.of hm) h1))
      · intro x10
        refine keep_ite ?_ ?_
        · intro x11
          refine k1 _ _ ?_
          exact State.popRec_keep (.of hm) (State.setTaken_keep (.of hm) h1)
        · intro x12
          exact h1

theorem State.protocolErr_keep {s : State} {r : CmpRec} (hm : Sub 215744212 msk) (k0 : Keep msk sa s) :
    Keep msk sa (@State.protocolErr s r) := by
  unfold State.protocolErr
  exact State.relinkLost_keep (.of hm) k0

theorem State.leaveLink_keep {s : State} {r : CmpRec} (hm : Sub 8208 msk) (k0 : Keep msk sa s) :
    Keep msk sa (@State.leaveLink s r) := by
  unfold State.leaveLink
  extract_lets v0 v1 v2
  have h3 : Keep msk sa v0 := by
    unfold v0
    exact State.dropTask_keep (.of hm) k0
  clear_value v0
  have h4 : Keep msk sa v1 := by
    unfold v1
    exact State.updLink_keep (.of hm) h3
  clear_value v1
  clear_value v2
  refine keep_ite ?_ ?_
  · intro x5
    exact State.nextCtrl_keep (.of hm) (State.updLink_keep (.of hm) h4)
  · intro x6
    exact h4

theorem State.traceComplete_keep {s : State} {r : CmpRec} {part : Nat} (hm : Sub 8388624 msk) (k0 : Keep msk sa s) :
    Keep msk sa (@State.traceComplete s r part) := by
  unfold State.traceComplete
  exact State.traceAt_keep (.of hm) k0

theorem State.telemetry_keep {s : State} {part : Nat} {tag : Nat} {v : Nat} (hm : Sub 32768 msk) (k0 : Keep msk sa s) :
    Keep msk sa (@State.telemetry s part tag v) := by
  unfold State.telemetry
  refine keep_ite ?_ ?_
  · intro x0
    exact k0
  · intro x1
    extract_lets v2 v3 v4 v5 v6
    clear_value v2
    clear_value v3
    clear_value v4
    clear_value v5
    clear_value v6
    exact keep_mk 32768 (.of hm) k0

theorem State.taskFault_keep {s : State} {link : Nat} {t : OutTask} {code : Nat} (hm : Sub 148635348 msk) (k0 : Keep msk sa s) :
    Keep msk sa (@State.taskFault s link t code) := by
  unfold State.taskFault
  extract_lets v0 v1
  have h2 : Keep msk sa v0 := by
    unfold v0
    exact State.setNd_keep (.of hm) k0
  clear_value v0
  have h3 : Keep msk sa v1 := by
    unfold v1
    exact State.report_keep (.of hm) h2
  clear_value v1
  exact State.killLaunch_keep (.of hm) h3

theorem State.taskWalks_keep {s : State} {t : OutTask} (hm : Sub 6208 msk) (k0 : Keep msk sa s) :
    Keep msk sa (@State.taskWalks s t) := by
  unfold State.taskWalks
  exact State.enterWalk_keep (.of hm) (State.progress_keep (.of hm) k0)

theorem State.intake_keep {s : State} {r : CmpRec} {t : OutTask} (hm : Sub 8396880 msk) (k0 : Keep msk sa s) :
    Keep msk sa (@State.intake s r t) := by
  unfold State.intake
  extract_lets v0 v1
  have h2 : Keep msk sa v0 := by
    unfold v0
    exact State.cmpCredit_keep (.of hm) (State.leaveLink_keep (.of hm) k0)
  clear_value v0
  have h3 : Keep msk sa v1 := by
    unfold v1
    exact State.chargeTask_keep (.of hm) h2
  clear_value v1
  exact State.traceComplete_keep (.of hm) h3

theorem State.chaffRec_keep {s : State} {r : CmpRec} {t : OutTask} (hm : Sub 16 msk) (k0 : Keep msk sa s) :
    Keep msk sa (@State.chaffRec s r t) := by
  unfold State.chaffRec
  refine keep_ite ?_ ?_
  · intro x0
    exact State.chaff_keep (.of hm) k0
  · intro x1
    exact k0

theorem State.terminal_keep {s : State} {r : CmpRec} {f : State → OutTask → State} (hm : Sub 215744212 msk) (k0 : Keep msk sa s) (k1 : ∀ (a : State) (a_1 : OutTask), Keep msk sa a → Keep msk sa (f a a_1)) :
    Keep msk sa (@State.terminal s r f) := by
  unfold State.terminal
  split
  · rename_i z0 z1
    exact State.protocolErr_keep (.of hm) k0
  · rename_i z2 z3 z4
    extract_lets v5
    have h6 : Keep msk sa v5 := by
      unfold v5
      exact State.chaffRec_keep (.of hm) (State.intake_keep (.of hm) k0)
    clear_value v5
    split
    · rename_i z7 z8 z9
      refine keep_ite ?_ ?_
      · intro x10
        exact State.jobDone_keep (.of hm) h6
      · intro x11
        exact State.failJob_keep (.of hm) h6
    · rename_i z12 z13
      split
      · rename_i z14 z15
        refine State.tryFinishKill_keep (.of hm) ?_
        refine k1 _ _ ?_
        exact h6
      · rename_i z16 z17
        exact State.tryFinishKill_keep (.of hm) (State.setNd_keep (.of hm) h6)
      · rename_i z18 z19 z20
        exact State.settleDone_keep (.of hm) (State.setNd_keep (.of hm) h6)

theorem State.onDone_keep {s : State} {r : CmpRec} (hm : Sub 215744212 msk) (k0 : Keep msk sa s) :
    Keep msk sa (@State.onDone s r) := by
  unfold State.onDone
  refine State.terminal_keep (.of hm) ?_ ?_
  · exact k0
  · intro x0 x1 x2
    refine keep_ite ?_ ?_
    · intro x3
      exact State.taskWalks_keep (.of hm) x2
    · intro x4
      exact State.taskFault_keep (.of hm) x2

theorem State.onDoneStat_keep {s : State} {r : CmpRec} (hm : Sub 215744212 msk) (k0 : Keep msk sa s) :
    Keep msk sa (@State.onDoneStat s r) := by
  unfold State.onDoneStat
  refine State.terminal_keep (.of hm) ?_ ?_
  · exact k0
  · intro x0 x1 x2
    exact State.taskWalks_keep (.of hm) (State.telemetry_keep (.of hm) x2)

theorem State.onFault_keep {s : State} {r : CmpRec} (hm : Sub 215744212 msk) (k0 : Keep msk sa s) :
    Keep msk sa (@State.onFault s r) := by
  unfold State.onFault
  refine State.terminal_keep (.of hm) ?_ ?_
  · exact k0
  · intro x0 x1 x2
    exact State.taskFault_keep (.of hm) x2

theorem State.onKilled_keep {s : State} {r : CmpRec} (hm : Sub 215744212 msk) (k0 : Keep msk sa s) :
    Keep msk sa (@State.onKilled s r) := by
  unfold State.onKilled
  refine State.terminal_keep (.of hm) ?_ ?_
  · exact k0
  · intro x0 x1 x2
    split
    · rename_i z3 z4
      exact State.taskFault_keep (.of hm) x2
    · rename_i z5 z6
      exact State.killLaunch_keep (.of hm) (State.setNd_keep (.of hm) x2)
    · rename_i z7 z8 z9
      exact State.setNd_keep (.of hm) x2

theorem State.onSpawn_keep {s : State} {r : CmpRec} (hm : Sub 215744212 msk) (k0 : Keep msk sa s) :
    Keep msk sa (@State.onSpawn s r) := by
  unfold State.onSpawn
  split
  · rename_i z0 z1
    exact State.protocolErr_keep (.of hm) k0
  · rename_i z2 z3 z4
    refine keep_ite ?_ ?_
    · intro x5
      exact State.protocolErr_keep (.of hm) k0
    · intro x6
      extract_lets v7 v8 v9 v10 v11 v12 v13
      have h14 : Keep msk sa v7 := by
        unfold v7
        exact State.chaffRec_keep (.of hm) (State.cmpCredit_keep (.of hm) k0)
      clear_value v7
      clear_value v8
      clear_value v9
      clear_value v10
      clear_value v11
      have h15 : Keep msk sa v12 := by
        unfold v12
        exact keep_mk 4096 (.of hm) h14
      clear_value v12
      clear_value v13
      split
      · rename_i z16 z17 z18
        exact State.failJob_keep (.of hm) (State.reportPlain_keep (.of hm) h14)
      · rename_i z19 z20
        refine keep_ite ?_ ?_
        · intro x21
          exact h14
        · intro x22
          refine keep_ite ?_ ?_
          · intro x23
            exact State.killWith_keep (.of hm) h14
          · intro x24
            refine keep_ite ?_ ?_
            · intro x25
              exact State.killWith_keep (.of hm) h14
            · intro x26
              exact keepP_fst (State.mmRead_keep (.of hm) h15)

theorem State.backUp_keep {s : State} {i : Nat} (hm : Sub 24592 msk) (k0 : Keep msk sa s) :
    Keep msk sa (@State.backUp s i) := by
  unfold State.backUp
  extract_lets v0 v1
  have h2 : Keep msk sa v0 := by
    unfold v0
    exact State.updLink_keep (.of hm) k0
  clear_value v0
  have h3 : Keep msk sa v1 := by
    unfold v1
    split
    · rename_i z4 z5 z6
      exact State.freeBind_keep (.of hm) h2
    · rename_i z7 z8
      exact h2
  clear_value v1
  exact State.nextCtrl_keep (.of hm) h3

theorem State.onAck_keep {s : State} {r : CmpRec} (hm : Sub 215744212 msk) (k0 : Keep msk sa s) :
    Keep msk sa (@State.onAck s r) := by
  unfold State.onAck
  extract_lets v0 v1 v2 v3
  clear_value v0
  have h4 : Keep msk sa v1 := by
    unfold v1
    exact State.cmpCredit_keep (.of hm) k0
  clear_value v1
  have h5 : Keep msk sa v2 := by
    unfold v2
    exact State.cmpCredit_keep (.of hm) k0
  clear_value v2
  have h6 : Keep msk sa v3 := by
    unfold v3
    refine keep_ite ?_ ?_
    · intro x7
      exact State.endLinkCmd_keep (.of hm) h5
    · intro x8
      exact h5
  clear_value v3
  split
  · rename_i z9 z10
    exact State.protocolErr_keep (.of hm) k0
  · rename_i z11 z12 z13
    split
    · rename_i z14 z15
      exact State.updLink_keep (.of hm) h4
    · rename_i z16 z17
      exact State.nextCtrl_keep (.of hm) (State.updLink_keep (.of hm) h5)
    · rename_i z18 z19
      extract_lets v20
      have h21 : Keep msk sa v20 := by
        unfold v20
        refine keep_ite ?_ ?_
        · intro x22
          exact State.endLinkCmd_keep (.of hm) h5
        · intro x23
          exact h5
      clear_value v20
      exact State.nextCtrl_keep (.of hm) (State.updLink_keep (.of hm) h21)
    · rename_i z24 z25
      extract_lets v26
      have h27 : Keep msk sa v26 := by
        unfold v26
        refine keep_ite ?_ ?_
        · intro x28
          exact State.endLinkCmd_keep (.of hm) h5
        · intro x29
          exact h5
      clear_value v26
      exact State.backUp_keep (.of hm) h27
    · rename_i z30 z31 z32 z33 z34
      exact State.backUp_keep (.of hm) (State.updLink_keep (.of hm) h6)

theorem State.onReply_keep {s : State} {r : CmpRec} (hm : Sub 215744212 msk) (k0 : Keep msk sa s) :
    Keep msk sa (@State.onReply s r) := by
  unfold State.onReply
  extract_lets v0 v1 v2 v3 v4 v5 v6 v7 v8 v9 v10
  clear_value v0
  clear_value v1
  clear_value v2
  clear_value v3
  clear_value v4
  clear_value v5
  clear_value v6
  have h11 : Keep msk sa v7 := by
    unfold v7
    exact State.updLink_keep (.of hm) k0
  clear_value v7
  have h12 : Keep msk sa v9 := by
    unfold v9
    exact State.cmpCredit_keep (.of hm) h11
  clear_value v9
  have h13 : Keep msk sa v10 := by
    unfold v10
    exact State.updLink_keep (.of hm) h12
  clear_value v10
  refine keep_ite ?_ ?_
  · intro x14
    exact State.protocolErr_keep (.of hm) k0
  · intro x15
    refine keep_ite ?_ ?_
    · intro x16
      unfold v8
      exact State.reportLink_keep (.of hm) (State.updLink_keep (.of hm) h11)
    · intro x17
      refine keep_ite ?_ ?_
      · intro x18
        unfold v8
        exact State.reportLink_keep (.of hm) (State.updLink_keep (.of hm) h11)
      · intro x19
        exact State.driveCtrl_keep (.of hm) h13

theorem State.onRec_keep {s : State} {r : CmpRec} (hm : Sub 215744212 msk) (k0 : Keep msk sa s) :
    Keep msk sa (@State.onRec s r) := by
  unfold State.onRec
  split
  · rename_i z0 z1
    exact State.onDone_keep (.of hm) k0
  · rename_i z2 z3
    exact State.onDoneStat_keep (.of hm) k0
  · rename_i z4 z5
    exact State.onFault_keep (.of hm) k0
  · rename_i z6 z7
    exact State.onKilled_keep (.of hm) k0
  · rename_i z8 z9
    exact State.onSpawn_keep (.of hm) k0
  · rename_i z10 z11
    exact State.onAck_keep (.of hm) k0
  · rename_i z12 z13
    exact State.onReply_keep (.of hm) k0
  · rename_i z14 z15 z16 z17 z18 z19 z20 z21
    exact State.protocolErr_keep (.of hm) k0

theorem execCompletionArrive_keep {link : Nat} {w0 : BitVec 32} {w1 : BitVec 32} {s : State} (hm : Sub 215744212 msk) (k0 : Keep msk sa s) :
    KeepO msk sa (@execCompletionArrive link w0 w1 s) := by
  unfold execCompletionArrive
  refine keepO_next ?_
  refine keep_ite ?_ ?_
  · intro x0
    exact State.acceptRec_keep (.of hm) k0
  · intro x1
    exact k0

theorem execCompletionDone_keep {slice : Nat} {s : State} (hm : Sub 215744223 msk) (k0 : Keep msk sa s) :
    KeepO msk sa (@execCompletionDone slice s) := by
  unfold execCompletionDone
  refine keepO_next ?_
  refine State.takeRec_keep (.of hm) ?_ ?_
  · exact k0
  · intro x0 x1 x2
    exact State.onDone_keep (.of hm) x2

theorem execCompletionDoneStat_keep {slice : Nat} {s : State} (hm : Sub 215744223 msk) (k0 : Keep msk sa s) :
    KeepO msk sa (@execCompletionDoneStat slice s) := by
  unfold execCompletionDoneStat
  refine keepO_next ?_
  refine State.takeRec_keep (.of hm) ?_ ?_
  · exact k0
  · intro x0 x1 x2
    exact State.onDoneStat_keep (.of hm) x2

theorem execCompletionFault_keep {slice : Nat} {s : State} (hm : Sub 215744223 msk) (k0 : Keep msk sa s) :
    KeepO msk sa (@execCompletionFault slice s) := by
  unfold execCompletionFault
  refine keepO_next ?_
  refine State.takeRec_keep (.of hm) ?_ ?_
  · exact k0
  · intro x0 x1 x2
    exact State.onFault_keep (.of hm) x2

theorem execCompletionKilled_keep {slice : Nat} {s : State} (hm : Sub 215744223 msk) (k0 : Keep msk sa s) :
    KeepO msk sa (@execCompletionKilled slice s) := by
  unfold execCompletionKilled
  refine keepO_next ?_
  refine State.takeRec_keep (.of hm) ?_ ?_
  · exact k0
  · intro x0 x1 x2
    exact State.onKilled_keep (.of hm) x2

theorem execCompletionSpawn_keep {slice : Nat} {s : State} (hm : Sub 215744223 msk) (k0 : Keep msk sa s) :
    KeepO msk sa (@execCompletionSpawn slice s) := by
  unfold execCompletionSpawn
  refine keepO_next ?_
  refine State.takeRec_keep (.of hm) ?_ ?_
  · exact k0
  · intro x0 x1 x2
    exact State.onSpawn_keep (.of hm) x2

theorem execCtrlAck_keep {slice : Nat} {s : State} (hm : Sub 215744223 msk) (k0 : Keep msk sa s) :
    KeepO msk sa (@execCtrlAck slice s) := by
  unfold execCtrlAck
  refine keepO_next ?_
  refine State.takeRec_keep (.of hm) ?_ ?_
  · exact k0
  · intro x0 x1 x2
    exact State.onAck_keep (.of hm) x2

theorem execLinkupReply_keep {slice : Nat} {s : State} (hm : Sub 215744223 msk) (k0 : Keep msk sa s) :
    KeepO msk sa (@execLinkupReply slice s) := by
  unfold execLinkupReply
  refine keepO_next ?_
  refine State.takeRec_keep (.of hm) ?_ ?_
  · exact k0
  · intro x0 x1 x2
    exact State.onReply_keep (.of hm) x2
end Sys2Proof.Machine
end

