-- ==== Sys2Proof/Laws/KeepPort.lean ====
section
/-! SUPPORT. What every command keeps: links, boot, dealing, debug, inputs, memory answers and the register ports. -/

-- One declaration at a time: checked side by side, the lemmas ask for more threads than the checks may start.
set_option Elab.async false

namespace Sys2Proof.Machine

variable {msk : Nat} {sa : State}

/-! ### Machine/Link.lean -/

theorem State.presentRise_keep {s : State} {i : Nat} (hm : Sub 8192 msk) (k0 : Keep msk sa s) :
    Keep msk sa (@State.presentRise s i) := by
  unfold State.presentRise
  refine keep_ite ?_ ?_
  · intro x0
    exact k0
  · intro x1
    exact State.updLink_keep (.of hm) k0

theorem State.drainRecs_keep {s : State} {i : Nat} (hm : Sub 215744212 msk) (k0 : Keep msk sa s) :
    Keep msk sa (@State.drainRecs s i) := by
  unfold State.drainRecs
  refine keep_foldl ?_ ?_
  · exact k0
  · intro x0 x1 x2
    refine keep_ite ?_ ?_
    · intro x3
      exact State.onRec_keep (.of hm) (State.popRec_keep (.of hm) x2)
    · intro x4
      exact x2

theorem State.linkAway_keep {s : State} {i : Nat} (hm : Sub 215744212 msk) (k0 : Keep msk sa s) :
    Keep msk sa (@State.linkAway s i) := by
  unfold State.linkAway
  refine keep_ite ?_ ?_
  · intro x0
    exact State.loseLink_keep (.of hm) (State.drainRecs_keep (.of hm) k0)
  · intro x1
    exact State.updLink_keep (.of hm) (State.endLinkCmd_keep (.of hm) k0)

theorem State.presentFall_keep {s : State} {i : Nat} (hm : Sub 215744212 msk) (k0 : Keep msk sa s) :
    Keep msk sa (@State.presentFall s i) := by
  unfold State.presentFall
  refine keep_ite ?_ ?_
  · intro x0
    exact k0
  · intro x1
    exact State.updLink_keep (.of hm) (State.linkAway_keep (.of hm) k0)

theorem State.issCredit_keep {s : State} {i : Nat} (hm : Sub 215744212 msk) (k0 : Keep msk sa s) :
    Keep msk sa (@State.issCredit s i) := by
  unfold State.issCredit
  refine keep_ite ?_ ?_
  · intro x0
    exact k0
  · intro x1
    extract_lets v2 v3
    clear_value v2
    have h4 : Keep msk sa v3 := by
      unfold v3
      split
      · rename_i z5 z6
        exact k0
      · rename_i z7 z8 z9 z10
        extract_lets v11
        have h12 : Keep msk sa v11 := by
          unfold v11
          exact State.updLink_keep (.of hm) k0
        clear_value v11
        refine keep_ite ?_ ?_
        · intro x13
          exact State.emit_keep (.of hm) h12
        · intro x14
          exact h12
    clear_value v3
    refine keep_ite ?_ ?_
    · intro x15
      exact State.relinkLost_keep (.of hm) h4
    · intro x16
      exact State.updLink_keep (.of hm) h4

theorem State.setPresentPin_keep {s : State} {i : Nat} {b : Bool} (hm : Sub 8192 msk) (k0 : Keep msk sa s) :
    Keep msk sa (@State.setPresentPin s i b) := by
  unfold State.setPresentPin
  refine keep_ite ?_ ?_
  · intro x0
    exact k0
  · intro x1
    exact State.updLink_keep (.of hm) k0

theorem State.seeLinks_keep {s : State} (hm : Sub 215744212 msk) (k0 : Keep msk sa s) :
    Keep msk sa (@State.seeLinks s) := by
  unfold State.seeLinks
  refine keep_ite ?_ ?_
  · intro x0
    exact k0
  · intro x1
    extract_lets v2
    have h3 : Keep msk sa v2 := by
      unfold v2
      refine keep_foldl ?_ ?_
      · exact k0
      · intro x4 x5 x6
        exact State.presentFall_keep (.of hm) x6
    clear_value v2
    exact State.updLinks_keep (.of hm) h3

theorem execDlPresentRise_keep {link : Nat} {s : State} (hm : Sub 1056768 msk) (k0 : Keep msk sa s) :
    KeepO msk sa (@execDlPresentRise link s) := by
  unfold execDlPresentRise
  refine keepO_next ?_
  refine State.input_keep (.of hm) ?_ ?_
  · exact State.setPresentPin_keep (.of hm) k0
  · intro x0 x1
    exact State.presentRise_keep (.of hm) x1

theorem State.dropRise_keep {s : State} {i : Nat} (hm : Sub 1048576 msk) (k0 : Keep msk sa s) :
    Keep msk sa (@State.dropRise s i) := by
  unfold State.dropRise
  exact keep_mk 1048576 (.of hm) k0

theorem State.logFall_keep {s : State} {i : Nat} (hm : Sub 147849808 msk) (k0 : Keep msk sa s) :
    Keep msk sa (@State.logFall s i) := by
  unfold State.logFall
  refine keep_ite ?_ ?_
  · intro x0
    exact State.logRec_keep (.of hm) k0
  · intro x1
    exact k0

theorem State.replayFall_keep {s : State} {i : Nat} (hm : Sub 13631504 msk) (k0 : Keep msk sa s) :
    Keep msk sa (@State.replayFall s i) := by
  unfold State.replayFall
  refine keep_ite ?_ ?_
  · intro x0
    exact k0
  · intro x1
    split
    · rename_i z2 z3 z4 z5
      have h6 : Keep msk sa z3 := by
        refine keepP_eq z5 ?_
        exact State.takeReplay_keep (.of hm) k0
      exact h6
    · rename_i z7 z8 z9
      have h10 : Keep msk sa z8 := by
        refine keepP_eq z9 ?_
        exact State.takeReplay_keep (.of hm) k0
      exact State.diverge_keep (.of hm) h10

theorem execDlPresentFall_keep {link : Nat} {s : State} (hm : Sub 215744212 msk) (k0 : Keep msk sa s) :
    KeepO msk sa (@execDlPresentFall link s) := by
  unfold execDlPresentFall
  extract_lets v0
  have h1 : Keep msk sa v0 := by
    unfold v0
    exact State.setPresentPin_keep (.of hm) k0
  clear_value v0
  refine keepO_next ?_
  refine keep_ite ?_ ?_
  · intro x2
    exact State.presentFall_keep (.of hm) (State.replayFall_keep (.of hm) (State.dropRise_keep (.of hm) (State.logFall_keep (.of hm) h1)))
  · intro x3
    exact h1

theorem execLinkupStart_keep {link : Nat} {s : State} (hm : Sub 8208 msk) (k0 : Keep msk sa s) :
    KeepO msk sa (@execLinkupStart link s) := by
  unfold execLinkupStart
  refine keepO_next ?_
  refine keep_ite ?_ ?_
  · intro x0
    exact State.offerLink_keep (.of hm) (State.updLink_keep (.of hm) k0)
  · intro x1
    exact k0

theorem execLinkupTimeout_keep {link : Nat} {s : State} (hm : Sub 12591120 msk) (k0 : Keep msk sa s) :
    KeepO msk sa (@execLinkupTimeout link s) := by
  unfold execLinkupTimeout
  extract_lets v0 v1
  clear_value v0
  have h2 : Keep msk sa v1 := by
    unfold v1
    exact State.reportLink_keep (.of hm) k0
  clear_value v1
  refine keepO_next ?_
  refine keep_ite ?_ ?_
  · intro x3
    exact State.updLink_keep (.of hm) h2
  · intro x4
    exact k0

theorem execLinkupReoffer_keep {link : Nat} {s : State} (hm : Sub 8208 msk) (k0 : Keep msk sa s) :
    KeepO msk sa (@execLinkupReoffer link s) := by
  unfold execLinkupReoffer
  extract_lets v0
  clear_value v0
  refine keepO_next ?_
  refine keep_ite ?_ ?_
  · intro x1
    exact State.offerLink_keep (.of hm) k0
  · intro x2
    exact k0

theorem execDlIssCredit_keep {link : Nat} {s : State} (hm : Sub 215744212 msk) (k0 : Keep msk sa s) :
    KeepO msk sa (@execDlIssCredit link s) := by
  unfold execDlIssCredit
  refine keepO_next ?_
  refine keep_ite ?_ ?_
  · intro x0
    exact State.issCredit_keep (.of hm) k0
  · intro x1
    exact k0

/-! ### Machine/Boot.lean -/

theorem State.setPhase_keep {s : State} {n : Nat} (hm : Sub 16 msk) (k0 : Keep msk sa s) :
    Keep msk sa (@State.setPhase s n) := by
  unfold State.setPhase
  exact State.setRf_keep (.of hm) k0

theorem execBootStart_keep {s : State} (hm : Sub 16 msk) (k0 : Keep msk sa s) :
    KeepO msk sa (@execBootStart s) := by
  unfold execBootStart
  refine keepO_next ?_
  refine keep_ite ?_ ?_
  · intro x0
    exact State.setPhase_keep (.of hm) k0
  · intro x1
    exact k0

theorem execBootClearDone_keep {s : State} (hm : Sub 226492144 msk) (k0 : Keep msk sa s) :
    KeepO msk sa (@execBootClearDone s) := by
  unfold execBootClearDone
  refine keepO_next ?_
  refine keep_ite ?_ ?_
  · intro x0
    exact k0
  · intro x1
    refine keep_ite ?_ ?_
    · intro x2
      exact State.setPhase_keep (.of hm) k0
    · intro x3
      extract_lets v4 v5
      have h6 : Keep msk sa v4 := by
        unfold v4
        exact State.setPhase_keep (.of hm) (State.clearUnits_keep (.of hm) k0)
      clear_value v4
      clear_value v5
      exact keep_mk 16777344 (.of hm) h6

theorem execBootCopyDone_keep {s : State} (hm : Sub 16777232 msk) (k0 : Keep msk sa s) :
    KeepO msk sa (@execBootCopyDone s) := by
  unfold execBootCopyDone
  refine keepO_next ?_
  refine keep_ite ?_ ?_
  · intro x0
    extract_lets v1 v2
    have h3 : Keep msk sa v1 := by
      unfold v1
      exact State.setPhase_keep (.of hm) k0
    clear_value v1
    clear_value v2
    exact keep_mk 16777216 (.of hm) h3
  · intro x4
    exact k0

theorem execBootVerifyDone_keep {s : State} (hm : Sub 29360144 msk) (k0 : Keep msk sa s) :
    KeepO msk sa (@execBootVerifyDone s) := by
  unfold execBootVerifyDone
  refine keepO_next ?_
  refine keep_ite ?_ ?_
  · intro x0
    exact k0
  · intro x1
    split
    · rename_i z2 z3 z4
      exact State.maybeQuiesce_keep (.of hm) (State.reportPlain_keep (.of hm) (State.setRf_keep (.of hm) (State.setPhase_keep (.of hm) k0)))
    · rename_i z5 z6
      exact State.setRf_keep (.of hm) (State.setPhase_keep (.of hm) k0)

theorem execBootMeasureDone_keep {s : State} (hm : Sub 32506576 msk) (k0 : Keep msk sa s) :
    KeepO msk sa (@execBootMeasureDone s) := by
  unfold execBootMeasureDone
  refine keepO_next ?_
  refine keep_ite ?_ ?_
  · intro x0
    exact k0
  · intro x1
    extract_lets v2 v3 v4 v5
    have h6 : Keep msk sa v2 := by
      unfold v2
      exact State.setPhase_keep (.of hm) (State.setFinal_keep (.of hm) (State.extend_keep (.of hm) (State.extend_keep (.of hm) k0)))
    clear_value v2
    clear_value v3
    clear_value v4
    have h7 : Keep msk sa v5 := by
      unfold v5
      exact keep_mk 20971520 (.of hm) h6
    clear_value v5
    exact State.maybeQuiesce_keep (.of hm) (State.nextTear_keep (.of hm) h7)

theorem execFirmwareStart_keep {s : State} (hm : Sub 16 msk) (k0 : Keep msk sa s) :
    KeepO msk sa (@execFirmwareStart s) := by
  unfold execFirmwareStart
  refine keepO_next ?_
  refine keep_ite ?_ ?_
  · intro x0
    exact State.setReg_keep (.of hm) k0
  · intro x1
    exact k0

theorem execResetAssert_keep {dom : ResetDom} {s : State} (hm : Sub 234881022 msk) (k0 : Keep msk sa s) :
    KeepO msk sa (@execResetAssert dom s) := by
  unfold execResetAssert
  refine keepO_ite ?_ ?_
  · intro x0
    exact keepO_next k0
  · intro x1
    extract_lets v2
    refine keepO_next ?_
    split
    · rename_i z3
      refine keep_foldl ?_ ?_
      · unfold v2
        exact keep_mk 8 (.of hm) (State.lowerIrqs_keep (.of hm) k0)
      · intro x4 x5 x6
        exact State.presentFall_keep (.of hm) x6
    · rename_i z7
      refine State.fpFall_keep (.of hm) ?_
      unfold v2
      exact keep_mk 8 (.of hm) k0
    · rename_i z8 z9 z10
      refine State.powerOn_keep (.of hm) ?_
      unfold v2
      exact keep_mk 8 (.of hm) (State.lowerIrqs_keep (.of hm) k0)

theorem execResetRelease_keep {dom : ResetDom} {s : State} (hm : Sub 215744220 msk) (k0 : Keep msk sa s) :
    KeepO msk sa (@execResetRelease dom s) := by
  unfold execResetRelease
  refine keepO_ite ?_ ?_
  · intro x0
    exact keepO_next k0
  · intro x1
    extract_lets v2
    have h3 : Keep msk sa v2 := by
      unfold v2
      exact keep_mk 8 (.of hm) k0
    clear_value v2
    exact keepO_next (State.seeFabric_keep (.of hm) (State.seeLinks_keep (.of hm) h3))

theorem execPwrReqRise_keep {s : State} (hm : Sub 16777240 msk) (k0 : Keep msk sa s) :
    KeepO msk sa (@execPwrReqRise s) := by
  unfold execPwrReqRise
  exact keepO_next (State.maybeQuiesce_keep (.of hm) (keep_mk 8 (.of hm) k0))

theorem State.quiesceKill_keep {s : State} (hm : Sub 148635348 msk) (k0 : Keep msk sa s) :
    Keep msk sa (@State.quiesceKill s) := by
  unfold State.quiesceKill
  extract_lets v0 v1 v2
  clear_value v0
  clear_value v1
  have h3 : Keep msk sa v2 := by
    unfold v2
    refine keep_foldl ?_ ?_
    · exact k0
    · intro x4 x5 x6
      exact State.killLaunch_keep (.of hm) (State.reportNode_keep (.of hm) x6)
  clear_value v2
  refine keep_foldl ?_ ?_
  · exact h3
  · intro x7 x8 x9
    exact State.killTask_keep (.of hm) x9

theorem State.fabTimedOut_keep {s : State} (hm : Sub 148635348 msk) (k0 : Keep msk sa s) :
    Keep msk sa (@State.fabTimedOut s) := by
  unfold State.fabTimedOut
  extract_lets v0 v1 v2 v3
  have h4 : Keep msk sa v0 := by
    unfold v0
    refine keep_foldl ?_ ?_
    · exact k0
    · intro x5 x6 x7
      exact State.failEdge_keep (.of hm) x7
  clear_value v0
  have h8 : Keep msk sa v1 := by
    unfold v1
    refine keep_foldl ?_ ?_
    · exact h4
    · intro x9 x10 x11
      exact State.signalDone_keep (.of hm) (State.reportSignal_keep (.of hm) x11)
  clear_value v1
  have h12 : Keep msk sa v2 := by
    unfold v2
    refine keep_foldl ?_ ?_
    · exact h8
    · intro x13 x14 x15
      exact State.endSend_keep (.of hm) (State.reportPlain_keep (.of hm) x15)
  clear_value v2
  have h16 : Keep msk sa v3 := by
    unfold v3
    refine keep_foldl ?_ ?_
    · exact h12
    · intro x17 x18 x19
      exact State.failSheafMsg_keep (.of hm) x19
  clear_value v3
  refine keep_foldl ?_ ?_
  · exact h16
  · intro x20 x21 x22
    exact State.endDepart_keep (.of hm) x22

theorem execQuiesceTimeout_keep {s : State} (hm : Sub 165412564 msk) (k0 : Keep msk sa s) :
    KeepO msk sa (@execQuiesceTimeout s) := by
  unfold execQuiesceTimeout
  extract_lets v0 v1
  clear_value v0
  clear_value v1
  refine keepO_next ?_
  refine keep_ite ?_ ?_
  · intro x2
    exact State.fabTimedOut_keep (.of hm) (State.quiesceKill_keep (.of hm) (keep_mk 16777216 (.of hm) k0))
  · intro x3
    exact k0

theorem execQuiesceDone_keep {s : State} (hm : Sub 24 msk) (k0 : Keep msk sa s) :
    KeepO msk sa (@execQuiesceDone s) := by
  unfold execQuiesceDone
  refine keepO_next ?_
  refine keep_ite ?_ ?_
  · intro x0
    extract_lets v1 v2
    have h3 : Keep msk sa v1 := by
      unfold v1
      exact State.setRf_keep (.of hm) k0
    clear_value v1
    clear_value v2
    exact keep_mk 8 (.of hm) h3
  · intro x4
    exact k0

theorem State.restamp_keep {s : State} (hm : Sub 4258818 msk) (k0 : Keep msk sa s) :
    Keep msk sa (@State.restamp s) := by
  unfold State.restamp
  extract_lets v0 v1 v2 v3 v4 v5 v6 v7 v8 v9 v10
  clear_value v0
  clear_value v3
  clear_value v4
  clear_value v5
  clear_value v6
  clear_value v7
  clear_value v8
  clear_value v9
  clear_value v10
  exact keep_mk 4258818 (.of hm) k0

theorem State.resume_keep {s : State} (hm : Sub 67108888 msk) (k0 : Keep msk sa s) :
    Keep msk sa (@State.resume s) := by
  unfold State.resume
  refine State.settleCredits_keep (.of hm) ?_
  extract_lets v0 v1
  have h2 : Keep msk sa v0 := by
    unfold v0
    exact State.setRf_keep (.of hm) k0
  clear_value v0
  clear_value v1
  exact keep_mk 8 (.of hm) h2

theorem execPwrReqFall_keep {s : State} (hm : Sub 71367706 msk) (k0 : Keep msk sa s) :
    KeepO msk sa (@execPwrReqFall s) := by
  unfold execPwrReqFall
  extract_lets v0 v1
  clear_value v0
  have h2 : Keep msk sa v1 := by
    unfold v1
    exact keep_mk 8 (.of hm) k0
  clear_value v1
  refine keepO_next ?_
  split
  · rename_i z3 z4
    exact State.resume_keep (.of hm) h2
  · rename_i z5 z6
    refine keep_ite ?_ ?_
    · intro x7
      exact h2
    · intro x8
      exact State.restamp_keep (.of hm) (State.resume_keep (.of hm) h2)
  · rename_i z9 z10 z11
    exact h2

theorem execIsoEnRise_keep {s : State} (hm : Sub 16777240 msk) (k0 : Keep msk sa s) :
    KeepO msk sa (@execIsoEnRise s) := by
  unfold execIsoEnRise
  extract_lets v0 v1 v2 v3 v4
  have h5 : Keep msk sa v0 := by
    unfold v0
    exact State.lowerIrqs_keep (.of hm) k0
  clear_value v0
  have h6 : Keep msk sa v2 := by
    unfold v2
    exact keep_mk 8 (.of hm) h5
  have h7 : Keep msk sa v3 := by
    unfold v3
    exact State.setRf_keep (.of hm) h6
  clear_value v3
  clear_value v4
  refine keepO_next ?_
  refine keep_ite ?_ ?_
  · intro x8
    exact h6
  · intro x9
    exact keep_mk 16777216 (.of hm) h7

theorem State.endSurprise_keep {s : State} (hm : Sub 234880756 msk) (k0 : Keep msk sa s) :
    Keep msk sa (@State.endSurprise s) := by
  unfold State.endSurprise
  extract_lets v0 v1 v2 v3
  clear_value v0
  have h4 : Keep msk sa v1 := by
    unfold v1
    exact keep_mk 16777728 (.of hm) k0
  clear_value v1
  have h5 : Keep msk sa v2 := by
    unfold v2
    exact State.reportPlain_keep (.of hm) h4
  clear_value v2
  have h6 : Keep msk sa v3 := by
    unfold v3
    refine keep_ite ?_ ?_
    · intro x7
      exact State.blockRestart_keep (.of hm) h5
    · intro x8
      exact h5
  clear_value v3
  exact State.fpFall_keep (.of hm) h6

theorem State.endRetention_keep {s : State} (hm : Sub 232521428 msk) (k0 : Keep msk sa s) :
    Keep msk sa (@State.endRetention s) := by
  unfold State.endRetention
  extract_lets v0 v1 v2 v3 v4 v5
  clear_value v0
  clear_value v1
  clear_value v2
  have h6 : Keep msk sa v3 := by
    unfold v3
    exact keep_mk 16785408 (.of hm) k0
  clear_value v3
  have h7 : Keep msk sa v4 := by
    unfold v4
    exact State.fpFall_keep (.of hm) h6
  clear_value v4
  clear_value v5
  exact keep_mk 16777216 (.of hm) h7

theorem execIsoEnFall_keep {s : State} (hm : Sub 234880766 msk) (k0 : Keep msk sa s) :
    KeepO msk sa (@execIsoEnFall s) := by
  unfold execIsoEnFall
  refine keepO_ite ?_ ?_
  · intro x0
    exact keepO_next k0
  · intro x1
    extract_lets v2 v3 v4 v5
    clear_value v2
    have h6 : Keep msk sa v3 := by
      unfold v3
      exact keep_mk 8 (.of hm) k0
    clear_value v3
    have h7 : Keep msk sa v4 := by
      unfold v4
      refine keep_ite ?_ ?_
      · intro x8
        exact h6
      · intro x9
        refine keep_ite ?_ ?_
        · intro x10
          exact State.endSurprise_keep (.of hm) h6
        · intro x11
          refine keep_ite ?_ ?_
          · intro x12
            exact State.endRetention_keep (.of hm) h6
          · intro x13
            exact h6
    clear_value v4
    have h14 : Keep msk sa v5 := by
      unfold v5
      exact State.seeFabric_keep (.of hm) (State.raiseIrqs_keep (.of hm) (State.seeLinks_keep (.of hm) h7))
    clear_value v5
    refine keepO_next ?_
    refine keep_ite ?_ ?_
    · intro x15
      exact State.restamp_keep (.of hm) (State.resume_keep (.of hm) h14)
    · intro x16
      exact h14

theorem execRetEnChange_keep {level : Bool} {s : State} (hm : Sub 16777224 msk) (k0 : Keep msk sa s) :
    KeepO msk sa (@execRetEnChange level s) := by
  unfold execRetEnChange
  extract_lets v0 v1 v2
  have h3 : Keep msk sa v1 := by
    unfold v1
    exact keep_mk 8 (.of hm) k0
  clear_value v2
  refine keepO_next ?_
  refine keep_ite ?_ ?_
  · intro x4
    exact keep_mk 16777216 (.of hm) h3
  · intro x5
    exact h3

/-! ### Machine/Deal.lean -/

theorem State.passOver_keep {s : State} {e : ReadyEnt} {part : Nat} {reason : Nat} (hm : Sub 8392720 msk) (k0 : Keep msk sa s) :
    Keep msk sa (@State.passOver s e part reason) := by
  unfold State.passOver
  refine keep_ite ?_ ?_
  · intro x0
    exact k0
  · intro x1
    extract_lets v2 v3 v4
    clear_value v3
    have h5 : Keep msk sa v4 := by
      unfold v4
      exact keep_mk 4096 (.of hm) k0
    clear_value v4
    exact State.trace_keep (.of hm) h5

theorem State.countIssue_keep {s : State} {i : Nat} {level : Nat} {wait : Nat} (hm : Sub 80 msk) (k0 : Keep msk sa s) :
    Keep msk sa (@State.countIssue s i level wait) := by
  unfold State.countIssue
  refine keep_ite ?_ ?_
  · intro x0
    exact k0
  · intro x1
    extract_lets v2 v3 v4 v5 v6 v7 v8
    have h9 : Keep msk sa v2 := by
      unfold v2
      exact State.addRam64_keep (.of hm) k0
    clear_value v2
    clear_value v3
    clear_value v4
    have h10 : Keep msk sa v5 := by
      unfold v5
      exact State.setRam_keep (.of hm) h9
    clear_value v5
    clear_value v6
    have h11 : Keep msk sa v7 := by
      unfold v7
      exact State.setReg64_keep (.of hm) h10
    clear_value v7
    have h12 : Keep msk sa v8 := by
      unfold v8
      exact State.incRf_keep (.of hm) h11
    clear_value v8
    exact State.setRf_keep (.of hm) h12

theorem State.digestIssue_keep {s : State} {tag : Nat} {i : Nat} {w0 : Word} (hm : Sub 1048576 msk) (k0 : Keep msk sa s) :
    Keep msk sa (@State.digestIssue s tag i w0) := by
  unfold State.digestIssue
  refine keep_ite ?_ ?_
  · intro x0
    exact k0
  · intro x1
    extract_lets v2 v3 v4 v5
    clear_value v2
    clear_value v3
    clear_value v4
    clear_value v5
    exact keep_mk 1048576 (.of hm) k0

theorem State.raiseIrq_keep {s : State} {i : Nat} {level : Nat} {outs : List OutTask} (hm : Sub 8192 msk) (k0 : Keep msk sa s) :
    Keep msk sa (@State.raiseIrq s i level outs) := by
  unfold State.raiseIrq
  extract_lets v0 v1
  clear_value v0
  have h2 : Keep msk sa v1 := by
    unfold v1
    refine keep_ite ?_ ?_
    · intro x3
      exact State.emit_keep (.of hm) k0
    · intro x4
      exact k0
  clear_value v1
  refine keep_ite ?_ ?_
  · intro x5
    exact State.updLink_keep (.of hm) h2
  · intro x6
    exact k0

theorem State.issue_keep {s : State} {e : ReadyEnt} {i : Nat} {t : TaskRec} (hm : Sub 9449552 msk) (k0 : Keep msk sa s) :
    Keep msk sa (@State.issue s e i t) := by
  unfold State.issue
  extract_lets v0 v1 v2 v3 v4 v5 v6 v7 v8 v9 v10 v11 v12
  clear_value v0
  clear_value v1
  clear_value v2
  have h13 : Keep msk sa v3 := by
    unfold v3
    exact State.emit_keep (.of hm) k0
  clear_value v3
  have h14 : Keep msk sa v4 := by
    unfold v4
    exact State.raiseIrq_keep (.of hm) h13
  clear_value v4
  have h15 : Keep msk sa v5 := by
    unfold v5
    exact State.updLink_keep (.of hm) h14
  clear_value v5
  clear_value v6
  clear_value v7
  have h16 : Keep msk sa v8 := by
    unfold v8
    exact keep_mk 1056768 (.of hm) h15
  clear_value v8
  clear_value v9
  have h17 : Keep msk sa v10 := by
    unfold v10
    exact State.cleanSlots_keep (.of hm) (keep_mk 4096 (.of hm) h16)
  clear_value v10
  have h18 : Keep msk sa v11 := by
    unfold v11
    exact State.countIssue_keep (.of hm) (State.acct_keep (.of hm) h17)
  clear_value v11
  have h19 : Keep msk sa v12 := by
    unfold v12
    exact State.digestIssue_keep (.of hm) h18
  clear_value v12
  exact State.trace_keep (.of hm) h19

theorem State.dealJob_keep {s : State} {e : ReadyEnt} {k : Nat} (hm : Sub 417083600 msk) (k0 : Keep msk sa s) :
    Keep msk sa (@State.dealJob s e k) := by
  unfold State.dealJob
  split
  · rename_i z0 z1
    exact k0
  · rename_i z2 z3 z4
    split
    · rename_i z5 z6
      exact k0
    · rename_i z7 z8 z9
      refine keep_ite ?_ ?_
      · intro x10
        exact k0
      · intro x11
        extract_lets v12
        clear_value v12
        split
        · rename_i z13 z14 z15 z16
          have h17 : Keep msk sa z14 := by
            refine keepP_eq z16 ?_
            exact State.bgAdmit_keep (.of hm) k0
          exact State.issue_keep (.of hm) (State.updJob_keep (.of hm) h17)

theorem State.dealNode_keep {s : State} {e : ReadyEnt} (hm : Sub 417332948 msk) (k0 : Keep msk sa s) :
    Keep msk sa (@State.dealNode s e) := by
  unfold State.dealNode
  extract_lets v0 v1 v2 v3 v4
  clear_value v0
  clear_value v1
  clear_value v2
  have h5 : Keep msk sa v3 := by
    unfold v3
    exact State.slotRead_keep (.of hm) (State.readNode_keep (.of hm) k0)
  clear_value v3
  clear_value v4
  refine keep_ite ?_ ?_
  · intro x6
    exact h5
  · intro x7
    split
    · rename_i z8 z9 z10 z11
      exact State.rowFail_keep (.of hm) h5
    · rename_i z12 z13
      refine keep_ite ?_ ?_
      · intro x14
        exact State.killWith_keep (.of hm) (State.setNd_keep (.of hm) (State.dropReady_keep (.of hm) h5))
      · intro x15
        split
        · rename_i z16 z17
          exact h5
        · rename_i z18 z19 z20
          split
          · rename_i z21 z22 z23
            have h24 : Keep msk sa z22 := by
              refine keepP_eq z23 ?_
              exact State.pscTest_keep (.of hm) h5
            exact h24
          · rename_i z25 z26 z27
            have h28 : Keep msk sa z26 := by
              refine keepP_eq z27 ?_
              exact State.pscTest_keep (.of hm) h5
            exact State.passOver_keep (.of hm) h28
          · rename_i z29 z30 z31 z32
            have h33 : Keep msk sa z30 := by
              refine keepP_eq z32 ?_
              exact State.pscTest_keep (.of hm) h5
            extract_lets v34
            clear_value v34
            split
            · rename_i z35 z36 z37 z38
              have h39 : Keep msk sa z36 := by
                refine keepP_eq z38 ?_
                exact State.bgAdmit_keep (.of hm) h33
              exact State.passOver_keep (.of hm) h39
            · rename_i z40 z41 z42
              have h43 : Keep msk sa z41 := by
                refine keepP_eq z42 ?_
                exact State.bgAdmit_keep (.of hm) h33
              split
              · rename_i z44 z45
                exact h43
              · rename_i z46 z47 z48
                extract_lets v49
                have h50 : Keep msk sa v49 := by
                  unfold v49
                  split
                  · rename_i z51 z52
                    have h53 : Keep msk sa z30 := by
                      refine keepP_eq z32 ?_
                      exact State.pscTest_keep (.of hm) h5
                    exact State.takeClaim_keep (.of hm) h43
                  · rename_i z54
                    have h55 : Keep msk sa z30 := by
                      refine keepP_eq z32 ?_
                      exact State.pscTest_keep (.of hm) h5
                    exact h43
                clear_value v49
                exact State.issue_keep (.of hm) (State.setNd_keep (.of hm) h50)

theorem State.dealOne_keep {s : State} {e : ReadyEnt} (hm : Sub 417332948 msk) (k0 : Keep msk sa s) :
    Keep msk sa (@State.dealOne s e) := by
  unfold State.dealOne
  refine keep_ite ?_ ?_
  · intro x0
    exact k0
  · intro x1
    split
    · rename_i z2 z3
      exact k0
    · rename_i z4 z5 z6
      split
      · rename_i z7 z8 z9
        exact State.dealJob_keep (.of hm) k0
      · rename_i z10 z11
        exact State.dealNode_keep (.of hm) k0

theorem State.deal_keep {s : State} (hm : Sub 484441812 msk) (k0 : Keep msk sa s) :
    Keep msk sa (@State.deal s) := by
  unfold State.deal
  refine keep_ite ?_ ?_
  · intro x0
    exact k0
  · intro x1
    extract_lets v2 v3 v4
    have h5 : Keep msk sa v2 := by
      unfold v2
      exact State.dealChecks_keep (.of hm) k0
    clear_value v2
    clear_value v3
    have h6 : Keep msk sa v4 := by
      unfold v4
      exact keep_mk 8192 (.of hm) h5
    clear_value v4
    refine keep_ite ?_ ?_
    · intro x7
      exact h5
    · intro x8
      refine keep_foldl ?_ ?_
      · exact State.offerJobs_keep (.of hm) h6
      · intro x9 x10 x11
        refine keep_foldl ?_ ?_
        · exact x11
        · intro x12 x13 x14
          exact State.dealOne_keep (.of hm) x14

theorem execTaskIssue_keep {s : State} (hm : Sub 484441823 msk) (k0 : Keep msk sa s) :
    KeepO msk sa (@execTaskIssue s) := by
  unfold execTaskIssue
  exact keepO_next (State.deal_keep (.of hm) (State.nextCcIf_keep (.of hm) k0))

/-! ### Machine/Debug.lean -/

theorem execGcSync_keep {gc : BitVec 64} {s : State} (hm : Sub 16783362 msk) (k0 : Keep msk sa s) :
    KeepO msk sa (@execGcSync gc s) := by
  unfold execGcSync
  refine keepO_ite ?_ ?_
  · intro x0
    exact keepO_next k0
  · intro x1
    extract_lets v2 v3 v4 v5
    clear_value v2
    clear_value v3
    have h6 : Keep msk sa v4 := by
      unfold v4
      exact keep_mk 16777218 (.of hm) k0
    clear_value v4
    have h7 : Keep msk sa v5 := by
      unfold v5
      refine keep_ite ?_ ?_
      · intro x8
        exact State.sampleEngines_keep (.of hm) h6
      · intro x9
        exact h6
    clear_value v5
    refine keepO_next ?_
    refine keep_ite ?_ ?_
    · intro x10
      exact h7
    · intro x11
      exact State.reachStarts_keep (.of hm) h7

theorem execTimebaseLost_keep {s : State} (hm : Sub 12582930 msk) (k0 : Keep msk sa s) :
    KeepO msk sa (@execTimebaseLost s) := by
  unfold execTimebaseLost
  refine keepO_next ?_
  refine keep_ite ?_ ?_
  · intro x0
    extract_lets v1 v2
    have h3 : Keep msk sa v1 := by
      unfold v1
      exact State.reportPlain_keep (.of hm) k0
    clear_value v1
    clear_value v2
    exact keep_mk 2 (.of hm) h3
  · intro x4
    exact k0

theorem State.dbgInput_keep {s : State} {f : State → State} (hm : Sub 272 msk) (k0 : Keep msk sa s) (k1 : ∀ (a : State), Keep msk sa a → Keep msk sa (f a)) :
    Keep msk sa (@State.dbgInput s f) := by
  unfold State.dbgInput
  refine keep_ite ?_ ?_
  · intro x0
    refine State.regDone_keep (.of hm) ?_ ?_
    · exact k0
    · intro x1 x2
      refine k1 _ ?_
      exact x2
  · intro x3
    exact k0

theorem execSnapTrigIn_keep {s : State} (hm : Sub 8388624 msk) (k0 : Keep msk sa s) :
    KeepO msk sa (@execSnapTrigIn s) := by
  unfold execSnapTrigIn
  refine keepO_next ?_
  refine keep_ite ?_ ?_
  · intro x0
    exact State.fireSnap_keep (.of hm) k0
  · intro x1
    exact k0

theorem execSnapFire_keep {s : State} (hm : Sub 8388880 msk) (k0 : Keep msk sa s) :
    KeepO msk sa (@execSnapFire s) := by
  unfold execSnapFire
  refine keepO_next ?_
  refine State.dbgInput_keep (.of hm) ?_ ?_
  · exact k0
  · intro x0 x1
    exact State.fireSnap_keep (.of hm) x1

theorem State.releaseSnap_keep {s : State} (hm : Sub 8388624 msk) (k0 : Keep msk sa s) :
    Keep msk sa (@State.releaseSnap s) := by
  unfold State.releaseSnap
  extract_lets v0 v1
  clear_value v0
  have h2 : Keep msk sa v1 := by
    unfold v1
    exact State.setRf_keep (.of hm) k0
  clear_value v1
  refine keep_ite ?_ ?_
  · intro x3
    exact k0
  · intro x4
    refine keep_ite ?_ ?_
    · intro x5
      exact State.latchSnap_keep (.of hm) (State.setRf_keep (.of hm) h2)
    · intro x6
      exact h2

theorem execSnapRelease_keep {s : State} (hm : Sub 8388880 msk) (k0 : Keep msk sa s) :
    KeepO msk sa (@execSnapRelease s) := by
  unfold execSnapRelease
  refine keepO_next ?_
  refine State.dbgInput_keep (.of hm) ?_ ?_
  · exact k0
  · intro x0 x1
    exact State.releaseSnap_keep (.of hm) x1

theorem execCtrClear_keep {s : State} (hm : Sub 8388880 msk) (k0 : Keep msk sa s) :
    KeepO msk sa (@execCtrClear s) := by
  unfold execCtrClear
  refine keepO_next ?_
  refine State.dbgInput_keep (.of hm) ?_ ?_
  · exact k0
  · intro x0 x1
    exact keep_mk 8388608 (.of hm) x1

theorem State.traceMark_keep {s : State} {v : Nat} (hm : Sub 8388624 msk) (k0 : Keep msk sa s) :
    Keep msk sa (@State.traceMark s v) := by
  unfold State.traceMark
  extract_lets v0 v1 v2
  clear_value v0
  have h3 : Keep msk sa v1 := by
    unfold v1
    exact State.trace_keep (.of hm) k0
  clear_value v1
  clear_value v2
  exact keep_mk 8388608 (.of hm) h3

theorem execTraceMark_keep {data : BitVec 32} {s : State} (hm : Sub 8388880 msk) (k0 : Keep msk sa s) :
    KeepO msk sa (@execTraceMark data s) := by
  unfold execTraceMark
  refine keepO_next ?_
  refine State.dbgInput_keep (.of hm) ?_ ?_
  · exact k0
  · intro x0 x1
    exact State.traceMark_keep (.of hm) x1

theorem execTraceBeatTimeout_keep {s : State} (hm : Sub 147849808 msk) (k0 : Keep msk sa s) :
    KeepO msk sa (@execTraceBeatTimeout s) := by
  unfold execTraceBeatTimeout
  refine keepO_next ?_
  refine keep_ite ?_ ?_
  · intro x0
    exact State.traceBeat_keep (.of hm) k0
  · intro x1
    exact k0

/-! ### Machine/Ifm.lean -/

theorem execListRebuildDone_keep {s : State} (hm : Sub 8417300 msk) (k0 : Keep msk sa s) :
    KeepO msk sa (@execListRebuildDone s) := by
  unfold execListRebuildDone
  exact keepO_next (State.endRebuild_keep (.of hm) k0)

theorem execDrRestartDone_keep {s : State} (hm : Sub 16801808 msk) (k0 : Keep msk sa s) :
    KeepO msk sa (@execDrRestartDone s) := by
  unfold execDrRestartDone
  exact keepO_next (State.maybeQuiesce_keep (.of hm) (State.drRestartDone_keep (.of hm) k0))

theorem execSliceWatchdog_keep {slice : Nat} {s : State} (hm : Sub 215744212 msk) (k0 : Keep msk sa s) :
    KeepO msk sa (@execSliceWatchdog slice s) := by
  unfold execSliceWatchdog
  refine keepO_next ?_
  refine keep_ite ?_ ?_
  · intro x0
    exact State.sliceRestart_keep (.of hm) (State.reportPlain_keep (.of hm) k0)
  · intro x1
    exact k0

theorem execSliceRejoin_keep {slice : Nat} {s : State} (hm : Sub 8208 msk) (k0 : Keep msk sa s) :
    KeepO msk sa (@execSliceRejoin slice s) := by
  unfold execSliceRejoin
  exact keepO_next (State.sliceRejoin_keep (.of hm) k0)

theorem execIfmHbIncrement_keep {s : State} (hm : Sub 4194320 msk) (k0 : Keep msk sa s) :
    KeepO msk sa (@execIfmHbIncrement s) := by
  unfold execIfmHbIncrement
  refine keepO_next ?_
  refine keep_ite ?_ ?_
  · intro x0
    extract_lets v1 v2
    have h3 : Keep msk sa v1 := by
      unfold v1
      exact State.setRf_keep (.of hm) k0
    clear_value v1
    clear_value v2
    exact keep_mk 4194304 (.of hm) h3
  · intro x4
    exact k0

theorem execThresherHeartbeat_keep {s : State} (hm : Sub 13848272 msk) (k0 : Keep msk sa s) :
    KeepO msk sa (@execThresherHeartbeat s) := by
  unfold execThresherHeartbeat
  refine keepO_next ?_
  refine keep_ite ?_ ?_
  · intro x0
    exact State.thrRestart_keep (.of hm) (State.reportPlain_keep (.of hm) k0)
  · intro x1
    exact k0

theorem execThresherRestartDone_keep {s : State} (hm : Sub 234880752 msk) (k0 : Keep msk sa s) :
    KeepO msk sa (@execThresherRestartDone s) := by
  unfold execThresherRestartDone
  refine keepO_next ?_
  refine keep_ite ?_ ?_
  · intro x0
    exact k0
  · intro x1
    extract_lets v2 v3
    have h4 : Keep msk sa v2 := by
      unfold v2
      exact State.setRf_keep (.of hm) k0
    clear_value v2
    clear_value v3
    refine keep_ite ?_ ?_
    · intro x5
      exact State.blockRestart_keep (.of hm) h4
    · intro x6
      exact State.maybeQuiesce_keep (.of hm) (keep_mk 4194304 (.of hm) h4)

theorem State.patrolNode_keep {s : State} {n : Nat} {word : Nat} (hm : Sub 148635348 msk) (k0 : Keep msk sa s) :
    Keep msk sa (@State.patrolNode s n word) := by
  unfold State.patrolNode
  refine keep_ite ?_ ?_
  · intro x0
    split
    · rename_i z1 z2 z3
      exact State.damageGen_keep (.of hm) k0
    · rename_i z4 z5
      exact k0
  · intro x6
    exact State.rowFail_keep (.of hm) k0

theorem State.patrolEdge_keep {s : State} {e : Nat} {word : Nat} (hm : Sub 148635348 msk) (k0 : Keep msk sa s) :
    Keep msk sa (@State.patrolEdge s e word) := by
  unfold State.patrolEdge
  split
  · rename_i z0 z1 z2
    exact State.damageGen_keep (.of hm) k0
  · rename_i z3 z4
    split
    · rename_i z5 z6 z7
      exact State.rowFail_keep (.of hm) k0
    · rename_i z8 z9
      exact k0

theorem State.patrolObject_keep {s : State} {tid : Nat} {w : Nat} (hm : Sub 215744212 msk) (k0 : Keep msk sa s) :
    Keep msk sa (@State.patrolObject s tid w) := by
  unfold State.patrolObject
  split
  · rename_i z0
    exact State.killLaunch_keep (.of hm) k0
  · rename_i z1
    exact State.setShv_keep (.of hm) k0
  · rename_i z2
    exact State.closeRxq_keep (.of hm) k0
  · rename_i z3
    exact State.setRm_keep (.of hm) k0
  · rename_i z4
    exact State.faultStook_keep (.of hm) k0
  · rename_i z5
    exact State.setRm_keep (.of hm) k0
  · rename_i z6
    exact State.setRm_keep (.of hm) k0
  · rename_i z7
    exact State.scanParked_keep (.of hm) k0
  · rename_i z8
    exact State.startRebuild_keep (.of hm) k0
  · rename_i z9
    exact State.startRebuild_keep (.of hm) k0
  · rename_i z10
    exact State.sliceRestart_keep (.of hm) k0
  · rename_i z11
    exact State.drRestart_keep (.of hm) k0
  · rename_i z12
    split
    · rename_i z13 z14 z15
      extract_lets v16 v17
      clear_value v16
      have h18 : Keep msk sa v17 := by
        unfold v17
        exact keep_mk 32768 (.of hm) k0
      clear_value v17
      exact State.setRq_keep (.of hm) (State.setRq_keep (.of hm) h18)
    · rename_i z19 z20
      exact k0
  · rename_i z21
    split
    · rename_i z22 z23 z24
      exact State.faultStook_keep (.of hm) k0
    · rename_i z25 z26
      exact k0
  · rename_i z27
    extract_lets v28 v29
    have h30 : Keep msk sa v28 := by
      unfold v28
      exact State.endWait_keep (.of hm) k0
    clear_value v28
    clear_value v29
    exact keep_mk 16384 (.of hm) h30
  · rename_i z31
    split
    · rename_i z32 z33 z34
      exact State.endBind_keep (.of hm) k0
    · rename_i z35 z36
      exact k0
  · rename_i z37
    exact keep_mk 4096 (.of hm) k0
  · rename_i z38
    exact State.thrRestart_keep (.of hm) k0
  · rename_i z39 z40 z41 z42 z43 z44 z45 z46 z47 z48 z49 z50 z51 z52 z53 z54 z55 z56 z57
    exact k0

theorem State.patrolBad_keep {s : State} {tid : Nat} {w : Nat} (hm : Sub 234880756 msk) (k0 : Keep msk sa s) :
    Keep msk sa (@State.patrolBad s tid w) := by
  unfold State.patrolBad
  extract_lets v0 v1 v2 v3 v4
  clear_value v0
  clear_value v1
  have h5 : Keep msk sa v2 := by
    unfold v2
    exact State.reportRow_keep (.of hm) k0
  clear_value v2
  have h6 : Keep msk sa v3 := by
    unfold v3
    exact State.patrolObject_keep (.of hm) h5
  clear_value v3
  have h7 : Keep msk sa v4 := by
    unfold v4
    refine keep_ite ?_ ?_
    · intro x8
      exact h6
    · intro x9
      exact State.clearEcc_keep (.of hm) h6
  clear_value v4
  split
  · rename_i z10
    exact State.patrolNode_keep (.of hm) k0
  · rename_i z11
    exact State.patrolEdge_keep (.of hm) k0
  · rename_i z12
    exact State.damageGen_keep (.of hm) k0
  · rename_i z13
    exact State.damageSeq_keep (.of hm) k0
  · rename_i z14
    exact State.reportSem_keep (.of hm) k0
  · rename_i z15
    exact State.checkLevel_keep (.of hm) k0
  · rename_i z16 z17 z18 z19 z20 z21 z22
    refine keep_ite ?_ ?_
    · intro x23
      exact State.blockRestart_keep (.of hm) h7
    · intro x24
      exact h7

theorem State.patrol_keep {s : State} {tid : Nat} {w : Nat} (hm : Sub 234880756 msk) (k0 : Keep msk sa s) :
    Keep msk sa (@State.patrol s tid w) := by
  unfold State.patrol
  extract_lets v0 v1 v2
  clear_value v0
  clear_value v1
  have h3 : Keep msk sa v2 := by
    unfold v2
    refine keep_ite ?_ ?_
    · intro x4
      exact State.setRow_keep (.of hm) k0
    · intro x5
      exact State.clearEcc_keep (.of hm) k0
  clear_value v2
  split
  · rename_i z6 z7
    exact k0
  · rename_i z8 z9 z10
    exact k0
  · rename_i z11 z12 z13
    exact State.reportRow_keep (.of hm) (State.clearEcc_keep (.of hm) k0)
  · rename_i z14 z15 z16 z17 z18
    refine keep_ite ?_ ?_
    · intro x19
      exact State.reportRow_keep (.of hm) h3
    · intro x20
      exact State.patrolBad_keep (.of hm) k0

theorem execPatrolRead_keep {table : Nat} {word : Nat} {s : State} (hm : Sub 234880756 msk) (k0 : Keep msk sa s) :
    KeepO msk sa (@execPatrolRead table word s) := by
  unfold execPatrolRead
  refine keepO_next ?_
  refine keep_ite ?_ ?_
  · intro x0
    exact State.patrol_keep (.of hm) k0
  · intro x1
    exact k0

theorem execPatrolPassEnd_keep {s : State} (hm : Sub 12582928 msk) (k0 : Keep msk sa s) :
    KeepO msk sa (@execPatrolPassEnd s) := by
  unfold execPatrolPassEnd
  refine keepO_next ?_
  refine keep_ite ?_ ?_
  · intro x0
    exact k0
  · intro x1
    refine keep_ite ?_ ?_
    · intro x2
      extract_lets v3 v4
      have h5 : Keep msk sa v3 := by
        unfold v3
        exact State.reportPlain_keep (.of hm) k0
      clear_value v3
      clear_value v4
      exact keep_mk 4194304 (.of hm) h5
    · intro x6
      exact keep_mk 4194304 (.of hm) k0

theorem State.crcPass_keep {s : State} (hm : Sub 12582928 msk) (k0 : Keep msk sa s) :
    Keep msk sa (@State.crcPass s) := by
  unfold State.crcPass
  extract_lets v0 v1 v2 v3 v4 v5 v6
  clear_value v0
  have h7 : Keep msk sa v1 := by
    unfold v1
    exact State.setRf_keep (.of hm) (State.setRf_keep (.of hm) k0)
  clear_value v1
  have h8 : Keep msk sa v2 := by
    unfold v2
    exact State.setRf_keep (.of hm) h7
  clear_value v2
  clear_value v3
  have h9 : Keep msk sa v4 := by
    unfold v4
    exact State.setRf_keep (.of hm) h7
  clear_value v4
  have h10 : Keep msk sa v5 := by
    unfold v5
    exact State.incRf_keep (.of hm) (State.reportPlain_keep (.of hm) h9)
  clear_value v5
  clear_value v6
  refine keep_ite ?_ ?_
  · intro x11
    exact keep_mk 4194304 (.of hm) h8
  · intro x12
    refine keep_ite ?_ ?_
    · intro x13
      exact keep_mk 4194304 (.of hm) h7
    · intro x14
      refine keep_ite ?_ ?_
      · intro x15
        exact h9
      · intro x16
        exact keep_mk 4194304 (.of hm) h10

theorem execCrcPassEnd_keep {s : State} (hm : Sub 12582928 msk) (k0 : Keep msk sa s) :
    KeepO msk sa (@execCrcPassEnd s) := by
  unfold execCrcPassEnd
  refine keepO_next ?_
  refine keep_ite ?_ ?_
  · intro x0
    exact State.crcPass_keep (.of hm) k0
  · intro x1
    exact k0

theorem State.updLog_keep {s : State} {i : Nat} {f : LogEnt → LogEnt} (hm : Sub 4194304 msk) (k0 : Keep msk sa s) :
    Keep msk sa (@State.updLog s i f) := by
  unfold State.updLog
  exact keep_mk 4194304 (.of hm) k0

theorem State.glean_keep {s : State} (hm : Sub 4194320 msk) (k0 : Keep msk sa s) :
    Keep msk sa (@State.glean s) := by
  unfold State.glean
  split
  · rename_i z0 z1
    exact k0
  · rename_i z2 z3 z4 z5
    extract_lets v6 v7 v8
    clear_value v6
    have h9 : Keep msk sa v7 := by
      unfold v7
      exact keep_mk 4194304 (.of hm) k0
    clear_value v7
    clear_value v8
    split
    · rename_i z10 z11 z12
      exact State.updLog_keep (.of hm) h9
    · rename_i z13 z14
      split
      · rename_i z15 z16 z17
        extract_lets v18
        clear_value v18
        exact keep_mk 4194304 (.of hm) h9
      · rename_i z19 z20
        exact State.setRf_keep (.of hm) (State.incRf_keep (.of hm) h9)

theorem State.takeReports_keep {s : State} (hm : Sub 4194324 msk) (k0 : Keep msk sa s) :
    Keep msk sa (@State.takeReports s) := by
  unfold State.takeReports
  exact State.glean_keep (.of hm) (State.glean_keep (.of hm) (State.glean_keep (.of hm) (State.glean_keep (.of hm) (keep_mk 4 (.of hm) k0))))

theorem execGleanerIntake_keep {s : State} (hm : Sub 215744223 msk) (k0 : Keep msk sa s) :
    KeepO msk sa (@execGleanerIntake s) := by
  unfold execGleanerIntake
  extract_lets v0
  have h1 : Keep msk sa v0 := by
    unfold v0
    exact State.nextCcIf_keep (.of hm) k0
  clear_value v0
  refine keepO_next ?_
  refine keep_ite ?_ ?_
  · intro x2
    exact State.takeReports_keep (.of hm) h1
  · intro x3
    exact h1

theorem State.gleanerFailed_keep {s : State} {i : Nat} (hm : Sub 146800656 msk) (k0 : Keep msk sa s) :
    Keep msk sa (@State.gleanerFailed s i) := by
  unfold State.gleanerFailed
  extract_lets v0 v1
  clear_value v0
  have h2 : Keep msk sa v1 := by
    unfold v1
    exact State.updLog_keep (.of hm) k0
  clear_value v1
  refine keep_ite ?_ ?_
  · intro x3
    exact h2
  · intro x4
    exact State.reportPlain_keep (.of hm) (State.openEpisode_keep (.of hm) h2)

theorem State.gleanerAnswered_keep {s : State} {i : Nat} {ok : Bool} (hm : Sub 146800656 msk) (k0 : Keep msk sa s) :
    Keep msk sa (@State.gleanerAnswered s i ok) := by
  unfold State.gleanerAnswered
  refine keep_ite ?_ ?_
  · intro x0
    exact State.gleanerFailed_keep (.of hm) k0
  · intro x1
    exact State.closeEpisode_keep (.of hm) (keep_mk 4194304 (.of hm) k0)

theorem State.gleanerWrite_keep {s : State} {e : LogEnt} (hm : Sub 147849808 msk) (k0 : Keep msk sa s) :
    Keep msk sa (@State.gleanerWrite s e) := by
  unfold State.gleanerWrite
  extract_lets v0 v1 v2
  clear_value v0
  clear_value v1
  have h3 : Keep msk sa v2 := by
    unfold v2
    exact State.updLog_keep (.of hm) k0
  clear_value v2
  split
  · rename_i z4 z5 z6
    have h7 : Keep msk sa z5 := by
      refine keepP_eq z6 ?_
      exact State.mmWrite_keep (.of hm) h3
    exact h7
  · rename_i z8 z9 z10
    have h11 : Keep msk sa z9 := by
      refine keepP_eq z10 ?_
      exact State.mmWrite_keep (.of hm) h3
    exact State.gleanerFailed_keep (.of hm) h11

theorem execGleanerEntryClose_keep {s : State} (hm : Sub 147849808 msk) (k0 : Keep msk sa s) :
    KeepO msk sa (@execGleanerEntryClose s) := by
  unfold execGleanerEntryClose
  split
  · rename_i z0 z1
    exact keepO_next k0
  · rename_i z2 z3 z4
    extract_lets v5 v6
    refine keepO_next ?_
    refine keep_ite ?_ ?_
    · intro x7
      exact k0
    · intro x8
      exact State.gleanerWrite_keep (.of hm) (State.setRf_keep (.of hm) k0)

theorem execGleanerWriteRetry_keep {s : State} (hm : Sub 147849808 msk) (k0 : Keep msk sa s) :
    KeepO msk sa (@execGleanerWriteRetry s) := by
  unfold execGleanerWriteRetry
  split
  · rename_i z0 z1
    exact keepO_next k0
  · rename_i z2 z3 z4
    refine keepO_next ?_
    refine keep_ite ?_ ?_
    · intro x5
      exact State.gleanerWrite_keep (.of hm) k0
    · intro x6
      exact k0

theorem State.clearCapture_keep {s : State} {a : Nat} (hm : Sub 16 msk) (k0 : Keep msk sa s) :
    Keep msk sa (@State.clearCapture s a) := by
  unfold State.clearCapture
  refine keep_foldl ?_ ?_
  · exact k0
  · intro x0 x1 x2
    exact State.setReg_keep (.of hm) x2

theorem execCaptureClrFirst_keep {s : State} (hm : Sub 1048848 msk) (k0 : Keep msk sa s) :
    KeepO msk sa (@execCaptureClrFirst s) := by
  unfold execCaptureClrFirst
  refine keepO_next ?_
  refine State.regInput_keep (.of hm) ?_ ?_
  · exact k0
  · intro x0 x1
    exact State.clearCapture_keep (.of hm) x1

theorem execCaptureClrLast_keep {s : State} (hm : Sub 1048848 msk) (k0 : Keep msk sa s) :
    KeepO msk sa (@execCaptureClrLast s) := by
  unfold execCaptureClrLast
  refine keepO_next ?_
  refine State.regInput_keep (.of hm) ?_ ?_
  · exact k0
  · intro x0 x1
    exact State.clearCapture_keep (.of hm) x1

theorem execCaptureClrWorst_keep {s : State} (hm : Sub 1048848 msk) (k0 : Keep msk sa s) :
    KeepO msk sa (@execCaptureClrWorst s) := by
  unfold execCaptureClrWorst
  refine keepO_next ?_
  refine State.regInput_keep (.of hm) ?_ ?_
  · exact k0
  · intro x0 x1
    exact State.clearCapture_keep (.of hm) x1

/-! ### Machine/Spill.lean -/

theorem State.startJob_keep {s : State} {restore : Bool} {i : Nat} {k : Nat} (hm : Sub 148635348 msk) (k0 : Keep msk sa s) :
    Keep msk sa (@State.startJob s restore i k) := by
  unfold State.startJob
  extract_lets v0 v1 v2 v3 v4
  clear_value v0
  clear_value v1
  clear_value v2
  clear_value v3
  have h5 : Keep msk sa v4 := by
    unfold v4
    exact keep_mk 524288 (.of hm) k0
  clear_value v4
  split
  · rename_i z6 z7 z8
    have h9 : Keep msk sa z7 := by
      refine keepP_eq z8 ?_
      exact State.mmWrite_keep (.of hm) h5
    exact h9
  · rename_i z10 z11 z12
    have h13 : Keep msk sa z11 := by
      refine keepP_eq z12 ?_
      exact State.mmWrite_keep (.of hm) h5
    exact State.failJob_keep (.of hm) h13

theorem State.jobWritten_keep {s : State} {k : Nat} {gen : Nat} {ok : Bool} (hm : Sub 148635348 msk) (k0 : Keep msk sa s) :
    Keep msk sa (@State.jobWritten s k gen ok) := by
  unfold State.jobWritten
  refine keep_ite ?_ ?_
  · intro x0
    exact State.offerJobs_keep (.of hm) (State.updJob_keep (.of hm) k0)
  · intro x1
    exact State.failJob_keep (.of hm) k0

theorem State.beginSpill_keep {s : State} {i : Nat} (hm : Sub 148635348 msk) (k0 : Keep msk sa s) :
    Keep msk sa (@State.beginSpill s i) := by
  unfold State.beginSpill
  split
  · rename_i z0 z1
    exact k0
  · rename_i z2 z3 z4
    extract_lets v5 v6
    clear_value v5
    have h7 : Keep msk sa v6 := by
      unfold v6
      exact State.closeEpisode_keep (.of hm) k0
    clear_value v6
    split
    · rename_i z8 z9
      refine keep_ite ?_ ?_
      · intro x10
        exact k0
      · intro x11
        exact State.reportPlain_keep (.of hm) (State.openEpisode_keep (.of hm) k0)
    · rename_i z12 z13 z14
      exact State.startJob_keep (.of hm) (State.setRm_keep (.of hm) (State.setClaim_keep (.of hm) h7))

theorem execSpillStart_keep {claim : Nat} {s : State} (hm : Sub 148635348 msk) (k0 : Keep msk sa s) :
    KeepO msk sa (@execSpillStart claim s) := by
  unfold execSpillStart
  refine keepO_ite ?_ ?_
  · intro x0
    exact keepO_next k0
  · intro x1
    exact keepO_next (State.beginSpill_keep (.of hm) k0)

theorem execRestoreStart_keep {claim : Nat} {s : State} (hm : Sub 148635348 msk) (k0 : Keep msk sa s) :
    KeepO msk sa (@execRestoreStart claim s) := by
  unfold execRestoreStart
  refine keepO_ite ?_ ?_
  · intro x0
    exact keepO_next k0
  · intro x1
    split
    · rename_i z2 z3
      exact keepO_next k0
    · rename_i z4 z5 z6
      exact keepO_next (State.startJob_keep (.of hm) (State.setClaim_keep (.of hm) k0))

/-! ### Machine/MmPort.lean -/

theorem State.paramData_keep {s : State} {slot : Nat} {launchId : Nat} {ok : Bool} {d : List Word} (hm : Sub 148635348 msk) (k0 : Keep msk sa s) :
    Keep msk sa (@State.paramData s slot launchId ok d) := by
  unfold State.paramData
  refine keep_ite ?_ ?_
  · intro x0
    exact k0
  · intro x1
    refine keep_ite ?_ ?_
    · intro x2
      exact State.killWith_keep (.of hm) k0
    · intro x3
      refine keep_ite ?_ ?_
      · intro x4
        exact State.killWith_keep (.of hm) k0
      · intro x5
        exact State.setParamReady_keep (.of hm) k0

theorem State.spawnData_keep {s : State} {id : Nat} {ok : Bool} {d : List Word} (hm : Sub 148635348 msk) (k0 : Keep msk sa s) :
    Keep msk sa (@State.spawnData s id ok d) := by
  unfold State.spawnData
  split
  · rename_i z0 z1
    exact k0
  · rename_i z2 z3 z4
    extract_lets v5 v6 v7
    clear_value v6
    clear_value v7
    refine keep_ite ?_ ?_
    · intro x8
      unfold v5
      exact keep_mk 4096 (.of hm) k0
    · intro x9
      refine keep_ite ?_ ?_
      · intro x10
        refine State.killWith_keep (.of hm) ?_
        unfold v5
        exact keep_mk 4096 (.of hm) k0
      · intro x11
        refine keep_ite ?_ ?_
        · intro x12
          refine State.killWith_keep (.of hm) ?_
          unfold v5
          exact keep_mk 4096 (.of hm) k0
        · intro x13
          exact keep_mk 4096 (.of hm) k0

theorem State.replyWritten_keep {s : State} {irqPart : Option Nat} {part : Nat} {ok : Bool} (hm : Sub 12582928 msk) (k0 : Keep msk sa s) :
    Keep msk sa (@State.replyWritten s irqPart part ok) := by
  unfold State.replyWritten
  extract_lets v0
  have h1 : Keep msk sa v0 := by
    unfold v0
    refine keep_ite ?_ ?_
    · intro x2
      exact k0
    · intro x3
      exact State.reportPlain_keep (.of hm) (State.incRf_keep (.of hm) k0)
  clear_value v0
  split
  · rename_i z4 z5
    exact State.setCmpl_keep (.of hm) h1
  · rename_i z6
    exact h1

theorem State.mmDone_keep {s : State} {x : MmXfer} {ok : Bool} {ws : List Word} (hm : Sub 150732532 msk) (k0 : Keep msk sa s) :
    Keep msk sa (@State.mmDone s x ok ws) := by
  unfold State.mmDone
  split
  · rename_i z0 z1 z2 z3 z4 z5
    exact State.ringData_keep (.of hm) k0
  · rename_i z6 z7
    exact State.ctxDescData_keep (.of hm) k0
  · rename_i z8 z9 z10 z11
    exact State.tmplData_keep (.of hm) k0
  · rename_i z12 z13 z14 z15
    exact State.tmplData_keep (.of hm) k0
  · rename_i z16 z17 z18 z19
    exact State.paramData_keep (.of hm) k0
  · rename_i z20 z21 z22
    exact State.spawnData_keep (.of hm) k0
  · rename_i z23 z24 z25 z26 z27
    exact State.replyWritten_keep (.of hm) k0
  · rename_i z28 z29 z30 z31
    exact k0
  · rename_i z32 z33 z34 z35
    exact State.streamDesc_keep (.of hm) k0
  · rename_i z36 z37 z38 z39
    exact State.workWritten_keep (.of hm) k0
  · rename_i z40 z41 z42 z43
    exact State.resultsRead_keep (.of hm) k0
  · rename_i z44 z45 z46 z47 z48 z49 z50 z51
    exact State.passWritten_keep (.of hm) k0
  · rename_i z52 z53 z54
    exact State.eraData_keep (.of hm) k0
  · rename_i z55 z56 z57
    exact State.eraData_keep (.of hm) k0
  · rename_i z58 z59 z60
    exact State.chaff_keep (.of hm) k0
  · rename_i z61 z62 z63 z64 z65 z66 z67
    exact State.eraWritten_keep (.of hm) k0
  · rename_i z68 z69 z70
    refine keep_ite ?_ ?_
    · intro x71
      exact k0
    · intro x72
      exact State.granaryWriteBad_keep (.of hm) k0
  · rename_i z73 z74 z75 z76 z77
    exact State.refillData_keep (.of hm) k0
  · rename_i z78 z79 z80 z81
    exact State.jobWritten_keep (.of hm) k0
  · rename_i z82 z83
    refine keep_ite ?_ ?_
    · intro x84
      exact k0
    · intro x85
      exact State.logFailed_keep (.of hm) k0
  · rename_i z86 z87
    exact State.replayData_keep (.of hm) k0
  · rename_i z88 z89 z90
    exact State.ckptEnd_keep (.of hm) k0
  · rename_i z91 z92 z93 z94
    exact State.acctAnswered_keep (.of hm) k0
  · rename_i z95 z96 z97
    exact State.scrubbed_keep (.of hm) k0
  · rename_i z98 z99 z100
    exact State.gleanerAnswered_keep (.of hm) k0
  · rename_i z101 z102 z103
    refine keep_ite ?_ ?_
    · intro x104
      exact State.closeEpisode_keep (.of hm) k0
    · intro x105
      exact State.traceWriteFailed_keep (.of hm) k0
  · rename_i z106 z107
    exact k0

theorem State.mmEnd_keep {s : State} {x : MmXfer} {status : Nat} {ws : List Word} (hm : Sub 150732532 msk) (k0 : Keep msk sa s) :
    Keep msk sa (@State.mmEnd s x status ws) := by
  unfold State.mmEnd
  extract_lets v0 v1 v2 v3 v4
  clear_value v0
  have h5 : Keep msk sa v1 := by
    unfold v1
    exact keep_mk 512 (.of hm) k0
  clear_value v1
  have h6 : Keep msk sa v2 := by
    unfold v2
    refine keep_ite ?_ ?_
    · intro x7
      exact State.mmError_keep (.of hm) h5
    · intro x8
      exact h5
  clear_value v2
  clear_value v3
  have h9 : Keep msk sa v4 := by
    unfold v4
    refine keep_ite ?_ ?_
    · intro x10
      exact State.mmDone_keep (.of hm) h6
    · intro x11
      split
      · rename_i z12 z13 z14
        have h15 : Keep msk sa z13 := by
          refine keepP_eq z14 ?_
          exact State.mmNext_keep (.of hm) h6
        exact h15
      · rename_i z16 z17 z18
        have h19 : Keep msk sa z17 := by
          refine keepP_eq z18 ?_
          exact State.mmNext_keep (.of hm) h6
        exact State.mmDone_keep (.of hm) h19
  clear_value v4
  exact State.mmRetry_keep (.of hm) h9

theorem State.readBeat_keep {s : State} {tag : Nat} {status : Nat} {last : Bool} {data : List Word} (hm : Sub 150732532 msk) (k0 : Keep msk sa s) :
    Keep msk sa (@State.readBeat s tag status last data) := by
  unfold State.readBeat
  split
  · rename_i z0 z1
    exact k0
  · rename_i z2 z3 z4
    extract_lets v5 v6 v7
    clear_value v5
    clear_value v6
    clear_value v7
    refine keep_ite ?_ ?_
    · intro x8
      exact State.mmEnd_keep (.of hm) k0
    · intro x9
      exact keep_mk 512 (.of hm) k0

theorem State.writeDone_keep {s : State} {tag : Nat} {status : Nat} (hm : Sub 150732532 msk) (k0 : Keep msk sa s) :
    Keep msk sa (@State.writeDone s tag status) := by
  unfold State.writeDone
  split
  · rename_i z0 z1
    exact k0
  · rename_i z2 z3 z4
    exact State.mmEnd_keep (.of hm) k0

theorem State.readArrive_keep {s : State} {tag : Nat} {status : Nat} {last : Bool} {data : List Word} (hm : Sub 217841407 msk) (k0 : Keep msk sa s) :
    Keep msk sa (@State.readArrive s tag status last data) := by
  unfold State.readArrive
  refine State.readBeat_keep (.of hm) ?_
  refine keep_ite ?_ ?_
  · intro x0
    exact State.hubTurn_keep (.of hm) k0
  · intro x1
    exact k0

theorem execMmReadData_keep {tag : Nat} {status : Nat} {last : Bool} {data : List (BitVec 32)} {s : State} (hm : Sub 217841407 msk) (k0 : Keep msk sa s) :
    KeepO msk sa (@execMmReadData tag status last data s) := by
  unfold execMmReadData
  refine keepO_ite ?_ ?_
  · intro x0
    exact keepO_next (State.readBeat_keep (.of hm) k0)
  · intro x1
    refine keepO_next ?_
    refine State.input_keep (.of hm) ?_ ?_
    · exact k0
    · intro x2 x3
      exact State.readArrive_keep (.of hm) x3

theorem execMmWriteCompletion_keep {tag : Nat} {status : Nat} {s : State} (hm : Sub 150732532 msk) (k0 : Keep msk sa s) :
    KeepO msk sa (@execMmWriteCompletion tag status s) := by
  unfold execMmWriteCompletion
  refine keepO_next ?_
  refine State.input_keep (.of hm) ?_ ?_
  · exact k0
  · intro x0 x1
    exact State.writeDone_keep (.of hm) x1

/-! ### Machine/Units.lean -/

theorem State.unlockWrite_keep {s : State} {d : Word} (hm : Sub 272 msk) (k0 : Keep msk sa s) :
    Keep msk sa (@State.unlockWrite s d) := by
  unfold State.unlockWrite
  refine keep_ite ?_ ?_
  · intro x0
    exact keep_mk 256 (.of hm) k0
  · intro x1
    extract_lets v2 v3
    have h4 : Keep msk sa v2 := by
      unfold v2
      exact State.setRf_keep (.of hm) k0
    clear_value v2
    clear_value v3
    exact keep_mk 256 (.of hm) h4

theorem State.lkWrite_keep {s : State} {f : State → State} (hm : Sub 272 msk) (k0 : Keep msk sa s) (k1 : ∀ (a : State), Keep msk sa a → Keep msk sa (f a)) :
    Keep msk sa (@State.lkWrite s f) := by
  unfold State.lkWrite
  extract_lets v0 v1
  have h2 : Keep msk sa v0 := by
    unfold v0
    exact State.expireUnlock_keep (.of hm) k0
  clear_value v0
  clear_value v1
  refine keep_ite ?_ ?_
  · intro x3
    refine k1 _ ?_
    exact keep_mk 256 (.of hm) h2
  · intro x4
    exact State.setRf_keep (.of hm) h2

theorem State.enableRefused_keep {s : State} {u : Nat} {on : Bool} {stopping : Bool} (hm : Sub 12582928 msk) (k0 : Keep msk sa s) :
    Keep msk sa (@State.enableRefused s u on stopping) := by
  unfold State.enableRefused
  exact State.setRf_keep (.of hm) (State.report_keep (.of hm) k0)

theorem State.limitPool_keep {s : State} (hm : Sub 12582928 msk) (k0 : Keep msk sa s) :
    Keep msk sa (@State.limitPool s) := by
  unfold State.limitPool
  extract_lets v0
  clear_value v0
  refine keep_ite ?_ ?_
  · intro x1
    exact k0
  · intro x2
    exact State.reportPlain_keep (.of hm) (State.setRf_keep (.of hm) (State.setRf_keep (.of hm) k0))

theorem State.unitBegins_keep {s : State} {u : Nat} (hm : Sub 148111568 msk) (k0 : Keep msk sa s) :
    Keep msk sa (@State.unitBegins s u) := by
  unfold State.unitBegins
  split
  · rename_i z0
    exact State.zeroSems_keep (.of hm) k0
  · rename_i z1
    exact State.limitPool_keep (.of hm) k0
  · rename_i z2
    exact keep_mk 262144 (.of hm) k0
  · rename_i z3
    exact keep_mk 4194304 (.of hm) k0
  · rename_i z4
    exact keep_mk 8388608 (.of hm) k0
  · rename_i z5
    extract_lets v6 v7 v8 v9
    have h10 : Keep msk sa v6 := by
      unfold v6
      exact State.closeEpisode_keep (.of hm) k0
    clear_value v6
    have h11 : Keep msk sa v7 := by
      unfold v7
      exact State.setRf_keep (.of hm) (State.setRf_keep (.of hm) h10)
    clear_value v7
    have h12 : Keep msk sa v8 := by
      unfold v8
      exact State.setRf_keep (.of hm) h11
    clear_value v8
    clear_value v9
    exact keep_mk 1048576 (.of hm) h12
  · rename_i z13 z14 z15 z16 z17 z18 z19
    exact k0

theorem State.enableUnit_keep {s : State} {u : Nat} (hm : Sub 148111568 msk) (k0 : Keep msk sa s) :
    Keep msk sa (@State.enableUnit s u) := by
  unfold State.enableUnit
  refine keep_ite ?_ ?_
  · intro x0
    exact k0
  · intro x1
    refine keep_ite ?_ ?_
    · intro x2
      exact State.enableRefused_keep (.of hm) k0
    · intro x3
      refine keep_ite ?_ ?_
      · intro x4
        exact State.unitBegins_keep (.of hm) (State.setRf_keep (.of hm) k0)
      · intro x5
        exact State.enableRefused_keep (.of hm) k0

theorem State.failAllJobs_keep {s : State} (hm : Sub 148635348 msk) (k0 : Keep msk sa s) :
    Keep msk sa (@State.failAllJobs s) := by
  unfold State.failAllJobs
  refine keep_foldl ?_ ?_
  · exact k0
  · intro x0 x1 x2
    exact State.failJob_keep (.of hm) x2

theorem State.unitEnds_keep {s : State} {u : Nat} (hm : Sub 148635348 msk) (k0 : Keep msk sa s) :
    Keep msk sa (@State.unitEnds s u) := by
  unfold State.unitEnds
  split
  · rename_i z0
    exact State.failAllJobs_keep (.of hm) k0
  · rename_i z1
    exact State.failAllJobs_keep (.of hm) k0
  · rename_i z2
    extract_lets v3 v4
    have h5 : Keep msk sa v3 := by
      unfold v3
      exact State.clearSmCounters_keep (.of hm) k0
    clear_value v3
    clear_value v4
    exact keep_mk 16384 (.of hm) h5
  · rename_i z6
    exact State.setRf_keep (.of hm) k0
  · rename_i z7 z8 z9 z10 z11
    exact k0

theorem State.disableUnit_keep {s : State} {u : Nat} (hm : Sub 148635348 msk) (k0 : Keep msk sa s) :
    Keep msk sa (@State.disableUnit s u) := by
  unfold State.disableUnit
  refine keep_ite ?_ ?_
  · intro x0
    exact k0
  · intro x1
    refine keep_ite ?_ ?_
    · intro x2
      exact State.enableRefused_keep (.of hm) k0
    · intro x3
      extract_lets v4 v5
      have h6 : Keep msk sa v4 := by
        unfold v4
        exact State.setRf_keep (.of hm) k0
      clear_value v4
      have h7 : Keep msk sa v5 := by
        unfold v5
        exact State.setRf_keep (.of hm) h6
      clear_value v5
      exact State.unitEnds_keep (.of hm) (State.setRf_keep (.of hm) h7)

theorem State.unitEnWrite_keep {s : State} {d : Word} (hm : Sub 148897492 msk) (k0 : Keep msk sa s) :
    Keep msk sa (@State.unitEnWrite s d) := by
  unfold State.unitEnWrite
  extract_lets v0 v1
  have h2 : Keep msk sa v1 := by
    unfold v1
    refine keep_foldl ?_ ?_
    · exact k0
    · intro x3 x4 x5
      exact State.enableUnit_keep (.of hm) x5
  clear_value v1
  refine keep_foldl ?_ ?_
  · exact h2
  · intro x6 x7 x8
    exact State.disableUnit_keep (.of hm) x8

theorem execUnitReady_keep {unit : Nat} {s : State} (hm : Sub 16 msk) (k0 : Keep msk sa s) :
    KeepO msk sa (@execUnitReady unit s) := by
  unfold execUnitReady
  extract_lets v0
  clear_value v0
  refine keepO_next ?_
  refine keep_ite ?_ ?_
  · intro x1
    exact State.setRf_keep (.of hm) k0
  · intro x2
    exact k0

theorem execUnitStopped_keep {unit : Nat} {s : State} (hm : Sub 16 msk) (k0 : Keep msk sa s) :
    KeepO msk sa (@execUnitStopped unit s) := by
  unfold execUnitStopped
  extract_lets v0
  clear_value v0
  refine keepO_next ?_
  refine keep_ite ?_ ?_
  · intro x1
    exact State.setRf_keep (.of hm) k0
  · intro x2
    exact k0

theorem execGlbUnlockWrite_keep {data : BitVec 32} {s : State} (hm : Sub 1048848 msk) (k0 : Keep msk sa s) :
    KeepO msk sa (@execGlbUnlockWrite data s) := by
  unfold execGlbUnlockWrite
  refine keepO_next ?_
  refine State.regInput_keep (.of hm) ?_ ?_
  · exact k0
  · intro x0 x1
    exact State.unlockWrite_keep (.of hm) x1

theorem execUnlockExpired_keep {s : State} (hm : Sub 272 msk) (k0 : Keep msk sa s) :
    KeepO msk sa (@execUnlockExpired s) := by
  unfold execUnlockExpired
  exact keepO_next (State.expireUnlock_keep (.of hm) k0)

theorem execGlbUnitEnWrite_keep {data : BitVec 32} {s : State} (hm : Sub 148897748 msk) (k0 : Keep msk sa s) :
    KeepO msk sa (@execGlbUnitEnWrite data s) := by
  unfold execGlbUnitEnWrite
  refine keepO_next ?_
  refine State.regInput_keep (.of hm) ?_ ?_
  · exact k0
  · intro x0 x1
    refine State.lkWrite_keep (.of hm) ?_ ?_
    · exact x1
    · intro x2 x3
      exact State.unitEnWrite_keep (.of hm) x3

theorem execGlbCrcRefWrite_keep {data : BitVec 32} {s : State} (hm : Sub 1048848 msk) (k0 : Keep msk sa s) :
    KeepO msk sa (@execGlbCrcRefWrite data s) := by
  unfold execGlbCrcRefWrite
  refine keepO_next ?_
  refine State.regInput_keep (.of hm) ?_ ?_
  · exact k0
  · intro x0 x1
    refine State.lkWrite_keep (.of hm) ?_ ?_
    · exact x1
    · intro x2 x3
      exact State.setReg_keep (.of hm) x3

/-! ### Machine/Window.lean -/

theorem State.cfgIgnored_keep {s : State} {u : Nat} (hm : Sub 12582928 msk) (k0 : Keep msk sa s) :
    Keep msk sa (@State.cfgIgnored s u) := by
  unfold State.cfgIgnored
  exact State.reportPlain_keep (.of hm) (State.setRf_keep (.of hm) k0)

theorem State.putWord_keep {s : State} {k : Nat} {mask : Word} {d : Word} (hm : Sub 192 msk) (k0 : Keep msk sa s) :
    Keep msk sa (@State.putWord s k mask d) := by
  unfold State.putWord
  extract_lets v0
  have h1 : Keep msk sa v0 := by
    unfold v0
    exact keep_mk 128 (.of hm) k0
  clear_value v0
  exact State.setRam_keep (.of hm) h1

theorem State.writeSheaf_keep {s : State} {w : Nat} {d : Word} (hm : Sub 12583120 msk) (k0 : Keep msk sa s) :
    Keep msk sa (@State.writeSheaf s w d) := by
  unfold State.writeSheaf
  refine keep_ite ?_ ?_
  · intro x0
    exact State.cfgIgnored_keep (.of hm) k0
  · intro x1
    exact State.putWord_keep (.of hm) k0

theorem State.writeStook_keep {s : State} {w : Nat} {d : Word} (hm : Sub 192 msk) (k0 : Keep msk sa s) :
    Keep msk sa (@State.writeStook s w d) := by
  unfold State.writeStook
  refine keep_ite ?_ ?_
  · intro x0
    exact k0
  · intro x1
    exact State.putWord_keep (.of hm) k0

theorem State.writeRxq_keep {s : State} {w : Nat} {d : Word} (hm : Sub 12616400 msk) (k0 : Keep msk sa s) :
    Keep msk sa (@State.writeRxq s w d) := by
  unfold State.writeRxq
  extract_lets v0 v1 v2 v3 v4 v5
  clear_value v0
  clear_value v1
  clear_value v2
  clear_value v3
  clear_value v4
  have h6 : Keep msk sa v5 := by
    unfold v5
    exact State.putWord_keep (.of hm) k0
  clear_value v5
  refine keep_ite ?_ ?_
  · intro x7
    exact k0
  · intro x8
    refine keep_ite ?_ ?_
    · intro x9
      refine keep_ite ?_ ?_
      · intro x10
        exact State.emptyRxq_keep (.of hm) (State.setRm_keep (.of hm) (State.putWord_keep (.of hm) k0))
      · intro x11
        exact k0
    · intro x12
      refine keep_ite ?_ ?_
      · intro x13
        refine keep_ite ?_ ?_
        · intro x14
          exact State.emptyRxq_keep (.of hm) (State.setRam_keep (.of hm) (State.setRam_keep (.of hm) (State.setRam_keep (.of hm) h6)))
        · intro x15
          exact State.reportPlain_keep (.of hm) (State.putWord_keep (.of hm) k0)
      · intro x16
        exact State.putWord_keep (.of hm) k0

theorem State.writeRoute_keep {s : State} {w : Nat} {d : Word} (hm : Sub 192 msk) (k0 : Keep msk sa s) :
    Keep msk sa (@State.writeRoute s w d) := by
  unfold State.writeRoute
  extract_lets v0 v1 v2 v3 v4
  clear_value v0
  clear_value v1
  clear_value v2
  clear_value v3
  have h5 : Keep msk sa v4 := by
    unfold v4
    exact State.putWord_keep (.of hm) k0
  clear_value v4
  refine keep_ite ?_ ?_
  · intro x6
    exact k0
  · intro x7
    refine keep_ite ?_ ?_
    · intro x8
      exact k0
    · intro x9
      refine keep_ite ?_ ?_
      · intro x10
        exact State.setRm_keep (.of hm) h5
      · intro x11
        exact h5

theorem State.writeLayer_keep {s : State} {w : Nat} {d : Word} (hm : Sub 12583120 msk) (k0 : Keep msk sa s) :
    Keep msk sa (@State.writeLayer s w d) := by
  unfold State.writeLayer
  extract_lets v0 v1 v2 v3 v4
  clear_value v0
  clear_value v1
  clear_value v2
  clear_value v3
  clear_value v4
  refine keep_ite ?_ ?_
  · intro x5
    exact State.cfgIgnored_keep (.of hm) k0
  · intro x6
    refine keep_ite ?_ ?_
    · intro x7
      exact State.setRm_keep (.of hm) (State.putWord_keep (.of hm) k0)
    · intro x8
      refine keep_ite ?_ ?_
      · intro x9
        exact State.putWord_keep (.of hm) k0
      · intro x10
        exact State.reportPlain_keep (.of hm) (State.putWord_keep (.of hm) k0)

theorem State.writeBank_keep {s : State} {tid : Nat} {w : Nat} {d : Word} (hm : Sub 12583120 msk) (k0 : Keep msk sa s) :
    Keep msk sa (@State.writeBank s tid w d) := by
  unfold State.writeBank
  extract_lets v0 v1 v2
  clear_value v0
  clear_value v1
  clear_value v2
  refine keep_ite ?_ ?_
  · intro x3
    exact State.putWord_keep (.of hm) k0
  · intro x4
    exact State.reportPlain_keep (.of hm) (State.setRf_keep (.of hm) k0)

theorem State.writeModel_keep {s : State} {tid : Nat} {w : Nat} {d : Word} (hm : Sub 12583120 msk) (k0 : Keep msk sa s) :
    Keep msk sa (@State.writeModel s tid w d) := by
  unfold State.writeModel
  refine keep_ite ?_ ?_
  · intro x0
    exact State.putWord_keep (.of hm) k0
  · intro x1
    exact State.reportPlain_keep (.of hm) (State.setRf_keep (.of hm) k0)

theorem State.writeRegulator_keep {s : State} {w : Nat} {d : Word} (hm : Sub 192 msk) (k0 : Keep msk sa s) :
    Keep msk sa (@State.writeRegulator s w d) := by
  unfold State.writeRegulator
  refine keep_ite ?_ ?_
  · intro x0
    exact k0
  · intro x1
    split
    · rename_i z2 z3
      exact State.putWord_keep (.of hm) k0
    · rename_i z4 z5
      exact State.putWord_keep (.of hm) k0
    · rename_i z6 z7 z8
      exact k0

theorem State.writeSaveSet_keep {s : State} {w : Nat} {d : Word} (hm : Sub 12583120 msk) (k0 : Keep msk sa s) :
    Keep msk sa (@State.writeSaveSet s w d) := by
  unfold State.writeSaveSet
  extract_lets v0 v1 v2
  clear_value v0
  clear_value v1
  clear_value v2
  refine keep_ite ?_ ?_
  · intro x3
    exact k0
  · intro x4
    refine keep_ite ?_ ?_
    · intro x5
      exact State.cfgIgnored_keep (.of hm) k0
    · intro x6
      exact State.putWord_keep (.of hm) k0

theorem State.writeDur_keep {s : State} {w : Nat} {d : Word} (hm : Sub 12583120 msk) (k0 : Keep msk sa s) :
    Keep msk sa (@State.writeDur s w d) := by
  unfold State.writeDur
  refine keep_ite ?_ ?_
  · intro x0
    exact State.putWord_keep (.of hm) k0
  · intro x1
    exact State.cfgIgnored_keep (.of hm) k0

theorem State.writeMap_keep {s : State} {w : Nat} {d : Word} (hm : Sub 192 msk) (k0 : Keep msk sa s) :
    Keep msk sa (@State.writeMap s w d) := by
  unfold State.writeMap
  refine keep_ite ?_ ?_
  · intro x0
    exact k0
  · intro x1
    exact State.putWord_keep (.of hm) k0

theorem State.writeTable_keep {s : State} {tid : Nat} {w : Nat} {d : Word} (hm : Sub 12616400 msk) (k0 : Keep msk sa s) :
    Keep msk sa (@State.writeTable s tid w d) := by
  unfold State.writeTable
  refine keep_ite ?_ ?_
  · intro x0
    exact k0
  · intro x1
    split
    · rename_i z2 z3 z4
      exact State.enclIgnored_keep (.of hm) k0
    · rename_i z5 z6
      split
      · rename_i z7
        exact State.writeSheaf_keep (.of hm) k0
      · rename_i z8
        exact State.writeRxq_keep (.of hm) k0
      · rename_i z9
        exact State.writeRoute_keep (.of hm) k0
      · rename_i z10
        exact State.writeStook_keep (.of hm) k0
      · rename_i z11
        exact State.writeLayer_keep (.of hm) k0
      · rename_i z12
        exact State.writeBank_keep (.of hm) k0
      · rename_i z13
        exact State.writeBank_keep (.of hm) k0
      · rename_i z14
        exact State.writeBank_keep (.of hm) k0
      · rename_i z15
        exact State.writeBank_keep (.of hm) k0
      · rename_i z16
        exact State.putWord_keep (.of hm) k0
      · rename_i z17
        exact State.writeModel_keep (.of hm) k0
      · rename_i z18
        exact State.writeModel_keep (.of hm) k0
      · rename_i z19
        exact State.writeModel_keep (.of hm) k0
      · rename_i z20
        exact State.writeModel_keep (.of hm) k0
      · rename_i z21
        exact State.writeRegulator_keep (.of hm) k0
      · rename_i z22
        exact State.writeSaveSet_keep (.of hm) k0
      · rename_i z23
        exact State.writeDur_keep (.of hm) k0
      · rename_i z24
        exact State.writeMap_keep (.of hm) k0
      · rename_i z25 z26 z27 z28 z29 z30 z31 z32 z33 z34 z35 z36 z37 z38 z39 z40 z41 z42 z43
        exact k0

theorem State.windowWrite_keep {s : State} {a : Nat} {d : Word} (hm : Sub 12616400 msk) (k0 : Keep msk sa s) :
    Keep msk sa (@State.windowWrite s a d) := by
  unfold State.windowWrite
  split
  · rename_i z0 z1 z2 z3
    exact State.writeTable_keep (.of hm) k0

/-! ### Machine/LinkCmd.lean -/

theorem State.linkCmd_keep {s : State} {i : Nat} {cmd : Nat} {ok : Bool} {act : State → State} (hm : Sub 16 msk) (k0 : Keep msk sa s) (k1 : ∀ (a : State), Keep msk sa a → Keep msk sa (act a)) :
    Keep msk sa (@State.linkCmd s i cmd ok act) := by
  unfold State.linkCmd
  refine keep_ite ?_ ?_
  · intro x0
    exact k0
  · intro x1
    extract_lets v2
    have h3 : Keep msk sa v2 := by
      unfold v2
      exact State.setReg_keep (.of hm) k0
    clear_value v2
    refine keep_ite ?_ ?_
    · intro x4
      refine k1 _ ?_
      exact h3
    · intro x5
      exact h3

theorem State.cmdDrain_keep {s : State} {i : Nat} (hm : Sub 8208 msk) (k0 : Keep msk sa s) :
    Keep msk sa (@State.cmdDrain s i) := by
  unfold State.cmdDrain
  refine State.linkCmd_keep (.of hm) ?_ ?_
  · exact k0
  · intro x0 x1
    exact State.sendCtrl_keep (.of hm) x1

theorem State.cmdSleep_keep {s : State} {i : Nat} (hm : Sub 8208 msk) (k0 : Keep msk sa s) :
    Keep msk sa (@State.cmdSleep s i) := by
  unfold State.cmdSleep
  refine State.linkCmd_keep (.of hm) ?_ ?_
  · exact k0
  · intro x0 x1
    exact State.sendCtrl_keep (.of hm) x1

theorem State.cmdPing_keep {s : State} {i : Nat} (hm : Sub 8208 msk) (k0 : Keep msk sa s) :
    Keep msk sa (@State.cmdPing s i) := by
  unfold State.cmdPing
  refine State.linkCmd_keep (.of hm) ?_ ?_
  · exact k0
  · intro x0 x1
    exact State.sendCtrl_keep (.of hm) x1

theorem State.cmdWake_keep {s : State} {i : Nat} (hm : Sub 8208 msk) (k0 : Keep msk sa s) :
    Keep msk sa (@State.cmdWake s i) := by
  unfold State.cmdWake
  refine State.linkCmd_keep (.of hm) ?_ ?_
  · exact k0
  · intro x0 x1
    exact State.wakeLink_keep (.of hm) (State.updLink_keep (.of hm) x1)

theorem State.cmdRelink_keep {s : State} {i : Nat} (hm : Sub 215744212 msk) (k0 : Keep msk sa s) :
    Keep msk sa (@State.cmdRelink s i) := by
  unfold State.cmdRelink
  refine State.linkCmd_keep (.of hm) ?_ ?_
  · exact k0
  · intro x0 x1
    extract_lets v2 v3 v4
    have h5 : Keep msk sa v2 := by
      unfold v2
      exact State.setRf_keep (.of hm) x1
    clear_value v2
    have h6 : Keep msk sa v3 := by
      unfold v3
      refine keep_ite ?_ ?_
      · intro x7
        exact State.loseLink_keep (.of hm) h5
      · intro x8
        exact State.updLink_keep (.of hm) h5
    clear_value v3
    have h9 : Keep msk sa v4 := by
      unfold v4
      exact State.setRf_keep (.of hm) h6
    clear_value v4
    refine keep_ite ?_ ?_
    · intro x10
      exact State.offerLink_keep (.of hm) h9
    · intro x11
      exact h9

theorem State.dsLinkCmd_keep {s : State} {i : Nat} {cmd : Nat} (hm : Sub 215744212 msk) (k0 : Keep msk sa s) :
    Keep msk sa (@State.dsLinkCmd s i cmd) := by
  unfold State.dsLinkCmd
  split
  · rename_i z0
    exact State.cmdDrain_keep (.of hm) k0
  · rename_i z1
    exact State.cmdSleep_keep (.of hm) k0
  · rename_i z2
    exact State.cmdPing_keep (.of hm) k0
  · rename_i z3
    exact State.cmdWake_keep (.of hm) k0
  · rename_i z4
    exact State.cmdRelink_keep (.of hm) k0
  · rename_i z5 z6 z7 z8 z9 z10
    exact k0

theorem execTaskTimeout_keep {link : Nat} {tag : BitVec 28} {s : State} (hm : Sub 12591120 msk) (k0 : Keep msk sa s) :
    KeepO msk sa (@execTaskTimeout link tag s) := by
  unfold execTaskTimeout
  extract_lets v0 v1
  clear_value v0
  clear_value v1
  refine keepO_next ?_
  split
  · rename_i z2 z3
    exact k0
  · rename_i z4 z5 z6
    extract_lets v7
    clear_value v7
    refine keep_ite ?_ ?_
    · intro x8
      exact State.reportNode_keep (.of hm) (State.killOn_keep (.of hm) k0)
    · intro x9
      exact k0

theorem execKillTimeout_keep {link : Nat} {s : State} (hm : Sub 215744212 msk) (k0 : Keep msk sa s) :
    KeepO msk sa (@execKillTimeout link s) := by
  unfold execKillTimeout
  refine keepO_next ?_
  refine keep_ite ?_ ?_
  · intro x0
    exact State.relinkLost_keep (.of hm) k0
  · intro x1
    exact k0

theorem execNoEngineTimeout_keep {node : Nat} {s : State} (hm : Sub 148635348 msk) (k0 : Keep msk sa s) :
    KeepO msk sa (@execNoEngineTimeout node s) := by
  unfold execNoEngineTimeout
  refine keepO_next ?_
  split
  · rename_i z0 z1
    exact k0
  · rename_i z2 z3 z4
    split
    · rename_i z5 z6
      exact k0
    · rename_i z7 z8 z9
      extract_lets v10 v11
      clear_value v10
      clear_value v11
      refine keep_ite ?_ ?_
      · intro x12
        exact State.killWith_keep (.of hm) (State.setNd_keep (.of hm) (State.dropReady_keep (.of hm) k0))
      · intro x13
        exact k0

theorem execLinkCmdDrain_keep {link : Nat} {s : State} (hm : Sub 1057040 msk) (k0 : Keep msk sa s) :
    KeepO msk sa (@execLinkCmdDrain link s) := by
  unfold execLinkCmdDrain
  refine keepO_next ?_
  refine State.regInput_keep (.of hm) ?_ ?_
  · exact k0
  · intro x0 x1
    exact State.cmdDrain_keep (.of hm) x1

theorem execLinkCmdSleep_keep {link : Nat} {s : State} (hm : Sub 1057040 msk) (k0 : Keep msk sa s) :
    KeepO msk sa (@execLinkCmdSleep link s) := by
  unfold execLinkCmdSleep
  refine keepO_next ?_
  refine State.regInput_keep (.of hm) ?_ ?_
  · exact k0
  · intro x0 x1
    exact State.cmdSleep_keep (.of hm) x1

theorem execLinkCmdPing_keep {link : Nat} {s : State} (hm : Sub 1057040 msk) (k0 : Keep msk sa s) :
    KeepO msk sa (@execLinkCmdPing link s) := by
  unfold execLinkCmdPing
  refine keepO_next ?_
  refine State.regInput_keep (.of hm) ?_ ?_
  · exact k0
  · intro x0 x1
    exact State.cmdPing_keep (.of hm) x1

theorem execLinkCmdWake_keep {link : Nat} {s : State} (hm : Sub 1057040 msk) (k0 : Keep msk sa s) :
    KeepO msk sa (@execLinkCmdWake link s) := by
  unfold execLinkCmdWake
  refine keepO_next ?_
  refine State.regInput_keep (.of hm) ?_ ?_
  · exact k0
  · intro x0 x1
    exact State.cmdWake_keep (.of hm) x1

theorem execLinkCmdRelink_keep {link : Nat} {s : State} (hm : Sub 215744468 msk) (k0 : Keep msk sa s) :
    KeepO msk sa (@execLinkCmdRelink link s) := by
  unfold execLinkCmdRelink
  refine keepO_next ?_
  refine State.regInput_keep (.of hm) ?_ ?_
  · exact k0
  · intro x0 x1
    exact State.cmdRelink_keep (.of hm) x1

/-! ### Machine/Era.lean -/

theorem execRouteJobStart_keep {s : State} (hm : Sub 148635348 msk) (k0 : Keep msk sa s) :
    KeepO msk sa (@execRouteJobStart s) := by
  unfold execRouteJobStart
  split
  · rename_i z0 z1
    exact keepO_next k0
  · rename_i z2 z3 z4 z5
    refine keepO_ite ?_ ?_
    · intro x6
      exact keepO_next k0
    · intro x7
      refine keepO_ite ?_ ?_
      · intro x8
        exact keepO_next (State.endEraJob_keep (.of hm) k0)
      · intro x9
        exact keepO_next (State.startEraJob_keep (.of hm) k0)

theorem execRouteJobNotices_keep {s : State} (hm : Sub 148635348 msk) (k0 : Keep msk sa s) :
    KeepO msk sa (@execRouteJobNotices s) := by
  unfold execRouteJobNotices
  split
  · rename_i z0 z1
    exact keepO_next k0
  · rename_i z2 z3 z4 z5
    refine keepO_ite ?_ ?_
    · intro x6
      exact keepO_next k0
    · intro x7
      exact keepO_next (State.finishEraJob_keep (.of hm) k0)

theorem execRouteJobDead_keep {s : State} (hm : Sub 131584 msk) (k0 : Keep msk sa s) :
    KeepO msk sa (@execRouteJobDead s) := by
  unfold execRouteJobDead
  split
  · rename_i z0 z1
    exact keepO_next k0
  · rename_i z2 z3 z4 z5
    refine keepO_ite ?_ ?_
    · intro x6
      exact keepO_next (State.endEraJob_keep (.of hm) k0)
    · intro x7
      exact keepO_next k0

theorem State.eraSwap_keep {s : State} {p : Nat} {f : RF} (hm : Sub 12582928 msk) (k0 : Keep msk sa s) :
    Keep msk sa (@State.eraSwap s p f) := by
  unfold State.eraSwap
  refine keep_ite ?_ ?_
  · intro x0
    exact k0
  · intro x1
    refine keep_ite ?_ ?_
    · intro x2
      exact State.enclIgnored_keep (.of hm) k0
    · intro x3
      exact State.setRf_keep (.of hm) k0

theorem execEraSwapBias_keep {part : Nat} {s : State} (hm : Sub 13631760 msk) (k0 : Keep msk sa s) :
    KeepO msk sa (@execEraSwapBias part s) := by
  unfold execEraSwapBias
  refine keepO_next ?_
  refine State.regInput_keep (.of hm) ?_ ?_
  · exact k0
  · intro x0 x1
    exact State.eraSwap_keep (.of hm) x1

theorem execEraSwapSeed_keep {part : Nat} {s : State} (hm : Sub 13631760 msk) (k0 : Keep msk sa s) :
    KeepO msk sa (@execEraSwapSeed part s) := by
  unfold execEraSwapSeed
  refine keepO_next ?_
  refine State.regInput_keep (.of hm) ?_ ?_
  · exact k0
  · intro x0 x1
    exact State.eraSwap_keep (.of hm) x1

/-! ### Machine/Port.lean -/

theorem State.writeField_keep {a : Nat} {d : Word} {r : State × Bool} {f : RegField} (hm : Sub 4194320 msk) (k0 : KeepP msk sa r) :
    KeepP msk sa (@State.writeField a d r f) := by
  unfold State.writeField
  split
  · rename_i z0 z1 z2
    split
    · rename_i z3 z4
      exact keepP_mk k0
    · rename_i z5 z6
      exact keepP_mk k0
    · rename_i z7 z8
      exact keepP_mk k0
    · rename_i z9 z10
      exact keepP_mk (State.setReg_keep (.of hm) k0)
    · rename_i z11 z12
      extract_lets v13 v14 v15
      clear_value v13
      have h16 : Keep msk sa v14 := by
        unfold v14
        exact State.setReg_keep (.of hm) k0
      clear_value v14
      clear_value v15
      refine keepP_ite ?_ ?_
      · intro x17
        exact keepP_mk k0
      · intro x18
        refine keepP_ite ?_ ?_
        · intro x19
          refine keepP_mk ?_
          refine keep_ite ?_ ?_
          · intro x20
            exact keep_mk 4194304 (.of hm) h16
          · intro x21
            exact h16
        · intro x22
          exact keepP_mk k0

theorem State.fillRegulators_keep {s : State} {p : Nat} (hm : Sub 268435520 msk) (k0 : Keep msk sa s) :
    Keep msk sa (@State.fillRegulators s p) := by
  unfold State.fillRegulators
  refine keep_foldl ?_ ?_
  · exact k0
  · intro x0 x1 x2
    exact State.setLevel_keep (.of hm) x2

theorem State.afterWrite_keep {s : State} {a : Nat} {old : Word} (hm : Sub 416612976 msk) (k0 : Keep msk sa s) :
    Keep msk sa (@State.afterWrite s a old) := by
  unfold State.afterWrite
  extract_lets v0 v1 v2 v3 v4 v5 v6 v7 v8
  clear_value v0
  have h9 : Keep msk sa v2 := by
    unfold v2
    exact State.setRf_keep (.of hm) k0
  clear_value v2
  clear_value v3
  have h10 : Keep msk sa v4 := by
    unfold v4
    refine keep_ite ?_ ?_
    · intro x11
      exact keep_mk 4194304 (.of hm) h9
    · intro x12
      exact k0
  clear_value v4
  clear_value v5
  have h13 : Keep msk sa v6 := by
    unfold v6
    refine keep_ite ?_ ?_
    · intro x14
      exact keep_mk 4194304 (.of hm) h10
    · intro x15
      exact h10
  clear_value v6
  clear_value v7
  clear_value v8
  refine keep_ite ?_ ?_
  · intro x16
    exact State.logFlush_keep (.of hm) k0
  · intro x17
    refine keep_ite ?_ ?_
    · intro x18
      refine keep_ite ?_ ?_
      · intro x19
        exact keep_mk 4194304 (.of hm) h13
      · intro x20
        exact h13
    · intro x21
      split
      · rename_i z22 z23
        exact k0
      · rename_i z24 z25 z26
        refine keep_ite ?_ ?_
        · intro x27
          exact State.shWritten_keep (.of hm) k0
        · intro x28
          split
          · rename_i z29 z30 z31
            refine keep_ite ?_ ?_
            · intro x32
              exact State.fillRegulators_keep (.of hm) k0
            · intro x33
              exact k0
          · rename_i z34 z35
            split
            · rename_i z36 z37 z38
              exact keep_mk 262144 (.of hm) k0
            · rename_i z39 z40
              exact k0

theorem State.writePlain_keep {s : State} {a : Nat} {d : Word} (hm : Sub 416612976 msk) (k0 : Keep msk sa s) :
    Keep msk sa (@State.writePlain s a d) := by
  unfold State.writePlain
  extract_lets v0
  clear_value v0
  split
  · rename_i z1 z2 z3 z4
    have h5 : Keep msk sa z2 := by
      refine keepP_eq z4 ?_
      refine keepP_foldl ?_ ?_
      · exact keepP_mk k0
      · intro x6 x7 x8
        exact State.writeField_keep (.of hm) x8
    extract_lets v9
    have h10 : Keep msk sa v9 := by
      unfold v9
      exact State.afterWrite_keep (.of hm) h5
    clear_value v9
    refine keep_ite ?_ ?_
    · intro x11
      exact State.cfgIgnored_keep (.of hm) h10
    · intro x12
      exact h10

theorem State.ckptReq_keep {s : State} {p : Nat} (hm : Sub 12582928 msk) (k0 : Keep msk sa s) :
    Keep msk sa (@State.ckptReq s p) := by
  unfold State.ckptReq
  refine keep_ite ?_ ?_
  · intro x0
    exact k0
  · intro x1
    refine keep_ite ?_ ?_
    · intro x2
      exact State.enclIgnored_keep (.of hm) k0
    · intro x3
      refine keep_ite ?_ ?_
      · intro x4
        exact k0
      · intro x5
        exact State.setReg_keep (.of hm) k0

theorem State.ctxCmd_keep {s : State} {op : Nat} {q : Nat} (hm : Sub 148635348 msk) (k0 : Keep msk sa s) :
    Keep msk sa (@State.ctxCmd s op q) := by
  unfold State.ctxCmd
  split
  · rename_i z0
    exact State.ctxCreate_keep (.of hm) k0
  · rename_i z1
    exact State.ctxDestroy_keep (.of hm) k0
  · rename_i z2
    exact State.ctxDestroy_keep (.of hm) k0
  · rename_i z3
    exact State.ctxReset_keep (.of hm) k0
  · rename_i z4 z5 z6 z7 z8
    exact k0

theorem State.watchCmd_keep {s : State} {op : Nat} {i : Nat} (hm : Sub 12599312 msk) (k0 : Keep msk sa s) :
    Keep msk sa (@State.watchCmd s op i) := by
  unfold State.watchCmd
  split
  · rename_i z0
    exact State.armWatch_keep (.of hm) k0
  · rename_i z1
    exact State.cancelWatch_keep (.of hm) k0
  · rename_i z2 z3 z4
    exact k0

theorem State.wakeCmd_keep {s : State} {op : Nat} (hm : Sub 12607504 msk) (k0 : Keep msk sa s) :
    Keep msk sa (@State.wakeCmd s op) := by
  unfold State.wakeCmd
  split
  · rename_i z0
    exact State.wakeBind_keep (.of hm) k0
  · rename_i z1
    exact State.wakeCancel_keep (.of hm) k0
  · rename_i z2 z3 z4
    exact k0

theorem State.enclCmd_keep {s : State} {op : Nat} {p : Nat} (hm : Sub 150732500 msk) (k0 : Keep msk sa s) :
    Keep msk sa (@State.enclCmd s op p) := by
  unfold State.enclCmd
  split
  · rename_i z0
    exact State.enclLock_keep (.of hm) k0
  · rename_i z1
    exact State.enclTeardown_keep (.of hm) k0
  · rename_i z2 z3 z4
    exact k0

theorem State.snapCmd_keep {s : State} {op : Nat} (hm : Sub 8388624 msk) (k0 : Keep msk sa s) :
    Keep msk sa (@State.snapCmd s op) := by
  unfold State.snapCmd
  split
  · rename_i z0
    exact State.fireSnap_keep (.of hm) k0
  · rename_i z1
    exact State.releaseSnap_keep (.of hm) k0
  · rename_i z2 z3 z4
    exact k0

theorem State.captureClr_keep {s : State} {d : Word} (hm : Sub 16 msk) (k0 : Keep msk sa s) :
    Keep msk sa (@State.captureClr s d) := by
  unfold State.captureClr
  extract_lets v0 v1
  have h2 : Keep msk sa v0 := by
    unfold v0
    refine keep_ite ?_ ?_
    · intro x3
      exact State.clearCapture_keep (.of hm) k0
    · intro x4
      exact k0
  clear_value v0
  have h5 : Keep msk sa v1 := by
    unfold v1
    refine keep_ite ?_ ?_
    · intro x6
      exact State.clearCapture_keep (.of hm) h2
    · intro x7
      exact h2
  clear_value v1
  refine keep_ite ?_ ?_
  · intro x8
    exact State.clearCapture_keep (.of hm) h5
  · intro x9
    exact h5

theorem State.eraSwapCmd_keep {s : State} {p : Nat} {d : Word} (hm : Sub 12582928 msk) (k0 : Keep msk sa s) :
    Keep msk sa (@State.eraSwapCmd s p d) := by
  unfold State.eraSwapCmd
  extract_lets v0
  have h1 : Keep msk sa v0 := by
    unfold v0
    refine keep_ite ?_ ?_
    · intro x2
      exact State.eraSwap_keep (.of hm) k0
    · intro x3
      exact k0
  clear_value v0
  refine keep_ite ?_ ?_
  · intro x4
    exact State.eraSwap_keep (.of hm) h1
  · intro x5
    exact h1

theorem State.partCmd_keep {s : State} {a : Nat} {d : Word} (hm : Sub 80773844 msk) (k0 : Keep msk sa s) :
    KeepS msk sa (@State.partCmd s a d) := by
  unfold State.partCmd
  split
  · rename_i z0 z1 z2
    refine keepS_some ?_
    refine keep_ite ?_ ?_
    · intro x3
      exact k0
    · intro x4
      exact State.eraSwapCmd_keep (.of hm) k0
  · rename_i z5 z6
    split
    · rename_i z7 z8 z9
      refine keepS_some ?_
      refine keep_ite ?_ ?_
      · intro x10
        exact State.ckptReq_keep (.of hm) k0
      · intro x11
        exact k0
    · rename_i z12 z13
      split
      · rename_i z14 z15 z16
        exact keepS_some (State.sendGo_keep (.of hm) k0)
      · rename_i z17 z18
        exact keepS_none

theorem State.commandLow_keep {s : State} {a : Nat} {d : Word} (hm : Sub 216006612 msk) (k0 : Keep msk sa s) :
    KeepS msk sa (@State.commandLow s a d) := by
  unfold State.commandLow
  refine keepS_ite ?_ ?_
  · intro x0
    exact keepS_some (State.unlockWrite_keep (.of hm) k0)
  · intro x1
    refine keepS_ite ?_ ?_
    · intro x2
      refine keepS_some ?_
      refine State.lkWrite_keep (.of hm) ?_ ?_
      · exact k0
      · intro x3 x4
        exact State.unitEnWrite_keep (.of hm) x4
    · intro x5
      refine keepS_ite ?_ ?_
      · intro x6
        refine keepS_some ?_
        refine State.lkWrite_keep (.of hm) ?_ ?_
        · exact k0
        · intro x7 x8
          exact State.setReg_keep (.of hm) x8
      · intro x9
        refine keepS_ite ?_ ?_
        · intro x10
          exact keepS_some (State.ctxCmd_keep (.of hm) k0)
        · intro x11
          refine keepS_ite ?_ ?_
          · intro x12
            exact keepS_some (State.domainCmd_keep (.of hm) k0)
          · intro x13
            refine keepS_ite ?_ ?_
            · intro x14
              exact keepS_some (State.dsLinkCmd_keep (.of hm) k0)
            · intro x15
              exact keepS_none

theorem State.commandMid_keep {s : State} {a : Nat} {d : Word} (hm : Sub 150732500 msk) (k0 : Keep msk sa s) :
    KeepS msk sa (@State.commandMid s a d) := by
  unfold State.commandMid
  refine keepS_ite ?_ ?_
  · intro x0
    exact keepS_some (State.semCmd_keep (.of hm) k0)
  · intro x1
    refine keepS_ite ?_ ?_
    · intro x2
      exact keepS_some (State.watchCmd_keep (.of hm) k0)
    · intro x3
      refine keepS_ite ?_ ?_
      · intro x4
        exact keepS_some (State.wakeCmd_keep (.of hm) k0)
      · intro x5
        refine keepS_ite ?_ ?_
        · intro x6
          exact keepS_some (State.sheafCmd_keep (.of hm) k0)
        · intro x7
          refine keepS_ite ?_ ?_
          · intro x8
            exact keepS_some (State.stookCmd_keep (.of hm) k0)
          · intro x9
            refine keepS_ite ?_ ?_
            · intro x10
              refine keepS_some ?_
              refine keep_ite ?_ ?_
              · intro x11
                exact State.modelSwap_keep (.of hm) k0
              · intro x12
                exact k0
            · intro x13
              refine keepS_ite ?_ ?_
              · intro x14
                exact keepS_some (State.enclCmd_keep (.of hm) k0)
              · intro x15
                exact keepS_none

theorem State.commandHigh_keep {s : State} {a : Nat} {d : Word} (hm : Sub 80773844 msk) (k0 : Keep msk sa s) :
    KeepS msk sa (@State.commandHigh s a d) := by
  unfold State.commandHigh
  refine keepS_ite ?_ ?_
  · intro x0
    exact keepS_some (State.captureClr_keep (.of hm) k0)
  · intro x1
    refine keepS_ite ?_ ?_
    · intro x2
      exact keepS_some (State.traceMark_keep (.of hm) k0)
    · intro x3
      refine keepS_ite ?_ ?_
      · intro x4
        exact keepS_some (State.snapCmd_keep (.of hm) k0)
      · intro x5
        refine keepS_ite ?_ ?_
        · intro x6
          refine keepS_some ?_
          refine keep_ite ?_ ?_
          · intro x7
            exact keep_mk 8388608 (.of hm) k0
          · intro x8
            exact k0
        · intro x9
          exact State.partCmd_keep (.of hm) k0

theorem State.commandWrite_keep {s : State} {a : Nat} {d : Word} (hm : Sub 218103764 msk) (k0 : Keep msk sa s) :
    KeepS msk sa (@State.commandWrite s a d) := by
  unfold State.commandWrite
  split
  · rename_i z0 z1 z2
    have h3 : Keep msk sa z1 := by
      refine keepS_eq z2 ?_
      exact State.commandLow_keep (.of hm) k0
    exact keepS_some h3
  · rename_i z4 z5
    split
    · rename_i z6 z7 z8
      have h9 : Keep msk sa z7 := by
        refine keepS_eq z8 ?_
        exact State.commandMid_keep (.of hm) k0
      exact keepS_some h9
    · rename_i z10 z11
      exact State.commandHigh_keep (.of hm) k0

theorem State.writeRxStatus_keep {s : State} {c : Nat} {d : Word} (hm : Sub 64 msk) (k0 : Keep msk sa s) :
    Keep msk sa (@State.writeRxStatus s c d) := by
  unfold State.writeRxStatus
  extract_lets v0
  clear_value v0
  refine keep_ite ?_ ?_
  · intro x1
    exact State.setRam_keep (.of hm) k0
  · intro x2
    exact k0

theorem State.regWrite_keep {s : State} {a : Nat} {d : Word} (hm : Sub 486539252 msk) (k0 : Keep msk sa s) :
    Keep msk sa (@State.regWrite s a d) := by
  unfold State.regWrite
  refine keep_ite ?_ ?_
  · intro x0
    exact k0
  · intro x1
    split
    · rename_i z2 z3 z4
      exact State.enclIgnored_keep (.of hm) k0
    · rename_i z5 z6
      split
      · rename_i z7 z8 z9
        have h10 : Keep msk sa z8 := by
          refine keepS_eq z9 ?_
          exact State.commandWrite_keep (.of hm) k0
        exact h10
      · rename_i z11 z12
        split
        · rename_i z13 z14 z15
          exact State.writeRxStatus_keep (.of hm) k0
        · rename_i z16 z17
          exact State.writePlain_keep (.of hm) k0

theorem State.portWrite_keep {s : State} {a : Nat} {d : Word} (hm : Sub 486539252 msk) (k0 : Keep msk sa s) :
    Keep msk sa (@State.portWrite s a d) := by
  unfold State.portWrite
  refine keep_ite ?_ ?_
  · intro x0
    exact State.windowWrite_keep (.of hm) k0
  · intro x1
    exact State.regWrite_keep (.of hm) k0

theorem State.readWord_keep {s : State} {a : Nat} (hm : Sub 503316212 msk) (k0 : Keep msk sa s) :
    KeepP msk sa (@State.readWord s a) := by
  unfold State.readWord
  extract_lets v0
  clear_value v0
  split
  · rename_i z1 z2 z3 z4
    refine keepP_ite ?_ ?_
    · intro x5
      exact keepP_mk k0
    · intro x6
      split
      · rename_i z7 z8 z9
        exact keepP_mk (State.patrol_keep (.of hm) k0)
      · rename_i z10 z11 z12
        split
        · rename_i z13 z14 z15 z16
          have h17 : Keep msk sa z15 := by
            refine keepQ_eq z16 ?_
            exact State.takeFree_keep (.of hm) k0
          exact keepP_mk (State.patrol_keep (.of hm) h17)
      · rename_i z18 z19 z20
        exact keepP_mk k0

theorem State.latchedRead_keep {s : State} {a : Nat} (hm : Sub 503316468 msk) (k0 : Keep msk sa s) :
    KeepP msk sa (@State.latchedRead s a) := by
  unfold State.latchedRead
  split
  · rename_i z0 z1 z2 z3
    have h4 : Keep msk sa z1 := by
      refine keepP_eq z3 ?_
      split
      · rename_i z5 z6 z7 z8
        refine keepP_ite ?_ ?_
        · intro x9
          exact keepP_mk k0
        · intro x10
          exact State.readWord_keep (.of hm) k0
      · rename_i z11 z12
        exact State.readWord_keep (.of hm) k0
    refine keepP_ite ?_ ?_
    · intro x13
      split
      · rename_i z14 z15 z16 z17
        have h18 : Keep msk sa z15 := by
          refine keepP_eq z17 ?_
          exact State.readWord_keep (.of hm) h4
        exact keepP_mk (keep_mk 256 (.of hm) h18)
    · intro x19
      exact keepP_mk (keep_mk 256 (.of hm) h4)

theorem State.portRead_keep {s : State} {a : Nat} (hm : Sub 503316468 msk) (k0 : Keep msk sa s) :
    KeepP msk sa (@State.portRead s a) := by
  unfold State.portRead
  extract_lets v0
  have h1 : Keep msk sa v0 := by
    unfold v0
    exact State.expireUnlock_keep (.of hm) k0
  clear_value v0
  split
  · rename_i z2 z3 z4
    exact State.rxPop_keep (.of hm) (State.unlatch_keep (.of hm) h1)
  · rename_i z5 z6
    split
    · rename_i z7 z8 z9
      exact State.outPop_keep (.of hm) (State.unlatch_keep (.of hm) h1)
    · rename_i z10 z11
      exact State.latchedRead_keep (.of hm) h1

theorem State.portWriteReq_keep {s : State} {i : Instr} {a : Nat} {d : Word} (hm : Sub 486539252 msk) (k0 : Keep msk sa s) :
    Keep msk sa (@State.portWriteReq s i a d) := by
  unfold State.portWriteReq
  refine keep_ite ?_ ?_
  · intro x0
    exact k0
  · intro x1
    refine keep_ite ?_ ?_
    · intro x2
      exact State.emit_keep (.of hm) k0
    · intro x3
      refine keep_ite ?_ ?_
      · intro x4
        refine State.regDone_keep (.of hm) ?_ ?_
        · exact k0
        · intro x5 x6
          exact State.portWrite_keep (.of hm) x6
      · intro x7
        refine State.regInput_keep (.of hm) ?_ ?_
        · exact k0
        · intro x8 x9
          exact State.portWrite_keep (.of hm) x9

theorem State.portReadReq_keep {s : State} {a : Nat} (hm : Sub 503316479 msk) (k0 : Keep msk sa s) :
    Keep msk sa (@State.portReadReq s a) := by
  unfold State.portReadReq
  refine keep_ite ?_ ?_
  · intro x0
    exact k0
  · intro x1
    refine keep_ite ?_ ?_
    · intro x2
      exact State.emit_keep (.of hm) k0
    · intro x3
      split
      · rename_i z4 z5 z6
        refine State.regRead_keep (.of hm) ?_ ?_
        · exact k0
        · intro x7 x8
          exact State.rxPop_keep (.of hm) (State.popTurn_keep (.of hm) x8)
      · rename_i z9 z10
        split
        · rename_i z11 z12 z13
          refine State.regRead_keep (.of hm) ?_ ?_
          · exact k0
          · intro x14 x15
            exact State.outPop_keep (.of hm) x15
        · rename_i z16 z17
          split
          · rename_i z18 z19 z20 z21
            have h22 : Keep msk sa z19 := by
              refine keepP_eq z21 ?_
              exact State.latchedRead_keep (.of hm) (State.expireUnlock_keep (.of hm) k0)
            exact State.emit_keep (.of hm) h22

theorem execRegisterWrite_keep {addr : BitVec 21} {data : BitVec 32} {s : State} (hm : Sub 486539252 msk) (k0 : Keep msk sa s) :
    KeepO msk sa (@execRegisterWrite addr data s) := by
  unfold execRegisterWrite
  exact keepO_next (State.portWriteReq_keep (.of hm) k0)

theorem execLatchedLowRead_keep {addr : BitVec 21} {s : State} (hm : Sub 503316479 msk) (k0 : Keep msk sa s) :
    KeepO msk sa (@execLatchedLowRead addr s) := by
  unfold execLatchedLowRead
  exact keepO_next (State.portReadReq_keep (.of hm) k0)

theorem execTableWindowWrite_keep {addr : BitVec 21} {data : BitVec 32} {s : State} (hm : Sub 486539252 msk) (k0 : Keep msk sa s) :
    KeepO msk sa (@execTableWindowWrite addr data s) := by
  unfold execTableWindowWrite
  exact keepO_next (State.portWriteReq_keep (.of hm) k0)

theorem execRouteLayerWrite_keep {addr : BitVec 21} {data : BitVec 32} {s : State} (hm : Sub 486539252 msk) (k0 : Keep msk sa s) :
    KeepO msk sa (@execRouteLayerWrite addr data s) := by
  unfold execRouteLayerWrite
  exact keepO_next (State.portWriteReq_keep (.of hm) k0)

theorem execEraBankWrite_keep {addr : BitVec 21} {data : BitVec 32} {s : State} (hm : Sub 486539252 msk) (k0 : Keep msk sa s) :
    KeepO msk sa (@execEraBankWrite addr data s) := by
  unfold execEraBankWrite
  exact keepO_next (State.portWriteReq_keep (.of hm) k0)

theorem execRxqEntryWrite_keep {addr : BitVec 21} {data : BitVec 32} {s : State} (hm : Sub 486539252 msk) (k0 : Keep msk sa s) :
    KeepO msk sa (@execRxqEntryWrite addr data s) := by
  unfold execRxqEntryWrite
  exact keepO_next (State.portWriteReq_keep (.of hm) k0)

theorem execRouteEntryWrite_keep {addr : BitVec 21} {data : BitVec 32} {s : State} (hm : Sub 486539252 msk) (k0 : Keep msk sa s) :
    KeepO msk sa (@execRouteEntryWrite addr data s) := by
  unfold execRouteEntryWrite
  exact keepO_next (State.portWriteReq_keep (.of hm) k0)

theorem execSheafEntryWrite_keep {addr : BitVec 21} {data : BitVec 32} {s : State} (hm : Sub 486539252 msk) (k0 : Keep msk sa s) :
    KeepO msk sa (@execSheafEntryWrite addr data s) := by
  unfold execSheafEntryWrite
  exact keepO_next (State.portWriteReq_keep (.of hm) k0)

theorem execStookEntryWrite_keep {addr : BitVec 21} {data : BitVec 32} {s : State} (hm : Sub 486539252 msk) (k0 : Keep msk sa s) :
    KeepO msk sa (@execStookEntryWrite addr data s) := by
  unfold execStookEntryWrite
  exact keepO_next (State.portWriteReq_keep (.of hm) k0)

theorem execSaveSetWrite_keep {addr : BitVec 21} {data : BitVec 32} {s : State} (hm : Sub 486539252 msk) (k0 : Keep msk sa s) :
    KeepO msk sa (@execSaveSetWrite addr data s) := by
  unfold execSaveSetWrite
  exact keepO_next (State.portWriteReq_keep (.of hm) k0)

theorem execBgModelBankWrite_keep {addr : BitVec 21} {data : BitVec 32} {s : State} (hm : Sub 486539252 msk) (k0 : Keep msk sa s) :
    KeepO msk sa (@execBgModelBankWrite addr data s) := by
  unfold execBgModelBankWrite
  exact keepO_next (State.portWriteReq_keep (.of hm) k0)

theorem execDomainMapWrite_keep {addr : BitVec 21} {data : BitVec 32} {s : State} (hm : Sub 486539252 msk) (k0 : Keep msk sa s) :
    KeepO msk sa (@execDomainMapWrite addr data s) := by
  unfold execDomainMapWrite
  exact keepO_next (State.portWriteReq_keep (.of hm) k0)

theorem execCkptCmd_keep {part : Nat} {s : State} (hm : Sub 12583184 msk) (k0 : Keep msk sa s) :
    KeepO msk sa (@execCkptCmd part s) := by
  unfold execCkptCmd
  refine keepO_next ?_
  refine State.dbgInput_keep (.of hm) ?_ ?_
  · exact k0
  · intro x0 x1
    exact State.ckptReq_keep (.of hm) x1
end Sys2Proof.Machine
end

