-- ==== Sys2Proof/Laws/KeepLast.lean ====
section
/-! SUPPORT. What every command keeps: grain-locked mode, slow units and the TAP, and every command’s meaning. -/

-- One declaration at a time: checked side by side, the lemmas ask for more threads than the checks may start.
set_option Elab.async false

namespace Sys2Proof.Machine

variable {msk : Nat} {sa : State}

/-! ### Machine/Determ.lean -/

theorem State.rebase_keep {s : State} (hm : Sub 5569538 msk) (k0 : Keep msk sa s) :
    Keep msk sa (@State.rebase s) := by
  unfold State.rebase
  extract_lets v0 v1 v2 v3
  have h4 : Keep msk sa v0 := by
    unfold v0
    exact State.restamp_keep (.of hm) k0
  clear_value v0
  have h5 : Keep msk sa v1 := by
    unfold v1
    exact keep_mk 2 (.of hm) h4
  clear_value v1
  clear_value v2
  clear_value v3
  exact keep_mk 1310720 (.of hm) h5

theorem State.readReplay_keep {s : State} (hm : Sub 13632080 msk) (k0 : Keep msk sa s) :
    Keep msk sa (@State.readReplay s) := by
  unfold State.readReplay
  extract_lets v0 v1
  clear_value v0
  clear_value v1
  refine keep_ite ?_ ?_
  · intro x2
    exact State.replayData_keep (.of hm) k0
  · intro x3
    split
    · rename_i z4 z5 z6
      have h7 : Keep msk sa z5 := by
        refine keepP_eq z6 ?_
        exact State.mmRead_keep (.of hm) k0
      exact h7
    · rename_i z8 z9 z10
      have h11 : Keep msk sa z9 := by
        refine keepP_eq z10 ?_
        exact State.mmRead_keep (.of hm) k0
      exact State.replayData_keep (.of hm) h11

theorem State.glBegin_keep {s : State} (hm : Sub 148176466 msk) (k0 : Keep msk sa s) :
    Keep msk sa (@State.glBegin s) := by
  unfold State.glBegin
  extract_lets v0 v1 v2 v3 v4
  have h5 : Keep msk sa v0 := by
    unfold v0
    exact State.setRf_keep (.of hm) (State.setRf_keep (.of hm) k0)
  clear_value v0
  have h6 : Keep msk sa v1 := by
    unfold v1
    exact State.setRf_keep (.of hm) (State.setReg64_keep (.of hm) h5)
  clear_value v1
  clear_value v2
  have h7 : Keep msk sa v3 := by
    unfold v3
    exact keep_mk 1048576 (.of hm) h6
  clear_value v3
  have h8 : Keep msk sa v4 := by
    unfold v4
    exact State.logRec_keep (.of hm) (State.rebase_keep (.of hm) h7)
  clear_value v4
  refine keep_ite ?_ ?_
  · intro x9
    exact State.readReplay_keep (.of hm) (State.setRf_keep (.of hm) h8)
  · intro x10
    exact h8

theorem execGlStart_keep {s : State} (hm : Sub 148176466 msk) (k0 : Keep msk sa s) :
    KeepO msk sa (@execGlStart s) := by
  unfold execGlStart
  refine keepO_next ?_
  refine keep_ite ?_ ?_
  · intro x0
    exact State.glBegin_keep (.of hm) k0
  · intro x1
    exact k0

theorem State.applyFlit_keep {s : State} {a : Instr} (hm : Sub 232521428 msk) (k0 : Keep msk sa s) :
    Keep msk sa (@State.applyFlit s a) := by
  unfold State.applyFlit
  split
  · rename_i z0 z1
    exact State.fpLinkup_keep (.of hm) k0
  · rename_i z2 z3
    exact State.edgeArrive_keep (.of hm) k0
  · rename_i z4 z5
    refine State.recvReq_keep (.of hm) ?_ ?_
    · exact k0
    · intro x6 x7 x8
      exact State.signalFlit_keep (.of hm) x8
  · rename_i z9 z10
    refine State.recvReq_keep (.of hm) ?_ ?_
    · exact k0
    · intro x11 x12 x13
      exact State.sheafArriveFlit_keep (.of hm) x13
  · rename_i z14 z15
    refine State.recvReq_keep (.of hm) ?_ ?_
    · exact k0
    · intro x16 x17 x18
      exact State.sheafReleaseFlit_keep (.of hm) x18
  · rename_i z19 z20
    refine State.recvReq_keep (.of hm) ?_ ?_
    · exact k0
    · intro x21 x22 x23
      exact State.msgArrive_keep (.of hm) x23
  · rename_i z24 z25
    refine State.recv_keep (.of hm) ?_ ?_
    · exact k0
    · intro x26 x27 x28
      exact State.departLeave_keep (.of hm) x28
  · rename_i z29 z30
    refine State.recv_keep (.of hm) ?_ ?_
    · exact k0
    · intro x31 x32 x33
      exact State.departLost_keep (.of hm) x33
  · rename_i z34 z35
    refine State.recv_keep (.of hm) ?_ ?_
    · exact k0
    · intro x36 x37 x38
      exact State.departJoin_keep (.of hm) x38
  · rename_i z39 z40
    refine State.recv_keep (.of hm) ?_ ?_
    · exact k0
    · intro x41 x42 x43
      exact State.reply_keep (.of hm) x43
  · rename_i z44 z45
    refine State.recv_keep (.of hm) ?_ ?_
    · exact k0
    · intro x46 x47 x48
      exact State.reply_keep (.of hm) x48
  · rename_i z49 z50 z51 z52 z53 z54 z55 z56 z57 z58 z59 z60
    exact k0

theorem State.unhold_keep {s : State} {h : Held} (hm : Sub 1048576 msk) (k0 : Keep msk sa s) :
    Keep msk sa (@State.unhold s h) := by
  unfold State.unhold
  exact keep_mk 1048576 (.of hm) k0

theorem State.admitFree_keep {s : State} {kind : Nat} {part : Option Nat} {payload : List Word} (hm : Sub 147849808 msk) (k0 : Keep msk sa s) :
    KeepP msk sa (@State.admitFree s kind part payload) := by
  unfold State.admitFree
  refine keepP_ite ?_ ?_
  · intro x0
    exact keepP_mk (State.logRec_keep (.of hm) k0)
  · intro x1
    split
    · rename_i z2 z3 z4 z5
      have h6 : Keep msk sa z3 := by
        refine keepP_eq z5 ?_
        exact State.takeReplay_keep (.of hm) k0
      exact keepP_mk (State.logRec_keep (.of hm) h6)
    · rename_i z7 z8 z9
      have h10 : Keep msk sa z8 := by
        refine keepP_eq z9 ?_
        exact State.takeReplay_keep (.of hm) k0
      exact keepP_mk h10

theorem State.checkStart_keep {s : State} (hm : Sub 13631504 msk) (k0 : Keep msk sa s) :
    Keep msk sa (@State.checkStart s) := by
  unfold State.checkStart
  split
  · rename_i z0 z1 z2
    have h3 : Keep msk sa z1 := by
      refine keepP_eq z2 ?_
      exact State.takeReplay_keep (.of hm) k0
    exact h3
  · rename_i z4 z5 z6 z7
    have h8 : Keep msk sa z5 := by
      refine keepP_eq z7 ?_
      exact State.takeReplay_keep (.of hm) k0
    refine keep_ite ?_ ?_
    · intro x9
      exact h8
    · intro x10
      exact State.diverge_keep (.of hm) h8

theorem State.endReplay_keep {s : State} (hm : Sub 1048592 msk) (k0 : Keep msk sa s) :
    Keep msk sa (@State.endReplay s) := by
  unfold State.endReplay
  extract_lets v0 v1
  have h2 : Keep msk sa v0 := by
    unfold v0
    exact State.setRf_keep (.of hm) k0
  clear_value v0
  clear_value v1
  exact keep_mk 1048576 (.of hm) h2

theorem State.slipTask_keep {s : State} {i : Nat} {slip : Nat} {t : OutTask} (hm : Sub 147849808 msk) (k0 : Keep msk sa s) :
    Keep msk sa (@State.slipTask s i slip t) := by
  unfold State.slipTask
  refine keep_ite ?_ ?_
  · intro x0
    exact k0
  · intro x1
    extract_lets v2 v3
    have h4 : Keep msk sa v2 := by
      unfold v2
      exact State.incRf_keep (.of hm) (State.incRf_keep (.of hm) k0)
    clear_value v2
    have h5 : Keep msk sa v3 := by
      unfold v3
      exact State.setRf_keep (.of hm) h4
    clear_value v3
    exact State.logRec_keep (.of hm) h5

theorem State.letRec_keep {s : State} {r : CmpRec} (hm : Sub 8192 msk) (k0 : Keep msk sa s) :
    Keep msk sa (@State.letRec s r) := by
  unfold State.letRec
  extract_lets v0
  clear_value v0
  exact State.setFifo_keep (.of hm) k0

theorem State.admitTask_keep {b : Nat} {s : State} {x : Nat × OutTask} (hm : Sub 147858000 msk) (k0 : Keep msk sa s) :
    Keep msk sa (@State.admitTask b s x) := by
  unfold State.admitTask
  split
  · rename_i z0 z1 z2
    refine keep_foldl ?_ ?_
    · exact k0
    · intro x3 x4 x5
      extract_lets v6 v7 v8
      clear_value v6
      have h9 : Keep msk sa v7 := by
        unfold v7
        exact State.slipTask_keep (.of hm) x5
      clear_value v7
      have h10 : Keep msk sa v8 := by
        unfold v8
        refine keep_ite ?_ ?_
        · intro x11
          exact keepP_fst (State.takeReplay_keep (.of hm) h9)
        · intro x12
          exact h9
      clear_value v8
      exact State.letRec_keep (.of hm) h10

theorem State.admitTasks_keep {s : State} {b : Nat} (hm : Sub 147858000 msk) (k0 : Keep msk sa s) :
    Keep msk sa (@State.admitTasks s b) := by
  unfold State.admitTasks
  extract_lets v0 v1 v2
  clear_value v0
  have h3 : Keep msk sa v1 := by
    unfold v1
    refine keep_foldl ?_ ?_
    · exact k0
    · intro x4 x5 x6
      exact State.admitTask_keep (.of hm) x6
  clear_value v1
  clear_value v2
  refine keep_foldl ?_ ?_
  · exact h3
  · intro x7 x8 x9
    exact State.letRec_keep (.of hm) x9

theorem State.giveAnswer_keep {s : State} {h : Held} (hm : Sub 150732532 msk) (k0 : Keep msk sa s) :
    Keep msk sa (@State.giveAnswer s h) := by
  unfold State.giveAnswer
  extract_lets v0
  have h1 : Keep msk sa v0 := by
    unfold v0
    exact State.unhold_keep (.of hm) k0
  clear_value v0
  split
  · rename_i z2 z3 z4 z5 z6 z7
    exact State.readBeat_keep (.of hm) h1
  · rename_i z8 z9 z10 z11
    exact State.writeDone_keep (.of hm) h1
  · rename_i z12 z13 z14
    exact h1

theorem State.admitAnswer_keep {b : Nat} {s : State} {x : MmXfer} (hm : Sub 150732532 msk) (k0 : Keep msk sa s) :
    Keep msk sa (@State.admitAnswer b s x) := by
  unfold State.admitAnswer
  extract_lets v0 v1 v2 v3 v4
  clear_value v0
  clear_value v1
  clear_value v2
  have h5 : Keep msk sa v3 := by
    unfold v3
    refine keep_ite ?_ ?_
    · intro x6
      exact k0
    · intro x7
      exact State.logRec_keep (.of hm) k0
  clear_value v3
  have h8 : Keep msk sa v4 := by
    unfold v4
    refine keep_ite ?_ ?_
    · intro x9
      exact keepP_fst (State.takeReplay_keep (.of hm) h5)
    · intro x10
      exact h5
  clear_value v4
  refine keep_ite ?_ ?_
  · intro x11
    exact k0
  · intro x12
    refine keep_foldl ?_ ?_
    · exact h8
    · intro x13 x14 x15
      exact State.giveAnswer_keep (.of hm) x15

theorem State.admitMm_keep {s : State} {b : Nat} (hm : Sub 150732532 msk) (k0 : Keep msk sa s) :
    Keep msk sa (@State.admitMm s b) := by
  unfold State.admitMm
  extract_lets v0 v1
  have h2 : Keep msk sa v0 := by
    unfold v0
    refine keep_foldl ?_ ?_
    · exact k0
    · intro x3 x4 x5
      exact State.admitAnswer_keep (.of hm) x5
  clear_value v0
  clear_value v1
  refine keep_foldl ?_ ?_
  · exact h2
  · intro x6 x7 x8
    exact State.unhold_keep (.of hm) x8

theorem State.admitLinks_keep {s : State} {b : Nat} (hm : Sub 147858000 msk) (k0 : Keep msk sa s) :
    Keep msk sa (@State.admitLinks s b) := by
  unfold State.admitLinks
  refine keep_foldl ?_ ?_
  · exact k0
  · intro x0 x1 x2
    extract_lets v3 v4 v5
    clear_value v3
    have h6 : Keep msk sa v4 := by
      unfold v4
      refine keep_foldl ?_ ?_
      · exact x2
      · intro x7 x8 x9
        split
        · rename_i z10 z11 z12
          have h13 : Keep msk sa z11 := by
            refine keepP_eq z12 ?_
            exact State.admitFree_keep (.of hm) x9
          exact State.letRec_keep (.of hm) h13
        · rename_i z14 z15 z16
          have h17 : Keep msk sa z15 := by
            refine keepP_eq z16 ?_
            exact State.admitFree_keep (.of hm) x9
          exact h17
    clear_value v4
    clear_value v5
    refine keep_foldl ?_ ?_
    · exact h6
    · intro x18 x19 x20
      split
      · rename_i z21 z22 z23
        have h24 : Keep msk sa z22 := by
          refine keepP_eq z23 ?_
          exact State.admitFree_keep (.of hm) x20
        exact State.presentRise_keep (.of hm) (State.unhold_keep (.of hm) h24)
      · rename_i z25 z26 z27
        have h28 : Keep msk sa z26 := by
          refine keepP_eq z27 ?_
          exact State.admitFree_keep (.of hm) x20
        exact h28

theorem State.admitFlit_keep {s : State} {x : Held × Bool × List (List Word)} (hm : Sub 232521428 msk) (k0 : Keep msk sa s) :
    Keep msk sa (@State.admitFlit s x) := by
  unfold State.admitFlit
  split
  · rename_i z0 z1 z2 z3
    split
    · rename_i z4 z5 z6
      have h7 : Keep msk sa z5 := by
        refine keepP_eq z6 ?_
        exact State.admitFree_keep (.of hm) k0
      exact State.applyFlit_keep (.of hm) (State.unhold_keep (.of hm) h7)
    · rename_i z8 z9 z10
      have h11 : Keep msk sa z9 := by
        refine keepP_eq z10 ?_
        exact State.admitFree_keep (.of hm) k0
      exact h11

theorem State.admitFabric_keep {s : State} {b : Nat} (hm : Sub 232521428 msk) (k0 : Keep msk sa s) :
    Keep msk sa (@State.admitFabric s b) := by
  unfold State.admitFabric
  extract_lets v0 v1 v2 v3
  clear_value v0
  have h4 : Keep msk sa v1 := by
    unfold v1
    refine keep_foldl ?_ ?_
    · exact k0
    · intro x5 x6 x7
      split
      · rename_i z8 z9
        exact State.fpRise_keep (.of hm) (State.unhold_keep (.of hm) x7)
      · rename_i z10 z11
        exact State.fpFall_keep (.of hm) (State.unhold_keep (.of hm) x7)
      · rename_i z12 z13 z14
        exact x7
  clear_value v1
  clear_value v2
  have h15 : Keep msk sa v3 := by
    unfold v3
    refine keep_foldl ?_ ?_
    · exact h4
    · intro x16 x17 x18
      exact State.admitFlit_keep (.of hm) x18
  clear_value v3
  refine keep_foldl ?_ ?_
  · exact h15
  · intro x19 x20 x21
    exact State.admitFlit_keep (.of hm) x21

theorem State.applyPm_keep {s : State} {kind : Nat} {key : Nat} {nj : Word} {temp : BitVec 12} (hm : Sub 134479888 msk) (k0 : Keep msk sa s) :
    Keep msk sa (@State.applyPm s kind key nj temp) := by
  unfold State.applyPm
  split
  · rename_i z0
    exact State.budgetIn_keep (.of hm) k0
  · rename_i z1
    exact State.measIn_keep (.of hm) k0
  · rename_i z2 z3 z4
    exact State.lendAck_keep (.of hm) k0

theorem State.admitPm_keep {s : State} {b : Nat} (hm : Sub 148111952 msk) (k0 : Keep msk sa s) :
    Keep msk sa (@State.admitPm s b) := by
  unfold State.admitPm
  extract_lets v0 v1
  clear_value v0
  refine keep_foldl ?_ ?_
  · exact k0
  · intro x2 x3 x4
    split
    · rename_i z5 z6 z7 z8 z9 z10
      extract_lets v11
      have h12 : Keep msk sa v11 := by
        unfold v11
        exact State.logRec_keep (.of hm) (State.unhold_keep (.of hm) x4)
      clear_value v11
      exact State.applyPm_keep (.of hm) h12

theorem State.pushDoorbell_keep {s : State} {addr : Nat} {data : Nat} (hm : Sub 1024 msk) (k0 : Keep msk sa s) :
    Keep msk sa (@State.pushDoorbell s addr data) := by
  unfold State.pushDoorbell
  exact keep_mk 1024 (.of hm) k0

theorem State.admitDoorbells_keep {s : State} {b : Nat} (hm : Sub 147850832 msk) (k0 : Keep msk sa s) :
    Keep msk sa (@State.admitDoorbells s b) := by
  unfold State.admitDoorbells
  extract_lets v0
  clear_value v0
  refine keep_foldl ?_ ?_
  · exact k0
  · intro x1 x2 x3
    split
    · rename_i z4 z5 z6 z7
      extract_lets v8
      have h9 : Keep msk sa v8 := by
        unfold v8
        exact State.logRec_keep (.of hm) (State.unhold_keep (.of hm) x3)
      clear_value v8
      exact State.pushDoorbell_keep (.of hm) h9

theorem State.admitRegs_keep {s : State} {b : Nat} (hm : Sub 503316468 msk) (k0 : Keep msk sa s) :
    Keep msk sa (@State.admitRegs s b) := by
  unfold State.admitRegs
  extract_lets v0
  clear_value v0
  refine keep_foldl ?_ ?_
  · exact k0
  · intro x1 x2 x3
    split
    · rename_i z4 z5 z6 z7 z8
      extract_lets v9
      have h10 : Keep msk sa v9 := by
        unfold v9
        exact State.logRec_keep (.of hm) (State.unhold_keep (.of hm) x3)
      clear_value v9
      refine keep_ite ?_ ?_
      · intro x11
        refine State.readDone_keep (.of hm) ?_ ?_
        · exact h10
        · intro x12 x13
          exact State.portRead_keep (.of hm) x13
      · intro x14
        refine State.regDone_keep (.of hm) ?_ ?_
        · exact h10
        · intro x15 x16
          exact State.portWrite_keep (.of hm) x16

theorem State.playRecs_keep {s : State} {kind : Nat} {keep : List Word → Bool} {f : State → List Word → State} (hm : Sub 147849808 msk) (k0 : Keep msk sa s) (k1 : ∀ (a : State) (a_1 : List Word), Keep msk sa a → Keep msk sa (f a a_1)) :
    Keep msk sa (@State.playRecs s kind keep f) := by
  unfold State.playRecs
  extract_lets v0
  clear_value v0
  refine keep_foldl ?_ ?_
  · exact k0
  · intro x1 x2 x3
    extract_lets v4 v5
    clear_value v4
    have h6 : Keep msk sa v5 := by
      unfold v5
      exact keep_mk 1048576 (.of hm) x3
    clear_value v5
    refine k1 _ _ ?_
    refine keep_ite ?_ ?_
    · intro x7
      exact State.logEmit_keep (.of hm) h6
    · intro x8
      exact h6

theorem State.playLinks_keep {s : State} (hm : Sub 215744212 msk) (k0 : Keep msk sa s) :
    Keep msk sa (@State.playLinks s) := by
  unfold State.playLinks
  extract_lets v0
  have h1 : Keep msk sa v0 := by
    unfold v0
    refine State.playRecs_keep (.of hm) ?_ ?_
    · exact k0
    · intro x2 x3 x4
      exact State.presentFall_keep (.of hm) x4
  clear_value v0
  refine State.playRecs_keep (.of hm) ?_ ?_
  · exact h1
  · intro x5 x6 x7
    exact State.dropRise_keep (.of hm) (State.presentRise_keep (.of hm) x7)

theorem State.playInputs_keep {s : State} (hm : Sub 503316468 msk) (k0 : Keep msk sa s) :
    Keep msk sa (@State.playInputs s) := by
  unfold State.playInputs
  extract_lets v0 v1
  have h2 : Keep msk sa v0 := by
    unfold v0
    refine State.playRecs_keep (.of hm) ?_ ?_
    · exact k0
    · intro x3 x4 x5
      exact State.applyPm_keep (.of hm) x5
  clear_value v0
  have h6 : Keep msk sa v1 := by
    unfold v1
    refine State.playRecs_keep (.of hm) ?_ ?_
    · exact h2
    · intro x7 x8 x9
      exact State.pushDoorbell_keep (.of hm) x9
  clear_value v1
  refine State.playRecs_keep (.of hm) ?_ ?_
  · exact h6
  · intro x10 x11 x12
    refine keep_ite ?_ ?_
    · intro x13
      exact keepP_fst (State.portRead_keep (.of hm) x12)
    · intro x14
      exact State.portWrite_keep (.of hm) x12

theorem State.admitHeld_keep {s : State} {b : Nat} (hm : Sub 503316468 msk) (k0 : Keep msk sa s) :
    Keep msk sa (@State.admitHeld s b) := by
  unfold State.admitHeld
  extract_lets v0 v1 v2
  have h3 : Keep msk sa v0 := by
    unfold v0
    exact State.admitLinks_keep (.of hm) (State.admitMm_keep (.of hm) (State.admitTasks_keep (.of hm) k0))
  clear_value v0
  have h4 : Keep msk sa v1 := by
    unfold v1
    refine keep_ite ?_ ?_
    · intro x5
      exact State.playLinks_keep (.of hm) h3
    · intro x6
      exact h3
  clear_value v1
  have h7 : Keep msk sa v2 := by
    unfold v2
    exact State.admitFabric_keep (.of hm) h4
  clear_value v2
  refine keep_ite ?_ ?_
  · intro x8
    exact State.playInputs_keep (.of hm) h7
  · intro x9
    exact State.admitRegs_keep (.of hm) (State.admitDoorbells_keep (.of hm) (State.admitPm_keep (.of hm) h7))

theorem State.glEnd_keep {s : State} (hm : Sub 503316470 msk) (k0 : Keep msk sa s) :
    Keep msk sa (@State.glEnd s) := by
  unfold State.glEnd
  extract_lets v0 v1 v2 v3 v4
  have h5 : Keep msk sa v0 := by
    unfold v0
    exact State.admitHeld_keep (.of hm) k0
  clear_value v0
  have h6 : Keep msk sa v1 := by
    unfold v1
    refine keep_foldl ?_ ?_
    · exact h5
    · intro x7 x8 x9
      refine keep_ite ?_ ?_
      · intro x10
        exact State.letRec_keep (.of hm) x9
      · intro x11
        exact x9
  clear_value v1
  have h12 : Keep msk sa v2 := by
    unfold v2
    refine keep_foldl ?_ ?_
    · exact h6
    · intro x13 x14 x15
      exact State.giveAnswer_keep (.of hm) x15
  clear_value v2
  clear_value v3
  have h16 : Keep msk sa v4 := by
    unfold v4
    exact keep_mk 524288 (.of hm) h12
  clear_value v4
  exact State.rebase_keep (.of hm) (State.setRf_keep (.of hm) (State.setRf_keep (.of hm) h16))

theorem State.afterAdmission_keep {s : State} {e : Nat} (hm : Sub 148380242 msk) (k0 : Keep msk sa s) :
    Keep msk sa (@State.afterAdmission s e) := by
  unfold State.afterAdmission
  extract_lets v0 v1 v2 v3 v4
  clear_value v0
  clear_value v1
  clear_value v2
  have h5 : Keep msk sa v3 := by
    unfold v3
    exact keep_mk 524290 (.of hm) k0
  clear_value v3
  have h6 : Keep msk sa v4 := by
    unfold v4
    refine keep_ite ?_ ?_
    · intro x7
      exact State.sampleEngines_keep (.of hm) h5
    · intro x8
      exact h5
  clear_value v4
  exact State.logFlush_keep (.of hm) (State.reachStarts_keep (.of hm) h6)

theorem State.stall_keep {s : State} {b : Nat} {e : Nat} (hm : Sub 1048592 msk) (k0 : Keep msk sa s) :
    Keep msk sa (@State.stall s b e) := by
  unfold State.stall
  extract_lets v0 v1 v2
  clear_value v0
  have h3 : Keep msk sa v1 := by
    unfold v1
    exact State.setRf_keep (.of hm) k0
  clear_value v1
  clear_value v2
  exact keep_mk 1048576 (.of hm) h3

theorem State.glBoundary_keep {s : State} {b : Nat} {e : Nat} (hm : Sub 503316470 msk) (k0 : Keep msk sa s) :
    Keep msk sa (@State.glBoundary s b e) := by
  unfold State.glBoundary
  extract_lets v0 v1 v2 v3 v4 v5 v6 v7
  have h8 : Keep msk sa v0 := by
    unfold v0
    exact State.setRf_keep (.of hm) (State.setReg64_keep (.of hm) k0)
  clear_value v0
  clear_value v1
  have h9 : Keep msk sa v2 := by
    unfold v2
    exact keep_mk 1048576 (.of hm) h8
  clear_value v2
  have h10 : Keep msk sa v3 := by
    unfold v3
    refine keep_ite ?_ ?_
    · intro x11
      exact State.checkStart_keep (.of hm) h9
    · intro x12
      exact h9
  clear_value v3
  have h13 : Keep msk sa v4 := by
    unfold v4
    refine keep_ite ?_ ?_
    · intro x14
      exact State.diverge_keep (.of hm) h10
    · intro x15
      exact h10
  clear_value v4
  have h16 : Keep msk sa v5 := by
    unfold v5
    refine keep_ite ?_ ?_
    · intro x17
      exact State.endReplay_keep (.of hm) h13
    · intro x18
      exact h13
  clear_value v5
  have h19 : Keep msk sa v6 := by
    unfold v6
    exact State.admitHeld_keep (.of hm) h16
  clear_value v6
  have h20 : Keep msk sa v7 := by
    unfold v7
    refine keep_ite ?_ ?_
    · intro x21
      exact State.endReplay_keep (.of hm) h19
    · intro x22
      exact h19
  clear_value v7
  refine keep_ite ?_ ?_
  · intro x23
    exact State.glEnd_keep (.of hm) h16
  · intro x24
    exact State.afterAdmission_keep (.of hm) h20

theorem execGlEpochBoundary_keep {s : State} (hm : Sub 503316470 msk) (k0 : Keep msk sa s) :
    KeepO msk sa (@execGlEpochBoundary s) := by
  unfold execGlEpochBoundary
  extract_lets v0 v1 v2 v3
  clear_value v0
  have h4 : Keep msk sa v1 := by
    unfold v1
    exact State.logFlush_keep (.of hm) k0
  clear_value v1
  clear_value v2
  clear_value v3
  refine keepO_ite ?_ ?_
  · intro x5
    exact keepO_next k0
  · intro x6
    refine keepO_next ?_
    refine keep_ite ?_ ?_
    · intro x7
      exact State.stall_keep (.of hm) h4
    · intro x8
      exact State.glBoundary_keep (.of hm) h4

theorem execReplayStall_keep {s : State} (hm : Sub 13631504 msk) (k0 : Keep msk sa s) :
    KeepO msk sa (@execReplayStall s) := by
  unfold execReplayStall
  refine keepO_next ?_
  split
  · rename_i z0 z1 z2
    refine keep_ite ?_ ?_
    · intro x3
      exact State.endReplay_keep (.of hm) (State.reportPlain_keep (.of hm) k0)
    · intro x4
      exact k0
  · rename_i z5 z6
    exact k0

theorem State.tagEpisode_keep {s : State} {kind : Nat} {p : Nat} {old : Bool} (hm : Sub 146800656 msk) (k0 : Keep msk sa s) :
    Keep msk sa (@State.tagEpisode s kind p old) := by
  unfold State.tagEpisode
  extract_lets v0
  clear_value v0
  refine keep_ite ?_ ?_
  · intro x1
    exact State.closeEpisode_keep (.of hm) k0
  · intro x2
    refine keep_ite ?_ ?_
    · intro x3
      exact k0
    · intro x4
      exact State.reportPlain_keep (.of hm) (State.openEpisode_keep (.of hm) k0)

theorem State.failOldSeqs_keep {s : State} {p : Nat} (hm : Sub 148635348 msk) (k0 : Keep msk sa s) :
    Keep msk sa (@State.failOldSeqs s p) := by
  unfold State.failOldSeqs
  extract_lets v0 v1 v2 v3 v4 v5
  clear_value v0
  clear_value v1
  clear_value v2
  have h6 : Keep msk sa v3 := by
    unfold v3
    exact State.tagEpisode_keep (.of hm) (State.tagEpisode_keep (.of hm) (State.tagEpisode_keep (.of hm) k0))
  clear_value v3
  have h7 : Keep msk sa v4 := by
    unfold v4
    refine keep_foldl ?_ ?_
    · exact h6
    · intro x8 x9 x10
      exact State.signalDone_keep (.of hm) (State.reportSignal_keep (.of hm) x10)
  clear_value v4
  have h11 : Keep msk sa v5 := by
    unfold v5
    refine keep_foldl ?_ ?_
    · exact h7
    · intro x12 x13 x14
      exact State.endSend_keep (.of hm) (State.reportPlain_keep (.of hm) x14)
  clear_value v5
  refine keep_foldl ?_ ?_
  · exact h11
  · intro x15 x16 x17
    exact State.failEdge_keep (.of hm) x17

theorem State.checkTags_keep {s : State} {p : Nat} (hm : Sub 148635348 msk) (k0 : Keep msk sa s) :
    Keep msk sa (@State.checkTags s p) := by
  unfold State.checkTags
  extract_lets v0 v1 v2
  have h3 : Keep msk sa v0 := by
    unfold v0
    exact State.tagEpisode_keep (.of hm) k0
  clear_value v0
  have h4 : Keep msk sa v1 := by
    unfold v1
    exact State.tagEpisode_keep (.of hm) h3
  clear_value v1
  have h5 : Keep msk sa v2 := by
    unfold v2
    exact State.tagEpisode_keep (.of hm) h4
  clear_value v2
  exact State.failOldSeqs_keep (.of hm) h5

theorem execTagWindowCheck_keep {s : State} (hm : Sub 148635348 msk) (k0 : Keep msk sa s) :
    KeepO msk sa (@execTagWindowCheck s) := by
  unfold execTagWindowCheck
  refine keepO_next ?_
  refine keep_ite ?_ ?_
  · intro x0
    refine keep_foldl ?_ ?_
    · exact keep_mk 1048576 (.of hm) k0
    · intro x1 x2 x3
      exact State.checkTags_keep (.of hm) x3
  · intro x4
    exact k0

/-! ### Machine/Slow.lean -/

theorem execSignalRemote_keep {c : Nat} {q : Nat} {s : State} (hm : Sub 215744223 msk) (k0 : Keep msk sa s) :
    KeepO msk sa (@execSignalRemote c q s) := by
  unfold execSignalRemote
  split
  · rename_i z0 z1
    exact keepO_next k0
  · rename_i z2 z3 z4
    extract_lets v5 v6 v7
    clear_value v5
    clear_value v6
    have h8 : Keep msk sa v7 := by
      unfold v7
      refine keep_ite ?_ ?_
      · intro x9
        exact State.recordTurn_keep (.of hm) (State.nextCcIf_keep (.of hm) k0)
      · intro x10
        exact k0
    clear_value v7
    split
    · rename_i z11 z12 z13
      have h14 : Keep msk sa z12 := by
        refine keepP_eq z13 ?_
        exact State.startSignal_keep (.of hm) h8
      exact keepO_next (State.slowAway_keep (.of hm) h14)
    · rename_i z15 z16 z17 z18 z19
      have h20 : Keep msk sa z16 := by
        refine keepP_eq z19 ?_
        exact State.startSignal_keep (.of hm) h8
      exact keepO_next (State.finishHead_keep (.of hm) h20)

theorem execFence_keep {c : Nat} {q : Nat} {s : State} (hm : Sub 13633104 msk) (k0 : Keep msk sa s) :
    KeepO msk sa (@execFence c q s) := by
  unfold execFence
  split
  · rename_i z0 z1
    exact keepO_next k0
  · rename_i z2 z3 z4
    extract_lets v5
    clear_value v5
    refine keepO_next ?_
    refine keep_ite ?_ ?_
    · intro x6
      exact State.slowAway_keep (.of hm) k0
    · intro x7
      exact State.finishHead_keep (.of hm) k0

theorem execQueryTemplate_keep {c : Nat} {q : Nat} {s : State} (hm : Sub 13633104 msk) (k0 : Keep msk sa s) :
    KeepO msk sa (@execQueryTemplate c q s) := by
  unfold execQueryTemplate
  split
  · rename_i z0 z1
    exact keepO_next k0
  · rename_i z2 z3 z4
    extract_lets v5
    clear_value v5
    refine keepO_ite ?_ ?_
    · intro x6
      exact keepO_next (State.refuse_keep (.of hm) k0)
    · intro x7
      refine keepO_ite ?_ ?_
      · intro x8
        exact keepO_next (State.finishHead_keep (.of hm) k0)
      · intro x9
        refine keepO_ite ?_ ?_
        · intro x10
          exact keepO_next (State.refuse_keep (.of hm) k0)
        · intro x11
          exact keepO_next (State.finishHead_keep (.of hm) k0)

theorem execQueryEvent_keep {c : Nat} {q : Nat} {s : State} (hm : Sub 13633232 msk) (k0 : Keep msk sa s) :
    KeepO msk sa (@execQueryEvent c q s) := by
  unfold execQueryEvent
  split
  · rename_i z0 z1
    exact keepO_next k0
  · rename_i z2 z3 z4
    extract_lets v5
    clear_value v5
    split
    · rename_i z6 z7
      exact keepO_next (State.refuse_keep (.of hm) k0)
    · rename_i z8 z9 z10
      refine keepO_ite ?_ ?_
      · intro x11
        exact keepO_next (State.refuse_keep (.of hm) k0)
      · intro x12
        refine keepO_ite ?_ ?_
        · intro x13
          exact keepO_next (State.refuse_keep (.of hm) k0)
        · intro x14
          split
          · rename_i z15 z16 z17 z18
            have h19 : Keep msk sa z16 := by
              refine keepP_eq z18 ?_
              exact State.checkEvent_keep (.of hm) k0
            exact keepO_next (State.finishHead_keep (.of hm) h19)
          · rename_i z20 z21 z22
            have h23 : Keep msk sa z21 := by
              refine keepP_eq z22 ?_
              exact State.checkEvent_keep (.of hm) k0
            exact keepO_next (State.finishHead_keep (.of hm) h23)

theorem execQueryLaunch_keep {c : Nat} {q : Nat} {s : State} (hm : Sub 13633104 msk) (k0 : Keep msk sa s) :
    KeepO msk sa (@execQueryLaunch c q s) := by
  unfold execQueryLaunch
  split
  · rename_i z0 z1
    exact keepO_next k0
  · rename_i z2 z3 z4
    extract_lets v5
    clear_value v5
    split
    · rename_i z6 z7 z8
      exact keepO_next (State.finishHead_keep (.of hm) k0)
    · rename_i z9 z10
      exact keepO_next (State.finishHead_keep (.of hm) k0)

theorem execQueryQueue_keep {c : Nat} {q : Nat} {s : State} (hm : Sub 13633104 msk) (k0 : Keep msk sa s) :
    KeepO msk sa (@execQueryQueue c q s) := by
  unfold execQueryQueue
  split
  · rename_i z0 z1
    exact keepO_next k0
  · rename_i z2 z3 z4
    split
    · rename_i z5 z6 z7
      exact keepO_next (State.finishHead_keep (.of hm) k0)
    · rename_i z8 z9
      exact keepO_next (State.finishHead_keep (.of hm) k0)

theorem execQuerySemaphore_keep {c : Nat} {q : Nat} {s : State} (hm : Sub 13633232 msk) (k0 : Keep msk sa s) :
    KeepO msk sa (@execQuerySemaphore c q s) := by
  unfold execQuerySemaphore
  split
  · rename_i z0 z1
    exact keepO_next k0
  · rename_i z2 z3 z4
    extract_lets v5
    clear_value v5
    refine keepO_ite ?_ ?_
    · intro x6
      exact keepO_next (State.refuse_keep (.of hm) k0)
    · intro x7
      refine keepO_ite ?_ ?_
      · intro x8
        exact keepO_next (State.slowAway_keep (.of hm) k0)
      · intro x9
        split
        · rename_i z10 z11 z12 z13
          have h14 : Keep msk sa z11 := by
            refine keepP_eq z13 ?_
            exact State.checkSem_keep (.of hm) k0
          exact keepO_next (State.finishHead_keep (.of hm) h14)
        · rename_i z15 z16 z17
          have h18 : Keep msk sa z16 := by
            refine keepP_eq z17 ?_
            exact State.checkSem_keep (.of hm) k0
          exact keepO_next (State.finishHead_keep (.of hm) h18)

theorem execEventCreate_keep {c : Nat} {q : Nat} {s : State} (hm : Sub 13633104 msk) (k0 : Keep msk sa s) :
    KeepO msk sa (@execEventCreate c q s) := by
  unfold execEventCreate
  split
  · rename_i z0 z1
    exact keepO_next k0
  · rename_i z2 z3 z4
    extract_lets v5 v6 v7 v8
    clear_value v5
    clear_value v6
    clear_value v7
    clear_value v8
    split
    · rename_i z9 z10
      exact keepO_next (State.refuse_keep (.of hm) k0)
    · rename_i z11 z12 z13
      refine keepO_ite ?_ ?_
      · intro x14
        exact keepO_next (State.refuse_keep (.of hm) k0)
      · intro x15
        extract_lets v16 v17 v18
        clear_value v16
        clear_value v17
        have h19 : Keep msk sa v18 := by
          unfold v18
          exact keep_mk 1024 (.of hm) k0
        clear_value v18
        exact keepO_next (State.finishHead_keep (.of hm) h19)

theorem execEventDestroy_keep {c : Nat} {q : Nat} {s : State} (hm : Sub 13633104 msk) (k0 : Keep msk sa s) :
    KeepO msk sa (@execEventDestroy c q s) := by
  unfold execEventDestroy
  split
  · rename_i z0 z1
    exact keepO_next k0
  · rename_i z2 z3 z4
    extract_lets v5
    clear_value v5
    split
    · rename_i z6 z7 z8
      exact keepO_next (State.refuse_keep (.of hm) k0)
    · rename_i z9 z10 z11
      refine keepO_ite ?_ ?_
      · intro x12
        exact keepO_next (State.refuse_keep (.of hm) k0)
      · intro x13
        extract_lets v14
        have h15 : Keep msk sa v14 := by
          unfold v14
          exact State.updEvent_keep (.of hm) k0
        clear_value v14
        exact keepO_next (State.finishHead_keep (.of hm) h15)

/-! ### Machine/Tap.lean -/

theorem State.tapToBypass_keep {s : State} (hm : Sub 33554432 msk) (k0 : Keep msk sa s) :
    Keep msk sa (@State.tapToBypass s) := by
  unfold State.tapToBypass
  exact State.emit_keep (.of hm) (keep_mk 33554432 (.of hm) k0)

theorem State.tapSelect_keep {s : State} {ir : Nat} {f : State → State} (hm : Sub 33554432 msk) (k0 : Keep msk sa s) (k1 : ∀ (a : State), Keep msk sa a → Keep msk sa (f a)) :
    Keep msk sa (@State.tapSelect s ir f) := by
  unfold State.tapSelect
  refine keep_ite ?_ ?_
  · intro x0
    exact State.tapToBypass_keep (.of hm) k0
  · intro x1
    refine k1 _ ?_
    exact keep_mk 33554432 (.of hm) k0

theorem State.tapRefused_keep {s : State} (hm : Sub 12582928 msk) (k0 : Keep msk sa s) :
    Keep msk sa (@State.tapRefused s) := by
  unfold State.tapRefused
  exact State.reportPlain_keep (.of hm) (State.setRf_keep (.of hm) k0)

theorem State.captureCells_keep {s : State} (hm : Sub 268435456 msk) (k0 : Keep msk sa s) :
    KeepQ msk sa (@State.captureCells s) := by
  unfold State.captureCells
  exact keepQ_mk (keep_mk 268435456 (.of hm) k0)

theorem State.scanCells_keep {s : State} {cells : List Bool} (hm : Sub 301989888 msk) (k0 : Keep msk sa s) :
    Keep msk sa (@State.scanCells s cells) := by
  unfold State.scanCells
  split
  · rename_i z0 z1 z2 z3
    have h4 : Keep msk sa z2 := by
      refine keepQ_eq z3 ?_
      exact State.captureCells_keep (.of hm) k0
    exact State.emit_keep (.of hm) (keep_mk 33554432 (.of hm) h4)

theorem execTapExtest_keep {cells : List Bool} {s : State} (hm : Sub 314572816 msk) (k0 : Keep msk sa s) :
    KeepO msk sa (@execTapExtest cells s) := by
  unfold execTapExtest
  refine keepO_next ?_
  refine keep_ite ?_ ?_
  · intro x0
    exact State.tapToBypass_keep (.of hm) (State.tapRefused_keep (.of hm) k0)
  · intro x1
    refine State.tapSelect_keep (.of hm) ?_ ?_
    · exact k0
    · intro x2 x3
      extract_lets v4
      have h5 : Keep msk sa v4 := by
        unfold v4
        exact State.scanCells_keep (.of hm) x3
      clear_value v4
      exact State.emit_keep (.of hm) h5

theorem execTapSamplePreload_keep {cells : List Bool} {s : State} (hm : Sub 301989888 msk) (k0 : Keep msk sa s) :
    KeepO msk sa (@execTapSamplePreload cells s) := by
  unfold execTapSamplePreload
  refine keepO_next ?_
  refine State.tapSelect_keep (.of hm) ?_ ?_
  · exact k0
  · intro x0 x1
    exact State.scanCells_keep (.of hm) x1

theorem execTapIdcode_keep {s : State} (hm : Sub 33554432 msk) (k0 : Keep msk sa s) :
    KeepO msk sa (@execTapIdcode s) := by
  unfold execTapIdcode
  refine keepO_next ?_
  refine State.tapSelect_keep (.of hm) ?_ ?_
  · exact k0
  · intro x0 x1
    exact State.emit_keep (.of hm) x1

theorem execTapClamp_keep {s : State} (hm : Sub 46137360 msk) (k0 : Keep msk sa s) :
    KeepO msk sa (@execTapClamp s) := by
  unfold execTapClamp
  refine keepO_next ?_
  refine keep_ite ?_ ?_
  · intro x0
    exact State.tapToBypass_keep (.of hm) (State.tapRefused_keep (.of hm) k0)
  · intro x1
    refine State.tapSelect_keep (.of hm) ?_ ?_
    · exact k0
    · intro x2 x3
      exact State.emit_keep (.of hm) (State.emit_keep (.of hm) x3)

theorem State.tapAccess_keep {s : State} {we : Bool} {a : Nat} {d : Word} (hm : Sub 536870900 msk) (k0 : Keep msk sa s) :
    Keep msk sa (@State.tapAccess s we a d) := by
  unfold State.tapAccess
  refine keep_ite ?_ ?_
  · intro x0
    exact keep_mk 33554432 (.of hm) k0
  · intro x1
    refine keep_ite ?_ ?_
    · intro x2
      extract_lets v3 v4
      have h5 : Keep msk sa v3 := by
        unfold v3
        exact State.portWrite_keep (.of hm) (State.unlatch_keep (.of hm) k0)
      clear_value v3
      clear_value v4
      exact keep_mk 33554432 (.of hm) h5
    · intro x6
      split
      · rename_i z7 z8 z9 z10
        have h11 : Keep msk sa z8 := by
          refine keepP_eq z10 ?_
          exact State.portRead_keep (.of hm) k0
        exact keep_mk 33554432 (.of hm) h11

theorem execTapRegAccess_keep {we : Bool} {addr : BitVec 21} {data : BitVec 32} {s : State} (hm : Sub 536870900 msk) (k0 : Keep msk sa s) :
    KeepO msk sa (@execTapRegAccess we addr data s) := by
  unfold execTapRegAccess
  refine keepO_next ?_
  refine State.tapSelect_keep (.of hm) ?_ ?_
  · exact k0
  · intro x0 x1
    extract_lets v2
    have h3 : Keep msk sa v2 := by
      unfold v2
      exact State.tapAccess_keep (.of hm) x1
    clear_value v2
    exact State.emit_keep (.of hm) h3

theorem execTapSnap_keep {s : State} (hm : Sub 41943056 msk) (k0 : Keep msk sa s) :
    KeepO msk sa (@execTapSnap s) := by
  unfold execTapSnap
  refine keepO_next ?_
  refine State.tapSelect_keep (.of hm) ?_ ?_
  · exact k0
  · intro x0 x1
    exact State.fireSnap_keep (.of hm) (State.emit_keep (.of hm) x1)

theorem State.startMbist_keep {s : State} (hm : Sub 226492144 msk) (k0 : Keep msk sa s) :
    Keep msk sa (@State.startMbist s) := by
  unfold State.startMbist
  extract_lets v0 v1 v2 v3 v4
  have h5 : Keep msk sa v0 := by
    unfold v0
    exact State.setReg_keep (.of hm) k0
  clear_value v0
  have h6 : Keep msk sa v1 := by
    unfold v1
    exact State.clearUnits_keep (.of hm) (State.setReg_keep (.of hm) h5)
  clear_value v1
  have h7 : Keep msk sa v2 := by
    unfold v2
    refine keep_ite ?_ ?_
    · intro x8
      exact State.setPhase_keep (.of hm) h6
    · intro x9
      exact h6
  clear_value v2
  clear_value v3
  clear_value v4
  exact keep_mk 20971520 (.of hm) h7

theorem execTapMbist_keep {start : Bool} {s : State} (hm : Sub 268435184 msk) (k0 : Keep msk sa s) :
    KeepO msk sa (@execTapMbist start s) := by
  unfold execTapMbist
  refine keepO_next ?_
  refine State.tapSelect_keep (.of hm) ?_ ?_
  · exact k0
  · intro x0 x1
    extract_lets v2
    have h3 : Keep msk sa v2 := by
      unfold v2
      exact State.emit_keep (.of hm) x1
    clear_value v2
    refine keep_ite ?_ ?_
    · intro x4
      exact h3
    · intro x5
      refine keep_ite ?_ ?_
      · intro x6
        exact State.tapRefused_keep (.of hm) h3
      · intro x7
        exact State.startMbist_keep (.of hm) h3

theorem execMbistDone_keep {failBank : Option Nat} {s : State} (hm : Sub 12582928 msk) (k0 : Keep msk sa s) :
    KeepO msk sa (@execMbistDone failBank s) := by
  unfold execMbistDone
  refine keepO_next ?_
  refine keep_ite ?_ ?_
  · intro x0
    extract_lets v1
    have h2 : Keep msk sa v1 := by
      unfold v1
      split
      · rename_i z3 z4
        exact State.reportPlain_keep (.of hm) (State.setReg_keep (.of hm) k0)
      · rename_i z5
        exact State.setReg_keep (.of hm) k0
    clear_value v1
    exact State.setPhase_keep (.of hm) h2
  · intro x6
    exact k0

theorem execTapBypass_keep {opcode : BitVec 5} {s : State} (hm : Sub 33554432 msk) (k0 : Keep msk sa s) :
    KeepO msk sa (@execTapBypass opcode s) := by
  unfold execTapBypass
  refine keepO_next ?_
  refine keep_ite ?_ ?_
  · intro x0
    exact State.tapToBypass_keep (.of hm) k0
  · intro x1
    exact k0

theorem execTrst_keep {s : State} (hm : Sub 33554432 msk) (k0 : Keep msk sa s) :
    KeepO msk sa (@execTrst s) := by
  unfold execTrst
  exact keepO_next (keep_mk 33554432 (.of hm) k0)

/-! ### Machine/Walk.lean -/

theorem execWalkEdges_keep {s : State} (hm : Sub 215744223 msk) (k0 : Keep msk sa s) :
    KeepO msk sa (@execWalkEdges s) := by
  unfold execWalkEdges
  exact keepO_next (State.walkCc_keep (.of hm) (State.readMarks_keep (.of hm) (State.nextCcIf_keep (.of hm) k0)))
end Sys2Proof.Machine
end

