-- ==== Sys2Proof/Laws/PerInstr.lean ====
section
/-! SUPPORT. Laws about the commands as syntax, one lemma for each constructor.  Family Shape: the parts of the state that a command may
change are listed once each. -/

-- One declaration at a time: checked side by side, the lemmas ask for more threads than the checks may start.
set_option Elab.async false

namespace Sys2Proof.Laws.Shape

/-- The list of the parts that a command may change has no repeats. -/
def Statement (i : Instr) : Prop := (Machine.partsOf i).Nodup

theorem registerWrite (addr : BitVec 21) (data : BitVec 32) : Statement (.registerWrite addr data) :=
  of_decide_eq_true (p := (Machine.partsOf (.registerWrite addr data)).Nodup) rfl

theorem latchedLowRead (addr : BitVec 21) : Statement (.latchedLowRead addr) :=
  of_decide_eq_true (p := (Machine.partsOf (.latchedLowRead addr)).Nodup) rfl

theorem glbUnlockWrite (data : BitVec 32) : Statement (.glbUnlockWrite data) :=
  of_decide_eq_true (p := (Machine.partsOf (.glbUnlockWrite data)).Nodup) rfl

theorem unlockExpired : Statement (.unlockExpired) :=
  of_decide_eq_true (p := (Machine.partsOf (.unlockExpired)).Nodup) rfl

theorem glbUnitEnWrite (data : BitVec 32) : Statement (.glbUnitEnWrite data) :=
  of_decide_eq_true (p := (Machine.partsOf (.glbUnitEnWrite data)).Nodup) rfl

theorem glbCrcRefWrite (data : BitVec 32) : Statement (.glbCrcRefWrite data) :=
  of_decide_eq_true (p := (Machine.partsOf (.glbCrcRefWrite data)).Nodup) rfl

theorem unitReady (unit : Nat) : Statement (.unitReady unit) :=
  of_decide_eq_true (p := (Machine.partsOf (.unitReady unit)).Nodup) rfl

theorem unitStopped (unit : Nat) : Statement (.unitStopped unit) :=
  of_decide_eq_true (p := (Machine.partsOf (.unitStopped unit)).Nodup) rfl

theorem tableWindowWrite (addr : BitVec 21) (data : BitVec 32) : Statement (.tableWindowWrite addr data) :=
  of_decide_eq_true (p := (Machine.partsOf (.tableWindowWrite addr data)).Nodup) rfl

theorem routeLayerWrite (addr : BitVec 21) (data : BitVec 32) : Statement (.routeLayerWrite addr data) :=
  of_decide_eq_true (p := (Machine.partsOf (.routeLayerWrite addr data)).Nodup) rfl

theorem eraBankWrite (addr : BitVec 21) (data : BitVec 32) : Statement (.eraBankWrite addr data) :=
  of_decide_eq_true (p := (Machine.partsOf (.eraBankWrite addr data)).Nodup) rfl

theorem rxqEntryWrite (addr : BitVec 21) (data : BitVec 32) : Statement (.rxqEntryWrite addr data) :=
  of_decide_eq_true (p := (Machine.partsOf (.rxqEntryWrite addr data)).Nodup) rfl

theorem routeEntryWrite (addr : BitVec 21) (data : BitVec 32) : Statement (.routeEntryWrite addr data) :=
  of_decide_eq_true (p := (Machine.partsOf (.routeEntryWrite addr data)).Nodup) rfl

theorem sheafEntryWrite (addr : BitVec 21) (data : BitVec 32) : Statement (.sheafEntryWrite addr data) :=
  of_decide_eq_true (p := (Machine.partsOf (.sheafEntryWrite addr data)).Nodup) rfl

theorem stookEntryWrite (addr : BitVec 21) (data : BitVec 32) : Statement (.stookEntryWrite addr data) :=
  of_decide_eq_true (p := (Machine.partsOf (.stookEntryWrite addr data)).Nodup) rfl

theorem saveSetWrite (addr : BitVec 21) (data : BitVec 32) : Statement (.saveSetWrite addr data) :=
  of_decide_eq_true (p := (Machine.partsOf (.saveSetWrite addr data)).Nodup) rfl

theorem bgModelBankWrite (addr : BitVec 21) (data : BitVec 32) : Statement (.bgModelBankWrite addr data) :=
  of_decide_eq_true (p := (Machine.partsOf (.bgModelBankWrite addr data)).Nodup) rfl

theorem domainMapWrite (addr : BitVec 21) (data : BitVec 32) : Statement (.domainMapWrite addr data) :=
  of_decide_eq_true (p := (Machine.partsOf (.domainMapWrite addr data)).Nodup) rfl

theorem doorbellWrite (addr : BitVec 22) (data : BitVec 64) : Statement (.doorbellWrite addr data) :=
  of_decide_eq_true (p := (Machine.partsOf (.doorbellWrite addr data)).Nodup) rfl

theorem doorbellProcess : Statement (.doorbellProcess) :=
  of_decide_eq_true (p := (Machine.partsOf (.doorbellProcess)).Nodup) rfl

theorem mmReadData (tag status : Nat) (last : Bool) (data : List (BitVec 32)) : Statement (.mmReadData tag status last data) :=
  of_decide_eq_true (p := (Machine.partsOf (.mmReadData tag status last data)).Nodup) rfl

theorem mmWriteCompletion (tag status : Nat) : Statement (.mmWriteCompletion tag status) :=
  of_decide_eq_true (p := (Machine.partsOf (.mmWriteCompletion tag status)).Nodup) rfl

theorem dlPresentRise (link : Nat) : Statement (.dlPresentRise link) :=
  of_decide_eq_true (p := (Machine.partsOf (.dlPresentRise link)).Nodup) rfl

theorem dlPresentFall (link : Nat) : Statement (.dlPresentFall link) :=
  of_decide_eq_true (p := (Machine.partsOf (.dlPresentFall link)).Nodup) rfl

theorem linkupStart (link : Nat) : Statement (.linkupStart link) :=
  of_decide_eq_true (p := (Machine.partsOf (.linkupStart link)).Nodup) rfl

theorem linkupReply (slice : Nat) : Statement (.linkupReply slice) :=
  of_decide_eq_true (p := (Machine.partsOf (.linkupReply slice)).Nodup) rfl

theorem linkupTimeout (link : Nat) : Statement (.linkupTimeout link) :=
  of_decide_eq_true (p := (Machine.partsOf (.linkupTimeout link)).Nodup) rfl

theorem linkupReoffer (link : Nat) : Statement (.linkupReoffer link) :=
  of_decide_eq_true (p := (Machine.partsOf (.linkupReoffer link)).Nodup) rfl

theorem dlIssCredit (link : Nat) : Statement (.dlIssCredit link) :=
  of_decide_eq_true (p := (Machine.partsOf (.dlIssCredit link)).Nodup) rfl

theorem completionArrive (link : Nat) (w0 w1 : BitVec 32) : Statement (.completionArrive link w0 w1) :=
  of_decide_eq_true (p := (Machine.partsOf (.completionArrive link w0 w1)).Nodup) rfl

theorem completionDone (slice : Nat) : Statement (.completionDone slice) :=
  of_decide_eq_true (p := (Machine.partsOf (.completionDone slice)).Nodup) rfl

theorem completionDoneStat (slice : Nat) : Statement (.completionDoneStat slice) :=
  of_decide_eq_true (p := (Machine.partsOf (.completionDoneStat slice)).Nodup) rfl

theorem completionFault (slice : Nat) : Statement (.completionFault slice) :=
  of_decide_eq_true (p := (Machine.partsOf (.completionFault slice)).Nodup) rfl

theorem completionKilled (slice : Nat) : Statement (.completionKilled slice) :=
  of_decide_eq_true (p := (Machine.partsOf (.completionKilled slice)).Nodup) rfl

theorem completionSpawn (slice : Nat) : Statement (.completionSpawn slice) :=
  of_decide_eq_true (p := (Machine.partsOf (.completionSpawn slice)).Nodup) rfl

theorem ctrlAck (slice : Nat) : Statement (.ctrlAck slice) :=
  of_decide_eq_true (p := (Machine.partsOf (.ctrlAck slice)).Nodup) rfl

theorem walkEdges : Statement (.walkEdges) :=
  of_decide_eq_true (p := (Machine.partsOf (.walkEdges)).Nodup) rfl

theorem remoteEdgeSend : Statement (.remoteEdgeSend) :=
  of_decide_eq_true (p := (Machine.partsOf (.remoteEdgeSend)).Nodup) rfl

theorem semPost : Statement (.semPost) :=
  of_decide_eq_true (p := (Machine.partsOf (.semPost)).Nodup) rfl

theorem taskIssue : Statement (.taskIssue) :=
  of_decide_eq_true (p := (Machine.partsOf (.taskIssue)).Nodup) rfl

theorem taskTimeout (link : Nat) (tag : BitVec 28) : Statement (.taskTimeout link tag) :=
  of_decide_eq_true (p := (Machine.partsOf (.taskTimeout link tag)).Nodup) rfl

theorem killTimeout (link : Nat) : Statement (.killTimeout link) :=
  of_decide_eq_true (p := (Machine.partsOf (.killTimeout link)).Nodup) rfl

theorem noEngineTimeout (node : Nat) : Statement (.noEngineTimeout node) :=
  of_decide_eq_true (p := (Machine.partsOf (.noEngineTimeout node)).Nodup) rfl

theorem linkCmdDrain (link : Nat) : Statement (.linkCmdDrain link) :=
  of_decide_eq_true (p := (Machine.partsOf (.linkCmdDrain link)).Nodup) rfl

theorem linkCmdSleep (link : Nat) : Statement (.linkCmdSleep link) :=
  of_decide_eq_true (p := (Machine.partsOf (.linkCmdSleep link)).Nodup) rfl

theorem linkCmdPing (link : Nat) : Statement (.linkCmdPing link) :=
  of_decide_eq_true (p := (Machine.partsOf (.linkCmdPing link)).Nodup) rfl

theorem linkCmdWake (link : Nat) : Statement (.linkCmdWake link) :=
  of_decide_eq_true (p := (Machine.partsOf (.linkCmdWake link)).Nodup) rfl

theorem linkCmdRelink (link : Nat) : Statement (.linkCmdRelink link) :=
  of_decide_eq_true (p := (Machine.partsOf (.linkCmdRelink link)).Nodup) rfl

theorem spawnAccept : Statement (.spawnAccept) :=
  of_decide_eq_true (p := (Machine.partsOf (.spawnAccept)).Nodup) rfl

theorem launchOp (ctx q : Nat) : Statement (.launchOp ctx q) :=
  of_decide_eq_true (p := (Machine.partsOf (.launchOp ctx q)).Nodup) rfl

theorem launchGraph (ctx q : Nat) : Statement (.launchGraph ctx q) :=
  of_decide_eq_true (p := (Machine.partsOf (.launchGraph ctx q)).Nodup) rfl

theorem launchAt (ctx q : Nat) : Statement (.launchAt ctx q) :=
  of_decide_eq_true (p := (Machine.partsOf (.launchAt ctx q)).Nodup) rfl

theorem launchAccept : Statement (.launchAccept) :=
  of_decide_eq_true (p := (Machine.partsOf (.launchAccept)).Nodup) rfl

theorem copyFinish : Statement (.copyFinish) :=
  of_decide_eq_true (p := (Machine.partsOf (.copyFinish)).Nodup) rfl

theorem waitsClear (slot : Nat) : Statement (.waitsClear slot) :=
  of_decide_eq_true (p := (Machine.partsOf (.waitsClear slot)).Nodup) rfl

theorem launchRelease (slot : Nat) : Statement (.launchRelease slot) :=
  of_decide_eq_true (p := (Machine.partsOf (.launchRelease slot)).Nodup) rfl

theorem loadTemplate (ctx q : Nat) : Statement (.loadTemplate ctx q) :=
  of_decide_eq_true (p := (Machine.partsOf (.loadTemplate ctx q)).Nodup) rfl

theorem templateCheckDone (ctx q : Nat) : Statement (.templateCheckDone ctx q) :=
  of_decide_eq_true (p := (Machine.partsOf (.templateCheckDone ctx q)).Nodup) rfl

theorem patchTemplate (ctx q : Nat) : Statement (.patchTemplate ctx q) :=
  of_decide_eq_true (p := (Machine.partsOf (.patchTemplate ctx q)).Nodup) rfl

theorem patchCommit (ctx q : Nat) : Statement (.patchCommit ctx q) :=
  of_decide_eq_true (p := (Machine.partsOf (.patchCommit ctx q)).Nodup) rfl

theorem freeTemplate (ctx q : Nat) : Statement (.freeTemplate ctx q) :=
  of_decide_eq_true (p := (Machine.partsOf (.freeTemplate ctx q)).Nodup) rfl

theorem recordEvent (ctx q : Nat) : Statement (.recordEvent ctx q) :=
  of_decide_eq_true (p := (Machine.partsOf (.recordEvent ctx q)).Nodup) rfl

theorem waitEvent (ctx q : Nat) : Statement (.waitEvent ctx q) :=
  of_decide_eq_true (p := (Machine.partsOf (.waitEvent ctx q)).Nodup) rfl

theorem semOpAdd (ctx q : Nat) : Statement (.semOpAdd ctx q) :=
  of_decide_eq_true (p := (Machine.partsOf (.semOpAdd ctx q)).Nodup) rfl

theorem semOpSub (ctx q : Nat) : Statement (.semOpSub ctx q) :=
  of_decide_eq_true (p := (Machine.partsOf (.semOpSub ctx q)).Nodup) rfl

theorem semOpWaitGe (ctx q : Nat) : Statement (.semOpWaitGe ctx q) :=
  of_decide_eq_true (p := (Machine.partsOf (.semOpWaitGe ctx q)).Nodup) rfl

theorem semOpWaitGeSub (ctx q : Nat) : Statement (.semOpWaitGeSub ctx q) :=
  of_decide_eq_true (p := (Machine.partsOf (.semOpWaitGeSub ctx q)).Nodup) rfl

theorem signalRemote (ctx q : Nat) : Statement (.signalRemote ctx q) :=
  of_decide_eq_true (p := (Machine.partsOf (.signalRemote ctx q)).Nodup) rfl

theorem fence (ctx q : Nat) : Statement (.fence ctx q) :=
  of_decide_eq_true (p := (Machine.partsOf (.fence ctx q)).Nodup) rfl

theorem queryTemplate (ctx q : Nat) : Statement (.queryTemplate ctx q) :=
  of_decide_eq_true (p := (Machine.partsOf (.queryTemplate ctx q)).Nodup) rfl

theorem queryEvent (ctx q : Nat) : Statement (.queryEvent ctx q) :=
  of_decide_eq_true (p := (Machine.partsOf (.queryEvent ctx q)).Nodup) rfl

theorem queryLaunch (ctx q : Nat) : Statement (.queryLaunch ctx q) :=
  of_decide_eq_true (p := (Machine.partsOf (.queryLaunch ctx q)).Nodup) rfl

theorem queryQueue (ctx q : Nat) : Statement (.queryQueue ctx q) :=
  of_decide_eq_true (p := (Machine.partsOf (.queryQueue ctx q)).Nodup) rfl

theorem querySemaphore (ctx q : Nat) : Statement (.querySemaphore ctx q) :=
  of_decide_eq_true (p := (Machine.partsOf (.querySemaphore ctx q)).Nodup) rfl

theorem eventCreate (ctx q : Nat) : Statement (.eventCreate ctx q) :=
  of_decide_eq_true (p := (Machine.partsOf (.eventCreate ctx q)).Nodup) rfl

theorem eventDestroy (ctx q : Nat) : Statement (.eventDestroy ctx q) :=
  of_decide_eq_true (p := (Machine.partsOf (.eventDestroy ctx q)).Nodup) rfl

theorem contextCreate : Statement (.contextCreate) :=
  of_decide_eq_true (p := (Machine.partsOf (.contextCreate)).Nodup) rfl

theorem destroyDrain : Statement (.destroyDrain) :=
  of_decide_eq_true (p := (Machine.partsOf (.destroyDrain)).Nodup) rfl

theorem destroyKill : Statement (.destroyKill) :=
  of_decide_eq_true (p := (Machine.partsOf (.destroyKill)).Nodup) rfl

theorem contextFree (ctx : Nat) : Statement (.contextFree ctx) :=
  of_decide_eq_true (p := (Machine.partsOf (.contextFree ctx)).Nodup) rfl

theorem queueReset (q : Nat) : Statement (.queueReset q) :=
  of_decide_eq_true (p := (Machine.partsOf (.queueReset q)).Nodup) rfl

theorem headGrant : Statement (.headGrant) :=
  of_decide_eq_true (p := (Machine.partsOf (.headGrant)).Nodup) rfl

theorem packetDecode (ctx q : Nat) : Statement (.packetDecode ctx q) :=
  of_decide_eq_true (p := (Machine.partsOf (.packetDecode ctx q)).Nodup) rfl

theorem pendingTakeEffect (ctx q : Nat) : Statement (.pendingTakeEffect ctx q) :=
  of_decide_eq_true (p := (Machine.partsOf (.pendingTakeEffect ctx q)).Nodup) rfl

theorem shadowRecordWrite (ctx q : Nat) : Statement (.shadowRecordWrite ctx q) :=
  of_decide_eq_true (p := (Machine.partsOf (.shadowRecordWrite ctx q)).Nodup) rfl

theorem eventCycleWalk : Statement (.eventCycleWalk) :=
  of_decide_eq_true (p := (Machine.partsOf (.eventCycleWalk)).Nodup) rfl

theorem headTimeout (ctx q : Nat) : Statement (.headTimeout ctx q) :=
  of_decide_eq_true (p := (Machine.partsOf (.headTimeout ctx q)).Nodup) rfl

theorem waitTimeout (slot : Nat) : Statement (.waitTimeout slot) :=
  of_decide_eq_true (p := (Machine.partsOf (.waitTimeout slot)).Nodup) rfl

theorem signalTimeout (seq : BitVec 32) : Statement (.signalTimeout seq) :=
  of_decide_eq_true (p := (Machine.partsOf (.signalTimeout seq)).Nodup) rfl

theorem thresherCommandStart : Statement (.thresherCommandStart) :=
  of_decide_eq_true (p := (Machine.partsOf (.thresherCommandStart)).Nodup) rfl

theorem seqAdmit (ctx q : Nat) : Statement (.seqAdmit ctx q) :=
  of_decide_eq_true (p := (Machine.partsOf (.seqAdmit ctx q)).Nodup) rfl

theorem setClass (ctx q : Nat) : Statement (.setClass ctx q) :=
  of_decide_eq_true (p := (Machine.partsOf (.setClass ctx q)).Nodup) rfl

theorem hold (ctx q : Nat) : Statement (.hold ctx q) :=
  of_decide_eq_true (p := (Machine.partsOf (.hold ctx q)).Nodup) rfl

theorem unhold (ctx q : Nat) : Statement (.unhold ctx q) :=
  of_decide_eq_true (p := (Machine.partsOf (.unhold ctx q)).Nodup) rfl

theorem setMaxLen (ctx q : Nat) : Statement (.setMaxLen ctx q) :=
  of_decide_eq_true (p := (Machine.partsOf (.setMaxLen ctx q)).Nodup) rfl

theorem setUser (ctx q : Nat) : Statement (.setUser ctx q) :=
  of_decide_eq_true (p := (Machine.partsOf (.setUser ctx q)).Nodup) rfl

theorem seqCancelSeq (ctx q : Nat) : Statement (.seqCancelSeq ctx q) :=
  of_decide_eq_true (p := (Machine.partsOf (.seqCancelSeq ctx q)).Nodup) rfl

theorem seqCancelStep (ctx q : Nat) : Statement (.seqCancelStep ctx q) :=
  of_decide_eq_true (p := (Machine.partsOf (.seqCancelStep ctx q)).Nodup) rfl

theorem seqCancelAll (ctx q : Nat) : Statement (.seqCancelAll ctx q) :=
  of_decide_eq_true (p := (Machine.partsOf (.seqCancelAll ctx q)).Nodup) rfl

theorem winnowDone : Statement (.winnowDone) :=
  of_decide_eq_true (p := (Machine.partsOf (.winnowDone)).Nodup) rfl

theorem stepRunStart (ctx q : Nat) : Statement (.stepRunStart ctx q) :=
  of_decide_eq_true (p := (Machine.partsOf (.stepRunStart ctx q)).Nodup) rfl

theorem stepRunStop (ctx q : Nat) : Statement (.stepRunStop ctx q) :=
  of_decide_eq_true (p := (Machine.partsOf (.stepRunStop ctx q)).Nodup) rfl

theorem stepRunKvAdd (ctx q : Nat) : Statement (.stepRunKvAdd ctx q) :=
  of_decide_eq_true (p := (Machine.partsOf (.stepRunKvAdd ctx q)).Nodup) rfl

theorem synthesisStart (part : Nat) : Statement (.synthesisStart part) :=
  of_decide_eq_true (p := (Machine.partsOf (.synthesisStart part)).Nodup) rfl

theorem stepLaunchSubmit (part : Nat) : Statement (.stepLaunchSubmit part) :=
  of_decide_eq_true (p := (Machine.partsOf (.stepLaunchSubmit part)).Nodup) rfl

theorem boundaryPass (part : Nat) : Statement (.boundaryPass part) :=
  of_decide_eq_true (p := (Machine.partsOf (.boundaryPass part)).Nodup) rfl

theorem boundaryPassEnd (part : Nat) : Statement (.boundaryPassEnd part) :=
  of_decide_eq_true (p := (Machine.partsOf (.boundaryPassEnd part)).Nodup) rfl

theorem routeJobStart : Statement (.routeJobStart) :=
  of_decide_eq_true (p := (Machine.partsOf (.routeJobStart)).Nodup) rfl

theorem routeJobNotices : Statement (.routeJobNotices) :=
  of_decide_eq_true (p := (Machine.partsOf (.routeJobNotices)).Nodup) rfl

theorem routeJobDead : Statement (.routeJobDead) :=
  of_decide_eq_true (p := (Machine.partsOf (.routeJobDead)).Nodup) rfl

theorem eraSwapBias (part : Nat) : Statement (.eraSwapBias part) :=
  of_decide_eq_true (p := (Machine.partsOf (.eraSwapBias part)).Nodup) rfl

theorem eraSwapSeed (part : Nat) : Statement (.eraSwapSeed part) :=
  of_decide_eq_true (p := (Machine.partsOf (.eraSwapSeed part)).Nodup) rfl

theorem semCmdSet : Statement (.semCmdSet) :=
  of_decide_eq_true (p := (Machine.partsOf (.semCmdSet)).Nodup) rfl

theorem semCmdClearFlags : Statement (.semCmdClearFlags) :=
  of_decide_eq_true (p := (Machine.partsOf (.semCmdClearFlags)).Nodup) rfl

theorem watchArm : Statement (.watchArm) :=
  of_decide_eq_true (p := (Machine.partsOf (.watchArm)).Nodup) rfl

theorem watchCancel (index : Nat) : Statement (.watchCancel index) :=
  of_decide_eq_true (p := (Machine.partsOf (.watchCancel index)).Nodup) rfl

theorem wakeBind : Statement (.wakeBind) :=
  of_decide_eq_true (p := (Machine.partsOf (.wakeBind)).Nodup) rfl

theorem wakeBindingSleep (index : Nat) : Statement (.wakeBindingSleep index) :=
  of_decide_eq_true (p := (Machine.partsOf (.wakeBindingSleep index)).Nodup) rfl

theorem wakeCancel : Statement (.wakeCancel) :=
  of_decide_eq_true (p := (Machine.partsOf (.wakeCancel)).Nodup) rfl

theorem wakeTimeout (index : Nat) : Statement (.wakeTimeout index) :=
  of_decide_eq_true (p := (Machine.partsOf (.wakeTimeout index)).Nodup) rfl

theorem sheafArm (sheaf : Nat) : Statement (.sheafArm sheaf) :=
  of_decide_eq_true (p := (Machine.partsOf (.sheafArm sheaf)).Nodup) rfl

theorem sheafDisarm (sheaf : Nat) : Statement (.sheafDisarm sheaf) :=
  of_decide_eq_true (p := (Machine.partsOf (.sheafDisarm sheaf)).Nodup) rfl

theorem sheafClearFault (sheaf : Nat) : Statement (.sheafClearFault sheaf) :=
  of_decide_eq_true (p := (Machine.partsOf (.sheafClearFault sheaf)).Nodup) rfl

theorem sheafTimeout (sheaf : Nat) : Statement (.sheafTimeout sheaf) :=
  of_decide_eq_true (p := (Machine.partsOf (.sheafTimeout sheaf)).Nodup) rfl

theorem rxPop (core : Nat) : Statement (.rxPop core) :=
  of_decide_eq_true (p := (Machine.partsOf (.rxPop core)).Nodup) rfl

theorem sendGo (core : Nat) : Statement (.sendGo core) :=
  of_decide_eq_true (p := (Machine.partsOf (.sendGo core)).Nodup) rfl

theorem outPop (core : Nat) : Statement (.outPop core) :=
  of_decide_eq_true (p := (Machine.partsOf (.outPop core)).Nodup) rfl

theorem granaryRefill (queue : Nat) : Statement (.granaryRefill queue) :=
  of_decide_eq_true (p := (Machine.partsOf (.granaryRefill queue)).Nodup) rfl

theorem stookOpen (stook : Nat) : Statement (.stookOpen stook) :=
  of_decide_eq_true (p := (Machine.partsOf (.stookOpen stook)).Nodup) rfl

theorem stookClose (stook : Nat) : Statement (.stookClose stook) :=
  of_decide_eq_true (p := (Machine.partsOf (.stookClose stook)).Nodup) rfl

theorem stookClearFault (stook : Nat) : Statement (.stookClearFault stook) :=
  of_decide_eq_true (p := (Machine.partsOf (.stookClearFault stook)).Nodup) rfl

theorem stookResultRetry (stook : Nat) : Statement (.stookResultRetry stook) :=
  of_decide_eq_true (p := (Machine.partsOf (.stookResultRetry stook)).Nodup) rfl

theorem msgRemoteTimeout (seq : BitVec 32) : Statement (.msgRemoteTimeout seq) :=
  of_decide_eq_true (p := (Machine.partsOf (.msgRemoteTimeout seq)).Nodup) rfl

theorem fpPresentRise : Statement (.fpPresentRise) :=
  of_decide_eq_true (p := (Machine.partsOf (.fpPresentRise)).Nodup) rfl

theorem fpLinkup (flit : List (BitVec 32)) : Statement (.fpLinkup flit) :=
  of_decide_eq_true (p := (Machine.partsOf (.fpLinkup flit)).Nodup) rfl

theorem fpCreditReturn (rep : Bool) : Statement (.fpCreditReturn rep) :=
  of_decide_eq_true (p := (Machine.partsOf (.fpCreditReturn rep)).Nodup) rfl

theorem edgeDec (flit : List (BitVec 32)) : Statement (.edgeDec flit) :=
  of_decide_eq_true (p := (Machine.partsOf (.edgeDec flit)).Nodup) rfl

theorem signal (flit : List (BitVec 32)) : Statement (.signal flit) :=
  of_decide_eq_true (p := (Machine.partsOf (.signal flit)).Nodup) rfl

theorem sheafArrive (flit : List (BitVec 32)) : Statement (.sheafArrive flit) :=
  of_decide_eq_true (p := (Machine.partsOf (.sheafArrive flit)).Nodup) rfl

theorem sheafRelease (flit : List (BitVec 32)) : Statement (.sheafRelease flit) :=
  of_decide_eq_true (p := (Machine.partsOf (.sheafRelease flit)).Nodup) rfl

theorem msg (flits : List (List (BitVec 32))) : Statement (.msg flits) :=
  of_decide_eq_true (p := (Machine.partsOf (.msg flits)).Nodup) rfl

theorem departLeave (flit : List (BitVec 32)) : Statement (.departLeave flit) :=
  of_decide_eq_true (p := (Machine.partsOf (.departLeave flit)).Nodup) rfl

theorem departLost (flit : List (BitVec 32)) : Statement (.departLost flit) :=
  of_decide_eq_true (p := (Machine.partsOf (.departLost flit)).Nodup) rfl

theorem departJoin (flit : List (BitVec 32)) : Statement (.departJoin flit) :=
  of_decide_eq_true (p := (Machine.partsOf (.departJoin flit)).Nodup) rfl

theorem ack (flit : List (BitVec 32)) : Statement (.ack flit) :=
  of_decide_eq_true (p := (Machine.partsOf (.ack flit)).Nodup) rfl

theorem nack (flit : List (BitVec 32)) : Statement (.nack flit) :=
  of_decide_eq_true (p := (Machine.partsOf (.nack flit)).Nodup) rfl

theorem edgeDecResend (seq : BitVec 32) : Statement (.edgeDecResend seq) :=
  of_decide_eq_true (p := (Machine.partsOf (.edgeDecResend seq)).Nodup) rfl

theorem remoteEdgeTimeout (seq : BitVec 32) : Statement (.remoteEdgeTimeout seq) :=
  of_decide_eq_true (p := (Machine.partsOf (.remoteEdgeTimeout seq)).Nodup) rfl

theorem remoteStall (slot : Nat) : Statement (.remoteStall slot) :=
  of_decide_eq_true (p := (Machine.partsOf (.remoteStall slot)).Nodup) rfl

theorem domainLeave : Statement (.domainLeave) :=
  of_decide_eq_true (p := (Machine.partsOf (.domainLeave)).Nodup) rfl

theorem domainLeaveSend : Statement (.domainLeaveSend) :=
  of_decide_eq_true (p := (Machine.partsOf (.domainLeaveSend)).Nodup) rfl

theorem domainJoin : Statement (.domainJoin) :=
  of_decide_eq_true (p := (Machine.partsOf (.domainJoin)).Nodup) rfl

theorem pmBudget (part : Nat) (nj : BitVec 32) : Statement (.pmBudget part nj) :=
  of_decide_eq_true (p := (Machine.partsOf (.pmBudget part nj)).Nodup) rfl

theorem pmMeas (cluster : Nat) (nj : BitVec 32) (temp : BitVec 12) : Statement (.pmMeas cluster nj temp) :=
  of_decide_eq_true (p := (Machine.partsOf (.pmMeas cluster nj temp)).Nodup) rfl

theorem pmLendAck : Statement (.pmLendAck) :=
  of_decide_eq_true (p := (Machine.partsOf (.pmLendAck)).Nodup) rfl

theorem budgetEpochBoundary : Statement (.budgetEpochBoundary) :=
  of_decide_eq_true (p := (Machine.partsOf (.budgetEpochBoundary)).Nodup) rfl

theorem regulatorRefill : Statement (.regulatorRefill) :=
  of_decide_eq_true (p := (Machine.partsOf (.regulatorRefill)).Nodup) rfl

theorem bgModelSwap : Statement (.bgModelSwap) :=
  of_decide_eq_true (p := (Machine.partsOf (.bgModelSwap)).Nodup) rfl

theorem spillStart (claim : Nat) : Statement (.spillStart claim) :=
  of_decide_eq_true (p := (Machine.partsOf (.spillStart claim)).Nodup) rfl

theorem restoreStart (claim : Nat) : Statement (.restoreStart claim) :=
  of_decide_eq_true (p := (Machine.partsOf (.restoreStart claim)).Nodup) rfl

theorem glStart : Statement (.glStart) :=
  of_decide_eq_true (p := (Machine.partsOf (.glStart)).Nodup) rfl

theorem glEpochBoundary : Statement (.glEpochBoundary) :=
  of_decide_eq_true (p := (Machine.partsOf (.glEpochBoundary)).Nodup) rfl

theorem replayStall : Statement (.replayStall) :=
  of_decide_eq_true (p := (Machine.partsOf (.replayStall)).Nodup) rfl

theorem ckptCmd (part : Nat) : Statement (.ckptCmd part) :=
  of_decide_eq_true (p := (Machine.partsOf (.ckptCmd part)).Nodup) rfl

theorem tagWindowCheck : Statement (.tagWindowCheck) :=
  of_decide_eq_true (p := (Machine.partsOf (.tagWindowCheck)).Nodup) rfl

theorem enclaveLock (part : Nat) : Statement (.enclaveLock part) :=
  of_decide_eq_true (p := (Machine.partsOf (.enclaveLock part)).Nodup) rfl

theorem enclaveLockDone : Statement (.enclaveLockDone) :=
  of_decide_eq_true (p := (Machine.partsOf (.enclaveLockDone)).Nodup) rfl

theorem teardown (part : Nat) : Statement (.teardown part) :=
  of_decide_eq_true (p := (Machine.partsOf (.teardown part)).Nodup) rfl

theorem teardownScrub : Statement (.teardownScrub) :=
  of_decide_eq_true (p := (Machine.partsOf (.teardownScrub)).Nodup) rfl

theorem teardownDone : Statement (.teardownDone) :=
  of_decide_eq_true (p := (Machine.partsOf (.teardownDone)).Nodup) rfl

theorem atRequest (sel : Nat) (nonce : List (BitVec 32)) : Statement (.atRequest sel nonce) :=
  of_decide_eq_true (p := (Machine.partsOf (.atRequest sel nonce)).Nodup) rfl

theorem listRebuildDone : Statement (.listRebuildDone) :=
  of_decide_eq_true (p := (Machine.partsOf (.listRebuildDone)).Nodup) rfl

theorem patrolPassEnd : Statement (.patrolPassEnd) :=
  of_decide_eq_true (p := (Machine.partsOf (.patrolPassEnd)).Nodup) rfl

theorem crcPassEnd : Statement (.crcPassEnd) :=
  of_decide_eq_true (p := (Machine.partsOf (.crcPassEnd)).Nodup) rfl

theorem sliceWatchdog (slice : Nat) : Statement (.sliceWatchdog slice) :=
  of_decide_eq_true (p := (Machine.partsOf (.sliceWatchdog slice)).Nodup) rfl

theorem sliceRejoin (slice : Nat) : Statement (.sliceRejoin slice) :=
  of_decide_eq_true (p := (Machine.partsOf (.sliceRejoin slice)).Nodup) rfl

theorem thresherHeartbeat : Statement (.thresherHeartbeat) :=
  of_decide_eq_true (p := (Machine.partsOf (.thresherHeartbeat)).Nodup) rfl

theorem thresherRestartDone : Statement (.thresherRestartDone) :=
  of_decide_eq_true (p := (Machine.partsOf (.thresherRestartDone)).Nodup) rfl

theorem gleanerIntake : Statement (.gleanerIntake) :=
  of_decide_eq_true (p := (Machine.partsOf (.gleanerIntake)).Nodup) rfl

theorem gleanerEntryClose : Statement (.gleanerEntryClose) :=
  of_decide_eq_true (p := (Machine.partsOf (.gleanerEntryClose)).Nodup) rfl

theorem gleanerWriteRetry : Statement (.gleanerWriteRetry) :=
  of_decide_eq_true (p := (Machine.partsOf (.gleanerWriteRetry)).Nodup) rfl

theorem captureClrFirst : Statement (.captureClrFirst) :=
  of_decide_eq_true (p := (Machine.partsOf (.captureClrFirst)).Nodup) rfl

theorem captureClrLast : Statement (.captureClrLast) :=
  of_decide_eq_true (p := (Machine.partsOf (.captureClrLast)).Nodup) rfl

theorem captureClrWorst : Statement (.captureClrWorst) :=
  of_decide_eq_true (p := (Machine.partsOf (.captureClrWorst)).Nodup) rfl

theorem gcSync (gc : BitVec 64) : Statement (.gcSync gc) :=
  of_decide_eq_true (p := (Machine.partsOf (.gcSync gc)).Nodup) rfl

theorem timebaseLost : Statement (.timebaseLost) :=
  of_decide_eq_true (p := (Machine.partsOf (.timebaseLost)).Nodup) rfl

theorem snapTrigIn : Statement (.snapTrigIn) :=
  of_decide_eq_true (p := (Machine.partsOf (.snapTrigIn)).Nodup) rfl

theorem snapFire : Statement (.snapFire) :=
  of_decide_eq_true (p := (Machine.partsOf (.snapFire)).Nodup) rfl

theorem snapRelease : Statement (.snapRelease) :=
  of_decide_eq_true (p := (Machine.partsOf (.snapRelease)).Nodup) rfl

theorem ctrClear : Statement (.ctrClear) :=
  of_decide_eq_true (p := (Machine.partsOf (.ctrClear)).Nodup) rfl

theorem traceMark (data : BitVec 32) : Statement (.traceMark data) :=
  of_decide_eq_true (p := (Machine.partsOf (.traceMark data)).Nodup) rfl

theorem traceBeatTimeout : Statement (.traceBeatTimeout) :=
  of_decide_eq_true (p := (Machine.partsOf (.traceBeatTimeout)).Nodup) rfl

theorem bootStart : Statement (.bootStart) :=
  of_decide_eq_true (p := (Machine.partsOf (.bootStart)).Nodup) rfl

theorem bootClearDone : Statement (.bootClearDone) :=
  of_decide_eq_true (p := (Machine.partsOf (.bootClearDone)).Nodup) rfl

theorem bootCopyDone : Statement (.bootCopyDone) :=
  of_decide_eq_true (p := (Machine.partsOf (.bootCopyDone)).Nodup) rfl

theorem bootVerifyDone : Statement (.bootVerifyDone) :=
  of_decide_eq_true (p := (Machine.partsOf (.bootVerifyDone)).Nodup) rfl

theorem bootMeasureDone : Statement (.bootMeasureDone) :=
  of_decide_eq_true (p := (Machine.partsOf (.bootMeasureDone)).Nodup) rfl

theorem firmwareStart : Statement (.firmwareStart) :=
  of_decide_eq_true (p := (Machine.partsOf (.firmwareStart)).Nodup) rfl

theorem resetAssert (dom : ResetDom) : Statement (.resetAssert dom) :=
  of_decide_eq_true (p := (Machine.partsOf (.resetAssert dom)).Nodup) rfl

theorem resetRelease (dom : ResetDom) : Statement (.resetRelease dom) :=
  of_decide_eq_true (p := (Machine.partsOf (.resetRelease dom)).Nodup) rfl

theorem pwrReqRise : Statement (.pwrReqRise) :=
  of_decide_eq_true (p := (Machine.partsOf (.pwrReqRise)).Nodup) rfl

theorem quiesceTimeout : Statement (.quiesceTimeout) :=
  of_decide_eq_true (p := (Machine.partsOf (.quiesceTimeout)).Nodup) rfl

theorem quiesceDone : Statement (.quiesceDone) :=
  of_decide_eq_true (p := (Machine.partsOf (.quiesceDone)).Nodup) rfl

theorem pwrReqFall : Statement (.pwrReqFall) :=
  of_decide_eq_true (p := (Machine.partsOf (.pwrReqFall)).Nodup) rfl

theorem isoEnRise : Statement (.isoEnRise) :=
  of_decide_eq_true (p := (Machine.partsOf (.isoEnRise)).Nodup) rfl

theorem isoEnFall : Statement (.isoEnFall) :=
  of_decide_eq_true (p := (Machine.partsOf (.isoEnFall)).Nodup) rfl

theorem retEnChange (level : Bool) : Statement (.retEnChange level) :=
  of_decide_eq_true (p := (Machine.partsOf (.retEnChange level)).Nodup) rfl

theorem tapExtest (cells : List Bool) : Statement (.tapExtest cells) :=
  of_decide_eq_true (p := (Machine.partsOf (.tapExtest cells)).Nodup) rfl

theorem tapSamplePreload (cells : List Bool) : Statement (.tapSamplePreload cells) :=
  of_decide_eq_true (p := (Machine.partsOf (.tapSamplePreload cells)).Nodup) rfl

theorem tapIdcode : Statement (.tapIdcode) :=
  of_decide_eq_true (p := (Machine.partsOf (.tapIdcode)).Nodup) rfl

theorem tapClamp : Statement (.tapClamp) :=
  of_decide_eq_true (p := (Machine.partsOf (.tapClamp)).Nodup) rfl

theorem tapRegAccess (we : Bool) (addr : BitVec 21) (data : BitVec 32) : Statement (.tapRegAccess we addr data) :=
  of_decide_eq_true (p := (Machine.partsOf (.tapRegAccess we addr data)).Nodup) rfl

theorem tapSnap : Statement (.tapSnap) :=
  of_decide_eq_true (p := (Machine.partsOf (.tapSnap)).Nodup) rfl

theorem tapMbist (start : Bool) : Statement (.tapMbist start) :=
  of_decide_eq_true (p := (Machine.partsOf (.tapMbist start)).Nodup) rfl

theorem tapBypass (opcode : BitVec 5) : Statement (.tapBypass opcode) :=
  of_decide_eq_true (p := (Machine.partsOf (.tapBypass opcode)).Nodup) rfl

theorem trst : Statement (.trst) :=
  of_decide_eq_true (p := (Machine.partsOf (.trst)).Nodup) rfl

theorem mbistDone (failBank : Option Nat) : Statement (.mbistDone failBank) :=
  of_decide_eq_true (p := (Machine.partsOf (.mbistDone failBank)).Nodup) rfl

theorem fpPresentFall : Statement (.fpPresentFall) :=
  of_decide_eq_true (p := (Machine.partsOf (.fpPresentFall)).Nodup) rfl

theorem departTimeout (dev : Nat) : Statement (.departTimeout dev) :=
  of_decide_eq_true (p := (Machine.partsOf (.departTimeout dev)).Nodup) rfl

theorem ifmHbIncrement : Statement (.ifmHbIncrement) :=
  of_decide_eq_true (p := (Machine.partsOf (.ifmHbIncrement)).Nodup) rfl

theorem patrolRead (table word : Nat) : Statement (.patrolRead table word) :=
  of_decide_eq_true (p := (Machine.partsOf (.patrolRead table word)).Nodup) rfl

theorem drRestartDone : Statement (.drRestartDone) :=
  of_decide_eq_true (p := (Machine.partsOf (.drRestartDone)).Nodup) rfl

theorem tmplExtendDone : Statement (.tmplExtendDone) :=
  of_decide_eq_true (p := (Machine.partsOf (.tmplExtendDone)).Nodup) rfl

end Sys2Proof.Laws.Shape
end

