-- ==== Sys2Proof/Laws/State.lean ====
section
/-! SUPPORT. What the basic updates of State leave unchanged, field by field, and what is read after one of them. -/

-- One declaration at a time: checked side by side, the lemmas ask for more threads than the checks may start.
set_option Elab.async false

namespace Sys2Proof.Machine

/-! ### setReg -/

@[simp] theorem State.setReg_build (s : State) (a : Nat) (v : Word) : (s.setReg a v).build = s.build := rfl
@[simp] theorem State.setReg_cc (s : State) (a : Nat) (v : Word) : (s.setReg a v).cc = s.cc := rfl
@[simp] theorem State.setReg_tb (s : State) (a : Nat) (v : Word) : (s.setReg a v).tb = s.tb := rfl
@[simp] theorem State.setReg_pins (s : State) (a : Nat) (v : Word) : (s.setReg a v).pins = s.pins := rfl
@[simp] theorem State.setReg_shf (s : State) (a : Nat) (v : Word) : (s.setReg a v).shf = s.shf := rfl
@[simp] theorem State.setReg_sram (s : State) (a : Nat) (v : Word) : (s.setReg a v).sram = s.sram := rfl
@[simp] theorem State.setReg_ecc (s : State) (a : Nat) (v : Word) : (s.setReg a v).ecc = s.ecc := rfl
@[simp] theorem State.setReg_glb (s : State) (a : Nat) (v : Word) : (s.setReg a v).glb = s.glb := rfl
@[simp] theorem State.setReg_mm (s : State) (a : Nat) (v : Word) : (s.setReg a v).mm = s.mm := rfl
@[simp] theorem State.setReg_fe (s : State) (a : Nat) (v : Word) : (s.setReg a v).fe = s.fe := rfl
@[simp] theorem State.setReg_gs (s : State) (a : Nat) (v : Word) : (s.setReg a v).gs = s.gs := rfl
@[simp] theorem State.setReg_dr (s : State) (a : Nat) (v : Word) : (s.setReg a v).dr = s.dr := rfl
@[simp] theorem State.setReg_ds (s : State) (a : Nat) (v : Word) : (s.setReg a v).ds = s.ds := rfl
@[simp] theorem State.setReg_sm (s : State) (a : Nat) (v : Word) : (s.setReg a v).sm = s.sm := rfl
@[simp] theorem State.setReg_mh (s : State) (a : Nat) (v : Word) : (s.setReg a v).mh = s.mh := rfl
@[simp] theorem State.setReg_st (s : State) (a : Nat) (v : Word) : (s.setReg a v).st = s.st := rfl
@[simp] theorem State.setReg_era (s : State) (a : Nat) (v : Word) : (s.setReg a v).era = s.era := rfl
@[simp] theorem State.setReg_bg (s : State) (a : Nat) (v : Word) : (s.setReg a v).bg = s.bg := rfl
@[simp] theorem State.setReg_psc (s : State) (a : Nat) (v : Word) : (s.setReg a v).psc = s.psc := rfl
@[simp] theorem State.setReg_dc (s : State) (a : Nat) (v : Word) : (s.setReg a v).dc = s.dc := rfl
@[simp] theorem State.setReg_pau (s : State) (a : Nat) (v : Word) : (s.setReg a v).pau = s.pau := rfl
@[simp] theorem State.setReg_ifm (s : State) (a : Nat) (v : Word) : (s.setReg a v).ifm = s.ifm := rfl
@[simp] theorem State.setReg_dbg (s : State) (a : Nat) (v : Word) : (s.setReg a v).dbg = s.dbg := rfl
@[simp] theorem State.setReg_thr (s : State) (a : Nat) (v : Word) : (s.setReg a v).thr = s.thr := rfl
@[simp] theorem State.setReg_tap (s : State) (a : Nat) (v : Word) : (s.setReg a v).tap = s.tap := rfl
@[simp] theorem State.setReg_fab (s : State) (a : Nat) (v : Word) : (s.setReg a v).fab = s.fab := rfl
@[simp] theorem State.setReg_eps (s : State) (a : Nat) (v : Word) : (s.setReg a v).eps = s.eps := rfl
@[simp] theorem State.setReg_free (s : State) (a : Nat) (v : Word) : (s.setReg a v).free = s.free := rfl
@[simp] theorem State.setReg_out (s : State) (a : Nat) (v : Word) : (s.setReg a v).out = s.out := rfl
@[simp] theorem State.setReg_pending (s : State) (a : Nat) (v : Word) : (s.setReg a v).pending = s.pending := rfl

/-! ### setRf -/

@[simp] theorem State.setRf_build (s : State) (f : RF) (v : Nat) : (s.setRf f v).build = s.build := rfl
@[simp] theorem State.setRf_cc (s : State) (f : RF) (v : Nat) : (s.setRf f v).cc = s.cc := rfl
@[simp] theorem State.setRf_tb (s : State) (f : RF) (v : Nat) : (s.setRf f v).tb = s.tb := rfl
@[simp] theorem State.setRf_pins (s : State) (f : RF) (v : Nat) : (s.setRf f v).pins = s.pins := rfl
@[simp] theorem State.setRf_shf (s : State) (f : RF) (v : Nat) : (s.setRf f v).shf = s.shf := rfl
@[simp] theorem State.setRf_sram (s : State) (f : RF) (v : Nat) : (s.setRf f v).sram = s.sram := rfl
@[simp] theorem State.setRf_ecc (s : State) (f : RF) (v : Nat) : (s.setRf f v).ecc = s.ecc := rfl
@[simp] theorem State.setRf_glb (s : State) (f : RF) (v : Nat) : (s.setRf f v).glb = s.glb := rfl
@[simp] theorem State.setRf_mm (s : State) (f : RF) (v : Nat) : (s.setRf f v).mm = s.mm := rfl
@[simp] theorem State.setRf_fe (s : State) (f : RF) (v : Nat) : (s.setRf f v).fe = s.fe := rfl
@[simp] theorem State.setRf_gs (s : State) (f : RF) (v : Nat) : (s.setRf f v).gs = s.gs := rfl
@[simp] theorem State.setRf_dr (s : State) (f : RF) (v : Nat) : (s.setRf f v).dr = s.dr := rfl
@[simp] theorem State.setRf_ds (s : State) (f : RF) (v : Nat) : (s.setRf f v).ds = s.ds := rfl
@[simp] theorem State.setRf_sm (s : State) (f : RF) (v : Nat) : (s.setRf f v).sm = s.sm := rfl
@[simp] theorem State.setRf_mh (s : State) (f : RF) (v : Nat) : (s.setRf f v).mh = s.mh := rfl
@[simp] theorem State.setRf_st (s : State) (f : RF) (v : Nat) : (s.setRf f v).st = s.st := rfl
@[simp] theorem State.setRf_era (s : State) (f : RF) (v : Nat) : (s.setRf f v).era = s.era := rfl
@[simp] theorem State.setRf_bg (s : State) (f : RF) (v : Nat) : (s.setRf f v).bg = s.bg := rfl
@[simp] theorem State.setRf_psc (s : State) (f : RF) (v : Nat) : (s.setRf f v).psc = s.psc := rfl
@[simp] theorem State.setRf_dc (s : State) (f : RF) (v : Nat) : (s.setRf f v).dc = s.dc := rfl
@[simp] theorem State.setRf_pau (s : State) (f : RF) (v : Nat) : (s.setRf f v).pau = s.pau := rfl
@[simp] theorem State.setRf_ifm (s : State) (f : RF) (v : Nat) : (s.setRf f v).ifm = s.ifm := rfl
@[simp] theorem State.setRf_dbg (s : State) (f : RF) (v : Nat) : (s.setRf f v).dbg = s.dbg := rfl
@[simp] theorem State.setRf_thr (s : State) (f : RF) (v : Nat) : (s.setRf f v).thr = s.thr := rfl
@[simp] theorem State.setRf_tap (s : State) (f : RF) (v : Nat) : (s.setRf f v).tap = s.tap := rfl
@[simp] theorem State.setRf_fab (s : State) (f : RF) (v : Nat) : (s.setRf f v).fab = s.fab := rfl
@[simp] theorem State.setRf_eps (s : State) (f : RF) (v : Nat) : (s.setRf f v).eps = s.eps := rfl
@[simp] theorem State.setRf_free (s : State) (f : RF) (v : Nat) : (s.setRf f v).free = s.free := rfl
@[simp] theorem State.setRf_out (s : State) (f : RF) (v : Nat) : (s.setRf f v).out = s.out := rfl
@[simp] theorem State.setRf_pending (s : State) (f : RF) (v : Nat) : (s.setRf f v).pending = s.pending := rfl

/-! ### setRam -/

@[simp] theorem State.setRam_build (s : State) (k : Nat) (v : Word) : (s.setRam k v).build = s.build := rfl
@[simp] theorem State.setRam_cc (s : State) (k : Nat) (v : Word) : (s.setRam k v).cc = s.cc := rfl
@[simp] theorem State.setRam_tb (s : State) (k : Nat) (v : Word) : (s.setRam k v).tb = s.tb := rfl
@[simp] theorem State.setRam_pins (s : State) (k : Nat) (v : Word) : (s.setRam k v).pins = s.pins := rfl
@[simp] theorem State.setRam_regs (s : State) (k : Nat) (v : Word) : (s.setRam k v).regs = s.regs := rfl
@[simp] theorem State.setRam_shf (s : State) (k : Nat) (v : Word) : (s.setRam k v).shf = s.shf := rfl
@[simp] theorem State.setRam_ecc (s : State) (k : Nat) (v : Word) : (s.setRam k v).ecc = s.ecc := rfl
@[simp] theorem State.setRam_glb (s : State) (k : Nat) (v : Word) : (s.setRam k v).glb = s.glb := rfl
@[simp] theorem State.setRam_mm (s : State) (k : Nat) (v : Word) : (s.setRam k v).mm = s.mm := rfl
@[simp] theorem State.setRam_fe (s : State) (k : Nat) (v : Word) : (s.setRam k v).fe = s.fe := rfl
@[simp] theorem State.setRam_gs (s : State) (k : Nat) (v : Word) : (s.setRam k v).gs = s.gs := rfl
@[simp] theorem State.setRam_dr (s : State) (k : Nat) (v : Word) : (s.setRam k v).dr = s.dr := rfl
@[simp] theorem State.setRam_ds (s : State) (k : Nat) (v : Word) : (s.setRam k v).ds = s.ds := rfl
@[simp] theorem State.setRam_sm (s : State) (k : Nat) (v : Word) : (s.setRam k v).sm = s.sm := rfl
@[simp] theorem State.setRam_mh (s : State) (k : Nat) (v : Word) : (s.setRam k v).mh = s.mh := rfl
@[simp] theorem State.setRam_st (s : State) (k : Nat) (v : Word) : (s.setRam k v).st = s.st := rfl
@[simp] theorem State.setRam_era (s : State) (k : Nat) (v : Word) : (s.setRam k v).era = s.era := rfl
@[simp] theorem State.setRam_bg (s : State) (k : Nat) (v : Word) : (s.setRam k v).bg = s.bg := rfl
@[simp] theorem State.setRam_psc (s : State) (k : Nat) (v : Word) : (s.setRam k v).psc = s.psc := rfl
@[simp] theorem State.setRam_dc (s : State) (k : Nat) (v : Word) : (s.setRam k v).dc = s.dc := rfl
@[simp] theorem State.setRam_pau (s : State) (k : Nat) (v : Word) : (s.setRam k v).pau = s.pau := rfl
@[simp] theorem State.setRam_ifm (s : State) (k : Nat) (v : Word) : (s.setRam k v).ifm = s.ifm := rfl
@[simp] theorem State.setRam_dbg (s : State) (k : Nat) (v : Word) : (s.setRam k v).dbg = s.dbg := rfl
@[simp] theorem State.setRam_thr (s : State) (k : Nat) (v : Word) : (s.setRam k v).thr = s.thr := rfl
@[simp] theorem State.setRam_tap (s : State) (k : Nat) (v : Word) : (s.setRam k v).tap = s.tap := rfl
@[simp] theorem State.setRam_fab (s : State) (k : Nat) (v : Word) : (s.setRam k v).fab = s.fab := rfl
@[simp] theorem State.setRam_eps (s : State) (k : Nat) (v : Word) : (s.setRam k v).eps = s.eps := rfl
@[simp] theorem State.setRam_free (s : State) (k : Nat) (v : Word) : (s.setRam k v).free = s.free := rfl
@[simp] theorem State.setRam_out (s : State) (k : Nat) (v : Word) : (s.setRam k v).out = s.out := rfl
@[simp] theorem State.setRam_pending (s : State) (k : Nat) (v : Word) : (s.setRam k v).pending = s.pending := rfl

/-! ### setRm -/

@[simp] theorem State.setRm_build (s : State) (b : Nat) (f : Fld) (v : Nat) : (s.setRm b f v).build = s.build := rfl
@[simp] theorem State.setRm_cc (s : State) (b : Nat) (f : Fld) (v : Nat) : (s.setRm b f v).cc = s.cc := rfl
@[simp] theorem State.setRm_tb (s : State) (b : Nat) (f : Fld) (v : Nat) : (s.setRm b f v).tb = s.tb := rfl
@[simp] theorem State.setRm_pins (s : State) (b : Nat) (f : Fld) (v : Nat) : (s.setRm b f v).pins = s.pins := rfl
@[simp] theorem State.setRm_regs (s : State) (b : Nat) (f : Fld) (v : Nat) : (s.setRm b f v).regs = s.regs := rfl
@[simp] theorem State.setRm_shf (s : State) (b : Nat) (f : Fld) (v : Nat) : (s.setRm b f v).shf = s.shf := rfl
@[simp] theorem State.setRm_ecc (s : State) (b : Nat) (f : Fld) (v : Nat) : (s.setRm b f v).ecc = s.ecc := rfl
@[simp] theorem State.setRm_glb (s : State) (b : Nat) (f : Fld) (v : Nat) : (s.setRm b f v).glb = s.glb := rfl
@[simp] theorem State.setRm_mm (s : State) (b : Nat) (f : Fld) (v : Nat) : (s.setRm b f v).mm = s.mm := rfl
@[simp] theorem State.setRm_fe (s : State) (b : Nat) (f : Fld) (v : Nat) : (s.setRm b f v).fe = s.fe := rfl
@[simp] theorem State.setRm_gs (s : State) (b : Nat) (f : Fld) (v : Nat) : (s.setRm b f v).gs = s.gs := rfl
@[simp] theorem State.setRm_dr (s : State) (b : Nat) (f : Fld) (v : Nat) : (s.setRm b f v).dr = s.dr := rfl
@[simp] theorem State.setRm_ds (s : State) (b : Nat) (f : Fld) (v : Nat) : (s.setRm b f v).ds = s.ds := rfl
@[simp] theorem State.setRm_sm (s : State) (b : Nat) (f : Fld) (v : Nat) : (s.setRm b f v).sm = s.sm := rfl
@[simp] theorem State.setRm_mh (s : State) (b : Nat) (f : Fld) (v : Nat) : (s.setRm b f v).mh = s.mh := rfl
@[simp] theorem State.setRm_st (s : State) (b : Nat) (f : Fld) (v : Nat) : (s.setRm b f v).st = s.st := rfl
@[simp] theorem State.setRm_era (s : State) (b : Nat) (f : Fld) (v : Nat) : (s.setRm b f v).era = s.era := rfl
@[simp] theorem State.setRm_bg (s : State) (b : Nat) (f : Fld) (v : Nat) : (s.setRm b f v).bg = s.bg := rfl
@[simp] theorem State.setRm_psc (s : State) (b : Nat) (f : Fld) (v : Nat) : (s.setRm b f v).psc = s.psc := rfl
@[simp] theorem State.setRm_dc (s : State) (b : Nat) (f : Fld) (v : Nat) : (s.setRm b f v).dc = s.dc := rfl
@[simp] theorem State.setRm_pau (s : State) (b : Nat) (f : Fld) (v : Nat) : (s.setRm b f v).pau = s.pau := rfl
@[simp] theorem State.setRm_ifm (s : State) (b : Nat) (f : Fld) (v : Nat) : (s.setRm b f v).ifm = s.ifm := rfl
@[simp] theorem State.setRm_dbg (s : State) (b : Nat) (f : Fld) (v : Nat) : (s.setRm b f v).dbg = s.dbg := rfl
@[simp] theorem State.setRm_thr (s : State) (b : Nat) (f : Fld) (v : Nat) : (s.setRm b f v).thr = s.thr := rfl
@[simp] theorem State.setRm_tap (s : State) (b : Nat) (f : Fld) (v : Nat) : (s.setRm b f v).tap = s.tap := rfl
@[simp] theorem State.setRm_fab (s : State) (b : Nat) (f : Fld) (v : Nat) : (s.setRm b f v).fab = s.fab := rfl
@[simp] theorem State.setRm_eps (s : State) (b : Nat) (f : Fld) (v : Nat) : (s.setRm b f v).eps = s.eps := rfl
@[simp] theorem State.setRm_free (s : State) (b : Nat) (f : Fld) (v : Nat) : (s.setRm b f v).free = s.free := rfl
@[simp] theorem State.setRm_out (s : State) (b : Nat) (f : Fld) (v : Nat) : (s.setRm b f v).out = s.out := rfl
@[simp] theorem State.setRm_pending (s : State) (b : Nat) (f : Fld) (v : Nat) : (s.setRm b f v).pending = s.pending := rfl

/-! ### updLink -/

@[simp] theorem State.updLink_build (s : State) (i : Nat) (f : Link → Link) : (s.updLink i f).build = s.build := rfl
@[simp] theorem State.updLink_cc (s : State) (i : Nat) (f : Link → Link) : (s.updLink i f).cc = s.cc := rfl
@[simp] theorem State.updLink_tb (s : State) (i : Nat) (f : Link → Link) : (s.updLink i f).tb = s.tb := rfl
@[simp] theorem State.updLink_pins (s : State) (i : Nat) (f : Link → Link) : (s.updLink i f).pins = s.pins := rfl
@[simp] theorem State.updLink_regs (s : State) (i : Nat) (f : Link → Link) : (s.updLink i f).regs = s.regs := rfl
@[simp] theorem State.updLink_shf (s : State) (i : Nat) (f : Link → Link) : (s.updLink i f).shf = s.shf := rfl
@[simp] theorem State.updLink_sram (s : State) (i : Nat) (f : Link → Link) : (s.updLink i f).sram = s.sram := rfl
@[simp] theorem State.updLink_ecc (s : State) (i : Nat) (f : Link → Link) : (s.updLink i f).ecc = s.ecc := rfl
@[simp] theorem State.updLink_glb (s : State) (i : Nat) (f : Link → Link) : (s.updLink i f).glb = s.glb := rfl
@[simp] theorem State.updLink_mm (s : State) (i : Nat) (f : Link → Link) : (s.updLink i f).mm = s.mm := rfl
@[simp] theorem State.updLink_fe (s : State) (i : Nat) (f : Link → Link) : (s.updLink i f).fe = s.fe := rfl
@[simp] theorem State.updLink_gs (s : State) (i : Nat) (f : Link → Link) : (s.updLink i f).gs = s.gs := rfl
@[simp] theorem State.updLink_dr (s : State) (i : Nat) (f : Link → Link) : (s.updLink i f).dr = s.dr := rfl
@[simp] theorem State.updLink_sm (s : State) (i : Nat) (f : Link → Link) : (s.updLink i f).sm = s.sm := rfl
@[simp] theorem State.updLink_mh (s : State) (i : Nat) (f : Link → Link) : (s.updLink i f).mh = s.mh := rfl
@[simp] theorem State.updLink_st (s : State) (i : Nat) (f : Link → Link) : (s.updLink i f).st = s.st := rfl
@[simp] theorem State.updLink_era (s : State) (i : Nat) (f : Link → Link) : (s.updLink i f).era = s.era := rfl
@[simp] theorem State.updLink_bg (s : State) (i : Nat) (f : Link → Link) : (s.updLink i f).bg = s.bg := rfl
@[simp] theorem State.updLink_psc (s : State) (i : Nat) (f : Link → Link) : (s.updLink i f).psc = s.psc := rfl
@[simp] theorem State.updLink_dc (s : State) (i : Nat) (f : Link → Link) : (s.updLink i f).dc = s.dc := rfl
@[simp] theorem State.updLink_pau (s : State) (i : Nat) (f : Link → Link) : (s.updLink i f).pau = s.pau := rfl
@[simp] theorem State.updLink_ifm (s : State) (i : Nat) (f : Link → Link) : (s.updLink i f).ifm = s.ifm := rfl
@[simp] theorem State.updLink_dbg (s : State) (i : Nat) (f : Link → Link) : (s.updLink i f).dbg = s.dbg := rfl
@[simp] theorem State.updLink_thr (s : State) (i : Nat) (f : Link → Link) : (s.updLink i f).thr = s.thr := rfl
@[simp] theorem State.updLink_tap (s : State) (i : Nat) (f : Link → Link) : (s.updLink i f).tap = s.tap := rfl
@[simp] theorem State.updLink_fab (s : State) (i : Nat) (f : Link → Link) : (s.updLink i f).fab = s.fab := rfl
@[simp] theorem State.updLink_eps (s : State) (i : Nat) (f : Link → Link) : (s.updLink i f).eps = s.eps := rfl
@[simp] theorem State.updLink_free (s : State) (i : Nat) (f : Link → Link) : (s.updLink i f).free = s.free := rfl
@[simp] theorem State.updLink_out (s : State) (i : Nat) (f : Link → Link) : (s.updLink i f).out = s.out := rfl
@[simp] theorem State.updLink_pending (s : State) (i : Nat) (f : Link → Link) : (s.updLink i f).pending = s.pending := rfl

/-! ### emit -/

@[simp] theorem State.emit_build (s : State) (o : Output) : (s.emit o).build = s.build := by unfold State.emit; split <;> rfl
@[simp] theorem State.emit_cc (s : State) (o : Output) : (s.emit o).cc = s.cc := by unfold State.emit; split <;> rfl
@[simp] theorem State.emit_tb (s : State) (o : Output) : (s.emit o).tb = s.tb := by unfold State.emit; split <;> rfl
@[simp] theorem State.emit_pins (s : State) (o : Output) : (s.emit o).pins = s.pins := by unfold State.emit; split <;> rfl
@[simp] theorem State.emit_regs (s : State) (o : Output) : (s.emit o).regs = s.regs := by unfold State.emit; split <;> rfl
@[simp] theorem State.emit_shf (s : State) (o : Output) : (s.emit o).shf = s.shf := by unfold State.emit; split <;> rfl
@[simp] theorem State.emit_sram (s : State) (o : Output) : (s.emit o).sram = s.sram := by unfold State.emit; split <;> rfl
@[simp] theorem State.emit_ecc (s : State) (o : Output) : (s.emit o).ecc = s.ecc := by unfold State.emit; split <;> rfl
@[simp] theorem State.emit_glb (s : State) (o : Output) : (s.emit o).glb = s.glb := by unfold State.emit; split <;> rfl
@[simp] theorem State.emit_mm (s : State) (o : Output) : (s.emit o).mm = s.mm := by unfold State.emit; split <;> rfl
@[simp] theorem State.emit_fe (s : State) (o : Output) : (s.emit o).fe = s.fe := by unfold State.emit; split <;> rfl
@[simp] theorem State.emit_gs (s : State) (o : Output) : (s.emit o).gs = s.gs := by unfold State.emit; split <;> rfl
@[simp] theorem State.emit_dr (s : State) (o : Output) : (s.emit o).dr = s.dr := by unfold State.emit; split <;> rfl
@[simp] theorem State.emit_ds (s : State) (o : Output) : (s.emit o).ds = s.ds := by unfold State.emit; split <;> rfl
@[simp] theorem State.emit_sm (s : State) (o : Output) : (s.emit o).sm = s.sm := by unfold State.emit; split <;> rfl
@[simp] theorem State.emit_mh (s : State) (o : Output) : (s.emit o).mh = s.mh := by unfold State.emit; split <;> rfl
@[simp] theorem State.emit_st (s : State) (o : Output) : (s.emit o).st = s.st := by unfold State.emit; split <;> rfl
@[simp] theorem State.emit_era (s : State) (o : Output) : (s.emit o).era = s.era := by unfold State.emit; split <;> rfl
@[simp] theorem State.emit_bg (s : State) (o : Output) : (s.emit o).bg = s.bg := by unfold State.emit; split <;> rfl
@[simp] theorem State.emit_psc (s : State) (o : Output) : (s.emit o).psc = s.psc := by unfold State.emit; split <;> rfl
@[simp] theorem State.emit_dc (s : State) (o : Output) : (s.emit o).dc = s.dc := by unfold State.emit; split <;> rfl
@[simp] theorem State.emit_pau (s : State) (o : Output) : (s.emit o).pau = s.pau := by unfold State.emit; split <;> rfl
@[simp] theorem State.emit_ifm (s : State) (o : Output) : (s.emit o).ifm = s.ifm := by unfold State.emit; split <;> rfl
@[simp] theorem State.emit_dbg (s : State) (o : Output) : (s.emit o).dbg = s.dbg := by unfold State.emit; split <;> rfl
@[simp] theorem State.emit_thr (s : State) (o : Output) : (s.emit o).thr = s.thr := by unfold State.emit; split <;> rfl
@[simp] theorem State.emit_tap (s : State) (o : Output) : (s.emit o).tap = s.tap := by unfold State.emit; split <;> rfl
@[simp] theorem State.emit_fab (s : State) (o : Output) : (s.emit o).fab = s.fab := by unfold State.emit; split <;> rfl
@[simp] theorem State.emit_eps (s : State) (o : Output) : (s.emit o).eps = s.eps := by unfold State.emit; split <;> rfl
@[simp] theorem State.emit_free (s : State) (o : Output) : (s.emit o).free = s.free := by unfold State.emit; split <;> rfl
@[simp] theorem State.emit_pending (s : State) (o : Output) : (s.emit o).pending = s.pending := by unfold State.emit; split <;> rfl

/-- What emit can do: the output is added at the end, or it is clamped and nothing changes. -/
theorem State.emit_cases (s : State) (o : Output) : s.emit o = s ∨ s.emit o = { s with out := s.out ++ [o] } := by
  unfold State.emit; split
  · exact .inl rfl
  · exact .inr rfl

/-! ### Reads after writes -/

/-- A register word reads as written, and every other word as before. -/
theorem State.reg_setReg {s : State} (w : Tab.wf (regReset s.build) s.regs = true) (a b : Nat) (v : Word) :
    (s.setReg a v).reg b = if b = a then v else s.reg b := Tab.get_set w

/-- A word of SRAM reads as written, and every other word as before. -/
theorem State.ram_setRam {s : State} (w : Tab.wf ramDefault s.sram = true) (k j : Nat) (v : Word) :
    (s.setRam k v).ram j = if j = k then v else s.ram j := Tab.get_set w

/-- Writing a register keeps the canonical form. -/
theorem State.setReg_wf {s : State} (w : Tab.wf (regReset s.build) s.regs = true) (a : Nat) (v : Word) :
    Tab.wf (regReset (s.setReg a v).build) (s.setReg a v).regs = true := Tab.wf_set w

/-- Writing a word of SRAM keeps the canonical form. -/
theorem State.setRam_wf {s : State} (w : Tab.wf ramDefault s.sram = true) (k : Nat) (v : Word) :
    Tab.wf ramDefault (s.setRam k v).sram = true := Tab.wf_set w

end Sys2Proof.Machine
end

