-- ==== Sys2Proof/WellFormed.lean ====
section
/-! DEFINITION. Which commands are well-formed: every operand lies in the range of its port or field in the full configuration (R23).  The
bit-vector operands need no check.  A meaning is total all the same: an ill-formed command meets the rule that its operands meet. -/

namespace Sys2Proof

/-- A number below a bound. -/
def fits (bound n : Nat) : Bool := decide (n < bound)

/-- A flit has 8 words (R66). -/
def flitOk (f : List (BitVec 32)) : Bool := f.length == 8

/-- A message has 1 to 4 flits (R287). -/
def flitsOk (fs : List (List (BitVec 32))) : Bool := decide (1 ≤ fs.length) && decide (fs.length ≤ 4) && fs.all flitOk

/-- A beat of read data has 16 words (R46). -/
def beatOk (d : List (BitVec 32)) : Bool := d.length == 16

/-- A nonce has 8 words (R73). -/
def nonceOk (d : List (BitVec 32)) : Bool := d.length == 8

/-- A failing bank fits FAIL_BANK (R497). -/
def bankOk : Option Nat → Bool
  | none => true
  | some b => decide (b < 64)

/-- Whether a command is well-formed. -/
def Instr.wf : Instr → Bool
  | .registerWrite _ _ => true
  | .latchedLowRead _ => true
  | .glbUnlockWrite _ => true
  | .unlockExpired => true
  | .glbUnitEnWrite _ => true
  | .glbCrcRefWrite _ => true
  | .unitReady unit => fits 16 unit
  | .unitStopped unit => fits 16 unit
  | .tableWindowWrite _ _ => true
  | .routeLayerWrite _ _ => true
  | .eraBankWrite _ _ => true
  | .rxqEntryWrite _ _ => true
  | .routeEntryWrite _ _ => true
  | .sheafEntryWrite _ _ => true
  | .stookEntryWrite _ _ => true
  | .saveSetWrite _ _ => true
  | .bgModelBankWrite _ _ => true
  | .domainMapWrite _ _ => true
  | .doorbellWrite _ _ => true
  | .doorbellProcess => true
  | .mmReadData tag status _ data => fits 256 tag && fits 4 status && beatOk data
  | .mmWriteCompletion tag status => fits 128 tag && fits 4 status
  | .dlPresentRise link => fits 512 link
  | .dlPresentFall link => fits 512 link
  | .linkupStart link => fits 512 link
  | .linkupReply slice => fits 16 slice
  | .linkupTimeout link => fits 512 link
  | .linkupReoffer link => fits 512 link
  | .dlIssCredit link => fits 512 link
  | .completionArrive link _ _ => fits 512 link
  | .completionDone slice => fits 16 slice
  | .completionDoneStat slice => fits 16 slice
  | .completionFault slice => fits 16 slice
  | .completionKilled slice => fits 16 slice
  | .completionSpawn slice => fits 16 slice
  | .ctrlAck slice => fits 16 slice
  | .walkEdges => true
  | .remoteEdgeSend => true
  | .semPost => true
  | .taskIssue => true
  | .taskTimeout link _ => fits 512 link
  | .killTimeout link => fits 512 link
  | .noEngineTimeout node => fits 1048576 node
  | .linkCmdDrain link => fits 512 link
  | .linkCmdSleep link => fits 512 link
  | .linkCmdPing link => fits 512 link
  | .linkCmdWake link => fits 512 link
  | .linkCmdRelink link => fits 512 link
  | .spawnAccept => true
  | .launchOp ctx q => fits 1024 ctx && fits 8 q
  | .launchGraph ctx q => fits 1024 ctx && fits 8 q
  | .launchAt ctx q => fits 1024 ctx && fits 8 q
  | .launchAccept => true
  | .copyFinish => true
  | .waitsClear slot => fits 4096 slot
  | .launchRelease slot => fits 4096 slot
  | .loadTemplate ctx q => fits 1024 ctx && fits 8 q
  | .templateCheckDone ctx q => fits 1024 ctx && fits 8 q
  | .patchTemplate ctx q => fits 1024 ctx && fits 8 q
  | .patchCommit ctx q => fits 1024 ctx && fits 8 q
  | .freeTemplate ctx q => fits 1024 ctx && fits 8 q
  | .recordEvent ctx q => fits 1024 ctx && fits 8 q
  | .waitEvent ctx q => fits 1024 ctx && fits 8 q
  | .semOpAdd ctx q => fits 1024 ctx && fits 8 q
  | .semOpSub ctx q => fits 1024 ctx && fits 8 q
  | .semOpWaitGe ctx q => fits 1024 ctx && fits 8 q
  | .semOpWaitGeSub ctx q => fits 1024 ctx && fits 8 q
  | .signalRemote ctx q => fits 1024 ctx && fits 8 q
  | .fence ctx q => fits 1024 ctx && fits 8 q
  | .queryTemplate ctx q => fits 1024 ctx && fits 8 q
  | .queryEvent ctx q => fits 1024 ctx && fits 8 q
  | .queryLaunch ctx q => fits 1024 ctx && fits 8 q
  | .queryQueue ctx q => fits 1024 ctx && fits 8 q
  | .querySemaphore ctx q => fits 1024 ctx && fits 8 q
  | .eventCreate ctx q => fits 1024 ctx && fits 8 q
  | .eventDestroy ctx q => fits 1024 ctx && fits 8 q
  | .contextCreate => true
  | .destroyDrain => true
  | .destroyKill => true
  | .contextFree ctx => fits 1024 ctx
  | .queueReset q => fits 8 q
  | .headGrant => true
  | .packetDecode ctx q => fits 1024 ctx && fits 8 q
  | .pendingTakeEffect ctx q => fits 1024 ctx && fits 8 q
  | .shadowRecordWrite ctx q => fits 1024 ctx && fits 8 q
  | .eventCycleWalk => true
  | .headTimeout ctx q => fits 1024 ctx && fits 8 q
  | .waitTimeout slot => fits 4096 slot
  | .signalTimeout _ => true
  | .thresherCommandStart => true
  | .seqAdmit ctx q => fits 1024 ctx && fits 8 q
  | .setClass ctx q => fits 1024 ctx && fits 8 q
  | .hold ctx q => fits 1024 ctx && fits 8 q
  | .unhold ctx q => fits 1024 ctx && fits 8 q
  | .setMaxLen ctx q => fits 1024 ctx && fits 8 q
  | .setUser ctx q => fits 1024 ctx && fits 8 q
  | .seqCancelSeq ctx q => fits 1024 ctx && fits 8 q
  | .seqCancelStep ctx q => fits 1024 ctx && fits 8 q
  | .seqCancelAll ctx q => fits 1024 ctx && fits 8 q
  | .winnowDone => true
  | .stepRunStart ctx q => fits 1024 ctx && fits 8 q
  | .stepRunStop ctx q => fits 1024 ctx && fits 8 q
  | .stepRunKvAdd ctx q => fits 1024 ctx && fits 8 q
  | .synthesisStart part => fits 16 part
  | .stepLaunchSubmit part => fits 16 part
  | .boundaryPass part => fits 16 part
  | .boundaryPassEnd part => fits 16 part
  | .routeJobStart => true
  | .routeJobNotices => true
  | .routeJobDead => true
  | .eraSwapBias part => fits 16 part
  | .eraSwapSeed part => fits 16 part
  | .semCmdSet => true
  | .semCmdClearFlags => true
  | .watchArm => true
  | .watchCancel index => fits 4096 index
  | .wakeBind => true
  | .wakeBindingSleep index => fits 64 index
  | .wakeCancel => true
  | .wakeTimeout index => fits 64 index
  | .sheafArm sheaf => fits 256 sheaf
  | .sheafDisarm sheaf => fits 256 sheaf
  | .sheafClearFault sheaf => fits 256 sheaf
  | .sheafTimeout sheaf => fits 256 sheaf
  | .rxPop core => fits 64 core
  | .sendGo core => fits 64 core
  | .outPop core => fits 64 core
  | .granaryRefill queue => fits 4096 queue
  | .stookOpen stook => fits 256 stook
  | .stookClose stook => fits 256 stook
  | .stookClearFault stook => fits 256 stook
  | .stookResultRetry stook => fits 256 stook
  | .msgRemoteTimeout _ => true
  | .fpPresentRise => true
  | .fpLinkup flit => flitOk flit
  | .fpCreditReturn _ => true
  | .edgeDec flit => flitOk flit
  | .signal flit => flitOk flit
  | .sheafArrive flit => flitOk flit
  | .sheafRelease flit => flitOk flit
  | .msg flits => flitsOk flits
  | .departLeave flit => flitOk flit
  | .departLost flit => flitOk flit
  | .departJoin flit => flitOk flit
  | .ack flit => flitOk flit
  | .nack flit => flitOk flit
  | .edgeDecResend _ => true
  | .remoteEdgeTimeout _ => true
  | .remoteStall slot => fits 4096 slot
  | .domainLeave => true
  | .domainLeaveSend => true
  | .domainJoin => true
  | .pmBudget part _ => fits 16 part
  | .pmMeas cluster _ _ => fits 32 cluster
  | .pmLendAck => true
  | .budgetEpochBoundary => true
  | .regulatorRefill => true
  | .bgModelSwap => true
  | .spillStart claim => fits 1024 claim
  | .restoreStart claim => fits 1024 claim
  | .glStart => true
  | .glEpochBoundary => true
  | .replayStall => true
  | .ckptCmd part => fits 16 part
  | .tagWindowCheck => true
  | .enclaveLock part => fits 16 part
  | .enclaveLockDone => true
  | .teardown part => fits 16 part
  | .teardownScrub => true
  | .teardownDone => true
  | .atRequest sel nonce => fits 64 sel && nonceOk nonce
  | .listRebuildDone => true
  | .patrolPassEnd => true
  | .crcPassEnd => true
  | .sliceWatchdog slice => fits 16 slice
  | .sliceRejoin slice => fits 16 slice
  | .thresherHeartbeat => true
  | .thresherRestartDone => true
  | .gleanerIntake => true
  | .gleanerEntryClose => true
  | .gleanerWriteRetry => true
  | .captureClrFirst => true
  | .captureClrLast => true
  | .captureClrWorst => true
  | .gcSync _ => true
  | .timebaseLost => true
  | .snapTrigIn => true
  | .snapFire => true
  | .snapRelease => true
  | .ctrClear => true
  | .traceMark _ => true
  | .traceBeatTimeout => true
  | .bootStart => true
  | .bootClearDone => true
  | .bootCopyDone => true
  | .bootVerifyDone => true
  | .bootMeasureDone => true
  | .firmwareStart => true
  | .resetAssert _ => true
  | .resetRelease _ => true
  | .pwrReqRise => true
  | .quiesceTimeout => true
  | .quiesceDone => true
  | .pwrReqFall => true
  | .isoEnRise => true
  | .isoEnFall => true
  | .retEnChange _ => true
  | .tapExtest _ => true
  | .tapSamplePreload _ => true
  | .tapIdcode => true
  | .tapClamp => true
  | .tapRegAccess _ _ _ => true
  | .tapSnap => true
  | .tapMbist _ => true
  | .tapBypass _ => true
  | .trst => true
  | .mbistDone failBank => bankOk failBank
  | .fpPresentFall => true
  | .departTimeout dev => fits 4096 dev
  | .ifmHbIncrement => true
  | .patrolRead table word => fits 128 table && fits 16777216 word
  | .drRestartDone => true
  | .tmplExtendDone => true

end Sys2Proof
end

