-- ==== Sys2Proof/Tests/Slice0.lean ====
section
/-! SUPPORT. Tests: an ill-formed command for each check, a concrete state that meets the hypotheses of each statement, and small runs of one
command whose results are taken from the rules that their comments name. -/

-- One declaration at a time: checked side by side, the tests ask for more threads than the checks may start.
set_option Elab.async false

namespace Sys2Proof.Tests

open Sys2Proof.Machine

/-! ### States for the tests -/

/-- The state that a command leaves. -/
def after (c : Instr) (s : State) : State :=
  match exec c s with
  | .next t => t
  | _ => s

/-- A command answers a next state. -/
def runs (c : Instr) (s : State) : Bool :=
  match exec c s with
  | .next _ => true
  | _ => false

/-- A block whose firmware runs, with every unit enabled and READY. -/
def live : State :=
  ((State.reset.setReg Reg.GLB_FW_VERSION_A 1#32).setRf Reg.GLB_UNIT_EN 0xFFFF).setRf Reg.GLB_UNIT_STATUS_READY 0xFFFF

/-- A packet from its first words. -/
def packet (w0 w1 w2 w3 : Nat) : List Word := [w0, w1, w2, w3].map (BitVec.ofNat 32) ++ zeros 12

/-- Context 0 of partition 0, LIVE, with generation 1. -/
def context : Context := ⟨0, 1, 0, 1, 1⟩

/-- Queue 0 of context 0 in a state, with nothing submitted. -/
def queue (st : QState) : Queue := ⟨0, 0, 0x1000, 6, 0x2000, 1, 1, 0, 0, st, 0, 0, 0, [], [], 0, none, 0, false, 0⟩

/-- `live` with context 0 and its queue. -/
def served (st : QState) : State := { live with fe := { live.fe with ctxs := [context], queues := [queue st] } }

/-- `live` with a packet at the head of queue 0. -/
def front (pkt : List Word) : State :=
  let s := served .active
  { s with fe := { s.fe with heads := [⟨0, 0, 0, 1, [], 0, some ⟨pkt, false, 0, none⟩⟩] } }

/-- `live` with a Thresher command of queue 0 that has started. -/
def thresher (pkt : List Word) : State :=
  let s := served .blocked
  { s with fe := { s.fe with heads := [⟨0, 0, 0, 1, [], 0, some ⟨pkt, true, 0, none⟩⟩], slow := [⟨0, 0, pkt, .running, 0⟩] } }

/-- A state in which a long time has passed since everything. -/
def late (s : State) : State := { s with tb := { s.tb with count := 2 ^ 32 * 10 ^ 12, check := true } }

/-! ### Well-formedness and decoding -/

theorem test_wf_refuses_units : (Instr.unitReady 16).wf = false ∧ (Instr.unitStopped 16).wf = false ∧ (Instr.unitReady 15).wf = true := by decide +kernel
theorem test_wf_refuses_tags : (Instr.mmReadData 256 0 true (zeros 16)).wf = false ∧ (Instr.mmReadData 255 4 true (zeros 16)).wf = false ∧
    (Instr.mmReadData 255 3 true (zeros 15)).wf = false ∧ (Instr.mmReadData 255 3 true (zeros 16)).wf = true ∧
    (Instr.mmWriteCompletion 128 0).wf = false ∧ (Instr.mmWriteCompletion 127 4).wf = false ∧ (Instr.mmWriteCompletion 127 3).wf = true := by decide +kernel
theorem test_wf_refuses_links : (Instr.dlPresentRise 512).wf = false ∧ (Instr.dlPresentFall 512).wf = false ∧ (Instr.linkupStart 512).wf = false ∧
    (Instr.linkupTimeout 512).wf = false ∧ (Instr.linkupReoffer 512).wf = false ∧ (Instr.dlIssCredit 512).wf = false ∧
    (Instr.completionArrive 512 0#32 0#32).wf = false ∧ (Instr.taskTimeout 512 0#28).wf = false ∧ (Instr.killTimeout 512).wf = false ∧
    (Instr.linkCmdDrain 512).wf = false ∧ (Instr.linkCmdSleep 512).wf = false ∧ (Instr.linkCmdPing 512).wf = false ∧
    (Instr.linkCmdWake 512).wf = false ∧ (Instr.linkCmdRelink 512).wf = false ∧ (Instr.dlPresentRise 511).wf = true := by decide +kernel
theorem test_wf_refuses_slices : (Instr.linkupReply 16).wf = false ∧ (Instr.completionDone 16).wf = false ∧ (Instr.completionDoneStat 16).wf = false ∧
    (Instr.completionFault 16).wf = false ∧ (Instr.completionKilled 16).wf = false ∧ (Instr.completionSpawn 16).wf = false ∧
    (Instr.ctrlAck 16).wf = false ∧ (Instr.sliceWatchdog 16).wf = false ∧ (Instr.sliceRejoin 16).wf = false ∧ (Instr.ctrlAck 15).wf = true := by decide +kernel
theorem test_wf_refuses_contexts : (Instr.contextFree 1024).wf = false ∧ (Instr.queueReset 8).wf = false ∧ (Instr.contextFree 1023).wf = true := by decide +kernel
theorem test_wf_refuses_queues : ([fun c q => Instr.launchOp c q, .launchGraph, .launchAt, .loadTemplate, .templateCheckDone, .patchTemplate, .patchCommit,
    .freeTemplate, .recordEvent, .waitEvent, .semOpAdd, .semOpSub, .semOpWaitGe, .semOpWaitGeSub, .signalRemote, .fence, .queryTemplate, .queryEvent,
    .queryLaunch, .queryQueue, .querySemaphore, .eventCreate, .eventDestroy, .packetDecode, .pendingTakeEffect, .shadowRecordWrite, .headTimeout,
    .seqAdmit, .setClass, .hold, .unhold, .setMaxLen, .setUser, .seqCancelSeq, .seqCancelStep, .seqCancelAll, .stepRunStart, .stepRunStop,
    .stepRunKvAdd]).all (fun f => !(f 1024 0).wf && !(f 0 8).wf && (f 1023 7).wf) = true := by decide +kernel
theorem test_wf_refuses_slots : (Instr.waitsClear 4096).wf = false ∧ (Instr.launchRelease 4096).wf = false ∧ (Instr.waitTimeout 4096).wf = false ∧
    (Instr.remoteStall 4096).wf = false ∧ (Instr.noEngineTimeout 1048576).wf = false ∧ (Instr.waitsClear 4095).wf = true := by decide +kernel
theorem test_wf_refuses_parts : ([Instr.synthesisStart, .stepLaunchSubmit, .boundaryPass, .boundaryPassEnd, .eraSwapBias, .eraSwapSeed, .ckptCmd, .enclaveLock,
    .teardown, fun p => .pmBudget p 0#32]).all (fun f => !(f 16).wf && (f 15).wf) = true := by decide +kernel
theorem test_wf_refuses_cores : ([Instr.rxPop, .sendGo, .outPop, .wakeBindingSleep, .wakeTimeout]).all (fun f => !(f 64).wf && (f 63).wf) = true := by decide +kernel
theorem test_wf_refuses_stooks : ([Instr.stookOpen, .stookClose, .stookClearFault, .stookResultRetry, .sheafArm, .sheafDisarm, .sheafClearFault,
    .sheafTimeout]).all (fun f => !(f 256).wf && (f 255).wf) = true := by decide +kernel
theorem test_wf_refuses_tables : (Instr.watchCancel 4096).wf = false ∧ (Instr.granaryRefill 4096).wf = false ∧ (Instr.departTimeout 4096).wf = false ∧
    (Instr.spillStart 1024).wf = false ∧ (Instr.restoreStart 1024).wf = false ∧ (Instr.pmMeas 32 0#32 0#12).wf = false ∧
    (Instr.patrolRead 128 0).wf = false ∧ (Instr.patrolRead 0 16777216).wf = false ∧ (Instr.patrolRead 127 16777215).wf = true := by decide +kernel
theorem test_wf_refuses_flits : ([Instr.fpLinkup, .edgeDec, .signal, .sheafArrive, .sheafRelease, .departLeave, .departLost, .departJoin, .ack, .nack]).all
    (fun f => !(f (zeros 7)).wf && (f (zeros 8)).wf) = true ∧ (Instr.msg []).wf = false ∧ (Instr.msg (List.replicate 5 (zeros 8))).wf = false ∧
    (Instr.msg [zeros 9]).wf = false ∧ (Instr.msg (List.replicate 4 (zeros 8))).wf = true := by decide +kernel
theorem test_wf_refuses_the_rest : (Instr.atRequest 64 (zeros 8)).wf = false ∧ (Instr.atRequest 63 (zeros 7)).wf = false ∧ (Instr.atRequest 63 (zeros 8)).wf = true ∧
    (Instr.mbistDone (some 64)).wf = false ∧ (Instr.mbistDone (some 63)).wf = true ∧ (Instr.mbistDone none).wf = true := by decide +kernel

/-- No word spells a command: the table gives no row any bits. -/
theorem test_no_word_is_a_command : decodeTableWord 32 0x5EED = none ∧ decodeTableWord 0 0 = none := by decide +kernel

/-! ### The machine as a whole -/

theorem wit_StepRunsTheFrontCommand : ({ State.reset with pending := [.trst] } : State).pending = Instr.trst :: [] := rfl
theorem wit_StepOnAnEmptyQueuePassesACycle : State.reset.pending = [] ∧ (State.reset.thr.retained && State.reset.pins.retEn) = false := by decide +kernel
/-- RETAINED with ret_en high: the clock stands still (R488). -/
theorem wit_StepOnAnEmptyQueuePassesACycle_retained :
    let s : State := { State.reset with thr := { State.reset.thr with retained := true }, pins := { State.reset.pins with retEn := true } }
    s.pending = [] ∧ (s.thr.retained && s.pins.retEn) = true := by decide +kernel
theorem wit_EveryStepKeepsSoundness : State.reset.Inv ∧ step State.reset = .next State.reset.tick := ⟨⟨rfl, rfl, rfl, rfl⟩, rfl⟩
theorem wit_CommandsKeepQueueBuildAndOutputs : exec .trst live = .next { live with tap := { live.tap with ir := 2 } } := rfl
theorem wit_EveryCommandKeepsItsFrame : exec .trst live = .next { live with tap := { live.tap with ir := 2 } } ∧ Part.regs ∉ partsOf .trst := ⟨rfl, by decide⟩
/-- The count reads 0 until the first gc_sync, takes its sample, and then advances by 20/33 ns in each cc, held with 32 fraction bits (R71, R483). -/
theorem test_count_runs : State.reset.tick.cc = 1 ∧ State.reset.tick.tb.count = 0 ∧
    (after (.gcSync 1000#64) State.reset).tick.tb.count = 1000 * 2 ^ 32 + 2603010482 := by decide +kernel

/-- blk_present is low at reset (R39). -/
theorem wit_AbsentClampedAndHeldInputs : State.reset.blkPresent = false := by decide +kernel
/-- A clock domain in reset clamps its own inputs, and iso_en those of all domains (R79). -/
theorem wit_AbsentClampedAndHeldInputs_clamped : ([ResetDom.noc, .eng, .fab, .reg, .core]).all (fun d => !({ live with pins := live.pins.setReset d true } : State).portOn d &&
    !({ live with pins := { live.pins with isoEn := true } } : State).portOn d) = true := by decide +kernel
/-- Epochs of grain-locked mode run. -/
def locked : State := { live.setRf Reg.DC_STATUS_RUNNING 1 with fab := { live.fab with up := true } }
/-- A flit whose header has a TYPE, from device 1, with LEN 1. -/
def flitOf (t : Nat) (w3 w4 : Nat) : List Word :=
  let r := mkRec 8 [(Fl.TYPE, t), (Fl.LEN, 1), (Fl.SRC_DEV, 1)]
  (r.set 3 (BitVec.ofNat 32 w3)).set 4 (BitVec.ofNat 32 w4)
theorem wit_AbsentClampedAndHeldInputs_held : locked.holds = true ∧ locked.portOn .noc ∧ locked.portOn .fab ∧ locked.fab.up ∧ locked.portOn .eng ∧ locked.portOn .reg ∧ locked.blkPresent ∧
    locked.replaying = false ∧ fld (flitOf 1 0 0) Fl.TYPE = 1 ∧ fld (flitOf 2 0 0) Fl.TYPE = 2 ∧ fld (flitOf 0x80 0 0) Fl.TYPE = 0x80 ∧
    (fld (flitOf 6 0 0) Fl.TYPE = 6 ∧ pf (flitOf 6 0 0) 3 1 0 = 0) := by decide +kernel

/-! ### The register port -/

/-- Address of the register with an index into the register words. -/
theorem wit_RegisterPortWritesAndReads : live.portLive ∧ (0x8#21).toNat % 4 = 0 ∧ live.blkPresent ∧ (0x9#21).toNat % 4 ≠ 0 ∧
    live.popAt (Reg.CW_RX_POP_A 0) 0x8 = none ∧ live.popAt (Reg.CW_OUT_POP_A 0) 0x8 = none ∧ live.ecc = [] := by decide +kernel
/-- A register write is acknowledged, and a misaligned one draws rp_err (R40, R457). -/
theorem test_register_write_answers : (after (.registerWrite 0x9#21 1#32) live).out = [.rpAck none true] := by decide +kernel

/-- GLB_UNLOCK with the key arms the unlock; the write that it admits uses it up, and in the 65th cc it has lapsed (R463, R464). -/
def armed : State := after (.glbUnlockWrite 0x5EED#32) live
theorem wit_UnlockArmsAdmitsAndLapses : live.portLive ∧ live.glb.armedCc = none ∧ armed.portLive ∧ armed.glb.armedCc = some 0 ∧ armed.cc < 0 + 65 ∧
    (0 + 65 ≤ ({ armed with cc := 65 } : State).cc ∧ ({ armed with cc := 65 } : State).glb.armedCc = some 0) := by decide +kernel
theorem test_unlock_admits_one_write : (after (.glbCrcRefWrite 7#32) armed).reg Reg.GLB_CRC_REF_A = 7#32 ∧
    (after (.glbCrcRefWrite 8#32) (after (.glbCrcRefWrite 7#32) armed)).reg Reg.GLB_CRC_REF_A = 7#32 := by decide +kernel
theorem test_unlock_lapses : (after .unlockExpired { armed with cc := 64 }).glb.armedCc = some 0 ∧ (after .unlockExpired { armed with cc := 65 }).glb.armedCc = none := by
  decide +kernel

/-- Some units are off: the Gleaner is on, and so is the PAU, which needs it. -/
def few : State := (live.setRf Reg.GLB_UNIT_EN 0x3001).setRf Reg.GLB_UNIT_STATUS_READY 0x3001
theorem wit_UnitsAreEnabledReadyAndStopped : (few.unitEn 0x2 = false ∧ few.stopping 0x2 = false ∧ (unitNeeds 0x2).all few.unitEn) ∧
    (few.unitEn 0x1 = false ∧ few.stopping 0x1 = false ∧ (unitNeeds 0x1).all few.unitEn = false) ∧
    ((few.setRf Reg.GLB_UNIT_STATUS_STOPPING 4).unitEn 2 = false ∧ (few.setRf Reg.GLB_UNIT_STATUS_STOPPING 4).stopping 2) ∧
    (few.unitEn 0xD ∧ (unitUsers 0xD).any few.unitEn) ∧ (few.unitEn 0xC ∧ (unitUsers 0xC).any few.unitEn = false) := by decide +kernel
theorem wit_UnitsAreEnabledReadyAndStopped_inv : few.Inv := ⟨rfl, by decide, by decide, by decide⟩
theorem wit_UnitsAreEnabledReadyAndStopped_ready : (few.setRf Reg.GLB_UNIT_STATUS_READY 1).unitEn 0xC ∧ bit ((few.setRf Reg.GLB_UNIT_STATUS_READY 1).rf Reg.GLB_UNIT_STATUS_READY) 0xC = false := by
  decide +kernel
theorem wit_UnitsAreEnabledReadyAndStopped_stopped : let s := few.setRf Reg.GLB_UNIT_STATUS_STOPPING 4
    s.stopping 2 ∧ (unitUsers 2).all s.unitOff ∧ s.stopDone 2 := by decide +kernel
/-- Disabling the PAU leaves it STOPPING (R19); enabling the CFE without the units that it needs is refused (R18). -/
theorem test_unit_enables : (few.disableUnit 0xC).stopping 0xC = true ∧ (few.disableUnit 0xC).unitEn 0xC = false ∧ (few.enableUnit 1).unitEn 1 = false ∧
    (few.enableUnit 2).unitEn 2 = true := by decide +kernel

/-- `live` with window 0 on a table. -/
def onTable (tid : Nat) : State := live.setReg (Reg.GLB_TW_SEL_A 0) (BitVec.ofNat 32 tid)
/-- A window write of word `w` of the table that window 0 shows. -/
def word (w : Nat) : Nat := 0x100000 + 4 * w
theorem wit_WindowWritesAreHonouredWhileOpen : ([0x13, 0x0A, 0x0D, 0x0E, 0x1C, 0x0B, 0x0C, 0x15, 0x19]).all (fun tid => (onTable tid).portLive && (onTable tid).unlatch.windowOpen (word 2) tid 2) = true := by decide +kernel
theorem wit_WindowWritesAreHonouredWhileOpen_last : (onTable 0x0A).unlatch.windowOpen (word 4095) 0x0A 4095 ∧ (onTable 0x0A).unlatch.windowOpen (word 4096) 0x0A 4096 = false := by decide +kernel
/-- A sheaf that is armed, a Stook that is open, a stream that runs, a member of a domain. -/
theorem wit_WindowWritesAreHonouredWhileOpen_shut : ((onTable 0x0A).setRm (sheafRow 0) Sh.STATE 1).unlatch.rm (sheafRow (2 / 16)) Sh.STATE ≠ 0 ∧
    ((onTable 0x0D).setRm (stookRow 0) Sk.STATE 1).unlatch.rm (stookRow (2 / 16)) Sk.STATE ≠ 0 ∧
    ((onTable 0x0E).setRf (Reg.ST_STREAM_STATUS_SSTATE 0) 1).unlatch.rf (Reg.ST_STREAM_STATUS_SSTATE (2 / 16 / 128)) = 1 ∧
    (onTable 0x0E).unlatch.rf (Reg.ST_STREAM_STATUS_SSTATE (2 / 16 / 128)) = 0 ∧
    ((onTable 0x1C).setRf Reg.DR_DOMAIN_STATUS_MEMBER 1).unlatch.rb Reg.DR_DOMAIN_STATUS_MEMBER = true ∧
    (onTable 0x1C).unlatch.rb Reg.DR_DOMAIN_STATUS_MEMBER = false ∧ (onTable 0x1C).unlatch.rb Reg.DR_DOMAIN_STATUS_BUSY = false := by decide +kernel
theorem wit_WindowWritesAreHonouredWhileOpen_queues : (onTable 0x0B).unlatch.rm (rxqRow 0) Rq.VALID = 0 ∧ wget (1#32) 0 0 = 1 ∧
    (onTable 0x0B).unlatch.rxqWordsOk [1#32, (onTable 0x0B).unlatch.ram (rxqRow 0 + 1), (onTable 0x0B).unlatch.ram (rxqRow 0 + 2)] ∧
    ((onTable 0x0B).setRm (rxqRow 0) Rq.VALID 1).unlatch.rm (rxqRow 0) Rq.VALID = 1 ∧
    (onTable 0x0C).unlatch.rm (routeRow 0) Rt.VALID = 0 ∧ bit (0x10000000#32).toNat 28 = true ∧
    ((onTable 0x0C).setRm (routeRow 0) Rt.VALID 1).unlatch.rm (routeRow 0) Rt.VALID = 1 := by decide +kernel
/-- Bias bank 1, of which partition 0 has an area; the energy banks; a save set that a claim names. -/
def bias : State := ((onTable 0x10).setRf (Reg.ERA_BIAS_BIAS_SIZE 0) 16)
theorem wit_WindowWritesAreHonouredWhileOpen_banks : (bias.unlatch.windowOpen (word 2) 0x10 2 ∧ bias.unlatch.biasPart 2 = some 0 ∧ bias.unlatch.rf (Reg.ERA_BANK_BIAS_ACTIVE 0) = 0 ∧
    bias.unlatch.rb (Reg.ERA_BANK_BIAS_PEND 0) = false ∧ bias.unlatch.rb (Reg.ERA_BANK_BIAS_COMMIT 0) = false ∧ bias.unlatch.sh (Reg.ERA_LOOP_BIAS_AUTO 0) = 0) ∧
    (bias.setRf (Reg.ERA_BANK_BIAS_ACTIVE 0) 1).unlatch.rf (Reg.ERA_BANK_BIAS_ACTIVE 0) = 1 ∧
    (onTable 0x15).unlatch.rf Reg.BG_MODEL_STATUS_ACTIVE = 0 ∧ (onTable 0x15).unlatch.rb Reg.BG_MODEL_STATUS_PEND = false ∧
    ((onTable 0x15).setRf Reg.BG_MODEL_STATUS_ACTIVE 1).unlatch.rf Reg.BG_MODEL_STATUS_ACTIVE = 1 ∧
    (2 / 2 % 256 ≠ 0 ∧ (onTable 0x19).unlatch.saveSetHeld 0 1 = false ∧ bit (0#32).toNat 31 = false) ∧
    ({ ((onTable 0x19).setRm (claimRow 0) Clm.STATE 2).setRm (claimRow 0) Clm.SAVE_SET 1 with psc := { live.psc with order := [0] } } : State).unlatch.saveSetHeld 0 1 := by decide +kernel
/-- An armed sheaf may not be written, and setting VALID of a route raises its GEN (R258, R286). -/
theorem test_window_rules : (after (.sheafEntryWrite (BitVec.ofNat 21 (word 1)) 7#32) (onTable 0x0A)).ram (sheafRow 0 + 1) = 7#32 ∧
    (after (.sheafEntryWrite (BitVec.ofNat 21 (word 1)) 7#32) ((onTable 0x0A).setRm (sheafRow 0) Sh.STATE 1)).ram (sheafRow 0 + 1) = 0#32 ∧
    (after (.routeEntryWrite (BitVec.ofNat 21 (word 0)) 0x10000000#32) (onTable 0x0C)).rm (routeRow 0) Rt.GEN = 1 := by decide +kernel

/-! ### Doorbells, the memory port and the links -/

/-- A doorbell word of context 0, queue 0: GEN and the write index. -/
def bell (gen w : Nat) : Nat := 2 ^ 52 * gen + w
/-- `served` with a doorbell in the FIFO. -/
def rung (st : QState) (a d : Nat) : State := let s := served st; { s with fe := { s.fe with fifo := [(a, d)] } }
theorem wit_DoorbellsAndMemoryAnswersAreTaken : (live.inputLive .noc ∧ live.dbReady ∧ live.replaying = false) ∧
    (rung .empty 0 (bell 1 1)).queue? 0 0 = some (queue .empty) ∧ ((rung .empty 0 (bell 1 1)).ctx 0).cstate = 1 ∧
    bits (bell 2 1) 63 52 ≠ ((rung .empty 0 (bell 2 1)).ctx 0).gen ∧ bits (bell 1 1) 63 52 = ((rung .empty 0 (bell 1 1)).ctx 0).gen ∧
    bits (bell 1 1) 51 32 = 0 ∧ newer 32 (bell 1 0 % 2 ^ 32) 0 = false ∧
    (newer 32 (bell 1 65 % 2 ^ 32) 0 ∧ 2 ^ 6 < (2 ^ 32 + bell 1 65 % 2 ^ 32 - 0) % 2 ^ 32) ∧
    (newer 32 (bell 1 64 % 2 ^ 32) 0 ∧ (2 ^ 32 + bell 1 64 % 2 ^ 32 - 0) % 2 ^ 32 ≤ 2 ^ 6) ∧ (4 % 8 ≠ 0 ∨ live.build.ctxs ≤ 0) := by decide +kernel
/-- A doorbell makes an EMPTY queue PENDING; one beyond the ring faults it (R157). -/
theorem test_doorbell_process : ((after .doorbellProcess (rung .empty 0 (bell 1 64))).queue? 0 0).map (fun x => (x.state, x.write)) = some (.pending, 64) ∧
    ((after .doorbellProcess (rung .empty 0 (bell 1 65))).queue? 0 0).map (·.state) = some .faulted ∧
    (after .doorbellProcess (rung .empty 0 (bell 2 1))).rf Reg.CFE_DB_DROPPED = 1 := by decide +kernel

/-- `live` with a transfer out whose request is its last, or not. -/
def transfer (write : Bool) (left : Nat) : State :=
  { live with mm := ⟨[⟨write, 5, 0x1000, 4, 0, 1, 1, .dropped, left, [], [], 0, 0, 0⟩], []⟩ }
theorem wit_DoorbellsAndMemoryAnswersAreTaken_memory : live.inputLive .noc ∧ live.cyc.arrived.any (fun a => decide (1 < a.2)) = false ∧
    ((transfer false 4).mm.busy.find? (fun x => !x.write && x.tag == 5)).isSome ∧ ((transfer true 4).mm.busy.find? (fun x => x.write && x.tag == 5)).isSome ∧
    (∀ x ∈ (transfer true 4).mm.busy, x.left ≤ x.beats ∧ x.fail = 0) ∧ (∀ x ∈ (transfer true 5).mm.busy, x.beats < x.left) := by decide +kernel
/-- The last beat frees the tag. -/
theorem test_last_beat : (after (.mmReadData 5 0 true (zeros 16)) (transfer false 4)).mm.busy = [] ∧
    ((after (.mmReadData 5 0 false (zeros 16)) (transfer false 4)).mm.busy.map fun x => x.got.length) = [16] := by decide +kernel

/-- `live` at cc 1000 with link 3, DOWN or in another state, present since cc 0. -/
def linked (f : Link → Link) : State :=
  { live with cc := 1000, ds := { live.ds with links := [f { Link.fresh 3 with pin := true, present := true }] } }
/-- Link 3 is UP with 8 credits. -/
def upLink (l : Link) : Link := { l with lstate := 2, proto := 2, creditsAdv := 8, creditsNow := 8, spawn := true }
theorem wit_LinksAreOfferedCountedAndLost : (live.inputLive .eng ∧ 3 < live.build.links ∧ live.replaying = false) ∧
    (let r := ((linked upLink).setPresentPin 3 false).dropRise 3; (r.link 3).present ∧ r.linkUp 3) ∧
    (let r := ((linked id).setPresentPin 3 false).dropRise 3; (r.link 3).present ∧ r.linkUp 3 = false) ∧
    (let r := (live.setPresentPin 3 false).dropRise 3; (r.link 3).present = false) ∧
    (locked.portOn .eng ∧ locked.holds ∧ locked.replaying = false) ∧
    (let s := linked id; s.portOn .eng ∧ s.unitEn U.DS ∧ s.noOffers = false ∧ (s.link 3).present ∧ (s.link 3).presentCc + 128 ≤ s.cc ∧ (s.link 3).lstate = 0) ∧
    (let s := late (linked fun l => { l with lstate := 1, offerOut := true, offers := 1 })
     (s.link 3).lstate = 1 ∧ (s.link 3).offerOut ∧ s.due (s.link 3).offerGc 10000 ∧ (s.fifo (3 / 16)).any (fun r => r.link == 3 && r.kind == 15) = false) ∧
    (let s := late (linked fun l => { l with lstate := 1, reoffer := true })
     s.portOn .eng ∧ (s.link 3).lstate = 1 ∧ (s.link 3).reoffer ∧ (s.link 3).present ∧ s.due (s.link 3).offerGc 1000000 ∧ s.noOffers = false) := by decide +kernel
theorem wit_LinksAreOfferedCountedAndLost_credits : (let s := linked fun l => { upLink l with creditsNow := 7 }
      s.portOn .eng ∧ s.linkUp 3 ∧ (s.link 3).irqOut = [] ∧ (s.link 3).creditsNow < (s.link 3).creditsAdv) ∧
    (let s := linked upLink; s.linkUp 3 ∧ (s.link 3).irqOut = [] ∧ (s.link 3).creditsAdv ≤ (s.link 3).creditsNow) ∧
    (let s := linked fun l => { upLink l with creditsNow := 7, irqOut := [0] }; (s.link 3).irqOut = [0] ∧ (s.link 3).creditsNow < (s.link 3).creditsAdv) ∧
    (let s := linked upLink; 3 < s.build.links ∧ (s.link 3).present ∧ ((s.link 3).stale = false ∨ (s.link 3).offerOut) ∧ (s.fifo (3 / 16)).length < 64) ∧
    (let s := { linked upLink with ds := { (linked upLink).ds with fifos := [(0, List.replicate 64 ⟨3, 0#32, 0#32, 0, 0, false, 0⟩)] } }
     64 ≤ (s.fifo (3 / 16)).length) := by decide +kernel
/-- An offer follows the presence count, and not before it (R59, R60); a third offer that goes unanswered leaves the link FAILED (R62). -/
theorem test_link_offer : ((after (.linkupStart 3) (linked id)).link 3).offerOut = true ∧
    ((after (.linkupStart 3) { linked id with cc := 127 }).link 3).offerOut = false ∧
    ((after (.linkupTimeout 3) (late (linked fun l => { l with lstate := 1, offerOut := true, offers := 3 }))).link 3).lstate = 6 := by decide +kernel
/-- A credit beyond the number advertised is a protocol error, which raises ERR_LINK_PROTOCOL (R64). -/
theorem test_credit : ((after (.dlIssCredit 3) (linked fun l => { upLink l with creditsNow := 7 })).link 3).creditsNow = 8 ∧
    ((after (.dlIssCredit 3) (linked upLink)).ifm.intake.map (·.code)) = [E.LINK_PROTOCOL.code] := by decide +kernel

theorem wit_LinkCommandsAreCarriedOut : (let s := linked upLink; s.portLive ∧ s.unlatch.rb Reg.DS_LINK_CMD_STATUS_BUSY = false ∧ s.unlatch.isUp 3 ∧ (s.unlatch.link 3).proto = 2 ∧
      3 < s.build.links ∧ (s.unlatch.link 3).present ∧ (s.unlatch.link 3).lstate ≠ 4) ∧
    (let s := linked fun l => { upLink l with lstate := 4 }; s.unlatch.isUp 3 = false ∧ (s.unlatch.link 3).lstate = 4 ∧ (s.unlatch.link 3).proto = 2) ∧
    (live.unlatch.link 511).present = false ∧ 511 < live.build.links := by decide +kernel
/-- PING of an UP link sets BUSY; of one that is DOWN, REFUSED (R142). -/
theorem test_link_command : (after (.linkCmdPing 3) (linked upLink)).rb Reg.DS_LINK_CMD_STATUS_BUSY = true ∧
    (after (.linkCmdPing 3) (linked id)).rb Reg.DS_LINK_CMD_STATUS_REFUSED = true := by decide +kernel

/-- A task of node 9, generation 2, on link 3, issued for launch slot 0. -/
def task : OutTask := ⟨9, 2, none, 2, 0, 0, 0, 1, 0, true, 0, 0, 0, 0, 0, 0, 0⟩
/-- The tag of that task. -/
def taskTag : BitVec 28 := BitVec.ofNat 28 (9 + 2 ^ 20 * 2)
/-- Link 3 is UP and carries the task, and DS_TASK_TIMEOUT of its class is 1 µs. -/
def tasked (f : Link → Link) : State := (linked fun l => f { upLink l with creditsNow := 7, tasks := [task] }).setRf (Reg.DS_TASK_TIMEOUT 0) 1
theorem wit_TasksAndLinksTimeOut : (let s := late (tasked id)
      (s.link 3).task? (bits taskTag.toNat 19 0) (bits taskTag.toNat 27 20) = some task ∧ s.tb.check ∧ task.killSent = 0 ∧ s.holds = false ∧
        s.rf (Reg.DS_TASK_TIMEOUT task.cls) ≠ 0 ∧ s.due task.issueNow (1000 * s.rf (Reg.DS_TASK_TIMEOUT task.cls))) ∧
    (let s := late (tasked fun l => { l with ctrl := some ⟨4, 0, 0, false, 0, []⟩ }); s.hung 3 ∧ s.cmdTimed 3 = false) ∧
    (let s := late (tasked fun l => { l with ctrl := some ⟨4, 0, 0, true, 0, []⟩ }); s.hung 3 ∧ s.cmdTimed 3) ∧
    (let s := late { tasked id with dr := { live.dr with ready := [⟨0, 9, none, 2, 0, 0, some 0, []⟩] } }
     s.dr.ready.find? (fun e => e.node == 9 && e.job.isNone) = some ⟨0, 9, none, 2, 0, 0, some 0, []⟩ ∧ s.tb.check ∧ s.rf (Reg.DS_TASK_TIMEOUT 0) ≠ 0 ∧
       s.due 0 (1000 * s.rf (Reg.DS_TASK_TIMEOUT 0))) := by decide +kernel
/-- The task is sent a KILL (R140). -/
theorem test_task_timeout : (((after (.taskTimeout 3 taskTag) (late (tasked id))).link 3).tasks.map (·.killSent)) = [1] ∧
    ((after (.taskTimeout 3 taskTag) (late (tasked id))).ifm.intake.map (·.code)) = [E.TASK_TIMEOUT.code] := by decide +kernel


/-! ### Completion records, the walker and the deal -/

/-- Node `n` in a state, with its pairs in order, of launch slot 0. -/
def withNode (s : State) (n st dep succ : Nat) : State :=
  s.setRow (nodeRow n) (mkRec 8 [(Nd.STATE, st), (Nd.NGEN, 2), (Nd.DEP_COUNT, dep), (Nd.DEP_COUNT_N, 4095 - dep), (Nd.SUCC_BASE, 100), (Nd.SUCC_BASE_N, 2 ^ 22 - 1 - 100),
    (Nd.SUCC_COUNT, succ), (Nd.SUCC_COUNT_N, 4095 - succ), (Nd.LEVEL, 2)])
/-- Launch slot 0 in a state, with launch number 1 and the nodes 0 to 63. -/
def withSlot (s : State) (st : Nat) : State :=
  s.setRow (slotRow 0) (mkRec 16 [(Sl.STATE, st), (Sl.LAUNCH_ID, 1), (Sl.NODE_COUNT, 64)])
/-- What the block keeps of that launch. -/
def launch : Launch := ⟨0, 1, 1, ⟨0, 0, 2, false⟩, [], false, none, none, false, 0, none, none, 0, 1, 1, none, false, none, true, true, 0, 0, false, 0, false, false, false, false, false, 0, 0⟩
/-- The task of node 9 is out on link 3, its launch in a state, and a record of a KIND has arrived for it with a VALUE. -/
def answered (st kind value : Nat) (f : OutTask → OutTask) : State :=
  let s := withNode (withSlot (tasked fun l => { l with tasks := [f task] }) st) 9 5 0 0
  { s with gs := { s.gs with launches := [launch] },
           ds := { s.ds with fifos := [(0, [⟨3, BitVec.ofNat 32 (9 + 2 ^ 20 * 2 + 2 ^ 28 * kind), BitVec.ofNat 32 (2 ^ 16 * value), 0, 3, false, 0⟩])] } }
/-- The KIND and VALUE of the record that slice 0 takes next, the task that it names, and the STATE of its launch. -/
def taken (s : State) : Option (Nat × Nat × Option OutTask × Nat) :=
  ((s.sliceChecks 0).frontRec 0).map fun r =>
    let p := ((s.sliceChecks 0).setTaken 0).popRec r
    (r.kind, r.value, (p.link r.link).task? r.node r.ngen, (match (p.link r.link).task? r.node r.ngen with
      | some t => ((p.intake r t).chaffRec r t).sl t.slot Sl.STATE
      | none => 0))
theorem wit_TerminalRecordsEndTheirTasks : (answered 3 0 0 id).cyc.taken.contains 0 = false ∧ ((answered 3 0 0 id).sliceChecks 0).dr.bp = false ∧
    (taken (answered 3 0 0 id) == some (0, 0, some task, 3)) ∧ (taken (answered 3 0 7 id) == some (0, 7, some task, 3)) ∧ (taken (answered 3 1 7 id) == some (1, 7, some task, 3)) ∧
    (taken (answered 3 2 7 id) == some (2, 7, some task, 3)) := by decide +kernel
theorem wit_TerminalRecordsEndTheirTasks_killed : (taken (answered 3 3 0 id) == some (3, 0, some task, 3)) ∧
    taken (answered 3 3 0 fun t => { t with killSent := 1 }) = some (3, 0, some { task with killSent := 1 }, 3) ∧
    taken (answered 3 3 0 fun t => { t with killSent := 2 }) = some (3, 0, some { task with killSent := 2 }, 3) := by decide +kernel
theorem wit_TerminalRecordsEndTheirTasks_ended : (taken (answered 5 0 0 id) == some (0, 0, some task, 5)) ∧ (taken (answered 4 0 0 id) == some (0, 0, some task, 4)) ∧
    taken (answered 3 0 0 fun t => { t with job := some 0 }) = some (0, 0, some { task with job := some 0 }, 3) := by decide +kernel
theorem wit_TerminalRecordsEndTheirTasks_unknown : taken (answered 3 0 0 fun t => { t with node := 8 }) = some (0, 0, none, 0) ∧ (taken (answered 3 6 0 id)).map (·.1) = some 6 ∧
    (taken (answered 3 14 0 id)).map (·.1) = some 14 := by decide +kernel
theorem wit_TerminalRecordsEndTheirTasks_waits : (let s := answered 3 0 0 id
      ({ s with dr := { s.dr with bp := true } } : State).cyc.taken.contains 0 = false ∧ (({ s with dr := { s.dr with bp := true } } : State).sliceChecks 0).dr.bp) ∧
    (({ answered 3 0 0 id with cyc := { Cyc.start with taken := [0] } } : State).cyc.taken.contains 0 ∧
      ({ answered 3 0 0 id with cyc := { Cyc.start with taken := [0] } } : State).tick.cyc.taken.contains 0 = false) := by decide +kernel
/-- DONE with VALUE 0 takes the node to WALKING, and returns the completion credit (R113, R114); FAULT takes it to FAULTED. -/
theorem test_completion_done : (after (.completionDone 0) (answered 3 0 0 id)).nd 9 Nd.STATE = 6 ∧ ((after (.completionDone 0) (answered 3 0 0 id)).link 3).tasks = [] := by
  decide +kernel
theorem test_completion_fault : (after (.completionFault 0) (answered 3 2 7 id)).nd 9 Nd.STATE = 8 ∧ (after (.completionFault 0) (answered 3 2 7 id)).sl 0 Sl.STATE = 5 := by
  decide +kernel

/-- Slice 0 finds a record with the words on link 3. -/
def recorded (w0 w1 : Nat) (f : Link → Link) : State :=
  let s := answered 3 0 0 id
  { s with ds := { s.ds with links := s.ds.links.map f, fifos := [(0, [⟨3, BitVec.ofNat 32 w0, BitVec.ofNat 32 w1, 0, 3, false, 0⟩])] } }
theorem wit_OtherRecordsAreTaken : (let s := (recorded (9 + 2 ^ 20 * 2 + 2 ^ 28 * 4) 0 id).setRf Reg.DR_TILLER_POOL 1
      taken s = some (4, 0, some task, 3) ∧ (s.link 3).proto = 2 ∧ task.spawnEn ∧ (s.link 3).spawn ∧ s.poolSize ≠ 0 ∧ s.dr.spawnQ.length < 1024) ∧
    (taken (answered 3 4 0 fun t => { t with spawnEn := false })).map (fun x => (x.1, x.2.2.1.map (·.spawnEn))) = some (4, some false) ∧
    (let s := fun t => recorded (2 ^ 28 * 5) 0 fun l => { l with ctrl := some ⟨t, 0, 0, false, 0, []⟩ }
     (taken (s 4)).map (·.1) = some 5 ∧ (((s 4).link 3).ctrl.map (·.rectype)) = some 4 ∧ (((s 1).link 3).ctrl.map (·.rectype)) = some 1 ∧ (((s 14).link 3).ctrl.map (·.rectype)) = some 14) ∧
    ((taken (recorded (2 ^ 28 * 5) 0 id)).map (·.1) = some 5 ∧ ((recorded (2 ^ 28 * 5) 0 id).link 3).ctrl = none) ∧
    ((taken (recorded (2 ^ 28 * 15) 0 id)).map (·.1) = some 15 ∧ ((recorded (2 ^ 28 * 15) 0 id).link 3).offerOut = false) ∧
    (let w := fun cls cr => 2 ^ 28 * 15 + 2 ^ 20 * cr + 2 ^ 16 * cls + 2 ^ 8 * 1 + 2
     let s := recorded (w 5 8) 0 fun l => { l with lstate := 1, offerOut := true }
     (taken s).map (·.1) = some 15 ∧ (s.link 3).offerOut ∧ pf [BitVec.ofNat 32 (w 7 1)] 0 19 16 = 7 ∧ pf [BitVec.ofNat 32 (w 5 0)] 0 23 20 = 0 ∧
       8 < pf [BitVec.ofNat 32 (w 5 9)] 0 23 20 ∧ pf [BitVec.ofNat 32 (w 5 8)] 0 19 16 ≤ 5 ∧ pf [BitVec.ofNat 32 (w 5 8)] 0 23 20 ≤ 8 ∧
       Nat.max (pf [BitVec.ofNat 32 (w 5 8)] 0 15 8) 1 ≤ Nat.min (pf [BitVec.ofNat 32 (w 5 8)] 0 7 0) 2) := by decide +kernel
/-- The reply to an offer is confirmed with a LINKUP_ACK, and its CTRL_ACK takes the link UP (R61). -/
theorem test_link_up : ((after (.ctrlAck 0) (recorded (2 ^ 28 * 5) 0 fun l => { l with lstate := 1, ctrl := some ⟨14, 0, 0, false, 0, []⟩ })).link 3).lstate = 2 := by decide +kernel

/-- Node 9 is at the head of the walk queue, with `succ` successors from edge 100 on, which is local to node 10. -/
def walking (succ : Nat) (skip : Bool) : State :=
  let s := withNode (withNode (withSlot live 3) 9 6 0 succ) 10 3 1 0
  { s.setRow (edgeRow 100) (mkRec 2 [(Ed.TYPE, 0), (Ed.TARGET, 10), (Ed.AMOUNT, 1)]) with
    gs := { s.gs with launches := [launch] }, dr := { s.dr with walkQ := [⟨9, 0, skip⟩] } }
theorem wit_WalkerRetiresNodes : live.cyc.walked = false ∧ (live.readMarks 0x64 0x64).dr.walkQ = [] ∧
    (let c := (walking 0 false).readMarks 0x64 0x64
     let d := ({ c with cyc := { c.cyc with walked := true } } : State).readNode 9
     c.dr.walkQ = [⟨9, 0, false⟩] ∧ d.dr.walkQ = [⟨9, 0, false⟩] ∧ d.nd 9 Nd.STATE = 6 ∧ d.nodeBad 9 = none ∧ d.routerHeld 9 = false ∧ d.nd 9 Nd.SUCC_COUNT = 0) ∧
    (let c := (walking 1 false).readMarks 0x64 0x64
     let d := ({ c with cyc := { c.cyc with walked := true } } : State).readNode 9
     d.nd 9 Nd.SUCC_COUNT = 1 ∧ d.rm (edgeRow (d.nd 9 Nd.SUCC_BASE)) Ed.TYPE = 0 ∧ d.eccBad (edgeRow (d.nd 9 Nd.SUCC_BASE)) 2 = false) := by decide +kernel
theorem wit_WalkerRetiresNodes_retires : (walking 0 false).nd 9 Nd.STATE = 6 ∧ (walking 0 false).routerHeld 9 = false ∧ (walking 0 false).inPool 9 = false ∧
    (let t := ((walking 0 false).setNd 9 Nd.STATE 7).reportRouter 9; t.nd 9 Nd.SINK = 0) ∧
    (let t := (((walking 0 false).setNd 9 Nd.SINK 1).setNd 9 Nd.STATE 7).reportRouter 9; t.nd 9 Nd.SINK = 1) ∧
    ((walking 0 false).setRf Reg.DR_TILLER_POOL 1).inPool (2 ^ 20 - 4096) := by decide +kernel
/-- The one edge of a node makes its target READY, and the node retires (R115, R116); a node that entered by a skip is SKIPPED (R84). -/
theorem test_walk : (after .walkEdges (walking 1 false)).nd 10 Nd.STATE = 4 ∧ (after .walkEdges (walking 1 false)).nd 9 Nd.STATE = 7 ∧
    (after .walkEdges (walking 0 true)).nd 9 Nd.STATE = 10 := by decide +kernel

/-- Node 10 WAITING on `dep` edges, its launch in a state. -/
def waiting (dep st : Nat) : State := withNode (withSlot live st) 10 3 dep 0
theorem wit_DecrementsReleaseTheirNodes : ((waiting 2 3).readNode 10).nodeBad 10 = none ∧ ((waiting 2 3).readNode 10).nd 10 Nd.STATE = 3 ∧
    1 < ((waiting 2 3).readNode 10).nd 10 Nd.DEP_COUNT ∧ 1 = ((waiting 1 3).readNode 10).nd 10 Nd.DEP_COUNT ∧
    (let r := (waiting 1 3).readNode 10; (((r.setDep 10 0).progress 0).decision).sl 0 Sl.STATE = 3) ∧
    (let r := (waiting 1 2).readNode 10; (((r.setDep 10 0).progress 0).decision).sl 0 Sl.STATE ≠ 3) ∧
    ((waiting 1 3).readNode 10).nd 10 Nd.DEP_COUNT < 2 ∧ ((withNode live 10 4 0 0).readNode 10).nd 10 Nd.STATE ≠ 3 ∧
    ((waiting 1 3).setNd 10 Nd.JOIN 1).nd 10 Nd.JOIN = 1 ∧ (waiting 1 3).nd 10 Nd.JOIN ≠ 1 ∧ (waiting 1 3).marked 10 = false ∧
    ({ (waiting 1 3).setNd 10 Nd.SKIP_OK 1 with era := { live.era with marks := [10] } } : State).marked 10 := by decide +kernel
/-- More than is left kills the launch (R116). -/
theorem test_decrement : ((waiting 2 3).decrement 10 1 1).nd 10 Nd.DEP_COUNT = 1 ∧ ((waiting 2 3).decrement 10 1 1).nd 10 Nd.DEP_COUNT_N = 4094 ∧
    ((waiting 1 3).decrement 10 1 1).nd 10 Nd.STATE = 4 ∧ ((waiting 1 2).decrement 10 1 1).nd 10 Nd.STATE = 2 := by decide +kernel

/-- A remote edge that waits, or has been sent. -/
def remote (seq : Option Nat) : RemoteSend := ⟨0, 1, 0, 0, 0, 2, 5, 1, 0, 0, 0, seq, 0, none, 0⟩
/-- A state with a remote edge and request credits. -/
def sending (e : RemoteSend) (credits : Nat) : State := { live with dr := { live.dr with sendQ := [e] }, fab := { live.fab with up := true, reqCredits := credits } }
/-- Semaphores 0 to 15 belong to partition 0, and number 3 holds `v`. -/
def sems (v : Nat) : State := (live.setRf (Reg.SM_SEM_COUNT 0) 16).setSem 3 v
/-- A semaphore post waits. -/
def posted (sem : Nat) : State := { sems 5 with dr := { live.dr with postQ := [⟨sem, 2, 0, 1, 0, 0⟩] } }
theorem wit_WalkedEdgesTakeEffect : ((sending (remote none) 1).dr.sendQ = [remote none] ∧ (remote none).seq = none ∧ (remote none).resendGc = none ∧
      0 < (sending (remote none) 1).fab.reqCredits ∧ (sending (remote none) 1).fab.reqQ = [] ∧ (sending (remote none) 0).fab.reqCredits = 0) ∧
    (let u : State := { posted 3 with dr := { (posted 3).dr with postQ := [] } }
     (posted 3).smInit = false ∧ u.semFull 3 = false ∧ (u.semOp 3).semOf 3 0 ∧ ((u.semOp 3).semAdd 3 2).2.err = none) ∧
    (let u : State := { posted 16 with dr := { (posted 16).dr with postQ := [] } }; (u.semOp 3).semOf 16 0 = false) ∧
    (let u : State := { (posted 3).setRam (semRow 3 + 1) 0#32 with dr := { (posted 3).dr with postQ := [] } }; (((u.semOp 3).semAdd 3 2).2.err.map (·.code)) = some E.HUSK.code) := by
  decide +kernel
/-- A state with a spawn descriptor of one Tiller, its launch in a state. -/
def spawning (st count : Nat) : State :=
  let s := withSlot live st
  { s with dr := { s.dr with spawnQ := [⟨0, 9, 0, 1, some (mkRec 16 [(Sp.COUNT, count), (Sp.DESC_VER, 1)])⟩] } }
theorem wit_WalkedEdgesTakeEffect_spawn : (spawning 3 0).sl 0 Sl.STEP_TAG = 0 ∧ fld (mkRec 16 [(Sp.COUNT, 0), (Sp.DESC_VER, 1)]) Sp.COUNT ≤ (spawning 3 0).poolFree.length ∧
    (spawning 3 0).spawnRuns ⟨0, 9, 0, 1, none⟩ ∧ (spawning 5 0).spawnRuns ⟨0, 9, 0, 1, none⟩ = false ∧
    (spawning 3 1).poolFree.length < fld (mkRec 16 [(Sp.COUNT, 1), (Sp.DESC_VER, 1)]) Sp.COUNT := by decide +kernel
/-- A post adds its amount (R118). -/
theorem test_sem_post : (after .semPost (posted 3)).semVal 3 = 7 ∧ (after .semPost (posted 3)).dr.postQ = [] := by decide +kernel

/-- Node 9 is READY in the ready list, and link 3 of class 0 is UP with 8 credits in a cluster of partition 0. -/
def dealing (limit : Nat) : State :=
  let s := withNode ((withSlot (linked upLink) 3).setSl 0 Sl.ARG_LIMIT limit) 9 4 0 0
  { s.setRf (Reg.PAU_PCFG_CLUSTERS 0) 1 with gs := { s.gs with launches := [launch] }, dr := { s.dr with ready := [⟨0, 9, none, 2, 0, 0, none, []⟩], readySeq := 1 } }
/-- The candidate of that state. -/
def candidate : ReadyEnt := ⟨0, 9, none, 2, 0, 0, none, []⟩
theorem wit_TasksAreDealt : (dealing 0).ds.dealtCc ≠ (dealing 0).cc + 1 ∧ (dealing 0).dealStopped = false ∧ (dealing 0).dealChecks.dealStopped = false ∧ State.reset.dealStopped ∧
    (let c := (dealing 0).dealChecks
     let d := ({ c with ds := { c.ds with dealtCc := c.cc + 1 } } : State).offerJobs
     d.dr.ready = [candidate] ∧ candidate.level < 8 ∧ candidate.job = none ∧ d.issuedNow < 16) := by decide +kernel
theorem wit_TasksAreDealt_issues :
    let c := (dealing 0).dealChecks
    let d := ({ c with ds := { c.ds with dealtCc := c.cc + 1 } } : State).offerJobs
    let slot := d.nd 9 Nd.LAUNCH_SLOT
    let r := (d.readNode 9).slotRead slot
    r.nd 9 Nd.STATE = 4 ∧ r.nodeBad 9 = none ∧ r.sl slot Sl.ARG_LIMIT = 0 ∧ minBy (r.clusterKey 0) (r.eligible (d.nd 9 Nd.PART) 0) = some 0 ∧
    r.bestLink 0 0 = some 3 ∧ r.dr.ready = [candidate] := by decide +kernel
theorem wit_TasksAreDealt_once : (let s : State := { dealing 0 with ds := { (dealing 0).ds with dealtCc := (dealing 0).cc + 1 } }
      s.ds.dealtCc = s.cc + 1 ∧ s.tick.ds.dealtCc ≠ s.tick.cc + 1) ∧
    (let s := dealing 1
     let r := (s.readNode 9).slotRead (s.nd 9 Nd.LAUNCH_SLOT)
     let far := (s.setNd 9 Nd.ARG_OFFSET 1)
     r.nd 9 Nd.STATE = 4 ∧ r.nodeBad 9 = none ∧ r.sl 0 Sl.ARG_LIMIT ≠ 0 ∧ ((far.readNode 9).slotRead 0).sl 0 Sl.ARG_LIMIT ≤ ((far.readNode 9).slotRead 0).nd 9 Nd.ARG_OFFSET) := by decide +kernel
theorem wit_TasksAreDealt_full : 16 ≤ ({ dealing 0 with ds := { (dealing 0).ds with issued := (List.range 16).map fun k => (k, 1000) } } : State).issuedNow := by decide +kernel
/-- The task is issued on its link, which loses a credit (R125, R128). -/
theorem test_deal : (after .taskIssue (dealing 0)).nd 9 Nd.STATE = 5 ∧ ((after .taskIssue (dealing 0)).link 3).creditsNow = 7 ∧ (after .taskIssue (dealing 0)).dr.ready = [] := by
  decide +kernel


/-! ### Launches and templates -/

/-- `front` with quotas for partition 0, and template 4 loaded with generation 1: one node, which is root and sink. -/
def furnished (s : State) : State :=
  let t := ((((s.setRf (Reg.GS_QUOTA_SLOTS 0) 4).setRf (Reg.GS_QUOTA_NODES 0) 16).setRf (Reg.GS_QUOTA_TMPL 0) 16).setRf Reg.GS_TMPL_REGION_TMPL_NODES 1).setRf
    Reg.GS_TMPL_REGION_TMPL_EDGES 1
  let t := (withNode t 0 1 0 0).setNd 0 Nd.SINK 1
  { t.setRow (dirRow 4) (mkRec 8 [(Dir.STATE, 2), (Dir.GEN, 1), (Dir.NODE_COUNT, 1), (Dir.ROOT_COUNT, 1)]) with
    gs := { t.gs with gens := [⟨4, 1, 0, 0, 1, 0, 0, 0, 1, 0, false, false⟩], tmplNodes := [(0, 64)], tmplEdges := [] } }
/-- A launch of that template, and a LAUNCH_OP. -/
def graphPkt : List Word := packet 2 (mkHandle 1 4) 0 0
def opPkt : List Word := packet 1 0 0 0
/-- The error of the first event of a launch packet that has one. -/
def badEvent (s : State) (pkt : List Word) : Option (Nat × Err) :=
  ((launchWaits pkt).map (·.1) ++ (launchDone pkt).toList.map (·.1)).findSome? (fun h => (s.eventFault h 0).map fun e => (h, e))
/-- A LAUNCH_OP that waits on event 3, which does not exist. -/
def lostPkt : List Word := (packet (1 + 2 ^ 11) 0 0 0).set 5 (BitVec.ofNat 32 (mkHandle 1 3))
theorem wit_LaunchPacketsAreJudged : (furnished (front opPkt)).headPkt 0 0 1 = some opPkt ∧ (furnished (front graphPkt)).headPkt 0 0 2 = some graphPkt ∧
    (furnished (front (packet 3 (mkHandle 1 4) 0 0))).headPkt 0 0 3 = some (packet 3 (mkHandle 1 4) 0 0) ∧
    (furnished (front opPkt)).gs.waiting.any (fun w => !w.step && w.ctx == 0 && w.q == 0) = false ∧ badEvent (furnished (front opPkt)) opPkt = none ∧
    (furnished (front opPkt)).arrivalTest opPkt 0 = none := by decide +kernel
theorem wit_LaunchPacketsAreJudged_refused : (furnished (front graphPkt)).arrivalTest graphPkt 0 = none ∧ ((furnished (front opPkt)).setRf (Reg.GS_QUOTA_SLOTS 0) 0).arrivalTest opPkt 0 = some E.QUOTA ∧
    badEvent (furnished (front lostPkt)) lostPkt = some (mkHandle 1 3, E.EVENT_HANDLE) := by decide +kernel
/-- A launch that waits for acceptance. -/
def arrived (pkt : List Word) : State := let s := furnished (front pkt); { s with gs := { s.gs with waiting := [⟨0, 0, 0, 0, false, 0, pkt⟩] } }
theorem wit_LaunchPacketsAreJudged_accept : (let s := arrived graphPkt
      s.halted = false ∧ s.unitEn U.GS ∧ (s.launchNeeds graphPkt 0).toOption = some (1, 0, some 4) ∧ s.isBound 0 (some 4) = false ∧ s.leaving = false ∧
        s.windowShut 0 = false ∧ s.launchPlace 0 1 0 = some (0, 16384, 65536)) ∧
    ({ arrived graphPkt with thr := { live.thr with needSync := true } } : State).halted ∧ ((arrived graphPkt).setRf Reg.GLB_UNIT_EN 1).unitEn U.GS = false := by decide +kernel
/-- A launch takes slot 0 and the first extent of the instance area (R98). -/
theorem test_launch_accept : (after .launchAccept (arrived graphPkt)).sl 0 Sl.STATE = 1 ∧ (after .launchAccept (arrived graphPkt)).sl 0 Sl.NODE_BASE = 16384 ∧
    (after .launchAccept (arrived graphPkt)).gs.waiting = [] := by decide +kernel

/-- A launch accepted: its copy is at the head of the pipeline. -/
def copying (pkt : List Word) : State := after .launchAccept (arrived pkt)
theorem wit_LaunchesAreCopiedAndReleased : (copying graphPkt).gs.pipe = [.launch 0] ∧ ((copying graphPkt).launch? 0).map (fun l => (l.opNode, l.tmpl, l.gen)) = some (none, 4, 1) ∧
    ((copying graphPkt).gen? 4 1).isSome ∧ ((((copying graphPkt).gen? 4 1).map fun g => ((copying graphPkt).genRead g).genBad g) = some none) ∧
    (copying opPkt).gs.pipe = [.launch 0] ∧ ((copying opPkt).launch? 0).map (·.opNode) = some (some opPkt) := by decide +kernel
theorem wit_LaunchesAreCopiedAndReleased_patch : ({ live with gs := { live.gs with pipe := [.patch 0 0] } } : State).gs.pipe = .patch 0 0 :: [] := rfl
/-- A template node is copied READY-to-be: ARMED, with its generation raised (R99). -/
theorem test_copy : (after .copyFinish (copying graphPkt)).nd 16384 Nd.STATE = 2 ∧ (after .copyFinish (copying opPkt)).nd 16384 Nd.SINK = 1 := by decide +kernel
/-- A live launch with waits. -/
def waits (l : Launch) : State := { withSlot live 1 with gs := { live.gs with launches := [l] } }
theorem wit_LaunchesAreCopiedAndReleased_waits : (let s := waits launch
      let r := s.slotRead 0
      s.launch? 0 = some launch ∧ r.sl 0 Sl.WAITS_CLEAR = 0 ∧ r.sl 0 Sl.STATE = 1 ∧ r.brokenWait launch = none ∧ r.waitsHold launch) ∧
    (let l := { launch with waits := [(mkHandle 1 3, 1)] }
     let r := (waits l).slotRead 0
     (waits l).launch? 0 = some l ∧ r.sl 0 Sl.WAITS_CLEAR = 0 ∧ r.brokenWait l = some (mkHandle 1 3, E.EVENT_HANDLE)) ∧
    ({ withSlot live 4 with gs := { live.gs with launches := [{ launch with replied := true, doneStarted := true }] } } : State).releasable 0 ∧ live.releasable 0 = false := by
  decide +kernel
theorem test_waits_clear : (after (.waitsClear 0) (waits launch)).sl 0 Sl.WAITS_CLEAR = 1 ∧
    (after (.launchRelease 0) ({ withSlot live 4 with gs := { live.gs with launches := [{ launch with replied := true, doneStarted := true }] } })).sl 0 Sl.STATE = 0 := by
  decide +kernel

/-- The image of a template of one node, which is root and sink (R90). -/
def image (format : Nat) : List Word := mkRec 16 [(Img.FORMAT, format), (Img.NODE_COUNT, 1), (Img.ROOT_COUNT, 1)] ++ mkRec 8 [(Nd.SINK, 1)]
/-- A Thresher command on templates, with a job of it under way. -/
def jobbed (pkt : List Word) (patch : Bool) (words : List Word) (ph : TmplPhase) (count : Nat) : State :=
  let s := furnished (thresher pkt)
  { s with gs := { s.gs with jobs := [⟨0, 0, patch, 4, 1, words, 0, 0, count, 0, false, ph⟩] } }
theorem wit_TemplatesAreLoadedPatchedAndFreed : (furnished (thresher (packet 0x20 0 0 0))).slowRun 0 0 0x20 = some (packet 0x20 0 0 0) ∧
    (List.range live.build.tmpls).find? (fun i => (furnished (thresher (packet 0x20 0 0 0))).dir i Dir.STATE == 0) = some 0 := by decide +kernel
theorem wit_TemplatesAreLoadedPatchedAndFreed_check : (let s := jobbed (packet 0x20 0 0 0) false (image 1) .read 0
      (s.tmplJob? 0 0).map (fun j => (j.patch, j.phase)) = some (false, .read) ∧ s.pau.tmplQ.length < 16 ∧
        s.imageCheck 0 (headerOk s.build (image 1)) (imageOf (image 1)) = 0 ∧ ((s.allocTmpl 0 1 0).toOption.map fun x => (x.2.1, x.2.2)) = some (64, 0)) ∧
    (let s := jobbed (packet 0x20 0 0 0) false (image 2) .read 0; s.imageCheck 0 (headerOk s.build (image 2)) (imageOf (image 2)) = 1) ∧
    (((jobbed (packet 0x20 0 0 0) false (image 1) .read 0).setRf (Reg.GS_QUOTA_TMPL 0) 0).allocTmpl 0 1 0).toOption.isNone := by decide +kernel
/-- A good image is committed: its index becomes LOADED with the next generation; a bad FORMAT is ERR_TMPL_INVALID, check 1 (R91, R92). -/
theorem test_template_check : (after (.templateCheckDone 0 0) ((jobbed (packet 0x20 0 0 0) false (image 1) .read 0).setRm (dirRow 4) Dir.STATE 1)).dir 4 Dir.STATE = 2 ∧
    ((after (.templateCheckDone 0 0) (jobbed (packet 0x20 0 0 0) false (image 2) .read 0)).ifm.intake.map (·.code)) = [E.TMPL_INVALID.code] := by decide +kernel
/-- A PATCH_TEMPLATE of one record, whose node index is good or not. -/
def patchPkt : List Word := packet 0x21 (mkHandle 1 4) 0 0
def patchWords (idx : Nat) : List Word := [(BitVec.ofNat 32 (2 ^ 2 * idx + 2 ^ 22 * 5)), 0xFF#32, 7#32, 0#32]
theorem wit_TemplatesAreLoadedPatchedAndFreed_patch : (let s := furnished (thresher patchPkt)
      s.slowRun 0 0 0x21 = some patchPkt ∧ ((s.dirRead 4).tmplUse (mkHandle 1 4) 0).toOption = some 4 ∧ ((s.dirRead 4).tmplUse (mkHandle 2 4) 0).toOption = none) ∧
    (let s := { jobbed patchPkt true (patchWords 0) .read 0 with fe := { (thresher patchPkt).fe with slow := [⟨0, 0, patchPkt, .waiting, 0⟩] } }
     s.slowRun 0 0 0x21 = none ∧ (s.tmplJob? 0 0).map (fun j => (j.patch, j.phase)) = some (true, .read) ∧ (s.tmplUse (pf (s.slowPkt 0 0) 1 31 0) 0).toOption = some 4 ∧
       (s.gen? 4 1).isSome ∧ (List.range ((patchWords 0).length / 4)).find? (fun k => !patchRecOk (patchRec (patchWords 0) k) 1 0) = none ∧ s.retireUsed < 16 ∧
       ((s.allocTmpl 0 1 0).toOption.map fun x => decide ((x.1.setRm (dirRow 4) Dir.STATE 3).gs.pipe.length < 64)) = some true) ∧
    (List.range ((patchWords 1).length / 4)).find? (fun k => !patchRecOk (patchRec (patchWords 1) k) 1 0) = some 0 := by decide +kernel
theorem wit_TemplatesAreLoadedPatchedAndFreed_commit : (let s := jobbed patchPkt true [] .copied 1
      (s.tmplJob? 0 0).map (fun j => (j.patch, j.phase)) = some (true, .copied) ∧ s.pau.tmplQ.length < 16 ∧ ((s.gen? 4 1).map (·.damaged)) = some false ∧
        s.imageCheck 0 true (s.genImage 0 1 0 0 1 0) = 0) ∧
    (let s := (jobbed patchPkt true [] .copied 1).setNd 0 Nd.SINK 0; s.imageCheck 0 true (s.genImage 0 1 0 0 1 0) ≠ 0) := by decide +kernel
theorem wit_TemplatesAreLoadedPatchedAndFreed_free : (let s := furnished (thresher (packet 0x22 (mkHandle 1 4) 0 0))
      s.slowRun 0 0 0x22 = some (packet 0x22 (mkHandle 1 4) 0 0) ∧ (s.tmplOf (mkHandle 1 4) 0).toOption = some 4 ∧ s.retireUsed < 16 ∧
        (s.tmplOf (mkHandle 0 4) 0).toOption = none) := by decide +kernel
/-- FREE_TEMPLATE leaves the index FREE with its GEN (R97). -/
theorem test_free_template : (after (.freeTemplate 0 0) (furnished (thresher (packet 0x22 (mkHandle 1 4) 0 0)))).dir 4 Dir.STATE = 0 ∧
    (after (.freeTemplate 0 0) (furnished (thresher (packet 0x22 (mkHandle 1 4) 0 0)))).dir 4 Dir.GEN = 1 := by decide +kernel

/-! ### Events, semaphores, fences and queries -/

/-- An event of partition 0, index 3, generation 1, with a value. -/
def event (v : Nat) : Event := ⟨3, true, 1, 0, true, BitVec.ofNat 64 v, ~~~(BitVec.ofNat 64 v)⟩
/-- A state with that event. -/
def withEvent (s : State) (v : Nat) : State := { s with fe := { s.fe with events := [event v] } }
/-- The state with queue 0 changed. -/
def withQueue (s : State) (f : Queue → Queue) : State := { s with fe := { s.fe with queues := s.fe.queues.map f } }
/-- A RECORD_EVENT that adds `v`; a SEM_OP of a form on semaphore 3 with an operand. -/
def recordPkt (v : Nat) : List Word := packet 4 (mkHandle 1 3) 0 v
def semPkt (op n : Nat) : List Word := packet 6 (3 + 2 ^ 16 * op) n 0
theorem wit_CommandsTakeEffectAndChangeEvents : (let s := withEvent (front (recordPkt 2)) 5
      s.queue? 0 0 = some (queue .active) ∧ s.headPkt 0 0 4 = some (recordPkt 2) ∧ s.eventFault (mkHandle 1 3) 0 = none ∧ (queue .active).qseq ≤ (queue .active).completed ∧
        s.cyc.evStep < 2) ∧
    (let x := fun n : Nat => { queue .active with qseq := 1, pend := List.replicate n ⟨1, recordPkt 2⟩ }
     (x 15).completed < (x 15).qseq ∧ (x 15).pend.length < 16 ∧ 16 ≤ (x 16).pend.length) ∧
    (let s := front (semPkt 0 1)
     let t := { s with regs := (sems 5).regs, sram := (sems 5).sram }
     t.semPkt 0 0 0 = some (semPkt 0 1) ∧ t.semCheck 0 (semPkt 0 1) false = none ∧ t.smReady ∧ t.semFull 5 = false ∧ t.cyc.semStep ≠ 5) := by decide +kernel
theorem wit_CommandsTakeEffectAndChangeEvents_rest : (let s := front (semPkt 1 1)
      let t := { s with regs := (sems 5).regs, sram := (sems 5).sram }
      t.semPkt 0 0 1 = some (semPkt 1 1) ∧ t.semCheck 0 (semPkt 1 1) false = none) ∧
    (let s := (front (semPkt 0 1)).setRf Reg.GLB_UNIT_STATUS_READY 1; s.semPkt 0 0 0 = some (semPkt 0 1) ∧ s.semCheck 0 (semPkt 0 1) false = some E.SEM_HANDLE ∧ s.smReady = false) ∧
    (let x := { queue .active with qseq := 2, pend := [⟨1, recordPkt 2⟩] }; x.pend = [⟨1, recordPkt 2⟩] ∧ 1 ≤ x.completed + 1 ∧ pf (recordPkt 2) 0 7 0 = 4 ∧
      pf (semPkt 0 1) 0 7 0 ≠ 4) ∧
    (let x := { queue .active with qseq := 2, pend := [⟨2, recordPkt 2⟩] }; x.completed + 1 < 2) ∧
    (live.unitEn U.CFE = true ∧ (live.setRf Reg.GLB_UNIT_EN 0).unitEn U.CFE = false) := by decide +kernel
/-- A disabled CFE keeps its pending lists (R484): the record that could take effect waits. -/
theorem test_pending_kept : (let s := withQueue (withEvent (served .active) 5) fun x => { x with qseq := 2, pend := [⟨1, recordPkt 2⟩] }
    let off := after (.pendingTakeEffect 0 0) (s.setRf Reg.GLB_UNIT_EN 0)
    ((after (.pendingTakeEffect 0 0) s).event? 3).map (·.val) = some 7#64 ∧ (off.event? 3).map (·.val) = some 5#64) := by decide +kernel
/-- A consumer that ends unsatisfied no longer blocks the one behind it (R249). -/
theorem test_consumer_gone : (let s := ((sems 5).addWait 3 100 true (.queue 0 0)).addWait 3 5 true (.queue 0 1)
    s.evalSems.semVal 3 = 5 ∧ (s.evalSems.endWait (.queue 0 0)).evalSems.semVal 3 = 0) := by decide +kernel
/-- RECORD_EVENT adds to the value and completes (R172); near the top it saturates. -/
theorem test_record_event : ((after (.recordEvent 0 0) (withEvent (front (recordPkt 2)) 5)).event? 3).map (fun e => (e.val, e.valN)) = some (7#64, ~~~7#64) ∧
    ((after (.recordEvent 0 0) (withEvent (front (recordPkt 2)) (2 ^ 64 - 1))).event? 3).map (·.val) = some (~~~0#64) ∧
    ((after (.recordEvent 0 0) (withEvent (front (recordPkt 2)) (2 ^ 64 - 1))).ifm.intake.map (·.code)) = [E.EVENT_SATURATE.code] := by decide +kernel
theorem wit_CommandsTakeEffectAndChangeEvents_event : (let s := withEvent (front (recordPkt 2)) 5
      (s.eventOf (mkHandle 1 3) 0).toOption = some (event 5) ∧ (s.checkEvent (event 5)).2 = none ∧ (recordValue 5 false 2).2 = false ∧
        (recordValue (2 ^ 64 - 1) false 1).2 = true ∧ 5 + (2 ^ 64 - 6) < 2 ^ 64 ∧ 2 ^ 64 ≤ 5 + (2 ^ 64 - 5)) := by decide +kernel

/-- A WAIT_EVENT for `n`. -/
def waitPkt (n : Nat) : List Word := packet 5 (mkHandle 1 3) n 0
theorem wit_WaitsBlockUntilGranted : (let s := withEvent (front (waitPkt 5)) 5
      s.headPkt 0 0 5 = some (waitPkt 5) ∧ s.eventFault (mkHandle 1 3) 0 = none ∧ s.event? 3 = some (event 5) ∧ wide (waitPkt 5) 2 ≤ (event 5).val.toNat) ∧
    (let s := (withEvent (front (waitPkt 6)) 5).setRf Reg.CFE_CTRL_CYCLE_DETECT 0
     (event 5).val.toNat < wide (waitPkt 6) 2 ∧ s.rb Reg.CFE_CTRL_CYCLE_DETECT = false ∧
       (s.blockHead 0 0 (some (.event (mkHandle 1 3) 6))).rb Reg.CFE_CTRL_CYCLE_DETECT = false) ∧
    (let s := (withEvent (front (waitPkt 6)) 5).setRf Reg.CFE_CTRL_CYCLE_DETECT 1
     (queue .active).state ≠ .blocked ∧ (s.blockHead 0 0 (some (.event (mkHandle 1 3) 6))).rb Reg.CFE_CTRL_CYCLE_DETECT) := by decide +kernel
/-- A SEM_OP at the head, with semaphore 3 at 5. -/
def semFront (op n : Nat) : State := { front (semPkt op n) with regs := (sems 5).regs, sram := (sems 5).sram }
/-- The same with its wait begun, granted or not. -/
def semHeld (op n : Nat) (g : Option Nat) : State := let s := semFront op n; { s with sm := { s.sm with waits := [⟨3, n, op == 3, .queue 0 0, g⟩] } }
theorem wit_WaitsBlockUntilGranted_sem : (let s := semFront 2 0
      s.semPkt 0 0 2 = some (semPkt 2 0) ∧ s.semWaitOf 0 0 = none ∧ s.semCheck 0 (semPkt 2 0) true = none ∧ s.smReady ∧ (s.checkSem 3).2 = none ∧ (s.checkSem 3).1.portOf 3 = none ∧
        pf (semPkt 2 0) 2 31 0 = 0) ∧
    (let s := semFront 2 6; pf (semPkt 2 6) 2 31 0 ≠ 0 ∧ (((s.checkSem 3).1.addWait 3 6 false (.queue 0 0)).semWaitOf 0 0).map (·.granted) = some none) ∧
    ((semHeld 2 5 (some 5)).semWaitOf 0 0).map (·.granted) = some (some 5) ∧ (semHeld 3 5 (some 0)).semPkt 0 0 3 = some (semPkt 3 5) ∧
    ((semHeld 3 5 (some 0)).semWaitOf 0 0).map (·.granted) = some (some 0) ∧ ((semHeld 2 6 none).semWaitOf 0 0).map (·.granted) = some none ∧
    ((semHeld 3 6 none).semWaitOf 0 0).map (·.granted) = some none := by decide +kernel
/-- A granted wait is consumed and completes; one that is not blocks its head (R246, R249). -/
theorem test_sem_wait : ((after (.semOpWaitGe 0 0) (semHeld 2 5 (some 5))).queue? 0 0).map (fun x => (x.qseq, x.completed)) = some (1, 1) ∧
    ((after (.semOpWaitGe 0 0) (semHeld 2 6 none)).queue? 0 0).map (·.state) = some .blocked := by decide +kernel

/-- SIGNAL_REMOTE of a device; FENCE of a SCOPE; QUERY of a KIND and an operand. -/
def signalPkt (dev : Nat) : List Word := packet 0x10 dev (mkHandle 1 3) 0
def fencePkt (sc : Nat) : List Word := packet 0x11 sc 0 0
def queryPkt (kind arg : Nat) : List Word := packet 0x12 kind arg 0
theorem wit_SignalsFencesAndQueries : (thresher (signalPkt 5)).slowRun 0 0 0x10 = some (signalPkt 5) ∧ pf (signalPkt 5) 1 11 0 ≠ (thresher (signalPkt 5)).self ∧
    pf (signalPkt 0) 1 11 0 = (thresher (signalPkt 0)).self ∧
    (((thresher (signalPkt 5)).startSignal (.cmd 0 0 1 (Rep.ofPkt (signalPkt 5))) 5 (mkHandle 1 3) false 0 0).2.isSome) ∧
    (thresher (fencePkt 0)).slowHeld 0 0 0x11 = some (fencePkt 0) ∧ pf (fencePkt 0) 1 1 0 = 0 ∧ (thresher (fencePkt 2)).writesOut 0 0 = false ∧
    (thresher (fencePkt 2)).remoteOut 0 0 = false ∧ ({ thresher (fencePkt 2) with dr := { live.dr with sendQ := [remote none] } } : State).remoteOut 0 0 := by decide +kernel
theorem wit_SignalsFencesAndQueries_up : (let s : State := { (thresher (signalPkt 5)).setRf Reg.DR_DOMAIN_STATUS_MEMBER 1 with fab := { live.fab with up := true, present := true } }
    ((s.setRow (ramKey 0x1C 0) [0x20#32]).startSignal (.cmd 0 0 1 (Rep.ofPkt (signalPkt 5))) 5 (mkHandle 1 3) false 0 0).2 = none) := by decide +kernel
theorem wit_SignalsFencesAndQueries_query : (let s := furnished (thresher (queryPkt 0 4))
      s.queryPkt 0 0 0 = some (queryPkt 0 4) ∧ 4 < s.build.tmpls ∧ 2 ≤ s.dir 4 Dir.STATE ∧ s.dir 4 Dir.PART = (s.ctx 0).part) ∧
    (let s := withEvent (thresher (queryPkt 1 (mkHandle 1 3))) 5
     s.queryPkt 0 0 1 = some (queryPkt 1 (mkHandle 1 3)) ∧ s.event? (hIdx (mkHandle 1 3)) = some (event 5) ∧ (event 5).gen = hGen (mkHandle 1 3) ∧ (event 5).part = (s.ctx 0).part ∧
       (s.checkEvent (event 5)).2 = none) ∧
    ((thresher (queryPkt 2 1)).queryPkt 0 0 2 = some (queryPkt 2 1) ∧ (thresher (queryPkt 2 1)).gs.launches = [] ∧
      (({ withSlot (thresher (queryPkt 2 1)) 3 with gs := { live.gs with launches := [launch] } } : State).gs.launches.find? (fun l => l.launchId == 1)) = some launch) := by decide +kernel
theorem wit_SignalsFencesAndQueries_query_rest : ((thresher (queryPkt 3 0)).queryPkt 0 0 3 = some (queryPkt 3 0) ∧ (thresher (queryPkt 3 0)).queue? 0 0 = some (queue .blocked)) ∧
    (let s := { thresher (queryPkt 4 3) with regs := (sems 5).regs, sram := (sems 5).sram }
     s.queryPkt 0 0 4 = some (queryPkt 4 3) ∧ s.semOf 3 0 ∧ s.smReady ∧ (s.checkSem 3).2 = none ∧ (s.setRf Reg.GLB_UNIT_STATUS_READY 1).smReady = false ∧
       (s.setRf Reg.GLB_UNIT_STATUS_READY 1).semOf 3 0) := by decide +kernel
/-- An index without a live launch reads 0xF (R169). -/
theorem test_query : ((after (.queryLaunch 0 0) (thresher (queryPkt 2 1))).queue? 0 0).map (·.completed) = some 1 ∧
    ((after (.fence 0 0) (thresher (fencePkt 0))).queue? 0 0).map (·.completed) = some 1 := by decide +kernel

theorem wit_EventsAreCreatedAndDestroyed : (let s := (thresher (packet 0x13 0 9 0)).setRf (Reg.CFE_EVENT_QUOTA 0) 1
      s.slowRun 0 0 0x13 = some (packet 0x13 0 9 0) ∧ (List.range 16384).find? (fun i => !s.fe.events.any fun e => e.idx == i && e.live) = some 0 ∧
        (s.fe.events.filter fun e => e.live && e.part == (s.ctx 0).part).length < s.rf (Reg.CFE_EVENT_QUOTA 0) ∧ s.fe.events.find? (fun e => e.idx == 0) = none) ∧
    (let s := withEvent ((thresher (packet 0x13 0 9 0)).setRf (Reg.CFE_EVENT_QUOTA 0) 1) 5
     s.rf (Reg.CFE_EVENT_QUOTA 0) ≤ (s.fe.events.filter fun e => e.live && e.part == (s.ctx 0).part).length) ∧
    (let s := withEvent (thresher (packet 0x14 (mkHandle 1 3) 0 0)) 5
     s.slowRun 0 0 0x14 = some (packet 0x14 (mkHandle 1 3) 0 0) ∧ (s.eventOf (mkHandle 1 3) 0).toOption = some (event 5) ∧ s.eventBusy 0 0 (mkHandle 1 3) = false ∧
       s.eventBad (event 5) = none ∧
       ({ withSlot s 1 with gs := { live.gs with launches := [{ launch with waits := [(mkHandle 1 3, 1)] }] } } : State).eventBusy 0 0 (mkHandle 1 3)) := by decide +kernel
/-- EVENT_CREATE gives the lowest FREE index (R171). -/
theorem test_event_create : ((after (.eventCreate 0 0) ((thresher (packet 0x13 0 9 0)).setRf (Reg.CFE_EVENT_QUOTA 0) 1)).event? 0).map (fun e => (e.gen, e.val)) = some (1, 9#64) ∧
    ((after (.eventDestroy 0 0) (withEvent (thresher (packet 0x14 (mkHandle 1 3) 0 0)) 5)).event? 3) = none := by decide +kernel


/-! ### Contexts, queues and the front end -/

/-- `served` with CFE_CTX_HANDLE naming context 0. -/
def handled (st : QState) : State := (served st).setRf Reg.CFE_CTX_HANDLE (mkHandle 1 0)
theorem wit_ContextCommandsAreCarriedOut : (let s := handled .faulted
      s.portLive ∧ s.unlatch.ctxRunning = false ∧ s.unlatch.unitEn U.CFE ∧ s.unlatch.ctxOf = some context ∧ s.unlatch.queue? 0 0 = some (queue .faulted) ∧
        (queue .faulted).state = .faulted) ∧
    (State.reset.setReg Reg.GLB_FW_VERSION_A 1#32).unlatch.unitEn U.CFE = false ∧ live.unlatch.ctxOf = none ∧ (queue .empty).state ≠ .faulted := by decide +kernel
/-- A context that is being destroyed, with the command that waits for it or without. -/
def dying (cmd : Nat) : State :=
  let s := served .disabled
  let s := { s with fe := { s.fe with ctxs := [{ context with cstate := 2 }], ctxCmd := cmd, ctxTarget := 0 } }
  if cmd = 0 then s else s.setRf Reg.CFE_CTX_STATUS_BUSY 1
theorem wit_ContextCommandsAreCarriedOut_free : ((dying 0).ctx 0).cstate = 2 ∧ ((dying 0).fe.queues.filter fun x => x.ctx == 0).all (fun x => decide (x.completed = x.qseq)) ∧
    (dying 0).ctxRunning = false ∧ ((dying 2).ctxRunning ∧ (dying 2).fe.ctxCmd ≠ 0 ∧ (dying 2).fe.ctxTarget = 0) ∧ (live.ctx 0).cstate ≠ 2 := by decide +kernel
/-- A context whose commands have completed becomes FREE, and the destroy is DONE (R153). -/
theorem test_context_free : ((after (.contextFree 0) (dying 2)).ctx 0).cstate = 0 ∧ (after (.contextFree 0) (dying 2)).rb Reg.CFE_CTX_STATUS_DONE = true ∧
    (after (.contextFree 0) (dying 2)).ctxRunning = false := by decide +kernel
/-- QUEUE_RESET empties a FAULTED queue (R178). -/
theorem test_queue_reset : ((after (.queueReset 0) ((handled .faulted).setRf Reg.CFE_CTX_ARG 9)).queue? 0 0).map (fun x => (x.state, x.read, x.write)) = some (.empty, 9, 9) := by
  decide +kernel

/-- A head that has consumed 256 packets while a queue of the same class is PENDING. -/
def rotating (n : Nat) : State :=
  let s := served .active
  { s with fe := { s.fe with queues := [queue .active, { queue .pending with ctx := 1 }], heads := [⟨0, 0, 0, n, [], 0, none⟩], pendNext := 1 } }
/-- All heads are taken, the one of queue 0 by a wait. -/
def crowded : State :=
  let s := late (served .blocked)
  let hs : List Head := [⟨0, 0, 0, 1, [], 0, some ⟨waitPkt 6, true, 0, some (.event (mkHandle 1 3) 6)⟩⟩]
  { s with build := { s.build with ctxLog2 := 2 }, fe := { s.fe with queues := [queue .blocked, { queue .pending with ctx := 1 }], heads := hs } }
theorem wit_QueueHeadsAreFed : (let s := rotating 1
      s.halted = false ∧ s.unitEn U.CFE ∧ s.rotateHeads.nextPending = some { queue .pending with ctx := 1 } ∧ s.rotateHeads.fe.heads.length < s.rotateHeads.build.heads) ∧
    (let r := crowded.rotateHeads; r.nextPending.isSome ∧ r.build.heads ≤ r.fe.heads.length ∧ r.evictable.isSome) ∧ (live.rotateHeads).nextPending = none ∧
    (let s := rotating 256; s.fe.heads = [⟨0, 0, 0, 256, [], 0, none⟩] ∧ 256 ≤ 256 ∧ (s.queue? 0 0).any (·.state == .active) ∧
      s.fe.queues.any (fun y => y.state == .pending && decide (y.q ≤ 0))) := by decide +kernel
/-- The head of queue 0 has fetched a packet. -/
def fetched (pkt : List Word) : State :=
  let s := served .active
  { s with fe := { s.fe with heads := [⟨0, 0, 0, 1, [(0, pkt)], 0, none⟩] } }
theorem wit_QueueHeadsAreFed_decode : (let s := fetched (recordPkt 2)
      s.feeding ∧ s.queue? 0 0 = some (queue .active) ∧ (queue .active).state = .active ∧ (s.head? 0 0).map (·.cur) = some none ∧
        ((s.head? 0 0).map fun h => h.fetched.find? (fun e => e.1 == (queue .active).read)) = some (some (0, recordPkt 2))) ∧
    (fetched (recordPkt 2)).packetFault (recordPkt 2) = none ∧ slowOp (pf (recordPkt 2) 0 7 0) = false ∧
    (fetched (packet 0xFF 0 0 0)).packetFault (packet 0xFF 0 0 0) = some E.BAD_OPCODE ∧ (fetched (fencePkt 0)).packetFault (fencePkt 0) = none ∧
    slowOp (pf (fencePkt 0) 0 7 0) := by decide +kernel
/-- A command of the slow queue that has not started. -/
def queued (pkt : List Word) : State := let s := thresher pkt; { s with fe := { s.fe with slow := [⟨0, 0, pkt, .queued, 0⟩] } }
theorem wit_QueueHeadsAreFed_slow : (let s := queued (queryPkt 2 1)
      s.unitEn U.THR ∧ s.halted = false ∧ s.ifm.thrHold = false ∧ s.fe.slow.any (fun e => e.phase == .running) = false ∧
        (s.fe.slow.find? fun e => e.phase == .queued && s.mayStart e).isSome) ∧
    (let s := withQueue (late (served .empty)) fun x => { x with dirty := true }; (s.queue? 0 0).map (·.dirty) = some true ∧ 1000 + 0 ≤ s.now) ∧
    (served .empty).now < 1000 + (queue .empty).shadowGc := by decide +kernel
/-- A head is granted; a head past 256 packets gives way (R160); the Thresher starts its command (R516). -/
theorem test_heads : (after .headGrant (rotating 1)).fe.heads.map (fun h => (h.ctx, h.q)) = [(0, 0), (1, 0)] ∧
    (after .headGrant (rotating 256)).fe.heads.map (fun h => (h.ctx, h.q)) = [(1, 0)] ∧
    (after .thresherCommandStart (queued (queryPkt 2 1))).fe.slow.map (·.phase) = [.running] := by decide +kernel
/-- A bad opcode is refused with ERR_BAD_OPCODE; a Thresher packet blocks its head and joins the slow queue (R162, R170). -/
theorem test_decode : ((after (.packetDecode 0 0) (fetched (packet 0xFF 0 0 0))).ifm.intake.map (·.code)) = [E.BAD_OPCODE.code] ∧
    (after (.packetDecode 0 0) (fetched (fencePkt 0))).fe.slow.map (·.phase) = [.queued] := by decide +kernel

/-- A walk for a wait cycle, of a head that waits on event 3 for its own record, or of one that has gone on. -/
def cycling (n : Nat) : State :=
  let s := withEvent (front (waitPkt 6)) 5
  let hs : List Head := [⟨0, 0, 0, 1, [(1, recordPkt 1)], 0, some ⟨waitPkt 6, true, 0, some (.event (mkHandle 1 3) 6)⟩⟩]
  { s with fe := { s.fe with walks := [(0, 0, n)], heads := hs, queues := [{ queue .blocked with write := 2 }] } }
theorem wit_FrontEndTimeoutsAndCycles : (cycling 9).headQseq 0 0 ≠ 9 ∧ (cycling 1).headQseq 0 0 = 1 ∧
    ({ cycling 1 with fe := { (cycling 1).fe with walks := [] } } : State).chain (0, 0) 256 (0, 0) [(0, 0)] = some [(0, 0)] ∧
    ((withEvent (front (waitPkt 6)) 5).chain (0, 0) 256 (0, 0) [(0, 0)]) = none := by decide +kernel
theorem wit_FrontEndTimeoutsAndCycles_timeouts : (let s := late (thresher (fencePkt 2))
      s.queue? 0 0 = some (queue .blocked) ∧ (s.blockedPkt 0 0).map (·.since) = some 0 ∧ s.tb.check ∧ (queue .blocked).headTimeout ≠ 0 ∧ s.due 0 (1000 * 1)) ∧
    (let s := late (withSlot (served .empty) 1)
     let l := { launch with waits := [(mkHandle 1 3, 6)], step := false }
     let t := withEvent { s with gs := { s.gs with launches := [l] } } 5
     t.launch? 0 = some l ∧ (t.queue? (t.sl 0 Sl.CONTEXT) (t.sl 0 Sl.QUEUE)).map (·.waitTimeout) = some 1 ∧ t.sl 0 Sl.WAITS_CLEAR = 0 ∧ t.sl 0 Sl.STATE = 1 ∧ t.waitsUnmet l ∧
       t.due l.acceptGc (100000 * 1)) ∧
    (let g : Signal := ⟨4, 5, mkHandle 1 3, false, 1, 0, .cmd 0 0 1 ⟨0, 0, 0, false⟩, 0⟩
     let s := { served .empty with fe := { (served .empty).fe with signals := [g] } }
     s.fe.signals.find? (fun g => g.seq == (4#32).toNat) = some g ∧ (late s).due 0 (1000 * max 1 ((late s).rf Reg.CFE_SIG_TIMEOUT)) ∧
       s.due 0 (1000 * max 1 (s.rf Reg.CFE_SIG_TIMEOUT)) = false) := by decide +kernel
/-- The queue faults (R177). -/
theorem test_head_timeout : ((after (.headTimeout 0 0) (late (thresher (fencePkt 2)))).queue? 0 0).map (fun x => (x.state, x.fault)) = some (.faulted, E.QUEUE_TIMEOUT.code) := by
  decide +kernel

/-! ### Sequences and step streams -/

/-- A SEQ_ADMIT of a prompt of 8 tokens, MAX_LEN 16, from position `pos`. -/
def admitPkt (pos : Nat) : List Word := (mkRec 16 [(Adm.PROMPT_LEN, 8), (Adm.POS, pos), (Adm.MAX_LEN, 16), (Adm.KV_BLOCKS, 1)]).set 0 0x30#32
theorem wit_SequencesAreAdmittedAndUpdated : (let s := (thresher (admitPkt 0)).setRf (Reg.ST_SEQ_QUOTA 0) 1
      s.slowRun 0 0 0x30 = some (admitPkt 0) ∧ s.synthBusy (s.ctx 0).part = false ∧
        (fld (admitPkt 0) Adm.POS < fld (admitPkt 0) Adm.PROMPT_LEN ∧ fld (admitPkt 0) Adm.PROMPT_LEN < fld (admitPkt 0) Adm.MAX_LEN ∧
          ceilDiv (fld (admitPkt 0) Adm.POS) (2 ^ s.sh (Reg.ST_PLAN_BLOCK_LOG2 0)) ≤ fld (admitPkt 0) Adm.KV_BLOCKS) ∧
        s.inEpisode E.TAG_WINDOW.code (windowKey 2 0) = false ∧ s.rf (Reg.ST_SEQ_USE 0) < s.rf (Reg.ST_SEQ_QUOTA 0) ∧
        (List.range s.build.seqs).find? (fun i => s.sq i Sq.STATE == 0) = some 0) := by decide +kernel
theorem wit_SequencesAreAdmittedAndUpdated_errors : ¬ (fld (admitPkt 8) Adm.POS < fld (admitPkt 8) Adm.PROMPT_LEN) ∧
    (let s := (thresher (admitPkt 0)).setRf (Reg.ST_SEQ_QUOTA 0) 0; s.rf (Reg.ST_SEQ_QUOTA 0) ≤ s.rf (Reg.ST_SEQ_USE 0)) := by decide +kernel
/-- The admitted sequence is PREFILL with its POS pair (R186, R189). -/
theorem test_seq_admit : (let t := after (.seqAdmit 0 0) ((thresher (admitPkt 3)).setRf (Reg.ST_SEQ_QUOTA 0) 1)
    t.sq 0 Sq.STATE = 1 ∧ t.sq 0 Sq.POS = 3 ∧ t.sq 0 Sq.POS_N = 2 ^ 24 - 4 ∧ t.rf (Reg.ST_SEQ_USE 0) = 1) := by decide +kernel
/-- Sequence 2 of partition 0, generation 1, in a state, at position 9. -/
def withSeq (s : State) (st : Nat) : State :=
  (s.setRow (seqRow 2) (mkRec 16 [(Sq.STATE, st), (Sq.GEN, 1), (Sq.PROMPT_LEN, 8), (Sq.MAX_LEN, 16), (Sq.POS, 9), (Sq.POS_N, 2 ^ 24 - 10)]))
/-- A SEQ_UPDATE of that sequence. -/
def updatePkt (op v : Nat) : List Word := packet 0x31 (mkHandle 1 2) op v
theorem wit_SequencesAreAdmittedAndUpdated_update : (let s := withSeq (thresher (updatePkt 0 4)) 2
      s.slowRun 0 0 0x31 = some (updatePkt 0 4) ∧ s.synthBusy (s.ctx 0).part = false ∧ s.seqOf (mkHandle 1 2) (s.ctx 0).part = some 2 ∧ (s.checkSeq 2).sq 2 Sq.STATE ≠ 3 ∧
        s.seqOf (mkHandle 2 2) (s.ctx 0).part = none) ∧
    (List.range 5).map (fun op => pf (updatePkt op 0) 2 2 0) = [0, 1, 2, 3, 4] ∧
    (let t := (withSeq (thresher (updatePkt 3 10)) 2).checkSeq 2; (t.setSq 2 Sq.MAX_LEN 10).projected 2 < 10 ∧ 9 ≤ (t.setSq 2 Sq.MAX_LEN 9).projected 2) ∧
    ((withSeq (thresher (updatePkt 1 0)) 3).checkSeq 2).sq 2 Sq.STATE = 3 := by decide +kernel
/-- SET_MAX_LEN at the projected position ends the sequence (R190). -/
theorem test_set_max_len : (after (.setMaxLen 0 0) (withSeq (thresher (updatePkt 3 10)) 2)).sq 2 Sq.STATE = 2 ∧
    (after (.setMaxLen 0 0) (withSeq (thresher (updatePkt 3 9)) 2)).sq 2 Sq.STATE = 3 ∧ (after (.setUser 0 0) (withSeq (thresher (updatePkt 4 77)) 2)).sq 2 Sq.USER = 77 := by
  decide +kernel

/-- A SEQ_CANCEL of a MODE. -/
def cancelPkt (mode : Nat) : List Word := packet 0x32 (mkHandle 1 2) mode 0
/-- A sweep of a MODE that waits for nothing. -/
def sweeping (mode : Nat) (seqs : List Nat) (out : Nat) : State :=
  let s := withSeq (thresher (cancelPkt mode)) 3
  { s with st := { s.st with winnow := some ⟨0, 0, mode, 0, seqs, 0, [], out⟩ } }
theorem wit_SweepsStartAndEnd : (withSeq (thresher (cancelPkt 0)) 2).cancelPkt 0 0 0 = some (cancelPkt 0) ∧ (withSeq (thresher (cancelPkt 0)) 2).seqOf (pf (cancelPkt 0) 1 31 0) 0 = some 2 ∧
    ((withSeq (thresher (cancelPkt 0)) 2).checkSeq 2).sq 2 Sq.STATE ≠ 3 ∧ ((withSeq (thresher (cancelPkt 0)) 3).checkSeq 2).sq 2 Sq.STATE = 3 ∧
    (thresher (cancelPkt 0)).seqOf (pf (cancelPkt 0) 1 31 0) 0 = none ∧ (thresher (cancelPkt 1)).cancelPkt 0 0 1 = some (cancelPkt 1) ∧
    (thresher (cancelPkt 2)).cancelPkt 0 0 2 = some (cancelPkt 2) := by decide +kernel
theorem wit_SweepsStartAndEnd_end : (sweeping 0 [2] 1).winnowWaits ⟨0, 0, 0, 0, [2], 0, [], 1⟩ ∧ (sweeping 0 [2] 0).winnowWaits ⟨0, 0, 0, 0, [2], 0, [], 0⟩ = false ∧
    (sweeping 0 [2] 0).sq 2 Sq.PEND_ROWS = 0 ∧ (sweeping 0 [2] 0).sq 2 Sq.PART = 0 ∧ 0 < live.build.ctxs ∧ (sweeping 1 [] 0).st.winnow.isSome := by decide +kernel
/-- SEQ_CANCEL of one sequence ends it with REASON 3 (R191). -/
theorem test_seq_cancel : (after (.seqCancelSeq 0 0) (withSeq (thresher (cancelPkt 0)) 2)).sq 2 Sq.STATE = 3 ∧
    (after (.seqCancelSeq 0 0) (withSeq (thresher (cancelPkt 0)) 2)).sq 2 Sq.REASON = 3 ∧
    (let s := withSeq (thresher (cancelPkt 2)) 2; (after (.seqCancelAll 0 0) { s with build := { s.build with seqLog2 := 3 } }).sq 2 Sq.REASON = 3) ∧ (after (.seqCancelStep 0 0) (thresher (cancelPkt 1))).rb Reg.ST_WINNOW_BUSY = true := by
  decide +kernel

/-- A STEP_RUN of an OP. -/
def runPkt (op n : Nat) : List Word := (packet 0x33 op 0 0).set 4 (BitVec.ofNat 32 n)
/-- A stream of partition 0 that runs. -/
def stream : Stream := ⟨0, 0, mkRec 32 [(Str.DESC_VER, 1), (Str.TEMPLATE, mkHandle 1 4)], 0, 0, none, true, none, [], 0⟩
/-- Its state, with the packet and the steps in flight. -/
def streaming (pkt : List Word) (steps : List Step) : State :=
  let s := (furnished (thresher pkt)).setRf (Reg.ST_STREAM_STATUS_SSTATE 0) 1
  { s with st := { s.st with streams := [stream], steps := steps } }
/-- A step in a phase, with rows. -/
def stepIn (ph : StepPhase) (rows : List StepRow) : Step := ⟨0, 0, 7, rows, ph, some 0, 0, 0, 0⟩
/-- A live row. -/
def row : StepRow := ⟨2, 1, 9, 1, 1, false, false, true⟩
theorem wit_StreamsAreStartedAndStopped : (let s := thresher (runPkt 0 0)
      s.slowRun 0 0 0x33 = some (runPkt 0 0) ∧ pf (runPkt 0 0) 1 1 0 = 0 ∧ s.startOut 0 = false ∧ s.passRuns 0 = false ∧ s.rf (Reg.ST_STREAM_STATUS_SSTATE 0) = 0) ∧
    (streaming (runPkt 0 0) []).rf (Reg.ST_STREAM_STATUS_SSTATE 0) = 1 ∧ (streaming (runPkt 0 0) [stepIn .applied []]).passRuns 0 ∧
    (pf (runPkt 1 0) 1 1 0 = 1 ∧ (streaming (runPkt 1 0) []).stream? 0 = some stream ∧ stream.startCmd = none) ∧
    (pf (runPkt 2 5) 1 1 0 = 2 ∧ (streaming (runPkt 2 5) []).synthBusy 0 = false) := by decide +kernel
/-- KV_ADD adds to KV_FREE (R194). -/
theorem test_kv_add : (after (.stepRunKvAdd 0 0) (streaming (runPkt 2 5) [])).rf (Reg.ST_KV_FREE 0) = 5 := by decide +kernel
theorem wit_StepsAreSynthesisedAndLaunched : (let s := streaming (runPkt 1 0) []
      let r := s.settleStreams
      r.stream? 0 = some stream ∧ stream.due ∧ s.rf (Reg.ST_STREAM_STATUS_SSTATE 0) = 1 ∧ s.unitEn U.ST ∧ s.halted = false ∧ (r.stepsOf 0).length < 2 ∧
        (r.stepsOf 0).any (fun y => y.phase == .dead || y.phase == .writing) = false ∧ s.st.winnow.any (fun w => w.part == 0 && w.mode == 1) = false ∧
        (r.startDone 0).tagBusy ((r.startDone 0).rf Reg.ST_TAG_TAG_NEXT) = false ∧ (r.startDone 0).rowsHeld < 131072) := by decide +kernel
theorem wit_StepsAreSynthesisedAndLaunched_tagBusy : (let s := (streaming (runPkt 1 0) [stepIn .launched []]).setRf Reg.ST_TAG_TAG_NEXT 7
      s.settleStreams.stream? 0 = some stream ∧ (s.settleStreams.startDone 0).tagBusy ((s.settleStreams.startDone 0).rf Reg.ST_TAG_TAG_NEXT)) := by decide +kernel
theorem rowsHeld_streaming (pkt : List Word) (ph : StepPhase) (rows : List StepRow) : (streaming pkt [stepIn ph rows]).rowsHeld = rows.length := by
  simp [State.rowsHeld, streaming, stepIn]
theorem wit_StepsAreSynthesisedAndLaunched_rowsFull : 131072 ≤ (streaming (runPkt 1 0) [stepIn .launched (List.replicate 131072 row)]).rowsHeld := by
  rw [rowsHeld_streaming, List.length_replicate]
theorem wit_StepsAreSynthesisedAndLaunched_launch : (let s := streaming (runPkt 1 0) [stepIn .writing [row]]
      (s.stepsOf 0).find? (fun x => x.phase == .writing && x.out == 0) = some (stepIn .writing [row]) ∧ s.stream? 0 = some stream ∧
        (s.dirRead 4).stepRefusal stream (stepPacket stream (mkHandle 1 4) 0) = none ∧ fld stream.desc Str.STEP_COUNT = 0) ∧
    ((streaming (runPkt 1 0) [stepIn .writing [row]]).setRf (Reg.GS_QUOTA_SLOTS 0) 0).stepRefusal stream (stepPacket stream (mkHandle 1 4) 0) = some E.QUOTA := by decide +kernel
theorem wit_StepsAreSynthesisedAndLaunched_pass : (let s := streaming (runPkt 1 0) [stepIn .launched [row]]
      (s.stepsOf 0).find? (fun x => x.phase == .launched && s.stepRetired x) = some (stepIn .launched [row]) ∧ s.stream? 0 = some stream ∧ (stepIn .launched [row]).rows.any (·.live) = true) ∧
    (stepIn .launched [{ row with live := false }]).rows.any (·.live) = false ∧
    (let s := streaming (runPkt 1 0) [stepIn .applied [row]]
     (s.stepsOf 0).find? (fun x => x.phase == .applied && x.out == 0) = some (stepIn .applied [row]) ∧ lookupD s.dc.ckpts 0 0 ≠ 1 ∧ s.rb (Reg.DC_CKPT_STATUS_BUSY 0) = false ∧
       (s.setRf (Reg.DC_CKPT_STATUS_BUSY 0) 1).rb (Reg.DC_CKPT_STATUS_BUSY 0) ∧ s.dc.ckpts.all (fun c => c.1 != 0)) := by decide +kernel
/-- The results of a retired step are read; at the end of the pass the step is gone (R208). -/
theorem test_boundary_pass : (after (.boundaryPass 0) (streaming (runPkt 1 0) [stepIn .launched [row]])).st.steps.map (·.phase) = [.reading] ∧
    (after (.boundaryPassEnd 0) (streaming (runPkt 1 0) [stepIn .applied [row]])).st.steps = [] := by decide +kernel

/-! ### Expert routing -/

/-- A route job of tag 7 in a phase. -/
def job (ph : EraPhase) : EraJob := ⟨7, 0, 0, 0, ph, 0, [], [], [], 0⟩
/-- A state with that job, its tag dead or not. -/
def routing (ph : EraPhase) (dead : Bool) : State :=
  let s := if dead then live.setRam (deadWord 7) 0x80#32 else live
  { s with era := { s.era with jobs := [job ph] } }
theorem wit_RouteJobsRunInOrder : (routing .queued false).tagDead 7 = false ∧ (routing .queued true).tagDead 7 ∧ (routing .queued false).unitEn U.ERA ∧ (routing .queued false).halted = false ∧
    (routing .written false).era.jobs = [job .written] ∧ (job .written).phase ≠ .queued ∧
    (live.portLive ∧ live.unlatch.partOk 15 ∧ live.unlatch.lockedOrLocking 15 = false ∧ (live.setRf Reg.PAU_LOCKED 0x8000).unlatch.lockedOrLocking 15) := by decide +kernel
/-- A job of a dead tag is dropped (R238). -/
theorem test_route_job_dead : (after .routeJobDead (routing .reading true)).era.jobs = [] ∧ (after .routeJobDead (routing .reading false)).era.jobs = [job .reading] ∧
    (after (.eraSwapBias 15) live).rb (Reg.ERA_BANK_BIAS_PEND 15) = true := by decide +kernel

/-! ### Semaphores, watches, bindings and sheaves -/

/-- SM_SEM_INDEX names semaphore 3, and SM_SEM_VALUE holds 9. -/
def semCommand : State := ((sems 5).setRf Reg.SM_SEM_INDEX 3).setRf Reg.SM_SEM_VALUE 9
theorem wit_SemaphoresAndWatchesAreCommanded : semCommand.portLive ∧ semCommand.unlatch.unitEn U.SM ∧ semCommand.unlatch.sm.semCmd = none ∧ semCommand.unlatch.smUp ∧ semCommand.unlatch.semFull 2 = false ∧
    semCommand.unlatch.semCmdErr 3 true = none ∧ semCommand.unlatch.semCmdErr 3 false = none ∧ semCommand.unlatch.semCmdErr 16 true = some E.SEM_HANDLE ∧
    (semCommand.setRf Reg.GLB_UNIT_STATUS_READY 1).unlatch.smUp = false ∧ ({ semCommand with cyc := { Cyc.start with semOps := 8 } } : State).unlatch.semFull 2 := by decide +kernel
theorem wit_SemaphoresAndWatchesAreCommanded_errors : semCommand.unlatch.semPart 16 = none ∧ semCommand.unlatch.semPart 3 = some 0 ∧ 3 < semCommand.unlatch.build.sems ∧
    (semCommand.setRf Reg.PAU_LOCKED 1).unlatch.lockedOrLocking 0 ∧
    (((semCommand.setRm (semRow 3) Sem.PORT 1).setRm (sheafRow 2) Sh.STATE 1).setRm (sheafRow 2) Sh.ARRIVE_SEM 3).unlatch.portOf 3 = some 2 := by decide +kernel
/-- SET writes the value and its complement (R243, R267). -/
theorem test_sem_set : (after .semCmdSet semCommand).semVal 3 = 9 ∧ (after .semCmdSet semCommand).ram (semRow 3 + 1) = ~~~9#32 := by decide +kernel

/-- SM_WATCH registers name semaphore 3, slot 0, launch 1, node 63. -/
def watching (amount : Nat) : State :=
  ((((((withSlot (sems 5) 3).setRf Reg.SM_WATCH_SEM 3).setRf Reg.SM_WATCH_THRESH 9).setRf Reg.SM_WATCH_TARGET_NODE 63).setRf Reg.SM_WATCH_LAUNCH_LAUNCH_ID 1).setRf
    Reg.SM_WATCH_ARGS_AMOUNT amount)
theorem wit_SemaphoresAndWatchesAreCommanded_watch : (watching 1).portLive ∧ (watching 1).unlatch.smUp ∧ (watching 1).unlatch.sm.cancels = [] ∧ (watching 1).unlatch.watchOk ∧ (watching 0).unlatch.watchOk = false ∧
    (List.range 4096).find? (fun i => !(watching 1).unlatch.sm.watches.any fun w => w.idx == i) = some 0 ∧ 4095 < 4096 ∧
    ({ live with sm := { live.sm with cancels := [5] } } : State).sm.cancels = [5] := by decide +kernel
/-- All 4,096 watches are armed. -/
theorem wit_SemaphoresAndWatchesAreCommanded_watch_full : (List.range 4096).find? (fun i => !((List.range 4096).map fun k => (⟨k, 3, 9, 0, 1, 0, 1, false⟩ : Watch)).any fun w => w.idx == i) = none := by
  rw [List.find?_eq_none]
  intro i hi
  have h : ((List.range 4096).map fun k => (⟨k, 3, 9, 0, 1, 0, 1, false⟩ : Watch)).any (fun w => w.idx == i) = true :=
    List.any_eq_true.mpr ⟨_, List.mem_map_of_mem hi, beq_self_eq_true i⟩
  rw [h]
  decide
/-- ARM takes watch 0 (R251). -/
theorem test_watch_arm : (after .watchArm (watching 1)).sm.watches.map (fun w => (w.idx, w.sem, w.thresh)) = [(0, 3, 9)] ∧ (after .watchArm (watching 0)).sm.watches = [] := by
  decide +kernel

/-- Link 3 is UP, and the SM_WAKE registers name it and semaphore 3 of partition 0 with THRESH 9. -/
def binding (f : Link → Link) : State :=
  let s := ((linked fun l => f (upLink l)).setRf (Reg.PAU_PCFG_CLUSTERS 0) 1).setRf (Reg.SM_SEM_COUNT 0) 16
  (((s.setSem 3 5).setRf Reg.SM_WAKE_LINK 3).setRf Reg.SM_WAKE_LINK_SEM 3).setRf Reg.SM_WAKE_THRESH 9
/-- The binding in a phase. -/
def bind (ph : BindPhase) (thresh : Nat) (consume : Bool) (tmo : Nat) : Bind := ⟨0, 3, 0, some 3, thresh, consume, tmo, 0, ph⟩
/-- A state with it. -/
def bound (b : Bind) : State := let s := binding fun l => { l with lstate := 3 }; { s with sm := { s.sm with binds := [b] } }
theorem wit_LinksAreBoundToSemaphores : (let u := (binding id).unlatch
      (binding id).portLive ∧ u.smUp ∧ u.bindable (u.rf Reg.SM_WAKE_LINK) (u.rf Reg.SM_WAKE_LINK_PART) ∧ u.semOf (u.rf Reg.SM_WAKE_LINK_SEM) (u.rf Reg.SM_WAKE_LINK_PART) ∧
        u.freeBindIdx = some 0 ∧ u.bindOf (u.rf Reg.SM_WAKE_LINK) = none) ∧
    (let u := (binding fun l => { l with proto := 1 }).unlatch; u.bindable (u.rf Reg.SM_WAKE_LINK) (u.rf Reg.SM_WAKE_LINK_PART) = false ∧ u.partOk (u.rf Reg.SM_WAKE_LINK_PART) = true) ∧
    (bound (bind .sleeping 9 false 0)).unlatch.bindOf 3 = some (bind .sleeping 9 false 0) := by decide +kernel
theorem wit_LinksAreBoundToSemaphores_sleep : (let b := bind .draining 9 false 0
      let s := bound b
      s.sm.binds.find? (fun b => b.idx == 0) = some b ∧ b.phase = .draining ∧ (s.link 3).tasks = [] ∧ (s.link 3).ctrl = none ∧ (s.link 3).ctrlQ = [] ∧ b.sem = some 3 ∧
        s.sm.evals.any (fun e => e.sem == 3) = false ∧ (s.checkSem 3).2 = none ∧ (s.checkSem 3).1.semVal 3 < b.thresh) ∧
    ((bind .draining 5 false 0).thresh ≤ ((bound (bind .draining 5 false 0)).checkSem 3).1.semVal 3 ∧ (bind .draining 5 false 0).consume = false) ∧
    ((bind .draining 5 true 0).consume ∧ ((bound (bind .draining 5 true 0)).waitersOf 3).any (·.consume) = false) ∧
    (let b := bind .sleeping 9 false 1; b.tmo ≠ 0 ∧ b.phase ≠ .waking ∧ (late (bound b)).due b.gc (1000 * b.tmo)) ∧ (bind .sleeping 9 false 0).tmo = 0 := by decide +kernel
/-- A semaphore below THRESH sends the link to SLEEP (R254); one that meets it frees the binding. -/
theorem test_binding : (after (.wakeBindingSleep 0) (bound (bind .draining 9 false 0))).sm.binds.map (·.phase) = [.sleeping] ∧
    (after (.wakeBindingSleep 0) (bound (bind .draining 5 true 0))).sm.binds = [] ∧ (after (.wakeBindingSleep 0) (bound (bind .draining 5 true 0))).semVal 3 = 0 := by decide +kernel

/-- Sheaf 255 of partition 0: two local sources, arrivals at semaphore 4, releases at semaphore 5. -/
def sheaf (st : Nat) : State :=
  (((live.setRf (Reg.SM_SEM_COUNT 0) 16).setRow (sheafRow 255) (mkRec 16 [(Sh.STATE, st), (Sh.MASK, 3), (Sh.ARRIVE_SEM, 4), (Sh.RELEASE_SEM, 5), (Sh.TIMEOUT, 1)])).setSem 4 0).setSem 5 0
theorem wit_SheavesAreCommanded : (sheaf 0).portLive ∧ (sheaf 0).unlatch.smUp ∧ 255 < 256 ∧ ((sheaf 0).unlatch.checkSem 4).2 = none ∧ ((sheaf 0).unlatch.checkSem 4).1.shv 255 Sh.STATE = 0 ∧
    ((sheaf 0).unlatch.checkSem 4).1.sheafOk 255 ∧ ((sheaf 1).unlatch.checkSem 4).1.shv 255 Sh.STATE ≠ 0 ∧
    (((sheaf 0).setRam (semRow 4) 1#32).unlatch.checkSem 4).2 = some E.HUSK ∧ (sheaf 3).unlatch.shv 255 Sh.STATE = 3 := by decide +kernel
theorem wit_SheavesAreCommanded_timeout : (let s := late { sheaf 1 with sm := { live.sm with sheaves := [⟨255, some 0, none, []⟩] } }
      (s.sheafX 255).firstGc = some 0 ∧ s.shv 255 Sh.STATE = 1 ∧ s.shv 255 Sh.TIMEOUT ≠ 0 ∧ s.due 0 (1000 * s.shv 255 Sh.TIMEOUT)) ∧ live.shv 0 Sh.TIMEOUT = 0 := by decide +kernel
/-- ARM makes the arrival semaphore a port (R259); a generation that is late faults its sheaf (R262). -/
theorem test_sheaf : (after (.sheafArm 255) (sheaf 0)).shv 255 Sh.STATE = 1 ∧ (after (.sheafArm 255) (sheaf 0)).rm (semRow 4) Sem.PORT = 1 ∧
    (after (.sheafTimeout 255) (late { sheaf 1 with sm := { live.sm with sheaves := [⟨255, some 0, none, []⟩] } })).shv 255 Sh.STATE = 3 := by decide +kernel


/-! ### The Message Hub -/

/-- Queue 2 of core 1 with messages on chip. -/
def rxQueue (n : Nat) : State :=
  let s := ((live.setRow (rxqRow 2) (mkRec 8 [(Rq.VALID, 1), (Rq.CORE, 1), (Rq.USED, n)])).setReg (Reg.CW_RX_Q_A 1) 2#32).setRf (Reg.MH_CORE_CFG_ENABLE 1) 1
  { s with mh := { s.mh with msgs := List.replicate n ⟨2, [7#32, 0#32, 0#32, 0#32]⟩ } }
theorem wit_MessagesAndStooksAreCommanded : (let u := (rxQueue 1).unlatch
      (rxQueue 1).portLive ∧ 1 < u.build.ccores ∧ wget (u.reg (Reg.CW_RX_Q_A 1)) 11 0 = 2 ∧ 2 < u.build.rxqs ∧ u.cyc.arrived.any (fun a => a.1 == 2) = false ∧
        (u.checkRxq 2).rq 2 Rq.VALID = 1 ∧ (u.checkRxq 2).rq 2 Rq.CORE = 1 ∧ (State.popLive 2 17 (u.checkRxq 2)).2 = some [7#32, 0#32, 0#32, 0#32]) ∧
    (State.popLive 2 17 ((rxQueue 0).unlatch.checkRxq 2)).2 = none ∧
    (let s : State := { live with build := { live.build with rxqLog2 := 10 } }
     (s.setReg (Reg.CW_RX_Q_A 1) 1024#32).unlatch.build.rxqs ≤ wget ((s.setReg (Reg.CW_RX_Q_A 1) 1024#32).unlatch.reg (Reg.CW_RX_Q_A 1)) 11 0) := by decide +kernel
/-- RX_POP returns the first word, and an empty queue counts an underrun (R281). -/
theorem test_rx_pop : (after (.rxPop 1) (rxQueue 1)).out = [.rpAck (some 7#32) false] ∧ (after (.rxPop 1) (rxQueue 1)).mh.msgs = [] ∧
    (after (.rxPop 1) (rxQueue 0)).rq 2 Rq.UNDER = 1 := by decide +kernel
/-- The send buffer of core 1 holds a message for queue 2, of a device. -/
def sendBuf (dev k : Nat) : State :=
  let s := (rxQueue 0).setReg (Reg.CW_SB_A 1 0) (packW [(0, 0), (4, 0), (7, k)])
  s.setReg (Reg.CW_SB_A 1 1) (packW [(0, 2), (12, dev)])
theorem wit_MessagesAndStooksAreCommanded_send : (let u := (sendBuf 0 0).unlatch
      let m0 := (List.range 16).map fun i => u.reg (Reg.CW_SB_A 1 i)
      let m := m0.take (4 * msgUnits m0)
      1 < u.build.ccores ∧ u.unitEn U.MH ∧ u.rb (Reg.MH_CORE_CFG_ENABLE 1) ∧ sendFieldsOk m ∧ fld m Ms.ROUTED = 0 ∧ fld m Ms.KIND ≠ 2 ∧ fld m Ms.DST_DEV = u.self) ∧
    (let u := (sendBuf 5 0).unlatch; fld ((List.range 16).map fun i => u.reg (Reg.CW_SB_A 1 i)) Ms.DST_DEV ≠ u.self) ∧
    (let u := (sendBuf 0 1).unlatch
     let m0 := (List.range 16).map fun i => u.reg (Reg.CW_SB_A 1 i)
     sendFieldsOk (m0.take (4 * msgUnits m0)) = false) ∧
    live.unlatch.rb (Reg.MH_CORE_CFG_ENABLE 1) = false ∧ ({ live with build := { live.build with ccores := 16 } } : State).unlatch.build.ccores ≤ 16 ∧
    live.unlatch.mh.ends.find? (fun e => e.core == 1) = none ∧
    ({ live with mh := { live.mh with ends := [⟨1, 9, 5, 0⟩] } } : State).unlatch.mh.ends.find? (fun e => e.core == 1) = some ⟨1, 9, 5, 0⟩ := by decide +kernel
/-- A local message reaches its queue (R284), and an outcome is popped (R288). -/
theorem test_send : (after (.sendGo 1) (sendBuf 0 0)).mh.msgs.map (·.q) = [2] ∧
    (after (.outPop 1) { live with mh := { live.mh with ends := [⟨1, 9, 5, 0⟩] } }).out = [.rpAck (some (packW [(0, 9), (16, 5), (19, 1)])) false] := by decide +kernel
/-- Queue 2 with a ring of 64 bytes in use. -/
def ringed : State :=
  let s := (rxQueue 0).setRow (rxqRow 2) (mkRec 8 [(Rq.VALID, 1), (Rq.CORE, 1), (Rq.GR_LOG2, 12), (Rq.TAIL, 64)])
  { (s.setRf (Reg.PAU_GR_GR_UNITS 0) 1) with mh := { s.mh with ring := [⟨2, 64, 0⟩] } }
theorem wit_MessagesAndStooksAreCommanded_refill : 2 < ringed.build.rxqs ∧ ringed.rq 2 Rq.VALID ≠ 0 ∧ ringed.ringUsed 2 ≠ 0 ∧ ringed.rq 2 Rq.USED ≤ 12 ∧ ringed.mh.refills.any (fun r => r.q == 2) = false ∧ ringed.unitEn U.MH ∧
    (({ ringed with mh := { ringed.mh with refills := [⟨2, 64, 0⟩] } } : State).mmRead 0 1 0 1 4 (.granary 2 1)).2 = true ∧ (rxQueue 0).ringUsed 2 = 0 := by decide +kernel
theorem wit_MessagesAndStooksAreCommanded_timeout : let s := late { live with mh := { live.mh with sends := [⟨4, 1, 9, 5, 0, none, 0⟩] } }
    s.mh.sends.find? (fun x => x.seq == (4#32).toNat) = some ⟨4, 1, 9, 5, 0, none, 0⟩ ∧ s.due 0 (1000 * s.rf Reg.MH_CTRL_REMOTE_TIMEOUT) := by decide +kernel
/-- Stook 255 in a state, of two contributions, with its result for queue 2. -/
def stook (st : Nat) : State := (rxQueue 0).setRow (stookRow 255) (mkRec 16 [(Sk.STATE, st), (Sk.ELEMS, 1), (Sk.N, 2), (Sk.RESULT_RXQ, 2)])
theorem wit_MessagesAndStooksAreCommanded_stook : (stook 0).portLive ∧ (stook 0).unlatch.unitEn U.MH ∧ 255 < (stook 0).unlatch.build.stooks ∧ (stook 0).unlatch.sk 255 Sk.STATE = 0 ∧ (stook 0).unlatch.stookOk 255 ∧
    ((stook 1).unlatch.sk 255 Sk.STATE ≠ 0 ∧ (stook 1).unlatch.partOk ((stook 1).unlatch.sk 255 Sk.PART)) ∧ (stook 2).unlatch.sk 255 Sk.STATE = 2 ∧ live.unlatch.build.stooks ≤ 256 := by
  decide +kernel
theorem wit_MessagesAndStooksAreCommanded_retry : (let s := late { stook 1 with mh := { (stook 1).mh with stooks := [⟨255, [], [], some 0⟩] } }
      (s.stookX 255).pending = some 0 ∧ s.sk 255 Sk.STATE = 1 ∧ s.unitEn U.MH ∧ s.due 0 1000 ∧ s.cyc.arrived = []) ∧ (live.stookX 255).pending = none := by decide +kernel
theorem test_stook : (after (.stookOpen 255) (stook 0)).sk 255 Sk.STATE = 1 ∧ (after (.stookClearFault 255) (stook 2)).sk 255 Sk.STATE = 0 ∧
    (after (.stookOpen 255) (stook 1)).sk 255 Sk.STATE = 1 := by decide +kernel

/-! ### The fabric port and the domain -/

/-- The fabric interface is present; or its link is up. -/
def near : State := { live with pins := { live.pins with fpPresent := true }, fab := Fabric.off true }
def joined : State := { near with fab := { near.fab with up := true, reqCredits := 4, repCredits := 4 } }
/-- A LINKUP flit of the interface, for versions `lo` to `hi`, with credits. -/
def linkupFlit (hi lo credits : Nat) : List Word := flitOf 0 (hi + 2 ^ 8 * lo + 2 ^ 16 * 1) (credits + 2 ^ 8 * credits)
theorem wit_FabricLinkAndDomainCommands : near.inputLive .fab ∧ near.build.fabric ∧ near.fab.present ∧ near.fab.up = false ∧ near.fab.alone = false ∧ fld (linkupFlit 3 3 4) Fl.TYPE = 0 ∧
    (4 ≤ pf (linkupFlit 3 3 4) 4 7 0 ∧ pf (linkupFlit 3 3 64) 4 7 0 ≤ 64 ∧ 4 ≤ pf (linkupFlit 3 3 4) 4 15 8 ∧ pf (linkupFlit 3 3 64) 4 15 8 ≤ 64) ∧ 3 ≤ pf (linkupFlit 3 3 4) 3 7 0 ∧
    pf (linkupFlit 3 3 4) 3 15 8 ≤ 3 ∧ near.thr.oldSelf = none ∧ pf (linkupFlit 2 1 4) 3 7 0 < 3 ∧ 3 < pf (linkupFlit 5 4 4) 3 15 8 ∧ ¬ 4 ≤ pf (linkupFlit 3 3 3) 4 7 0 ∧ joined.fab.up := by
  decide +kernel
/-- A LINKUP with the credit bounds takes the link up; with one less it is discarded (R65). -/
theorem test_linkup : (after (.fpLinkup (linkupFlit 3 3 4)) near).fab.up = true ∧ (after (.fpLinkup (linkupFlit 3 3 64)) near).fab.reqCredits = 64 ∧
    (after (.fpLinkup (linkupFlit 3 3 3)) near).fab.up = false ∧ (after (.fpLinkup (linkupFlit 2 1 4)) near).fab.alone = true := by decide +kernel
/-- A member of a domain, or a domain command in progress. -/
def member : State := joined.setRf Reg.DR_DOMAIN_STATUS_MEMBER 1
def leaving : State := { member.setRf Reg.DR_DOMAIN_STATUS_BUSY 1 with dr := { member.dr with domCmd := 1 } }
theorem wit_FabricLinkAndDomainCommands_domain : (joined.portLive ∧ joined.unlatch.rb Reg.DR_DOMAIN_STATUS_BUSY = false ∧ joined.unlatch.build.fabric ∧ joined.unlatch.rb Reg.DR_DOMAIN_STATUS_MEMBER = false) ∧
    member.unlatch.rb Reg.DR_DOMAIN_STATUS_MEMBER ∧ leaving.unlatch.rb Reg.DR_DOMAIN_STATUS_BUSY ∧
    ({ live with build := { live.build with fabric := false } } : State).unlatch.build.fabric = false ∧ leaving.dr.domCmd = 1 ∧ leaving.rb Reg.DR_DOMAIN_STATUS_BUSY ∧
    leaving.dr.sendQ = [] ∧ leaving.gs.launches.any (fun l => l.round.isSome) = false ∧ live.dr.domCmd ≠ 1 := by decide +kernel
/-- JOIN of a domain of one is done at once; of a member it is refused (R325, R328). -/
theorem test_domain_join : (after .domainJoin member).rb Reg.DR_DOMAIN_STATUS_REFUSED = true ∧ (after .domainLeave member).rb Reg.DR_DOMAIN_STATUS_BUSY = true := by decide +kernel

/-- Device 1 is in the map of a block whose link is up. -/
def mapped : State := joined.setRow (ramKey 0x1C 0) [2#32]
theorem wit_ArrivingFlitsAreServed : mapped.inputLive .fab ∧ mapped.fab.up ∧ 1 ≤ mapped.fab.rx false ∧ 1 ≤ mapped.fab.rx true ∧ 1 ≤ fld (flitOf 1 0 0) Fl.LEN ∧ fld (flitOf 1 0 0) Fl.LEN ≤ 16 ∧
    (let got := (mapped.fabBytes (flitOf 1 0 0)).returnCredit false 1; got.edgeWaits = false ∧ got.smInit = false) ∧ mapped.member 1 ∧ mapped.member 2 = false ∧ mapped.fab.waiting = [] ∧
    mapped.cyc.evStep ≤ 1 ∧ mapped.cyc.semOps < 8 ∧ mapped.cyc.semStep ≤ 4 ∧ mapped.cyc.arrived = [] ∧
    ({ mapped with cyc := { Cyc.start with remDecs := 8 } } : State).edgeWaits ∧ ({ mapped with fab := { mapped.fab with rxReq := 0 } } : State).fab.rx false = 0 ∧
    ([1, 2, 3, 4, 5, 6, 7, 0x80, 0x81].map fun t => fld (flitOf t 0 0) Fl.TYPE) = [1, 2, 3, 4, 5, 6, 7, 0x80, 0x81] ∧ ([0, 1, 2].map fun k => pf (flitOf 6 k 0) 3 1 0) = [0, 1, 2] := by
  decide +kernel
/-- A reserved TYPE and a flit without a credit are discarded (R67, R80). -/
theorem test_flit_protocol : (after (.edgeDec (flitOf 7 0 0)) mapped).ifm.intake.map (·.code) = [E.FP_PROTOCOL.code] ∧
    (after (.edgeDec (flitOf 1 0 0)) { mapped with fab := { mapped.fab with rxReq := 0 } }).ifm.intake.map (·.code) = [E.FP_PROTOCOL.code] := by decide +kernel

/-- Partition 0 is bound to rounds, and a launch of round 3 is live, copied or not. -/
def rounds (st : Nat) (copied : Bool) : State :=
  let s := (withNode (withSlot mapped st) 5 3 1 0).setRf (Reg.DR_BIND_BIND_EN 0) 1
  { s with gs := { s.gs with launches := [{ launch with round := some 3, copied := copied }] } }
/-- An EDGE_DEC of a target and a round. -/
def decFlit (target round : Nat) : List Word := flitOf 1 (target + 2 ^ 20) round
theorem wit_RemoteEdgesAreResolvedByRound : (rounds 3 true).partOk 0 ∧ (rounds 3 true).rb (Reg.DR_BIND_BIND_EN 0) ∧ (fld (decFlit 5 3) Fl.ENCL == 1) = (rounds 3 true).locked 0 ∧
    mapped.rb (Reg.DR_BIND_BIND_EN 0) = false ∧ ((rounds 3 true).roundLaunch 0 3).isSome ∧ (rounds 5 true).sl 0 Sl.STATE = 5 ∧ (rounds 3 true).sl 0 Sl.STATE ≠ 5 ∧
    (rounds 3 true).tagDead ((rounds 3 true).sl 0 Sl.STEP_TAG) = false ∧ (rounds 3 true).sl 0 Sl.NODE_COUNT ≤ pf (decFlit 64 3) 3 19 0 ∧ pf (decFlit 63 3) 3 19 0 < (rounds 3 true).sl 0 Sl.NODE_COUNT ∧
    ((rounds 2 false).roundLaunch 0 3).map (·.copied) = some false ∧ (rounds 3 true).roundLaunch 0 4 = none := by decide +kernel
/-- The distances of a ROUND from ROUND_NEXT at the edges of the three cases (R105, R316). -/
theorem wit_RemoteEdgesAreResolvedByRound_distance : (let d := fun r => (2 ^ 32 + pf (decFlit 5 r) 4 31 0 - (rounds 3 true).rf (Reg.DR_ROUND_NEXT 0)) % 2 ^ 32
    d 1 ≤ 3 ∧ d 4 ≤ 3 ∧ 3 < d 5 ∧ d (2 ^ 31 + 1) ≤ 2 ^ 31 ∧ 2 ^ 31 < d (2 ^ 31 + 2) ∧ 2 ^ 31 < d 0) := by decide +kernel
theorem test_edge_dec : (after (.edgeDec (decFlit 5 3)) (rounds 3 true)).nd 5 Nd.STATE = 4 := by decide +kernel
theorem wit_RemoteWorkTimesOut : (let e := { remote (some 7) with resendGc := some 0 }
      let s := late (sending e 1)
      s.dr.sendQ = [e] ∧ e.seq = some (7#32).toNat ∧ e.resendGc = some 0 ∧ s.due 0 1000 ∧
        (s.dr.sendQ.find? (fun e => e.seq == some (7#32).toNat && s.due e.sentGc (1000 * s.rf Reg.DR_DOMAIN_CTRL_EDGE_TIMEOUT))).isSome) ∧
    (let s := late ((withNode (withSlot live 3) 5 3 1 0).setRf Reg.DR_DOMAIN_CTRL_STALL_TIMEOUT 1)
     let l := { launch with round := some 3 }
     let s : State := { s with gs := { s.gs with launches := [l] } }
     s.launch? 0 = some l ∧ s.tb.check ∧ l.round.isSome ∧ s.sl 0 Sl.STATE = 3 ∧ s.rf Reg.DR_DOMAIN_CTRL_STALL_TIMEOUT ≠ 0 ∧
       s.due l.lastProgressGc (1000 * s.rf Reg.DR_DOMAIN_CTRL_STALL_TIMEOUT) ∧ (s.nodesOf 0).any (fun n => s.nd n Nd.STATE == 3)) ∧
    (let s := late { mapped with dr := { mapped.dr with departs := [⟨1, false, 2, 0⟩] } }
     s.dr.departs.find? (fun d => d.dev == 1 && s.due d.sentGc (1000 * s.rf Reg.DR_DOMAIN_CTRL_EDGE_TIMEOUT)) = some ⟨1, false, 2, 0⟩) := by decide +kernel

/-! ### Budgets, spills and restores -/

theorem wit_PowerInputsAndBudgetEpochs : live.portOn .reg ∧ live.replaying = false ∧ live.holds = false ∧ live.partOk 15 ∧ ({ live with build := { live.build with partitions := 8 } } : State).build.partitions ≤ 8 ∧
    ({ live with build := { live.build with clusters := 8 } } : State).build.clusters ≤ 8 ∧ 31 < live.build.clusters ∧
    (let t := (live.emit .pmMeasAck).setRf (Reg.BG_TEMP_NOW_TEMP 31) 0x7FF; temp12 (t.rf Reg.BG_TEMP_TEMP_STOP) ≤ temp12 0x7FF) ∧
    (let t := (live.emit .pmMeasAck).setRf (Reg.BG_TEMP_NOW_TEMP 31) 0x800; temp12 0x800 < temp12 (t.rf Reg.BG_TEMP_TEMP_STOP)) ∧
    ({ live with bg := { live.bg with lends := [(0, false, 5)] } } : State).bg.lends = [(0, false, 5)] ∧ live.bg.lends = [] := by decide +kernel
/-- A budget is acknowledged and is its partition's next (R70). -/
theorem test_pm_budget : (after (.pmBudget 15 7#32) live).out = [.pmBudAck] ∧ (after (.pmBudget 15 7#32) live).bg.parts.map (fun x => (x.part, x.next, x.fresh)) = [(15, 7, true)] := by
  decide +kernel
theorem wit_PowerInputsAndBudgetEpochs_epochs : (State.reset.unitEn U.BG = false) ∧ live.unitEn U.BG ∧ (late live).bg.epochNo < (late live).now / (1000 * max 1 ((late live).rf Reg.BG_CTRL_EPOCH_US)) ∧
    live.now / (1000 * max 1 (live.rf Reg.BG_CTRL_EPOCH_US)) ≤ live.bg.epochNo ∧ (late live).bg.refillNo < (late live).now / 1000 := by decide +kernel
/-- A bank whose class 0 has no point, but a value in its first. -/
theorem wit_PowerInputsAndBudgetEpochs_badModel : (live.setRow (ramKey 0x15 0) [0#32, 1#32]).portLive ∧ ((live.setRow (ramKey 0x15 0) [0#32, 1#32]).unlatch.modelClassBad 1 0).isSome := by decide +kernel
/-- A bank whose classes have one point each. -/
def model : State := (List.range 16).foldl (fun s c => s.setRow (ramKey 0x15 (32 * c)) [1#32, 0x00010001#32]) live
theorem wit_PowerInputsAndBudgetEpochs_model : model.portLive ∧ (List.range 16).all (fun c => (model.unlatch.modelClassBad (1 - model.unlatch.rf Reg.BG_MODEL_STATUS_ACTIVE) c).isNone) := by decide +kernel

/-- Claim 1023 in a state, of 4 granules, with one Granary granule or many. -/
def claimed (st gr : Nat) : State :=
  let s := ((live.setRow (claimRow 1023) (mkRec 4 [(Clm.STATE, st), (Clm.COUNT, 4)])).setRf (Reg.PSC_GR_GR_GRANULES 0) gr).setRf (Reg.PAU_GR_GR_UNITS 0) 1
  { s with psc := { s.psc with order := [1023] } }
theorem wit_SpillsAndRestoresBegin : (claimed 3 4).atBoundary 1023 ∧ (claimed 3 4).victimAhead 1023 = false ∧ (claimed 3 4).unitEn U.PSC ∧ (claimed 3 4).halted = false ∧ (claimed 3 4).freeJob = some 0 ∧
    extFit 1 ((claimed 3 5).rf (Reg.PSC_GR_GR_GRANULES ((claimed 3 5).clm 1023 Clm.PART))) ((claimed 3 5).clm 1023 Clm.COUNT) ((claimed 3 5).granaryUsed 0) = some 1 ∧
    extFit 1 ((claimed 3 4).rf (Reg.PSC_GR_GR_GRANULES ((claimed 3 4).clm 1023 Clm.PART))) ((claimed 3 4).clm 1023 Clm.COUNT) ((claimed 3 4).granaryUsed 0) = none ∧
    (claimed 3 4).inEpisode E.PSC_GRANARY_FULL.code 1023 = false ∧ (claimed 2 4).atBoundary 1023 = false ∧
    (claimed 5 4).psc.order.find? (claimed 5 4).restorable = some 1023 ∧ live.psc.order = [] := by decide +kernel
/-- A spill begins, or waits for room (R361). -/
theorem test_spill : (after (.spillStart 1023) (claimed 3 5)).clm 1023 Clm.STATE = 4 ∧ (after (.spillStart 1023) (claimed 3 4)).ifm.intake.map (·.code) = [E.PSC_GRANARY_FULL.code] ∧
    (after (.restoreStart 1023) (claimed 5 5)).clm 1023 Clm.STATE = 6 := by decide +kernel

/-! ### Determinism, partitions and enclaves -/

theorem wit_EpochsBeginAdvanceAndStall : ((live.setRf Reg.DC_STATUS_WAITING 1).rb Reg.DC_STATUS_WAITING ∧ (live.setRf Reg.DC_STATUS_WAITING 1).unitEn U.DC ∧ (live.setRf Reg.DC_STATUS_WAITING 1).nothingOut ∧
      (live.setRf Reg.DC_STATUS_WAITING 1).startGc ≤ live.gc) ∧ live.rb Reg.DC_STATUS_WAITING = false ∧
    (let s : State := { locked with cc := 10 ^ 6 }; s.rb Reg.DC_STATUS_RUNNING ∧ s.dc.startCc + s.rf Reg.DC_CTRL_EPOCH_CC ≤ s.cc ∧
      s.logFlush.mustStall (s.dc.startCc + s.rf Reg.DC_CTRL_EPOCH_CC) (s.logFlush.epoch + 1) = false) ∧
    (locked.setRf Reg.DC_STATUS_REPLAYING 1).logFlush.mustStall 0 1 ∧ live.cc < live.dc.startCc + live.rf Reg.DC_CTRL_EPOCH_CC := by
  decide +kernel
theorem wit_EpochsBeginAdvanceAndStall_rest : (let s := late { locked.setRf Reg.DC_STATUS_REPLAYING 1 with dc := { locked.dc with stallGc := some 0 } }
      s.dc.stallGc = some 0 ∧ s.replaying ∧ 0 + 1000 * s.rf Reg.DC_TIMES_STALL_US ≤ s.gc) ∧ live.dc.stallGc = none ∧
    (live.blkPresent ∧ live.unlatch.partOk 15 ∧ live.unlatch.lockedOrLocking 15 = false ∧ live.unlatch.rb (Reg.DC_CKPT_STATUS_BUSY 15) = false ∧
      (live.setRf (Reg.DC_CKPT_STATUS_BUSY 15) 1).unlatch.rb (Reg.DC_CKPT_STATUS_BUSY 15) ∧ (live.setRf Reg.PAU_LOCKED 0x8000).unlatch.lockedOrLocking 15) ∧
    ((late live).unitEn U.DC ∧ 1000000 + (late live).dc.tagGc ≤ (late live).now ∧ State.reset.unitEn U.DC = false) := by decide +kernel
/-- Epochs begin at the cc of their start (R376). -/
theorem test_gl_start : (after .glStart (live.setRf Reg.DC_STATUS_WAITING 1)).rb Reg.DC_STATUS_RUNNING = true ∧ (after (.ckptCmd 15) live).rb (Reg.DC_CKPT_STATUS_BUSY 15) = true := by decide +kernel

/-- Partition 15 has a Granary region and cluster 31. -/
def lockable : State :=
  (List.range 15).foldl (fun s p => s.setRf (Reg.PAU_PCFG_CLUSTERS p) 1) ((live.setRf (Reg.PAU_GR_GR_UNITS 15) 1).setRf (Reg.PAU_PCFG_CLUSTERS 15) (2 ^ 31))
/-- A teardown of partition 15 in a phase. -/
def tearing (ph : TearPhase) (out : Bool) : State := { lockable with pau := { live.pau with tear := some ⟨15, ph, 0, 0, out⟩ } }
theorem wit_EnclavesAreLockedAndTornDown : (lockable.portLive ∧ lockable.unlatch.rb Reg.PAU_ENCL_STATUS_BUSY = false ∧ lockable.unlatch.lockBad 15 = false) ∧ (live.unlatch.lockBad 15 ∧ live.unlatch.partOk 15) ∧
    (live.setRf (Reg.PAU_PSTATUS_TEARING 15) 1).unlatch.rb (Reg.PAU_PSTATUS_TEARING 15) ∧ (live.unlatch.rb (Reg.PAU_PSTATUS_TEARING 15) = false ∧ live.unlatch.pau.locking ≠ some 15) ∧
    (({ lockable with pau := { live.pau with locking := some 15 } } : State).pau.locking = some 15 ∧ lockable.unitEn U.PAU) ∧
    ((tearing .emptying false).pau.acctOut = [] ∧ (tearing .emptying false).emptied 15 ∧ (tearing .record false).pau.tear = some ⟨15, .record, 0, 0, false⟩) ∧
    ({ tearing .emptying false with fe := { live.fe with ctxs := [{ context with part := 15 }] } } : State).emptied 15 = false ∧
    (tearing .scrub false).pau.tear = some ⟨15, .scrub, 0, 0, false⟩ ∧ (tearing .scrub true).pau.tear = some ⟨15, .scrub, 0, 0, true⟩ := by decide +kernel
/-- LOCK sets BUSY; a teardown ends with the partition neither LOCKED nor TEARING (R400, R410). -/
theorem test_enclave : (after (.enclaveLock 15) lockable).pau.locking = some 15 ∧ (after (.enclaveLock 15) live).rf Reg.PAU_ENCL_STATUS_CODE = E.ENCLAVE_LOCK.code ∧
    (after .teardownDone ((tearing .scrub false).setRf (Reg.PAU_PSTATUS_TEARING 15) 1)).rb (Reg.PAU_PSTATUS_TEARING 15) = false := by decide +kernel
theorem wit_MeasurementsAreQuotedAndExtended : live.portOn .reg ∧ 63 < 64 ∧ live.quoteStatus 63 ≠ 0 ∧ live.quoteStatus 47 = 2 ∧ (live.setRf Reg.PAU_LOCKED 0x8000).quoteStatus 47 = 0 ∧
    ({ live with pau := { live.pau with tmplQ := [⟨0, 1, false, 1, 0, []⟩] } } : State).pau.tmplQ = [⟨0, 1, false, 1, 0, []⟩] ∧ live.unitEn U.PAU ∧ live.pau.tmplQ = [] := by decide +kernel
/-- A quote of a measurement that does not exist answers its status with a digest of zeros (R73). -/
theorem test_quote : (after (.atRequest 63 (zeros 8)) live).out = [.atAnswer 1 (zeros 12) 0] := by decide +kernel


/-! ### Integrity, fault recovery and the log -/

theorem wit_UnitsAreWatchedAndRestarted : (live.setRf Reg.IFM_STATUS_REBUILD 1).rb Reg.IFM_STATUS_REBUILD ∧ live.rb Reg.IFM_STATUS_REBUILD = false ∧
    (live.setRf Reg.IFM_STATUS_DR_RESTART 1).rb Reg.IFM_STATUS_DR_RESTART ∧
    (let s : State := { live.setRf Reg.IFM_CTRL_WDOG_EN 1 with ds := { live.ds with idle := [(15, 3300)] } }
     s.unitEn U.IFM ∧ s.rb Reg.IFM_CTRL_WDOG_EN ∧ 3300 ≤ lookupD s.ds.idle 15 0) ∧ lookupD live.ds.idle 15 0 < 3300 ∧
    (let s : State := { live with ds := { live.ds with sliceDown := [(15, 0)] } }
     s.ds.sliceDown.find? (fun x => x.1 == 15) = some (15, 0) ∧ 20000 + 0 ≤ (late s).now ∧ s.now < 20000 + 0) ∧
    (let s := linked fun l => { l with lstate := 1 }; (sliceLinks 0).any (fun i => (s.link i).present && (s.link i).lstate == 1)) := by decide +kernel
/-- The firmware runs, with heartbeats watched. -/
def running : State := (live.setRf Reg.THR_BOOT_STATUS_PHASE 5).setRf Reg.IFM_CTRL_HB_EN 1
theorem wit_UnitsAreWatchedAndRestarted_heartbeat : running.thrRuns ∧ running.unitEn U.IFM ∧ running.rb Reg.IFM_CTRL_HB_EN ∧ (late running).due running.ifm.hbGc (1000 * running.rf Reg.IFM_TIMES_HB_TIMEOUT) ∧
    (live.setRf Reg.IFM_STATUS_THR_RESTART 1).rb Reg.IFM_STATUS_THR_RESTART ∧ live.rb Reg.IFM_STATUS_THR_RESTART = false := by decide +kernel
/-- Marks of both kinds in the signed part of the image, and none. -/
theorem wit_UnitsAreWatchedAndRestarted_image : live.signedBad = false ∧ ({ live with ecc := [(ramKey 0x50 0, 2)] } : State).signedBad := by decide +kernel
theorem test_heartbeat : (after .ifmHbIncrement running).rf Reg.IFM_HB_HB_COUNT = 1 ∧ (after .thresherHeartbeat (late running)).rb Reg.IFM_STATUS_THR_RESTART = true ∧
    (after (.sliceRejoin 15) (late { live with ds := { live.ds with sliceDown := [(15, 0)] } })).ds.sliceDown = [] := by decide +kernel

/-- The patrol runs, and the first word of node 9 carries a mark. -/
def marked (level st : Nat) : State :=
  let s := (withNode live 9 st 0 0).setRf Reg.IFM_CTRL_PATROL_EN 1
  { s with ecc := [(ramKey 1 72, level)] }
theorem wit_PatrolAndCrcFindDamage : (marked 1 3).unitEn U.IFM ∧ (marked 1 3).rb Reg.IFM_CTRL_PATROL_EN ∧ (marked 1 3).ecc.find? (fun e => e.1 == ramKey 1 73) = none ∧
    (marked 1 3).ecc.find? (fun e => e.1 == ramKey 1 72) = some (ramKey 1 72, 1) ∧ (marked 2 0).ecc.find? (fun e => e.1 == ramKey 1 72) = some (ramKey 1 72, 2) ∧
    (marked 2 0).rowUnused 1 72 ∧ 1 < 0x60 ∧ (marked 2 3).rowUnused 1 72 = false ∧
    ({ marked 2 3 with ecc := [(ramKey 0x60 3, 2)] } : State).rowUnused 0x60 3 ∧ 0x60 ≤ 0x60 := by decide +kernel
theorem wit_PatrolAndCrcFindDamage_pass : ((late (marked 1 3)).ifm.patrolLate = false ∧ (late (marked 1 3)).due 0 (1000000 * (marked 1 3).rf Reg.IFM_PATROL_PATROL_MS)) ∧
    ({ marked 1 3 with ifm := { live.ifm with patrolLate := true } } : State).ifm.patrolLate ∧ State.reset.unitEn U.IFM = false := by decide +kernel
theorem wit_PatrolAndCrcFindDamage_crc : (live.setRf Reg.IFM_CTRL_CRC_EN 1).unitEn U.IFM ∧ (live.setRf Reg.IFM_CTRL_CRC_EN 1).rb Reg.IFM_CTRL_CRC_EN ∧ live.ifm.crcConfirm = false ∧
    ({ live with ifm := { live.ifm with crcConfirm := true, crcEpisode := true } } : State).ifm.crcConfirm := by decide +kernel
/-- A corrected word is reported and its mark is gone; an uncorrectable one of a FREE row is rewritten (R423, R427). -/
theorem test_patrol : (after (.patrolRead 1 72) (marked 1 3)).ecc = [] ∧ (after (.patrolRead 1 72) (marked 1 3)).ifm.intake.map (·.code) = [E.ECC_CORRECTED.code] ∧
    (after (.patrolRead 1 72) (marked 2 0)).ecc = [] ∧ (after (.patrolRead 1 73) (marked 1 3)).ecc = (marked 1 3).ecc := by decide +kernel

/-- A log of one entry, first reported at time 0. -/
def logged (e : LogEnt) : State :=
  let s := live.setRf Reg.IFM_LOG_BASE_HI_LOG_EN 1
  late { s with ifm := { s.ifm with log := [e] } }
/-- That entry. -/
def entry : LogEnt := ⟨0, E.QUOTA.code, 0, none, 1, 0, 0, 0, 0, 0, false, none⟩
/-- A report in the intake. -/
def reported (log : List LogEnt) : State := { live with ifm := { live.ifm with intake := [⟨E.QUOTA.code, 0, none, 0, 0, 0⟩], log := log } }
theorem wit_ReportsAreGleaned : live.unitEn U.IFM ∧ (reported []).ifm.intake = [⟨E.QUOTA.code, 0, none, 0, 0, 0⟩] ∧ (reported []).ifm.log = [] ∧
    (reported [entry]).ifm.log.find? (fun e => e.code == E.QUOTA.code && e.part == none && !e.writing && e.retryGc.isNone && decide (0 < e.firstGc + (reported [entry]).logWindow)) = some entry ∧
    minBy (fun e => 2 ^ 16 * e.firstGc + e.code) (logged entry).closedEntries = some entry ∧ (logged entry).rb Reg.IFM_LOG_BASE_HI_LOG_EN ∧
    (let s := (logged entry).setRf Reg.IFM_LOG_BASE_HI_LOG_LOG2 12; (2 ^ 32 + s.rf Reg.IFM_LOG_TAIL - s.rf Reg.IFM_LOG_HEAD) % 2 ^ 32 ≠ 2 ^ s.rf Reg.IFM_LOG_BASE_HI_LOG_LOG2) ∧
    (let s := ((logged entry).setRf Reg.IFM_LOG_BASE_HI_LOG_LOG2 12).setRf Reg.IFM_LOG_TAIL 4096
     (2 ^ 32 + s.rf Reg.IFM_LOG_TAIL - s.rf Reg.IFM_LOG_HEAD) % 2 ^ 32 = 2 ^ s.rf Reg.IFM_LOG_BASE_HI_LOG_LOG2) ∧
    (let e := { entry with retryGc := some 0 }; (logged e).ifm.log = [e] ∧ (logged e).pins.pwrAck = false ∧ 0 + 1000 ≤ (logged e).gc) ∧
    (let s := (logged entry).takeReports; s.cyc.gleaned ∧ s.tick.unitEn U.IFM) := by decide +kernel
/-- A report opens an entry, and the next of its kind is counted in it (R440). -/
theorem test_glean : (after .gleanerIntake (reported [])).ifm.log.map (·.count) = [1] ∧ (after .gleanerIntake (reported [entry])).ifm.log.map (·.count) = [2] := by decide +kernel

/-! ### Time base, snapshots and trace -/

theorem wit_TimeSnapshotsAndTrace : (locked.portOn .core ∧ locked.holds) ∧ (live.portOn .core ∧ live.holds = false) ∧ (live.tb.sync 5 0 false false).check = false ∧
    (live.tb.sync 5000 0 false false).check ∧
    (let s : State := { live with cc := 2 * 10 ^ 6 }; s.tb.lost = false ∧ s.pins.pwrAck = false ∧ 1000000 * nsUnit ≤ (s.cc - s.tb.sinceCc) * s.tb.rate) ∧
    ({ live with tb := { live.tb with lost := true } } : State).tb.lost := by decide +kernel
theorem wit_TimeSnapshotsAndTrace_snap : live.blkPresent ∧ live.dbg.fireCc ≠ some live.cc ∧ State.reset.unitEn U.DBG = false ∧ live.unitEn U.DBG ∧ live.rb Reg.DBG_SNAP_STATUS_HELD = false ∧
    (live.setRf Reg.DBG_SNAP_STATUS_HELD 1).rb Reg.DBG_SNAP_STATUS_HELD ∧
    (let s := late { live with dbg := { live.dbg with beat := [0#64] } }; s.dbg.beat ≠ [] ∧ 1000 + s.dbg.beatGc ≤ s.gc) ∧ live.dbg.beat = [] := by decide +kernel
/-- No gc_sync for 1 ms is reported once (R72); a second firing while the snapshot is held is missed (R505). -/
theorem test_timebase_lost : (after .timebaseLost { live with cc := 2 * 10 ^ 6 }).ifm.intake.map (·.code) = [E.TIMEBASE_LOST.code] ∧
    (after .timebaseLost { live with cc := 10 ^ 6 }).ifm.intake = [] ∧ (after .snapTrigIn (live.setRf Reg.DBG_SNAP_STATUS_HELD 1)).rf Reg.DBG_SNAP_STATUS_MISSED = 1 := by decide +kernel

/-! ### Bring-up, power and test -/

/-- A block in a phase of its boot. -/
def booting (p : Nat) : State := State.reset.setPhase p
theorem wit_BootGoesStepByStep : (booting 0).phase = 0 ∧ (booting 0).pins.isoEn = false ∧ (booting 0).pins.rstCore = false ∧ (booting 0).pins.rstReg = false ∧ (booting 1).phase = 1 ∧
    (booting 1).rb Reg.THR_MBIST_STATUS_RUNNING = false ∧ (booting 1).thr.restart = false ∧ ({ booting 1 with thr := { State.reset.thr with restart := true } } : State).thr.restart ∧
    (booting 2).phase = 2 ∧ (booting 3).phase = 3 ∧ (booting 4).phase = 4 ∧
    ((booting 5).phase = 5 ∧ (booting 5).thr.mbist = false ∧ (booting 5).reg Reg.GLB_FW_VERSION_A = 0#32) := by decide +kernel
/-- An image of zeros fails its first check (R481); the boot starts with CLEAR (R480). -/
theorem wit_BootGoesStepByStep_verify : (booting 3).fwFault = some E.FW_FORMAT := by decide +kernel
theorem test_boot : (after .bootStart State.reset).phase = 1 ∧ (after .bootClearDone (booting 1)).phase = 2 ∧ (after .bootCopyDone (booting 2)).thr.mem = .rom ∧
    (after .bootVerifyDone (booting 3)).phase = 6 := by decide +kernel

theorem wit_PowerAndResets : ([ResetDom.core, .noc, .reg, .eng, .fab]).all (fun d => !live.pins.inReset d && ({ live with pins := live.pins.setReset d true } : State).pins.inReset d) := by
  decide +kernel
/-- The block quiesces; pwr_ack is high, with iso_en low or high. -/
def quiescing : State := live.setRf Reg.THR_PWR_STATUS_PSTATE 1
def quiesced (iso : Bool) : State := { live.setRf Reg.THR_PWR_STATUS_PSTATE 2 with pins := { live.pins with pwrReq := true, pwrAck := true, isoEn := iso } }
/-- The same with every unit off. -/
def resting : State := (quiescing.setRf Reg.GLB_UNIT_EN 1).setRf Reg.GLB_UNIT_STATUS_READY 1
theorem wit_PowerAndResets_quiesce : (let s := late (quiescing.setRf Reg.THR_CTRL_QUIESCE_US 1)
      s.rf Reg.THR_PWR_STATUS_PSTATE = 1 ∧ s.rf Reg.THR_CTRL_QUIESCE_US ≠ 0 ∧ s.thr.quiesceKilled = false ∧ s.thr.quiesceGc + 1000 * s.rf Reg.THR_CTRL_QUIESCE_US ≤ s.gc) ∧
    (resting.rf Reg.THR_PWR_STATUS_PSTATE = 1 ∧ resting.quiet) ∧ quiescing.quiet = false ∧ live.rf Reg.THR_PWR_STATUS_PSTATE = 0 ∧
    ((quiesced false).rf Reg.THR_PWR_STATUS_PSTATE = 2 ∧ (quiesced false).pins.isoEn = false) ∧ (quiesced true).pins.isoEn ∧ (quiesced true).pins.pwrAck ∧
    live.pins.pwrAck = false ∧ live.pins.coldReset = false ∧ ({ live with pins := live.pins.setReset .core true } : State).pins.coldReset := by decide +kernel
theorem wit_PowerAndResets_isolation : ((quiesced true).pins.isoEn ∧ (quiesced true).pins.coldReset = false ∧ (quiesced true).thr.surprise = false ∧ (quiesced true).thr.retained = false) ∧
    (let s : State := { quiesced true with thr := { live.thr with surprise := true } }; s.pins.coldReset = false ∧ s.thr.surprise) ∧
    (let s : State := { quiesced true with thr := { live.thr with retained := true } }; s.thr.surprise = false ∧ s.thr.retained) ∧ live.pins.isoEn = false := by decide +kernel
/-- pwr_ack rises once the block is quiet (R486); ret_en retains while it is high (R488). -/
theorem test_power : (after .quiesceDone resting).pins.pwrAck = true ∧ (after .quiesceDone quiescing).pins.pwrAck = false ∧ (after (.retEnChange true) (quiesced true)).thr.retained = true ∧
    (after (.retEnChange true) (quiesced false)).thr.retained = false := by decide +kernel

theorem wit_TapInstructionsAreCarriedOut : live.pins.isoEn = false ∧ (live.setRf Reg.GLB_UNIT_EN 1).tapFree ∧ live.tapFree = false ∧ tapSupported 0x1E = false ∧ (quiesced true).pins.isoEn ∧
    ((live.setRf Reg.THR_MBIST_STATUS_RUNNING 1).rb Reg.THR_MBIST_STATUS_RUNNING) ∧ live.rb Reg.THR_MBIST_STATUS_RUNNING = false := by decide +kernel
/-- EXTEST is refused while a unit is enabled, and selects BYPASS (R494); MBIST ends in CLEAR (R496). -/
theorem test_tap : (after (.tapExtest []) live).tap.ir = (after (.tapBypass 0x1F#5) live).tap.ir ∧ (after .trst live).tap.ir = 2 ∧
    (after (.mbistDone (some 63)) (live.setRf Reg.THR_MBIST_STATUS_RUNNING 1)).phase = 1 := by decide +kernel

/-! ### Three rules word for word -/

theorem wit_UnlockKeyArmsAndOtherValuesDisarm : live.Inv ∧ live.portLive = true := ⟨⟨rfl, by decide +kernel, by decide +kernel, by decide +kernel⟩, by decide +kernel⟩
/-- Cluster 0 has link 3 of class 0 with a credit. -/
theorem wit_LinkWithMostCreditsIsTaken : (dealing 0).bestLink 0 0 = some 3 ∧ 3 / 16 = 0 ∧ (dealing 0).selectable 3 ∧ ((dealing 0).link 3).cls = 0 ∧ 0 < (dealing 0).dealCredits 3 := by decide +kernel
/-- Layers with CAP_MODE 0 and 1. -/
def layered (mode : Nat) : State := live.setRow (layerRow 0 5) (mkRec 16 [(Rl.CAP_MODE, mode), (Rl.EXPERTS, 8), (Rl.K, 2), (Rl.CAPACITY, 320), (Rl.LIST_MAX, 100)])
theorem wit_CapacityOfALayer : (layered 0).lay 0 5 Rl.CAP_MODE = 0 ∧ (layered 1).lay 0 5 Rl.CAP_MODE = 1 ∧ (layered 1).lay 0 5 Rl.EXPERTS ≠ 0 := by decide +kernel
/-- 320 × 10 × 2 ÷ (256 × 8) = 3.125, rounded up (R227). -/
theorem test_capacity : (layered 1).capacity ⟨7, 0, 0, 0, 0, [(10, true), (4, false)], [], 0, 0⟩ 5 = 4 ∧ (layered 0).capacity ⟨7, 0, 0, 0, 0, [(10, true)], [], 0, 0⟩ 5 = 100 := by decide +kernel

end Sys2Proof.Tests
end

section
/-! PROOFS. The choice of a link (R125): the greatest of a list by a key, the links that a slice may take, and the link that it takes. -/

namespace Sys2Proof.Machine

/-! ### The greatest of a list by a key -/

/-- The model's choice of a greatest element is Mathlib's, so that Mathlib's facts about it hold here. -/
theorem maxBy_eq_argmax {α : Type} (key : α → Nat) (l : List α) : maxBy key l = l.argmax key := by
  induction l with
  | nil => rfl
  | cons x xs ih =>
    rw [maxBy, ih, List.argmax_cons]
    cases List.argmax key xs <;> rfl

theorem mem_of_maxBy_eq_some {α : Type} {key : α → Nat} {l : List α} {m : α} (h : maxBy key l = some m) : m ∈ l :=
  List.argmax_mem (maxBy_eq_argmax key l ▸ h)

theorem key_le_of_maxBy_eq_some {α : Type} {key : α → Nat} {l : List α} {m a : α} (h : maxBy key l = some m)
    (ha : a ∈ l) : key a ≤ key m :=
  List.le_of_mem_argmax ha (maxBy_eq_argmax key l ▸ h)

theorem exists_maxBy_eq_some_of_mem {α : Type} {key : α → Nat} {l : List α} {a : α} (ha : a ∈ l) :
    ∃ m, maxBy key l = some m := by
  rw [← Option.ne_none_iff_exists', maxBy_eq_argmax, ne_eq, List.argmax_eq_none]
  exact List.ne_nil_of_mem ha

/-- The choice is the first of the greatest, which in a rising list is the lowest of them. -/
theorem maxBy_le_of_key_eq {key : Nat → Nat} {l : List Nat} {m a : Nat} (hl : l.SortedLT) (h : maxBy key l = some m)
    (ha : a ∈ l) (he : key a = key m) : m ≤ a := by
  have hm : m ∈ l := mem_of_maxBy_eq_some h
  have hi : l.idxOf m ≤ l.idxOf a := List.index_of_argmax (maxBy_eq_argmax key l ▸ h) ha he.ge
  calc m = l[l.idxOf m]'(List.idxOf_lt_length_of_mem hm) := (List.getElem_idxOf _).symm
    _ ≤ l[l.idxOf a]'(List.idxOf_lt_length_of_mem ha) := hl.getElem_le_getElem_iff.2 hi
    _ = a := List.getElem_idxOf _

/-! ### The links that a slice may take in a cluster -/

/-- A cluster has the sixteen links whose number divided by 16 is its own. -/
theorem mem_clusterLinks {i c : Nat} : i ∈ (List.range 16).map (· + 16 * c) ↔ i / 16 = c := by
  simp only [List.mem_map, List.mem_range]
  constructor
  · rintro ⟨j, hj, rfl⟩
    omega
  · exact fun h => ⟨i % 16, by omega, by omega⟩

@[simp] theorem State.mem_dealLinks {s : State} {c cls i : Nat} :
    i ∈ s.dealLinks c cls ↔ i / 16 = c ∧ s.selectable i ∧ (s.link i).cls = cls ∧ 0 < s.dealCredits i := by
  simp [State.dealLinks, List.mem_filter, mem_clusterLinks, and_assoc, -List.mem_map]

theorem State.sortedLT_dealLinks (s : State) (c cls : Nat) : (s.dealLinks c cls).SortedLT := by
  have hrise : ((List.range 16).map (· + 16 * c)).Pairwise (· < ·) :=
    List.pairwise_lt_range.map _ fun _ _ h => Nat.add_lt_add_right h _
  exact (hrise.filter _).sortedLT

/-! ### The link that it takes -/

/-- Settles O59: the link taken is the first greatest by free credits of the rising list of the links that may be taken (R125). -/
theorem linkWithMostCreditsIsTaken : Obligations.LinkWithMostCreditsIsTaken := by
  intro s c cls
  refine ⟨fun i hi => ?_, fun k hc hs hcls hcr => ?_⟩
  · obtain ⟨hc, hs, hcls, hcr⟩ := State.mem_dealLinks.1 (mem_of_maxBy_eq_some hi)
    refine ⟨hc, hs, hcls, hcr, fun k hkc hks hkcls hkcr => ?_⟩
    have hk : k ∈ s.dealLinks c cls := State.mem_dealLinks.2 ⟨hkc, hks, hkcls, hkcr⟩
    exact ⟨key_le_of_maxBy_eq_some hi hk, maxBy_le_of_key_eq (s.sortedLT_dealLinks c cls) hi hk⟩
  · exact exists_maxBy_eq_some_of_mem (State.mem_dealLinks.2 ⟨hc, hs, hcls, hcr⟩)

end Sys2Proof.Machine
end

section
/-! PROOFS. The capacity of a layer in a step (R227): the quotient rounded up, the live tokens, and the capacity in terms of both. -/

namespace Sys2Proof.Machine

/-- The model's integer quotient is exact: no rounding happens before the last step. -/
theorem ceilDiv_eq_natCeil {b : Nat} (a : Nat) (hb : b ≠ 0) : ceilDiv a b = ⌈(a : ℚ) / (b : ℚ)⌉₊ := by
  have hpos : 0 < b := Nat.pos_of_ne_zero hb
  refine eq_of_forall_ge_iff fun c => ?_
  calc ceilDiv a b ≤ c ↔ a ≤ b * c := ceilDiv_le_iff_le_mul hpos
    _ ↔ (a : ℚ) / b ≤ c := by rw [div_le_iff₀' (Nat.cast_pos.2 hpos)]; norm_cast
    _ ↔ ⌈(a : ℚ) / b⌉₊ ≤ c := Nat.ceil_le.symm

/-- T_live of R227: the tokens of the rows that are live in the snapshot. -/
def EraStep.liveTokens (x : EraStep) : Nat := ((x.rows.filter fun r => r.2).map fun r => r.1).sum

/-- The model's sum, in which a row that is not live counts nothing, is the sum over the live rows. -/
theorem EraStep.liveTokens_eq_foldl (x : EraStep) :
    x.liveTokens = (x.rows.map fun r => if r.2 then r.1 else 0).foldl (· + ·) 0 := by
  rw [← List.sum_eq_foldl, List.sum_map_ite]
  simp [EraStep.liveTokens]

theorem State.capacity_eq (s : State) (x : EraStep) (l : Nat) :
    s.capacity x l = min
      (if s.lay x.part l Rl.CAP_MODE = 0 then s.lay x.part l Rl.CAPACITY
        else ceilDiv (s.lay x.part l Rl.CAPACITY * x.liveTokens * s.lay x.part l Rl.K) (256 * s.lay x.part l Rl.EXPERTS))
      (s.lay x.part l Rl.LIST_MAX) := by
  rw [EraStep.liveTokens_eq_foldl]
  rfl

/-- Settles O60: CAP_MODE chooses the case of the capacity, and its quotient rounded up is the exact one (R227). -/
theorem capacityOfALayer : Obligations.CapacityOfALayer := by
  intro s x l live
  refine ⟨fun hmode => ?_, fun hmode hexperts => ?_⟩
  · rw [State.capacity_eq, if_pos hmode]
  · have hmode0 : s.lay x.part l Rl.CAP_MODE ≠ 0 := by omega
    have hdiv : 256 * s.lay x.part l Rl.EXPERTS ≠ 0 := by omega
    rw [State.capacity_eq, if_neg hmode0, ceilDiv_eq_natCeil _ hdiv]
    rfl

end Sys2Proof.Machine
end

section
/-! PROOFS. GLB_UNLOCK (R463): a register field that is written, a write that the register port carries out, what ARMED reads as, and what the key and any other value do. -/

namespace Sys2Proof.Machine

/-! ### A register field that is written -/

/-- A field that lies in a word reads, once written, as the low bits that were written (R11). -/
theorem wget_wput {hi lo : Nat} (hhi : hi < 32) (hlo : lo ≤ hi) (w : Word) (v : Nat) :
    wget (wput w hi lo v) hi lo = v % 2 ^ (hi + 1 - lo) := by
  refine Nat.eq_of_testBit_eq fun i => ?_
  rw [wget, bits, Nat.testBit_mod_two_pow, Nat.testBit_mod_two_pow, Nat.testBit_div_two_pow, BitVec.testBit_toNat]
  by_cases hi' : i < hi + 1 - lo
  · have hin : i + lo < 32 := by omega
    have hi32 : i < 32 := by omega
    have hbit (n : Nat) : (BitVec.ofNat 32 n)[i] = n.testBit i := by
      rw [← BitVec.getLsbD_eq_getElem, BitVec.getLsbD_ofNat, decide_eq_true hi32, Bool.true_and]
    simp [wput, hi', hin, hbit, Nat.testBit_two_pow_sub_one]
  · simp [hi']

theorem State.rf_setRf {s : State} (hs : s.Inv) {f : RF} (hhi : f.hi < 32) (hlo : f.lo ≤ f.hi) (v : Nat) :
    (s.setRf f v).rf f = v % 2 ^ (f.hi + 1 - f.lo) := by
  rw [State.rf, State.setRf, State.reg_setReg hs.regs, if_pos rfl, wget_wput hhi hlo]

/-- A flag is set by a write of 1. -/
theorem State.rb_setRf_one {s : State} (hs : s.Inv) {f : RF} (hhi : f.hi < 32) (hlo : f.lo ≤ f.hi) :
    (s.setRf f 1).rb f = true := by
  have hone : 1 < 2 ^ (f.hi + 1 - f.lo) := Nat.one_lt_two_pow (by omega)
  rw [State.rb, State.rf_setRf hs hhi hlo, Nat.mod_eq_of_lt hone]
  rfl

@[simp] theorem State.emit_rb (s : State) (o : Output) (f : RF) : (s.emit o).rb f = s.rb f := by
  simp [State.rb, State.rf, State.reg]

/-! ### A write that the register port carries out -/

theorem State.unlatch_inv {s : State} (hs : s.Inv) : s.unlatch.Inv :=
  (State.unlatch_keep (msk := 272) rfl (Keep.refl s)).inv hs

theorem State.regInput_of_portLive {s : State} (hp : s.portLive) (i : Instr) (f : State → State) :
    s.regInput i f = (f s.unlatch).ack := by
  simp only [State.portLive, Bool.and_eq_true, Bool.not_eq_true'] at hp
  obtain ⟨⟨hpresent, hreplaying⟩, hholds⟩ := hp
  simp [State.regInput, hpresent, hreplaying, hholds, State.regDone, State.ack]

theorem exec_glbUnlockWrite_of_portLive {s : State} (hp : s.portLive) (data : BitVec 32) :
    exec (.glbUnlockWrite data) s = .next (s.unlatch.unlockWrite data).ack :=
  congrArg Host.Outcome.next (State.regInput_of_portLive hp _ _)

/-! ### The unlock -/

/-- ARMED reads 1 in the cc in which the unlock was armed and in the 64 cc after it, and 0 otherwise (R463, R464). -/
theorem State.regView_unlock_armed (s : State) :
    wget (s.regView Reg.GLB_UNLOCK_A) 16 16 = b2n (s.glb.armedCc.any fun c => decide (s.cc < c + 65)) := by
  have hview : s.regView Reg.GLB_UNLOCK_A = packW [(16, b2n (s.glb.armedCc.any fun c => decide (s.cc < c + 65)))] := by
    have hrow : (regRow? s.build Reg.GLB_UNLOCK_A).isNone = false := rfl
    rw [State.regView, hrow]
    cases h : s.glb.armedCc <;> rw [State.viewGlb, h] <;> rfl
  rw [hview]
  cases s.glb.armedCc.any fun c => decide (s.cc < c + 65) <;> rfl

theorem State.regView_unlock_armed_of_now {s : State} (h : s.glb.armedCc = some s.cc) :
    wget (s.regView Reg.GLB_UNLOCK_A) 16 16 = 1 := by
  simp [State.regView_unlock_armed, h, b2n]

theorem State.regView_unlock_armed_of_none {s : State} (h : s.glb.armedCc = none) :
    wget (s.regView Reg.GLB_UNLOCK_A) 16 16 = 0 := by
  simp [State.regView_unlock_armed, h, b2n]

theorem State.armedCc_unlockWrite_key (s : State) : (s.unlockWrite 0x5EED#32).glb.armedCc = some (s.unlockWrite 0x5EED#32).cc := by
  simp [State.unlockWrite]

theorem State.armedCc_unlockWrite_of_ne {d : Word} (hd : d ≠ 0x5EED#32) (s : State) : (s.unlockWrite d).glb.armedCc = none := by
  simp [State.unlockWrite, hd]

theorem State.badKey_unlockWrite_of_ne {s : State} (hs : s.Inv) {d : Word} (hd : d ≠ 0x5EED#32) :
    (s.unlockWrite d).rb Reg.GLB_STICKY_BAD_KEY = true := by
  have hset : (s.setRf Reg.GLB_STICKY_BAD_KEY 1).rb Reg.GLB_STICKY_BAD_KEY = true :=
    State.rb_setRf_one hs (by decide) (by decide)
  rw [State.unlockWrite, if_neg hd]
  exact hset

/-- Settles O58: the write is carried out at once; its acknowledgement leaves the unlock, the cc and BAD_KEY as the write left them (R463). -/
theorem unlockKeyArmsAndOtherValuesDisarm : Obligations.UnlockKeyArmsAndOtherValuesDisarm := by
  intro s data hinv hlive
  have hexec := exec_glbUnlockWrite_of_portLive hlive data
  refine ⟨fun hkey => ?_, fun hother => ?_⟩
  · subst hkey
    have harmed : (s.unlatch.unlockWrite 0x5EED#32).ack.glb.armedCc = some (s.unlatch.unlockWrite 0x5EED#32).ack.cc := by
      simpa [State.ack] using s.unlatch.armedCc_unlockWrite_key
    exact ⟨_, hexec, harmed, State.regView_unlock_armed_of_now harmed⟩
  · have hdisarmed : (s.unlatch.unlockWrite data).ack.glb.armedCc = none := by
      simpa [State.ack] using s.unlatch.armedCc_unlockWrite_of_ne hother
    have hbad : (s.unlatch.unlockWrite data).ack.rb Reg.GLB_STICKY_BAD_KEY = true := by
      simpa [State.ack] using State.badKey_unlockWrite_of_ne (State.unlatch_inv hinv) hother
    exact ⟨_, hexec, hdisarmed, State.regView_unlock_armed_of_none hdisarmed, hbad⟩

end Sys2Proof.Machine
end

section
/-! PROOFS. The machine as a whole: what every command keeps, which parts it may change, that it answers, and the core cycle. -/

namespace Sys2Proof.Machine

/-! ### Sets of parts as the bits of `Keep` -/

/-- The set of a list of parts, in the bits of `Keep`. -/
def Part.mask : List Part → Nat
  | [] => 0
  | p :: ps => 2 ^ p.ctorIdx ||| mask ps

theorem Part.ctorIdx_injective : Function.Injective Part.ctorIdx :=
  Function.LeftInverse.injective Part.ofNat_ctorIdx

theorem Part.testBit_mask (p : Part) (ps : List Part) : (Part.mask ps).testBit p.ctorIdx = decide (p ∈ ps) := by
  induction ps with
  | nil => simp [Part.mask]
  | cons q ps ih =>
    rw [Part.mask, Nat.testBit_or, ih, Nat.testBit_two_pow]
    simp [Part.ctorIdx_injective.eq_iff, eq_comm]

/-- A part that is not in the set of a `Keep` is the one before. -/
theorem Keep.same_of_not_mem {ps : List Part} {s t : State} (h : Keep (Part.mask ps) s t) {p : Part} (hp : p ∉ ps) : s.same t p := by
  have hbit : (Part.mask ps).testBit p.ctorIdx = false := by simp [Part.testBit_mask, hp]
  cases p with
  | cc => exact h.cc hbit
  | tb => exact h.tb hbit
  | cyc => exact h.cyc hbit
  | pins => exact h.pins hbit
  | regs => exact h.regs hbit
  | shf => exact h.shf hbit
  | sram => exact h.sram hbit
  | ecc => exact h.ecc hbit
  | glb => exact h.glb hbit
  | mm => exact h.mm hbit
  | fe => exact h.fe hbit
  | gs => exact h.gs hbit
  | dr => exact h.dr hbit
  | ds => exact h.ds hbit
  | sm => exact h.sm hbit
  | mh => exact h.mh hbit
  | st => exact h.st hbit
  | era => exact h.era hbit
  | bg => exact h.bg hbit
  | psc => exact h.psc hbit
  | dc => exact h.dc hbit
  | pau => exact h.pau hbit
  | ifm => exact h.ifm hbit
  | dbg => exact h.dbg hbit
  | thr => exact h.thr hbit
  | tap => exact h.tap hbit
  | fab => exact h.fab hbit
  | eps => exact h.eps hbit
  | free => exact h.free hbit

/-! ### Every command -/

/-- The keep lemmas of all commands: each changes no part but those listed for it. -/
theorem exec_keep (c : Instr) (s : State) : KeepO (Part.mask (partsOf c)) s (exec c s) := by
  cases c <;> dsimp only [partsOf, exec]
  case registerWrite => exact execRegisterWrite_keep rfl (Keep.refl s)
  case latchedLowRead => exact execLatchedLowRead_keep rfl (Keep.refl s)
  case glbUnlockWrite => exact execGlbUnlockWrite_keep rfl (Keep.refl s)
  case unlockExpired => exact execUnlockExpired_keep rfl (Keep.refl s)
  case glbUnitEnWrite => exact execGlbUnitEnWrite_keep rfl (Keep.refl s)
  case glbCrcRefWrite => exact execGlbCrcRefWrite_keep rfl (Keep.refl s)
  case unitReady => exact execUnitReady_keep rfl (Keep.refl s)
  case unitStopped => exact execUnitStopped_keep rfl (Keep.refl s)
  case tableWindowWrite => exact execTableWindowWrite_keep rfl (Keep.refl s)
  case routeLayerWrite => exact execRouteLayerWrite_keep rfl (Keep.refl s)
  case eraBankWrite => exact execEraBankWrite_keep rfl (Keep.refl s)
  case rxqEntryWrite => exact execRxqEntryWrite_keep rfl (Keep.refl s)
  case routeEntryWrite => exact execRouteEntryWrite_keep rfl (Keep.refl s)
  case sheafEntryWrite => exact execSheafEntryWrite_keep rfl (Keep.refl s)
  case stookEntryWrite => exact execStookEntryWrite_keep rfl (Keep.refl s)
  case saveSetWrite => exact execSaveSetWrite_keep rfl (Keep.refl s)
  case bgModelBankWrite => exact execBgModelBankWrite_keep rfl (Keep.refl s)
  case domainMapWrite => exact execDomainMapWrite_keep rfl (Keep.refl s)
  case doorbellWrite => exact execDoorbellWrite_keep rfl (Keep.refl s)
  case doorbellProcess => exact execDoorbellProcess_keep rfl (Keep.refl s)
  case mmReadData => exact execMmReadData_keep rfl (Keep.refl s)
  case mmWriteCompletion => exact execMmWriteCompletion_keep rfl (Keep.refl s)
  case dlPresentRise => exact execDlPresentRise_keep rfl (Keep.refl s)
  case dlPresentFall => exact execDlPresentFall_keep rfl (Keep.refl s)
  case linkupStart => exact execLinkupStart_keep rfl (Keep.refl s)
  case linkupReply => exact execLinkupReply_keep rfl (Keep.refl s)
  case linkupTimeout => exact execLinkupTimeout_keep rfl (Keep.refl s)
  case linkupReoffer => exact execLinkupReoffer_keep rfl (Keep.refl s)
  case dlIssCredit => exact execDlIssCredit_keep rfl (Keep.refl s)
  case completionArrive => exact execCompletionArrive_keep rfl (Keep.refl s)
  case completionDone => exact execCompletionDone_keep rfl (Keep.refl s)
  case completionDoneStat => exact execCompletionDoneStat_keep rfl (Keep.refl s)
  case completionFault => exact execCompletionFault_keep rfl (Keep.refl s)
  case completionKilled => exact execCompletionKilled_keep rfl (Keep.refl s)
  case completionSpawn => exact execCompletionSpawn_keep rfl (Keep.refl s)
  case ctrlAck => exact execCtrlAck_keep rfl (Keep.refl s)
  case walkEdges => exact execWalkEdges_keep rfl (Keep.refl s)
  case remoteEdgeSend => exact execRemoteEdgeSend_keep rfl (Keep.refl s)
  case semPost => exact execSemPost_keep rfl (Keep.refl s)
  case taskIssue => exact execTaskIssue_keep rfl (Keep.refl s)
  case taskTimeout => exact execTaskTimeout_keep rfl (Keep.refl s)
  case killTimeout => exact execKillTimeout_keep rfl (Keep.refl s)
  case noEngineTimeout => exact execNoEngineTimeout_keep rfl (Keep.refl s)
  case linkCmdDrain => exact execLinkCmdDrain_keep rfl (Keep.refl s)
  case linkCmdSleep => exact execLinkCmdSleep_keep rfl (Keep.refl s)
  case linkCmdPing => exact execLinkCmdPing_keep rfl (Keep.refl s)
  case linkCmdWake => exact execLinkCmdWake_keep rfl (Keep.refl s)
  case linkCmdRelink => exact execLinkCmdRelink_keep rfl (Keep.refl s)
  case spawnAccept => exact execSpawnAccept_keep rfl (Keep.refl s)
  case launchOp => exact execLaunchOp_keep rfl (Keep.refl s)
  case launchGraph => exact execLaunchGraph_keep rfl (Keep.refl s)
  case launchAt => exact execLaunchAt_keep rfl (Keep.refl s)
  case launchAccept => exact execLaunchAccept_keep rfl (Keep.refl s)
  case copyFinish => exact execCopyFinish_keep rfl (Keep.refl s)
  case waitsClear => exact execWaitsClear_keep rfl (Keep.refl s)
  case launchRelease => exact execLaunchRelease_keep rfl (Keep.refl s)
  case loadTemplate => exact execLoadTemplate_keep rfl (Keep.refl s)
  case templateCheckDone => exact execTemplateCheckDone_keep rfl (Keep.refl s)
  case patchTemplate => exact execPatchTemplate_keep rfl (Keep.refl s)
  case patchCommit => exact execPatchCommit_keep rfl (Keep.refl s)
  case freeTemplate => exact execFreeTemplate_keep rfl (Keep.refl s)
  case recordEvent => exact execRecordEvent_keep rfl (Keep.refl s)
  case waitEvent => exact execWaitEvent_keep rfl (Keep.refl s)
  case semOpAdd => exact execSemOpAdd_keep rfl (Keep.refl s)
  case semOpSub => exact execSemOpSub_keep rfl (Keep.refl s)
  case semOpWaitGe => exact execSemOpWaitGe_keep rfl (Keep.refl s)
  case semOpWaitGeSub => exact execSemOpWaitGeSub_keep rfl (Keep.refl s)
  case signalRemote => exact execSignalRemote_keep rfl (Keep.refl s)
  case fence => exact execFence_keep rfl (Keep.refl s)
  case queryTemplate => exact execQueryTemplate_keep rfl (Keep.refl s)
  case queryEvent => exact execQueryEvent_keep rfl (Keep.refl s)
  case queryLaunch => exact execQueryLaunch_keep rfl (Keep.refl s)
  case queryQueue => exact execQueryQueue_keep rfl (Keep.refl s)
  case querySemaphore => exact execQuerySemaphore_keep rfl (Keep.refl s)
  case eventCreate => exact execEventCreate_keep rfl (Keep.refl s)
  case eventDestroy => exact execEventDestroy_keep rfl (Keep.refl s)
  case contextCreate => exact execContextCreate_keep rfl (Keep.refl s)
  case destroyDrain => exact execDestroyDrain_keep rfl (Keep.refl s)
  case destroyKill => exact execDestroyKill_keep rfl (Keep.refl s)
  case contextFree => exact execContextFree_keep rfl (Keep.refl s)
  case queueReset => exact execQueueReset_keep rfl (Keep.refl s)
  case headGrant => exact execHeadGrant_keep rfl (Keep.refl s)
  case packetDecode => exact execPacketDecode_keep rfl (Keep.refl s)
  case pendingTakeEffect => exact execPendingTakeEffect_keep rfl (Keep.refl s)
  case shadowRecordWrite => exact execShadowRecordWrite_keep rfl (Keep.refl s)
  case eventCycleWalk => exact execEventCycleWalk_keep rfl (Keep.refl s)
  case headTimeout => exact execHeadTimeout_keep rfl (Keep.refl s)
  case waitTimeout => exact execWaitTimeout_keep rfl (Keep.refl s)
  case signalTimeout => exact execSignalTimeout_keep rfl (Keep.refl s)
  case thresherCommandStart => exact execThresherCommandStart_keep rfl (Keep.refl s)
  case seqAdmit => exact execSeqAdmit_keep rfl (Keep.refl s)
  case setClass => exact execSetClass_keep rfl (Keep.refl s)
  case hold => exact execHold_keep rfl (Keep.refl s)
  case unhold => exact execUnhold_keep rfl (Keep.refl s)
  case setMaxLen => exact execSetMaxLen_keep rfl (Keep.refl s)
  case setUser => exact execSetUser_keep rfl (Keep.refl s)
  case seqCancelSeq => exact execSeqCancelSeq_keep rfl (Keep.refl s)
  case seqCancelStep => exact execSeqCancelStep_keep rfl (Keep.refl s)
  case seqCancelAll => exact execSeqCancelAll_keep rfl (Keep.refl s)
  case winnowDone => exact execWinnowDone_keep rfl (Keep.refl s)
  case stepRunStart => exact execStepRunStart_keep rfl (Keep.refl s)
  case stepRunStop => exact execStepRunStop_keep rfl (Keep.refl s)
  case stepRunKvAdd => exact execStepRunKvAdd_keep rfl (Keep.refl s)
  case synthesisStart => exact execSynthesisStart_keep rfl (Keep.refl s)
  case stepLaunchSubmit => exact execStepLaunchSubmit_keep rfl (Keep.refl s)
  case boundaryPass => exact execBoundaryPass_keep rfl (Keep.refl s)
  case boundaryPassEnd => exact execBoundaryPassEnd_keep rfl (Keep.refl s)
  case routeJobStart => exact execRouteJobStart_keep rfl (Keep.refl s)
  case routeJobNotices => exact execRouteJobNotices_keep rfl (Keep.refl s)
  case routeJobDead => exact execRouteJobDead_keep rfl (Keep.refl s)
  case eraSwapBias => exact execEraSwapBias_keep rfl (Keep.refl s)
  case eraSwapSeed => exact execEraSwapSeed_keep rfl (Keep.refl s)
  case semCmdSet => exact execSemCmdSet_keep rfl (Keep.refl s)
  case semCmdClearFlags => exact execSemCmdClearFlags_keep rfl (Keep.refl s)
  case watchArm => exact execWatchArm_keep rfl (Keep.refl s)
  case watchCancel => exact execWatchCancel_keep rfl (Keep.refl s)
  case wakeBind => exact execWakeBind_keep rfl (Keep.refl s)
  case wakeBindingSleep => exact execWakeBindingSleep_keep rfl (Keep.refl s)
  case wakeCancel => exact execWakeCancel_keep rfl (Keep.refl s)
  case wakeTimeout => exact execWakeTimeout_keep rfl (Keep.refl s)
  case sheafArm => exact execSheafArm_keep rfl (Keep.refl s)
  case sheafDisarm => exact execSheafDisarm_keep rfl (Keep.refl s)
  case sheafClearFault => exact execSheafClearFault_keep rfl (Keep.refl s)
  case sheafTimeout => exact execSheafTimeout_keep rfl (Keep.refl s)
  case rxPop => exact execRxPop_keep rfl (Keep.refl s)
  case sendGo => exact execSendGo_keep rfl (Keep.refl s)
  case outPop => exact execOutPop_keep rfl (Keep.refl s)
  case granaryRefill => exact execGranaryRefill_keep rfl (Keep.refl s)
  case stookOpen => exact execStookOpen_keep rfl (Keep.refl s)
  case stookClose => exact execStookClose_keep rfl (Keep.refl s)
  case stookClearFault => exact execStookClearFault_keep rfl (Keep.refl s)
  case stookResultRetry => exact execStookResultRetry_keep rfl (Keep.refl s)
  case msgRemoteTimeout => exact execMsgRemoteTimeout_keep rfl (Keep.refl s)
  case fpPresentRise => exact execFpPresentRise_keep rfl (Keep.refl s)
  case fpLinkup => exact execFpLinkup_keep rfl (Keep.refl s)
  case fpCreditReturn => exact execFpCreditReturn_keep rfl (Keep.refl s)
  case edgeDec => exact execEdgeDec_keep rfl (Keep.refl s)
  case signal => exact execSignal_keep rfl (Keep.refl s)
  case sheafArrive => exact execSheafArrive_keep rfl (Keep.refl s)
  case sheafRelease => exact execSheafRelease_keep rfl (Keep.refl s)
  case msg => exact execMsg_keep rfl (Keep.refl s)
  case departLeave => exact execDepartLeave_keep rfl (Keep.refl s)
  case departLost => exact execDepartLost_keep rfl (Keep.refl s)
  case departJoin => exact execDepartJoin_keep rfl (Keep.refl s)
  case ack => exact execAck_keep rfl (Keep.refl s)
  case nack => exact execNack_keep rfl (Keep.refl s)
  case edgeDecResend => exact execEdgeDecResend_keep rfl (Keep.refl s)
  case remoteEdgeTimeout => exact execRemoteEdgeTimeout_keep rfl (Keep.refl s)
  case remoteStall => exact execRemoteStall_keep rfl (Keep.refl s)
  case domainLeave => exact execDomainLeave_keep rfl (Keep.refl s)
  case domainLeaveSend => exact execDomainLeaveSend_keep rfl (Keep.refl s)
  case domainJoin => exact execDomainJoin_keep rfl (Keep.refl s)
  case pmBudget => exact execPmBudget_keep rfl (Keep.refl s)
  case pmMeas => exact execPmMeas_keep rfl (Keep.refl s)
  case pmLendAck => exact execPmLendAck_keep rfl (Keep.refl s)
  case budgetEpochBoundary => exact execBudgetEpochBoundary_keep rfl (Keep.refl s)
  case regulatorRefill => exact execRegulatorRefill_keep rfl (Keep.refl s)
  case bgModelSwap => exact execBgModelSwap_keep rfl (Keep.refl s)
  case spillStart => exact execSpillStart_keep rfl (Keep.refl s)
  case restoreStart => exact execRestoreStart_keep rfl (Keep.refl s)
  case glStart => exact execGlStart_keep rfl (Keep.refl s)
  case glEpochBoundary => exact execGlEpochBoundary_keep rfl (Keep.refl s)
  case replayStall => exact execReplayStall_keep rfl (Keep.refl s)
  case ckptCmd => exact execCkptCmd_keep rfl (Keep.refl s)
  case tagWindowCheck => exact execTagWindowCheck_keep rfl (Keep.refl s)
  case enclaveLock => exact execEnclaveLock_keep rfl (Keep.refl s)
  case enclaveLockDone => exact execEnclaveLockDone_keep rfl (Keep.refl s)
  case teardown => exact execTeardown_keep rfl (Keep.refl s)
  case teardownScrub => exact execTeardownScrub_keep rfl (Keep.refl s)
  case teardownDone => exact execTeardownDone_keep rfl (Keep.refl s)
  case atRequest => exact execAtRequest_keep rfl (Keep.refl s)
  case listRebuildDone => exact execListRebuildDone_keep rfl (Keep.refl s)
  case patrolPassEnd => exact execPatrolPassEnd_keep rfl (Keep.refl s)
  case crcPassEnd => exact execCrcPassEnd_keep rfl (Keep.refl s)
  case sliceWatchdog => exact execSliceWatchdog_keep rfl (Keep.refl s)
  case sliceRejoin => exact execSliceRejoin_keep rfl (Keep.refl s)
  case thresherHeartbeat => exact execThresherHeartbeat_keep rfl (Keep.refl s)
  case thresherRestartDone => exact execThresherRestartDone_keep rfl (Keep.refl s)
  case gleanerIntake => exact execGleanerIntake_keep rfl (Keep.refl s)
  case gleanerEntryClose => exact execGleanerEntryClose_keep rfl (Keep.refl s)
  case gleanerWriteRetry => exact execGleanerWriteRetry_keep rfl (Keep.refl s)
  case captureClrFirst => exact execCaptureClrFirst_keep rfl (Keep.refl s)
  case captureClrLast => exact execCaptureClrLast_keep rfl (Keep.refl s)
  case captureClrWorst => exact execCaptureClrWorst_keep rfl (Keep.refl s)
  case gcSync => exact execGcSync_keep rfl (Keep.refl s)
  case timebaseLost => exact execTimebaseLost_keep rfl (Keep.refl s)
  case snapTrigIn => exact execSnapTrigIn_keep rfl (Keep.refl s)
  case snapFire => exact execSnapFire_keep rfl (Keep.refl s)
  case snapRelease => exact execSnapRelease_keep rfl (Keep.refl s)
  case ctrClear => exact execCtrClear_keep rfl (Keep.refl s)
  case traceMark => exact execTraceMark_keep rfl (Keep.refl s)
  case traceBeatTimeout => exact execTraceBeatTimeout_keep rfl (Keep.refl s)
  case bootStart => exact execBootStart_keep rfl (Keep.refl s)
  case bootClearDone => exact execBootClearDone_keep rfl (Keep.refl s)
  case bootCopyDone => exact execBootCopyDone_keep rfl (Keep.refl s)
  case bootVerifyDone => exact execBootVerifyDone_keep rfl (Keep.refl s)
  case bootMeasureDone => exact execBootMeasureDone_keep rfl (Keep.refl s)
  case firmwareStart => exact execFirmwareStart_keep rfl (Keep.refl s)
  case resetAssert => exact execResetAssert_keep rfl (Keep.refl s)
  case resetRelease => exact execResetRelease_keep rfl (Keep.refl s)
  case pwrReqRise => exact execPwrReqRise_keep rfl (Keep.refl s)
  case quiesceTimeout => exact execQuiesceTimeout_keep rfl (Keep.refl s)
  case quiesceDone => exact execQuiesceDone_keep rfl (Keep.refl s)
  case pwrReqFall => exact execPwrReqFall_keep rfl (Keep.refl s)
  case isoEnRise => exact execIsoEnRise_keep rfl (Keep.refl s)
  case isoEnFall => exact execIsoEnFall_keep rfl (Keep.refl s)
  case retEnChange => exact execRetEnChange_keep rfl (Keep.refl s)
  case tapExtest => exact execTapExtest_keep rfl (Keep.refl s)
  case tapSamplePreload => exact execTapSamplePreload_keep rfl (Keep.refl s)
  case tapIdcode => exact execTapIdcode_keep rfl (Keep.refl s)
  case tapClamp => exact execTapClamp_keep rfl (Keep.refl s)
  case tapRegAccess => exact execTapRegAccess_keep rfl (Keep.refl s)
  case tapSnap => exact execTapSnap_keep rfl (Keep.refl s)
  case tapMbist => exact execTapMbist_keep rfl (Keep.refl s)
  case tapBypass => exact execTapBypass_keep rfl (Keep.refl s)
  case trst => exact execTrst_keep rfl (Keep.refl s)
  case mbistDone => exact execMbistDone_keep rfl (Keep.refl s)
  case fpPresentFall => exact execFpPresentFall_keep rfl (Keep.refl s)
  case departTimeout => exact execDepartTimeout_keep rfl (Keep.refl s)
  case ifmHbIncrement => exact execIfmHbIncrement_keep rfl (Keep.refl s)
  case patrolRead => exact execPatrolRead_keep rfl (Keep.refl s)
  case drRestartDone => exact execDrRestartDone_keep rfl (Keep.refl s)
  case tmplExtendDone => exact execTmplExtendDone_keep rfl (Keep.refl s)

/-- A command answers a next state in every branch of its meaning. -/
theorem exec_answers (c : Instr) (s : State) : ∃ t, exec c s = .next t := by
  cases c
  case doorbellWrite | doorbellProcess | mmReadData | remoteEdgeSend | semPost | launchAccept | copyFinish | waitsClear |
    launchRelease | loadTemplate | templateCheckDone | patchTemplate | patchCommit | freeTemplate | waitEvent | signalRemote |
    fence | queryTemplate | queryEvent | queryLaunch | queryQueue | querySemaphore | eventCreate | eventDestroy | packetDecode |
    pendingTakeEffect | shadowRecordWrite | eventCycleWalk | headTimeout | waitTimeout | signalTimeout | thresherCommandStart |
    seqAdmit | seqCancelSeq | seqCancelStep | seqCancelAll | winnowDone | stepRunStart | stepRunStop | stepRunKvAdd |
    synthesisStart | stepLaunchSubmit | boundaryPass | boundaryPassEnd | routeJobStart | routeJobNotices | routeJobDead |
    wakeBindingSleep | wakeTimeout | sheafTimeout | stookResultRetry | msgRemoteTimeout | fpCreditReturn | edgeDecResend |
    remoteEdgeTimeout | remoteStall | pmBudget | pmMeas | budgetEpochBoundary | regulatorRefill | spillStart | restoreStart |
    glEpochBoundary | enclaveLockDone | teardownScrub | teardownDone | atRequest | gleanerEntryClose | gleanerWriteRetry | gcSync
    | resetAssert | resetRelease | isoEnFall | departTimeout | tmplExtendDone =>
    simp only [exec, execDoorbellWrite, execDoorbellProcess, execMmReadData, execRemoteEdgeSend, execSemPost, execLaunchAccept,
      execCopyFinish, execWaitsClear, execLaunchRelease, execLoadTemplate, execTemplateCheckDone, execPatchTemplate,
      execPatchCommit, execFreeTemplate, execWaitEvent, execSignalRemote, execFence, execQueryTemplate, execQueryEvent,
      execQueryLaunch, execQueryQueue, execQuerySemaphore, execEventCreate, execEventDestroy, execPacketDecode,
      execPendingTakeEffect, execShadowRecordWrite, execEventCycleWalk, execHeadTimeout, execWaitTimeout, execSignalTimeout,
      execThresherCommandStart, execSeqAdmit, execSeqCancelSeq, execSeqCancelStep, execSeqCancelAll, execWinnowDone,
      execStepRunStart, execStepRunStop, execStepRunKvAdd, execSynthesisStart, execStepLaunchSubmit, execBoundaryPass,
      execBoundaryPassEnd, execRouteJobStart, execRouteJobNotices, execRouteJobDead, execWakeBindingSleep, execWakeTimeout,
      execSheafTimeout, execStookResultRetry, execMsgRemoteTimeout, execFpCreditReturn, execEdgeDecResend, execRemoteEdgeTimeout,
      execRemoteStall, execPmBudget, execPmMeas, execBudgetEpochBoundary, execRegulatorRefill, execSpillStart, execRestoreStart,
      execGlEpochBoundary, execEnclaveLockDone, execTeardownScrub, execTeardownDone, execAtRequest, execGleanerEntryClose,
      execGleanerWriteRetry, execGcSync, execResetAssert, execResetRelease, execIsoEnFall, execDepartTimeout, execTmplExtendDone]
    repeat' split
    all_goals exact ⟨_, rfl⟩
  all_goals exact ⟨_, rfl⟩

/-! ### The core cycle -/

/-- A core cycle counts one cc, unless the clock stands still in RETAINED (R485). -/
theorem State.tick_cc (s : State) : s.tick.cc = if s.thr.retained && s.pins.retEn then s.cc else s.cc + 1 := by
  have hend : s.ccEnd.cc = s.cc := (State.ccEnd_keep (msk := 148635348) rfl (Keep.refl s)).cc rfl
  have hrun : Keep 215744220 s.ccEnd.ccNext s.ccEnd.ccNext.ccBegin.ccDrain.traceDrain.flowControl.settleCredits :=
    State.settleCredits_keep rfl (State.flowControl_keep rfl (State.traceDrain_keep rfl
      (State.ccDrain_keep rfl (State.ccBegin_keep rfl (Keep.refl _)))))
  unfold State.tick
  by_cases hret : s.thr.retained = true ∧ s.pins.retEn = true
  · simp [hret]
  · have hcc : s.ccEnd.ccNext.cc = s.cc + 1 := congrArg (· + 1) hend
    rw [if_neg hret, hrun.cc rfl, hcc, if_neg (by simpa using hret)]

/-! ### The statements -/

/-- Settles O1: a step takes the command that the queue begins with. -/
theorem stepRunsTheFrontCommand : Obligations.StepRunsTheFrontCommand := by
  intro s c rest hpending
  simp only [step, hpending]

/-- Settles O2: the keep lemma of the core cycle, and its count of one cc. -/
theorem stepOnAnEmptyQueuePassesACycle : Obligations.StepOnAnEmptyQueuePassesACycle := by
  intro s hpending
  have hkeep : Keep 215744223 s s.tick := State.tick_keep rfl (Keep.refl s)
  exact ⟨s.tick, by simp only [step, hpending], hkeep.pending.trans hpending, hkeep.build, hkeep.out, s.tick_cc⟩

theorem step_answers (s : State) : ∃ t, step s = .next t := by
  unfold step
  split
  · exact ⟨_, rfl⟩
  · exact exec_answers _ _

/-- Settles O3: by induction on the length of the run, since every command answers a next state. -/
theorem everyRunIsSafe : Obligations.EveryRunIsSafe := by
  refine ⟨exec_answers, fun k => ?_⟩
  induction k with
  | zero => exact fun _ => trivial
  | succ k ih =>
    intro s
    obtain ⟨t, ht⟩ := step_answers s
    exact ⟨t, ht, ih t⟩

/-- Settles O4: after reset the tables are empty, which is a canonical form. -/
theorem resetIsSound : Obligations.ResetIsSound :=
  ⟨rfl, rfl, rfl, rfl⟩

/-- Settles O5: soundness does not look at the queue, and both kinds of step keep it. -/
theorem everyStepKeepsSoundness : Obligations.EveryStepKeepsSoundness := by
  intro s t hinv hstep
  unfold step at hstep
  split at hstep
  · obtain rfl : s.tick = t := by simpa using hstep
    exact (State.tick_keep (msk := 215744223) rfl (Keep.refl s)).inv hinv
  next c rest _ =>
    have hrest : ({ s with pending := rest } : State).Inv := ⟨hinv.build, hinv.regs, hinv.shf, hinv.sram⟩
    exact (exec_keep c _ t hstep).inv hrest

/-- Settles O6: what the keep lemma of each command says of the queue, the build, the cc and the outputs. -/
theorem commandsKeepQueueBuildAndOutputs : Obligations.CommandsKeepQueueBuildAndOutputs := by
  intro c s t hexec
  have hkeep := exec_keep c s t hexec
  exact ⟨hkeep.pending, hkeep.build, hkeep.ccLe, hkeep.out⟩

/-- Settles O7: a part that is not listed is not in the set of the command's keep lemma. -/
theorem everyCommandKeepsItsFrame : Obligations.EveryCommandKeepsItsFrame := by
  intro c s t p hexec hp
  exact (exec_keep c s t hexec).same_of_not_mem hp

end Sys2Proof.Machine
end

section
/-! PROOFS. How an input enters: it is ignored while it is not seen, held in grain-locked epochs, and else applied (R39, R79, R378); and
what a `Keep` says of the readings of pins and registers. -/

namespace Sys2Proof.Machine

/-- Commands that answer a next state answer alike when the states are the same. -/
theorem next_congr {s t : State} (h : s = t) : (.next s : Host.Outcome State Fault Refusal) = .next t :=
  congrArg _ h

/-! ### Readings that a `Keep` leaves alone -/

section Keep
variable {m : Nat} {s t : State}

theorem Keep.rf_eq (h : Keep m s t) (hm : m.testBit 4 = false) (f : RF) : t.rf f = s.rf f := by
  simp only [State.rf, State.reg, h.regs hm, h.build]

theorem Keep.rb_eq (h : Keep m s t) (hm : m.testBit 4 = false) (f : RF) : t.rb f = s.rb f := by
  simp only [State.rb, h.rf_eq hm]

theorem Keep.portOn_eq (h : Keep m s t) (hm : m.testBit 3 = false) (d : ResetDom) : t.portOn d = s.portOn d := by
  simp only [State.portOn, h.pins hm]

end Keep

/-! ### The register port -/

section Absent
variable {s : State} (h : s.blkPresent = false)
include h

/-- While blk_present is low a write is not answered (R39). -/
theorem State.regInput_of_absent (i : Instr) (f : State → State) : s.regInput i f = s := by
  simp [State.regInput, h]

theorem State.regRead_of_absent (i : Instr) (a : Nat) (f : State → State × Word) : s.regRead i a f = s := by
  simp [State.regRead, h]

theorem State.dbgInput_of_absent (f : State → State) : s.dbgInput f = s := by
  simp [State.dbgInput, h]

theorem State.portWriteReq_of_absent (i : Instr) (a : Nat) (d : Word) : s.portWriteReq i a d = s := by
  simp [State.portWriteReq, h]

theorem State.portReadReq_of_absent (a : Nat) : s.portReadReq a = s := by
  simp [State.portReadReq, h]

end Absent

theorem State.dbgInput_of_present {s : State} (h : s.blkPresent) (f : State → State) : s.dbgInput f = (f s.unlatch).ack := by
  simp [State.dbgInput, h, State.regDone, State.ack]

/-- A command of the register port that is carried out at once, from what it does to the state that the access finds. -/
theorem next_regInput {s t : State} (hp : s.portLive) {i : Instr} {f : State → State} (h : f s.unlatch = t) :
    (.next (s.regInput i f) : Host.Outcome State Fault Refusal) = .next t.ack :=
  next_congr ((State.regInput_of_portLive hp i f).trans (congrArg State.ack h))

/-- The same of a command that grain-locked mode does not hold. -/
theorem next_dbgInput {s t : State} (hp : s.blkPresent) {f : State → State} (h : f s.unlatch = t) :
    (.next (s.dbgInput f) : Host.Outcome State Fault Refusal) = .next t.ack :=
  next_congr ((State.dbgInput_of_present hp f).trans (congrArg State.ack h))

theorem State.regInput_of_holds {s : State} (h : s.blkPresent) (hr : s.replaying = false) (hh : s.holds) (i : Instr)
    (f : State → State) : s.regInput i f = s.hold i := by
  simp [State.regInput, h, hr, hh]

theorem State.regRead_of_holds {s : State} (h : s.blkPresent) (hr : s.replaying = false) (hh : s.holds) (i : Instr) (a : Nat)
    (f : State → State × Word) : s.regRead i a f = s.hold i := by
  simp [State.regRead, h, hr, hh]

/-! ### The inputs of a clock domain -/

theorem State.input_of_portOff {s : State} {d : ResetDom} (h : s.portOn d = false) (i : Instr) (f : State → State) :
    s.input d i f = s := by
  simp [State.input, h]

theorem State.input_of_holds {s : State} {d : ResetDom} (h : s.portOn d) (hh : s.holds) (i : Instr) (f : State → State) :
    s.input d i f = s.hold i := by
  simp [State.input, h, hh]

theorem State.input_of_live {s : State} {d : ResetDom} (h : s.inputLive d) (i : Instr) (f : State → State) :
    s.input d i f = f s := by
  obtain ⟨hon, hh⟩ : s.portOn d = true ∧ s.holds = false := by simpa [State.inputLive] using h
  simp [State.input, hon, hh]

theorem next_input {s t : State} {d : ResetDom} (hin : s.inputLive d) {i : Instr} {f : State → State} (h : f s = t) :
    (.next (s.input d i f) : Host.Outcome State Fault Refusal) = .next t :=
  next_congr ((State.input_of_live hin i f).trans h)

/-! ### The flits of the fabric port -/

theorem State.flitInput_of_portOff {s : State} (h : s.portOn .fab = false) (i : Instr) (rep : Bool) (ok : Nat → Bool)
    (fs : List (List Word)) (f : State → State) : s.flitInput i rep ok fs f = s := by
  simp [State.flitInput, h]

theorem State.flitInput_of_down {s : State} (h : s.fab.up = false) (i : Instr) (rep : Bool) (ok : Nat → Bool)
    (fs : List (List Word)) (f : State → State) : s.flitInput i rep ok fs f = s := by
  simp [State.flitInput, h]

/-- The counting of flits and the return of their credits touch neither pins nor registers. -/
theorem State.arrived_keep (s : State) (rep : Bool) (fs : List (List Word)) (n : Nat) :
    Keep (2 ^ 26 + 2 ^ 6) s ((fs.foldl (fun s f => s.fabBytes f) s).returnCredit rep n) :=
  State.returnCredit_keep rfl (keep_foldl (Keep.refl s) fun _ _ h => State.fabBytes_keep rfl h)

/-- What the flits of a message do is looked at only in the state that has counted them. -/
theorem State.arriveFlits_congr {s : State} {rep : Bool} {fs : List (List Word)} {f g : State → State}
    (h : ∀ n, let t := (fs.foldl (fun s f => s.fabBytes f) s).returnCredit rep n; f t = g t) :
    s.arriveFlits rep fs f = s.arriveFlits rep fs g := by
  simp only [State.arriveFlits, h]

/-- A flit of the row's own TYPE, on a link that is up. -/
theorem State.flitInput_of_up {s : State} (hon : s.portOn .fab) (hup : s.fab.up) {ok : Nat → Bool} {fs : List (List Word)}
    (hne : fs ≠ []) (hok : ok (fld (fs.headD []) Fl.TYPE)) (i : Instr) (rep : Bool) (f : State → State) :
    s.flitInput i rep ok fs f = s.arriveFlits rep fs fun s => (s.input .fab i f).settleCredits := by
  simp [State.flitInput, hon, hup, hne, hok, -List.headD_eq_head?_getD]

theorem State.flitInput_of_holds {s : State} (hon : s.portOn .fab) (hup : s.fab.up) (hh : s.holds) {ok : Nat → Bool}
    {fs : List (List Word)} (hne : fs ≠ []) (hok : ok (fld (fs.headD []) Fl.TYPE)) (i : Instr) (rep : Bool) (f : State → State) :
    s.flitInput i rep ok fs f = s.arriveFlits rep fs fun s => (s.hold i).settleCredits := by
  rw [State.flitInput_of_up hon hup hne hok]
  refine State.arriveFlits_congr fun n => ?_
  have hkeep := s.arrived_keep rep fs n
  have hon' := (hkeep.portOn_eq rfl .fab).trans hon
  have hh' := (hkeep.rb_eq rfl Reg.DC_STATUS_RUNNING).trans hh
  exact congrArg State.settleCredits (State.input_of_holds hon' hh' i f)

/-! ### The statement -/

theorem next_of_blkPresent_low {s : State} (h : s.blkPresent = false) :
    (∀ i f, (.next (s.regInput i f) : Host.Outcome State Fault Refusal) = .next s) ∧
    (∀ i a f, (.next (s.regRead i a f) : Host.Outcome State Fault Refusal) = .next s) ∧
    (∀ f, (.next (s.dbgInput f) : Host.Outcome State Fault Refusal) = .next s) ∧
    ∀ i a d, (.next (s.portWriteReq i a d) : Host.Outcome State Fault Refusal) = .next s :=
  ⟨fun i f => next_congr (State.regInput_of_absent h i f), fun i a f => next_congr (State.regRead_of_absent h i a f),
    fun f => next_congr (State.dbgInput_of_absent h f), fun i a d => next_congr (State.portWriteReq_of_absent h i a d)⟩

/-- Settles O8: how each kind of input enters while blk_present is low, while its port is not seen, and while grain-locked epochs run. -/
theorem absentClampedAndHeldInputs : Obligations.AbsentClampedAndHeldInputs := by
  refine ⟨fun s h => ?_, fun s => ?_, fun s hh => ?_⟩
  · obtain ⟨hcmd, hpop, hdbg, hwrite⟩ := next_of_blkPresent_low h
    exact ⟨fun _ _ => hwrite _ _ _, fun _ => next_congr (State.portReadReq_of_absent h _), fun _ _ => hwrite _ _ _, fun _ _ => hwrite _ _ _,
      fun _ => hcmd _ _, fun _ => hcmd _ _, hcmd _ _, fun _ => hcmd _ _, fun _ => hcmd _ _, hcmd _ _,
      hcmd _ _, fun _ => hcmd _ _, fun _ => hpop _ _ _, fun _ => hcmd _ _, fun _ => hcmd _ _, hcmd _ _, hcmd _ _, fun _ => hcmd _ _,
      hdbg _, hcmd _ _, fun _ => hcmd _ _, fun _ => hdbg _⟩
  · have hin {d : ResetDom} (h : s.portOn d = false) (i : Instr) (f : State → State) := next_congr (State.input_of_portOff h i f)
    have hflit (h : s.portOn .fab = false) (i : Instr) (rep ok fs f) := next_congr (State.flitInput_of_portOff h i rep ok fs f)
    refine ⟨fun h tag st last data => ?_, fun h _ _ => hin h _ _, fun h addr data => ?_, fun h _ _ _ => next_congr (if_neg (by simp [h])),
      fun h _ => next_congr (if_neg (by simp [h])), fun h f => ⟨hin h _ _, hflit h _ _ _ _ _, hflit h _ _ _ _ _, hflit h _ _ _ _ _,
        hflit h _ _ _ _ _, hflit h _ _ _ _ _, hflit h _ _ _ _ _, hflit h _ _ _ _ _, hflit h _ _ _ _ _, hflit h _ _ _ _ _⟩,
      fun h _ => hflit h _ _ _ _ _, fun h _ _ => if_pos (by simp [h]), fun h _ _ _ => if_pos (by simp [h]), fun h _ _ => if_pos (by simp [h]),
      fun h _ => if_pos (by simp [h]), fun h => next_congr (if_neg (by simp [h]))⟩
    · simp only [exec, execMmReadData, h, State.input_of_portOff h]
      rw [if_neg (by simp)]
    · simp [exec, execDoorbellWrite, State.input_of_portOff h]
  · refine ⟨fun h _ _ => next_congr (State.input_of_holds h hh _ _), fun hon hup f => ?_, fun h link => ?_, fun hp hr => ?_, fun hr hon _ _ => ?_⟩
    · have hflit {i : Instr} {rep : Bool} {ok : Nat → Bool} {g : State → State} (hok : ok (fld f Fl.TYPE)) :=
        next_congr (State.flitInput_of_holds hon hup hh (fs := [f]) (List.cons_ne_nil _ _) hok i rep g)
      exact ⟨fun ht => hflit (by simp [ht]), fun ht => hflit (by simp [ht]), fun ht => hflit (by simp [ht]),
        fun ht hk => hflit (by simp [ht, hk, isDepart])⟩
    · have hkeep : Keep 8192 s (s.setPresentPin link true) := State.setPresentPin_keep rfl (Keep.refl s)
      exact next_congr (State.input_of_holds ((hkeep.portOn_eq rfl .eng).trans h) ((hkeep.rb_eq rfl Reg.DC_STATUS_RUNNING).trans hh) _ _)
    · have hcmd := fun i f => next_congr (State.regInput_of_holds hp hr hh i f)
      exact ⟨hcmd _ _, fun _ => hcmd _ _, fun _ => next_congr (State.regRead_of_holds hp hr hh _ _ _), fun _ => hcmd _ _⟩
    · have hkeep : Keep 0 s (s.emit .pmBudAck) := State.emit_keep rfl (Keep.refl s)
      have hon' := (hkeep.portOn_eq rfl .reg).trans hon
      have hr' : (s.emit .pmBudAck).replaying = false := (hkeep.rb_eq rfl Reg.DC_STATUS_REPLAYING).trans hr
      have hh' : (s.emit .pmBudAck).holds = true := (hkeep.rb_eq rfl Reg.DC_STATUS_RUNNING).trans hh
      simp [exec, execPmBudget, hon, hr', State.input_of_holds hon' hh']

end Sys2Proof.Machine
end

section
/-! PROOFS. The register port: writes, reads and their latch, the pops, and the unlock of the LK registers (R40, R41, R423, R457, R460, R463 to R467). -/

namespace Sys2Proof.Machine

/-! ### Accesses -/

theorem State.blkPresent_of_portLive {s : State} (hp : s.portLive) : s.blkPresent := by
  simp only [State.portLive, Bool.and_eq_true] at hp
  exact hp.1.1

/-- An aligned write that is taken at once is carried out and acknowledged, for the DBG and the DC as for every other page (R40). -/
theorem State.portWriteReq_of_portLive {s : State} (hp : s.portLive) (i : Instr) {a : Nat} (ha : a % 4 = 0) (d : Word) :
    s.portWriteReq i a d = (s.unlatch.portWrite a d).ack := by
  simp [State.portWriteReq, State.blkPresent_of_portLive hp, ha, State.regInput_of_portLive hp, State.regDone, State.ack]

/-- A misaligned write draws rp_err (R41). -/
theorem State.portWriteReq_of_misaligned {s : State} (h : s.blkPresent) (i : Instr) {a : Nat} (ha : a % 4 ≠ 0) (d : Word) :
    s.portWriteReq i a d = s.emit (.rpAck none true) := by
  simp [State.portWriteReq, h, ha]

theorem State.portReadReq_of_misaligned {s : State} (h : s.blkPresent) {a : Nat} (ha : a % 4 ≠ 0) :
    s.portReadReq a = s.emit (.rpAck none true) := by
  simp [State.portReadReq, h, ha]

/-- A read of a word that is no pop goes by the latch (R460). -/
theorem State.portReadReq_of_noPop {s : State} (h : s.blkPresent) {a : Nat} (ha : a % 4 = 0)
    (hrx : s.popAt (Reg.CW_RX_POP_A 0) a = none) (hout : s.popAt (Reg.CW_OUT_POP_A 0) a = none) :
    s.portReadReq a = (s.expireUnlock.latchedRead a).1.emit (.rpAck (some (s.expireUnlock.latchedRead a).2) false) := by
  simp [State.portReadReq, h, ha, hrx, hout]

/-- Where a read with an effect finds its word does not matter to a port that carries it out at once. -/
theorem State.regRead_of_portLive {s : State} (hp : s.portLive) (i : Instr) (a : Nat) (f : State → State × Word) :
    s.regRead i a f = s.readDone f := by
  simp only [State.portLive, Bool.and_eq_true, Bool.not_eq_true'] at hp
  obtain ⟨⟨hpresent, hreplaying⟩, hholds⟩ := hp
  simp [State.regRead, hpresent, hreplaying, hholds]

/-! ### Reads by the latch (R460) -/

/-- A word without a mark is read as it stands. -/
theorem State.readWord_of_noEcc {s : State} (h : s.ecc = []) (a : Nat) : s.readWord a = (s, s.liveWord a) := by
  simp [State.readWord, h]

/-- The word that a read answers while no word carries a mark: the one latched for its address, or the word as it stands. -/
def State.latchedWord (s : State) (a : Nat) : Word :=
  match s.glb.latch with
  | some (k, w) => if k = latchKey a then w else s.liveWord a
  | none => s.liveWord a

theorem State.latchedRead_of_noEcc {s : State} (h : s.ecc = []) (a : Nat) : s.latchedRead a =
    ({ s with glb := { s.glb with latch := if latches a then some (latchKey a + 4, s.liveWord (a + 4)) else none } }, s.latchedWord a) := by
  have hread := State.readWord_of_noEcc h
  unfold State.latchedRead State.latchedWord
  rcases s.glb.latch with _ | ⟨k, w⟩
  · by_cases hl : latches a <;> simp [hl, hread]
  · by_cases hk : k = latchKey a <;> by_cases hl : latches a <;> simp [hk, hl, hread]

/-! ### The unlock (R463 to R465) -/

theorem State.expireUnlock_of_none {s : State} (h : s.glb.armedCc = none) : s.expireUnlock = s := by
  simp [State.expireUnlock, h]

theorem State.expireUnlock_of_armed {s : State} {c : Nat} (h : s.glb.armedCc = some c) (hc : s.cc < c + 65) : s.expireUnlock = s := by
  simp [State.expireUnlock, h, Nat.not_le.2 hc]

theorem State.expireUnlock_of_due {s : State} {c : Nat} (h : s.glb.armedCc = some c) (hc : c + 65 ≤ s.cc) :
    s.expireUnlock = { s.setRf Reg.GLB_STICKY_UNLOCK_EXPIRED 1 with glb := { s.glb with armedCc := none } } := by
  simp [State.expireUnlock, h, hc]

theorem State.expireUnlock_parts (s : State) : Keep (2 ^ 4 + 2 ^ 8) s s.expireUnlock :=
  State.expireUnlock_keep rfl (Keep.refl s)

/-- An armed unlock admits a write of an LK field and is used up (R464). -/
theorem State.lkWrite_of_armed {s : State} {c : Nat} (h : s.glb.armedCc = some c) (hc : s.cc < c + 65) (f : State → State) :
    s.unlatch.lkWrite f = f { s with glb := ⟨none, none⟩ } := by
  have hu : s.unlatch = { s with glb := { s.glb with latch := none } } := by
    rw [State.unlatch, State.expireUnlock_of_armed h hc]
  have hexp : s.unlatch.expireUnlock = s.unlatch := State.expireUnlock_of_armed (c := c) (by rw [hu]; exact h) (by rw [hu]; exact hc)
  rw [State.lkWrite, hexp, hu]
  simp [h]

/-- Without the unlock a write of an LK field is ignored (R465). -/
theorem State.lkWrite_of_none {s : State} (h : s.glb.armedCc = none) (f : State → State) :
    s.unlatch.lkWrite f = ({ s with glb := { s.glb with latch := none } } : State).setRf Reg.GLB_STICKY_LK_IGNORED 1 := by
  have hu : s.unlatch = { s with glb := { s.glb with latch := none } } := by
    rw [State.unlatch, State.expireUnlock_of_none h]
  have hexp : s.unlatch.expireUnlock = s.unlatch := State.expireUnlock_of_none (by rw [hu]; exact h)
  rw [State.lkWrite, hexp, hu]
  simp [h]

/-! ### The statements -/

/-- Settles O9: how an access is carried out, what a read finds, and that a pop is the pop of its core. -/
theorem registerPortWritesAndReads : Obligations.RegisterPortWritesAndReads := by
  refine ⟨fun s addr data hp ha => next_congr (State.portWriteReq_of_portLive hp _ ha data),
    fun s addr data h ha => next_congr (State.portWriteReq_of_misaligned h _ ha data),
    fun s addr h ha => next_congr (State.portReadReq_of_misaligned h ha), fun s addr h ha hrx hout => ⟨?_, fun hecc => ?_⟩,
    fun s addr c hp ha hrx => ?_, fun s addr c hp ha hrx hout => ?_, fun s key mask data => ?_⟩
  · exact next_congr (State.portReadReq_of_noPop h ha hrx hout)
  · have hecc' : s.expireUnlock.ecc = [] := (s.expireUnlock_parts.ecc rfl).trans hecc
    have hread := State.portReadReq_of_noPop h ha hrx hout
    rw [State.latchedRead_of_noEcc hecc'] at hread
    exact next_congr hread
  · have hpop : s.portReadReq addr.toNat = s.readDone fun s => (s.popTurn c).rxPop c := by
      simp [State.portReadReq, State.blkPresent_of_portLive hp, ha, hrx, State.regRead_of_portLive hp]
    exact next_congr (hpop.trans (State.regRead_of_portLive hp _ _ _).symm)
  · have hpop : s.portReadReq addr.toNat = s.readDone fun s => s.outPop c := by
      simp [State.portReadReq, State.blkPresent_of_portLive hp, ha, hrx, hout, State.regRead_of_portLive hp]
    exact next_congr (hpop.trans (State.regRead_of_portLive hp _ _ _).symm)
  · simp [State.putWord, State.setRam]

/-- Settles O10: the unlock armed, disarmed, lapsed, used up, and missing. -/
theorem unlockArmsAdmitsAndLapses : Obligations.UnlockArmsAdmitsAndLapses := by
  refine ⟨fun s data hp hd => ?_, fun s data hp hd => ?_, fun s c h hc => next_congr (State.expireUnlock_of_due h hc),
    fun s data c hp h hc => ?_, fun s data hp h => ?_⟩
  · have hcc : s.unlatch.cc = s.cc := s.expireUnlock_parts.cc rfl
    rw [exec_glbUnlockWrite_of_portLive hp, State.unlockWrite, if_pos hd, ← hcc]
  · rw [exec_glbUnlockWrite_of_portLive hp, State.unlockWrite, if_neg hd]
  · exact ⟨next_regInput hp (State.lkWrite_of_armed h hc _), next_regInput hp (State.lkWrite_of_armed h hc _)⟩
  · exact ⟨next_regInput hp (State.lkWrite_of_none h _), next_regInput hp (State.lkWrite_of_none h _)⟩

end Sys2Proof.Machine
end

section
/-! PROOFS. Units: the bits of a number and of a word, the enables and disables of GLB_UNIT_EN, READY and STOPPING (R18, R19, R467, R484). -/

namespace Sys2Proof.Machine

/-! ### Bits -/

theorem bit_eq_testBit (v i : Nat) : bit v i = v.testBit i := by
  rw [bit, Nat.testBit_eq_decide_div_mod_eq]
  rfl

/-- A number around bit `i`: what stands above it, the bit, and what stands below it. -/
theorem setBit_eq (v i : Nat) (b : Bool) : setBit v i b = 2 ^ i * (2 * (v / 2 ^ i / 2) + b2n b) + v % 2 ^ i := by
  have hv := Nat.div_add_mod v (2 ^ i)
  obtain ⟨k, hk⟩ : ∃ k, v / 2 ^ i / 2 = k := ⟨_, rfl⟩
  rcases Nat.mod_two_eq_zero_or_one (v / 2 ^ i) with h | h
  · have hq : v / 2 ^ i = 2 * k := by omega
    rw [hq] at hv
    cases b <;> simp [setBit, bit, h, hk, b2n, Nat.mul_add] <;> omega
  · have hq : v / 2 ^ i = 2 * k + 1 := by omega
    rw [hq, Nat.mul_add] at hv
    cases b <;> simp [setBit, bit, h, hk, b2n, Nat.mul_add] <;> omega

theorem testBit_setBit (v i j : Nat) (b : Bool) : (setBit v i b).testBit j = if j = i then b else v.testBit j := by
  have hlow : v % 2 ^ i < 2 ^ i := Nat.mod_lt _ (Nat.two_pow_pos i)
  rw [setBit_eq, Nat.testBit_two_pow_mul_add _ hlow]
  rcases Nat.lt_trichotomy j i with h | rfl | h
  · rw [if_pos h, if_neg h.ne, Nat.testBit_mod_two_pow]
    simp [h]
  · cases b <;> simp [b2n]
  · obtain ⟨k, rfl⟩ : ∃ k, j = i + 1 + k := ⟨j - (i + 1), by omega⟩
    have hb : b2n b ≤ 1 := by cases b <;> decide
    have hhigh : (2 * (v / 2 ^ i / 2) + b2n b) / 2 = v / 2 ^ i / 2 := by omega
    rw [if_neg (by omega), if_neg (by omega), show i + 1 + k - i = k + 1 by omega, Nat.testBit_succ, hhigh, Nat.div_div_eq_div_mul,
      ← Nat.pow_succ, Nat.testBit_div_two_pow, Nat.add_comm]

theorem bit_setBit (v i j : Nat) (b : Bool) : bit (setBit v i b) j = if j = i then b else bit v j := by
  rw [bit_eq_testBit, bit_eq_testBit, testBit_setBit]

theorem bit_mod_two_pow {n i : Nat} (h : i < n) (v : Nat) : bit (v % 2 ^ n) i = bit v i := by
  rw [bit_eq_testBit, bit_eq_testBit, Nat.testBit_mod_two_pow, decide_eq_true h, Bool.true_and]

/-- A field that is written leaves the fields beside it alone (R11). -/
theorem wget_wput_of_disjoint {hi lo hi' lo' : Nat} (hhi' : hi' < 32) (h : hi < lo' ∨ hi' < lo) (w : Word) (v : Nat) :
    wget (wput w hi lo v) hi' lo' = wget w hi' lo' := by
  refine Nat.eq_of_testBit_eq fun i => ?_
  rw [wget, wget, bits, bits, Nat.testBit_mod_two_pow, Nat.testBit_mod_two_pow, Nat.testBit_div_two_pow, Nat.testBit_div_two_pow,
    BitVec.testBit_toNat, BitVec.testBit_toNat]
  by_cases hi' : i < hi' + 1 - lo'
  · have hin : i + lo' < 32 := by omega
    have hbit (n k : Nat) (hk : k < 32) : (BitVec.ofNat 32 n)[k] = n.testBit k := by
      rw [← BitVec.getLsbD_eq_getElem, BitVec.getLsbD_ofNat, decide_eq_true hk, Bool.true_and]
    by_cases hbelow : i + lo' < lo
    · simp [wput, hi', hin, hbelow]
    · have habove : ¬ i + lo' - lo < hi + 1 - lo := by omega
      simp [wput, hi', hin, hbelow, hbit, Nat.testBit_two_pow_sub_one, habove]
  · simp [hi']

/-! ### Register fields -/

theorem State.setRf_inv {s : State} (hs : s.Inv) (f : RF) (v : Nat) : (s.setRf f v).Inv :=
  (State.setRf_keep (msk := 16) rfl (Keep.refl s)).inv hs

theorem State.rf_setRf_of_addr_ne {s : State} (hs : s.Inv) {f g : RF} (h : g.addr ≠ f.addr) (v : Nat) :
    (s.setRf f v).rf g = s.rf g := by
  rw [State.rf, State.setRf, State.reg_setReg hs.regs, if_neg h, State.rf]

theorem State.rf_setRf_of_disjoint {s : State} (hs : s.Inv) {f g : RF} (ha : g.addr = f.addr) (hhi : g.hi < 32)
    (h : f.hi < g.lo ∨ g.hi < f.lo) (v : Nat) : (s.setRf f v).rf g = s.rf g := by
  rw [State.rf, State.setRf, State.reg_setReg hs.regs, if_pos ha, wget_wput_of_disjoint hhi h, ← ha, State.rf]

/-! ### Enabling and disabling (R18, R19) -/

/-- Writing a unit's bit of GLB_UNIT_EN. -/
theorem State.unitEn_setRf {s : State} (hs : s.Inv) {v : Nat} (hv : v < 16) (n : Nat) :
    (s.setRf Reg.GLB_UNIT_EN n).unitEn v = bit n v := by
  rw [State.unitEn, State.rf_setRf hs (by decide) (by decide)]
  exact bit_mod_two_pow hv n

theorem State.bit_ready_setRf {s : State} (hs : s.Inv) {v : Nat} (hv : v < 16) (n : Nat) :
    bit ((s.setRf Reg.GLB_UNIT_STATUS_READY n).rf Reg.GLB_UNIT_STATUS_READY) v = bit n v := by
  rw [State.rf_setRf hs (by decide) (by decide)]
  exact bit_mod_two_pow hv n

theorem State.stopping_setRf {s : State} (hs : s.Inv) {v : Nat} (hv : v < 16) (n : Nat) :
    (s.setRf Reg.GLB_UNIT_STATUS_STOPPING n).stopping v = bit n v := by
  rw [State.stopping, State.rf_setRf hs (by decide) (by decide)]
  exact bit_mod_two_pow hv n

/-- READY and STOPPING stand side by side in one word. -/
theorem State.ready_setRf_stopping {s : State} (hs : s.Inv) (n : Nat) :
    (s.setRf Reg.GLB_UNIT_STATUS_STOPPING n).rf Reg.GLB_UNIT_STATUS_READY = s.rf Reg.GLB_UNIT_STATUS_READY :=
  State.rf_setRf_of_disjoint (f := Reg.GLB_UNIT_STATUS_STOPPING) (g := Reg.GLB_UNIT_STATUS_READY) hs rfl (by decide) (.inr (by decide)) n

theorem State.stopping_setRf_ready {s : State} (hs : s.Inv) (n v : Nat) :
    (s.setRf Reg.GLB_UNIT_STATUS_READY n).stopping v = s.stopping v :=
  congrArg (bit · v)
    (State.rf_setRf_of_disjoint (f := Reg.GLB_UNIT_STATUS_READY) (g := Reg.GLB_UNIT_STATUS_STOPPING) hs rfl (by decide) (.inl (by decide)) n)

/-- The state that a disable leaves before it ends what the unit did: EN and READY 0, STOPPING 1. -/
def State.unitLeaves (s : State) (u : Nat) : State :=
  let e := s.setRf Reg.GLB_UNIT_EN (setBit (s.rf Reg.GLB_UNIT_EN) u false)
  let r := e.setRf Reg.GLB_UNIT_STATUS_READY (setBit (e.rf Reg.GLB_UNIT_STATUS_READY) u false)
  r.setRf Reg.GLB_UNIT_STATUS_STOPPING (setBit (r.rf Reg.GLB_UNIT_STATUS_STOPPING) u true)

theorem State.disableUnit_of_free {s : State} {u : Nat} (hu : 0 < u) (hen : s.unitEn u = true) (huse : (unitUsers u).any s.unitEn = false) :
    s.disableUnit u = (s.unitLeaves u).unitEnds u := by
  rw [State.disableUnit, if_neg (by simp [hen]; omega), huse]
  rfl

theorem State.unitLeaves_bits {s : State} (hs : s.Inv) (u : Nat) {v : Nat} (hv : v < 16) :
    (s.unitLeaves u).unitEn v = (if v = u then false else s.unitEn v) ∧
    bit ((s.unitLeaves u).rf Reg.GLB_UNIT_STATUS_READY) v = (if v = u then false else bit (s.rf Reg.GLB_UNIT_STATUS_READY) v) ∧
    (s.unitLeaves u).stopping v = (if v = u then true else s.stopping v) := by
  let e := s.setRf Reg.GLB_UNIT_EN (setBit (s.rf Reg.GLB_UNIT_EN) u false)
  let r := e.setRf Reg.GLB_UNIT_STATUS_READY (setBit (e.rf Reg.GLB_UNIT_STATUS_READY) u false)
  have he : e.Inv := State.setRf_inv hs _ _
  have hr : r.Inv := State.setRf_inv he _ _
  have hready : e.rf Reg.GLB_UNIT_STATUS_READY = s.rf Reg.GLB_UNIT_STATUS_READY := State.rf_setRf_of_addr_ne hs (by decide) _
  have hren : r.rf Reg.GLB_UNIT_EN = e.rf Reg.GLB_UNIT_EN := State.rf_setRf_of_addr_ne he (by decide) _
  refine ⟨?_, ?_, ?_⟩
  · have hen : (s.unitLeaves u).unitEn v = e.unitEn v := congrArg (bit · v) ((State.rf_setRf_of_addr_ne hr (by decide) _).trans hren)
    rw [hen, State.unitEn_setRf hs hv, bit_setBit, State.unitEn]
  · have hrd : (s.unitLeaves u).rf Reg.GLB_UNIT_STATUS_READY = r.rf Reg.GLB_UNIT_STATUS_READY := State.ready_setRf_stopping hr _
    rw [hrd, State.bit_ready_setRf he hv, bit_setBit, hready]
  · rw [State.unitLeaves, State.stopping_setRf hr hv, bit_setBit]
    split
    · rfl
    · exact (State.stopping_setRf_ready he _ v).trans (congrArg (bit · v) (State.rf_setRf_of_addr_ne hs (by decide) _))

/-- A write of GLB_UNIT_EN that selects one unit acts on that unit alone (R467). -/
theorem unitEnWrite_selects : ∀ u < 16, 0 < u →
    (let d : Word := BitVec.ofNat 32 (2 ^ (16 + u) + 2 ^ u)
     unitOrder.filter (fun v => bit (wget d 31 16) v && bit (wget d 15 0) v == true) = [u] ∧
     unitOrder.reverse.filter (fun v => bit (wget d 31 16) v && bit (wget d 15 0) v == false) = []) ∧
    (let d : Word := BitVec.ofNat 32 (2 ^ (16 + u))
     unitOrder.filter (fun v => bit (wget d 31 16) v && bit (wget d 15 0) v == true) = [] ∧
     unitOrder.reverse.filter (fun v => bit (wget d 31 16) v && bit (wget d 15 0) v == false) = [u]) := by
  decide +kernel

/-- Settles O11: the conditions of an enable and a disable, tried in the order of R19, and what READY and STOPPING wait for; that
enabling an enabled unit and disabling a disabled one change nothing is the model's choice (log entry 7). -/
theorem unitsAreEnabledReadyAndStopped : Obligations.UnitsAreEnabledReadyAndStopped := by
  refine ⟨fun s u hu hu16 => ?_, fun s u hu hen hready => ?_, fun s u hu hst huse hdone => ?_⟩
  · obtain ⟨⟨hsel, hnone⟩, hnone', hsel'⟩ := unitEnWrite_selects u hu16 hu
    have hu0 : u ≠ 0 := by omega
    refine ⟨fun hen hst hneeds => ?_, fun hen hst hneeds => ?_, fun hen hst => ?_, fun hen => ?_, fun hen huse => ?_, fun hs hen huse => ?_,
      ?_, ?_, fun hen => ?_⟩
    · simp [State.enableUnit, hu0, hen, hst, hneeds]
    · simp [State.enableUnit, hu0, hen, hst, hneeds]
    · simp [State.enableUnit, hu0, hen, hst]
    · simp [State.enableUnit, hen]
    · simp [State.disableUnit, hu0, hen, huse]
    · refine ⟨s.unitLeaves u, State.disableUnit_of_free hu hen huse, rfl, ?_, ?_, ?_, fun v hv hne => ?_⟩
      · simp [State.unitLeaves_bits hs u hu16]
      · simp [State.unitLeaves_bits hs u hu16]
      · simp [State.unitLeaves_bits hs u hu16]
      · simp [State.unitLeaves_bits hs u hv, hne]
    · simp only [State.unitEnWrite, hsel, hnone, List.foldl_cons, List.foldl_nil]
    · simp only [State.unitEnWrite, hsel', hnone', List.foldl_cons, List.foldl_nil]
    · simp [State.disableUnit, hen]
  · simp [exec, execUnitReady, Nat.mod_eq_of_lt hu, hen, hready]
  · simp [exec, execUnitStopped, Nat.mod_eq_of_lt hu, hst, huse, hdone]

end Sys2Proof.Machine
end

section
/-! PROOFS. Writes through the table windows: the rule that owns the row, and what each rule stores (R217, R224, R258, R273, R286, R291, R321,
R334, R353, R471). -/

namespace Sys2Proof.Machine

/-! ### The row that a window write reaches -/

/-- A write that reaches an open row is the write of the rule that owns its table. -/
theorem State.portWrite_of_windowOpen {s : State} {a tid w : Nat} (h : s.windowOpen a tid w) (d : Word) :
    (tid = 0x0A → s.portWrite a d = s.writeSheaf w d) ∧ (tid = 0x0B → s.portWrite a d = s.writeRxq w d) ∧
    (tid = 0x0C → s.portWrite a d = s.writeRoute w d) ∧ (tid = 0x0D → s.portWrite a d = s.writeStook w d) ∧
    (tid = 0x0E → s.portWrite a d = s.writeLayer w d) ∧ (tid = 0x10 → s.portWrite a d = s.writeBank 0x10 w d) ∧
    (tid = 0x13 → s.portWrite a d = s.putWord (ramKey 0x13 w) 0xFFFFFFFF#32 d) ∧
    (tid = 0x15 → s.portWrite a d = s.writeModel 0x15 w d) ∧ (tid = 0x19 → s.portWrite a d = s.writeSaveSet w d) ∧
    (tid = 0x1C → s.portWrite a d = s.writeMap w d) := by
  simp only [State.windowOpen, Bool.and_eq_true, decide_eq_true_eq] at h
  obtain ⟨⟨⟨⟨⟨hin, -⟩, hat⟩, hsize⟩, hrw⟩, hlock⟩ := h
  have hport : s.portWrite a d = s.writeTable tid w d := by
    rw [State.portWrite, if_pos hin, State.windowWrite, hat]
  have hreach : ¬ (s.tableSize tid ≤ 4 * w ∨ (!tableRw tid) = true) := by simp [hrw]; omega
  rw [hport]
  unfold State.writeTable
  rw [if_neg hreach]
  cases hpart : s.rowPart tid w with
  | none => refine ⟨?_, ?_, ?_, ?_, ?_, ?_, ?_, ?_, ?_, ?_⟩ <;> rintro rfl <;> rfl
  | some p =>
    have hopen : s.lockedOrLocking p = false := by simpa [hpart] using hlock
    simp only [hopen]
    refine ⟨?_, ?_, ?_, ?_, ?_, ?_, ?_, ?_, ?_, ?_⟩ <;> rintro rfl <;> rfl

/-- A window write is a write of the register port that is carried out and acknowledged. -/
theorem next_windowWrite {s t : State} {a tid w : Nat} {d : Word} (hp : s.portLive) (h : s.unlatch.windowOpen a tid w) {i : Instr}
    (ht : s.unlatch.portWrite a d = t) : (.next (s.portWriteReq i a d) : Host.Outcome State Fault Refusal) = .next t.ack := by
  have ha : a % 4 = 0 := by
    simp only [State.windowOpen, Bool.and_eq_true, decide_eq_true_eq] at h
    exact h.1.1.1.1.2
  rw [State.portWriteReq_of_portLive hp i ha, ht]

/-- Settles O12: each rule in the case that its conditions select; that a row in use leaves a write out without a report, that GR_BASE is
stored aligned and that clearing VALID drops the ring, and that BIAS_AUTO counts as in force, are the model's readings (log entries 113, 114
and 117). -/
theorem windowWritesAreHonouredWhileOpen : Obligations.WindowWritesAreHonouredWhileOpen := by
  refine ⟨fun s addr data w hp => ?_, fun s addr data w hp => ?_⟩
  · have hw {tid : Nat} (h : s.unlatch.windowOpen addr.toNat tid w) := State.portWrite_of_windowOpen h data
    refine ⟨fun h => ?_, fun h hst => ?_, fun h hst => ?_, fun h hst => ?_, fun h hst => ?_, fun h hi hst => ?_, fun h hst => ?_,
      fun h hm hb => ?_, fun h hm => ?_⟩ <;>
    refine next_windowWrite hp h ?_ <;> obtain ⟨hsheaf, -, -, hstook, hlayer, -, hplain, -, -, hmap⟩ := hw h
    · exact hplain rfl
    · rw [hsheaf rfl]; simp [State.writeSheaf, hst]
    · rw [hsheaf rfl]; simp [State.writeSheaf, hst]
    · rw [hstook rfl]; simp [State.writeStook, hst]
    · rw [hstook rfl]; simp [State.writeStook, hst]
    · rw [hlayer rfl]; simp [State.writeLayer, hst, hi]
    · rw [hlayer rfl]; simp [State.writeLayer, hst]
    · rw [hmap rfl]; simp [State.writeMap, hm, hb]
    · rw [hmap rfl]; simp [State.writeMap, hm]
  · have hw {tid : Nat} (h : s.unlatch.windowOpen addr.toNat tid w) := State.portWrite_of_windowOpen h data
    refine ⟨fun h hi hv hd hok => ?_, fun h hi hv => ?_, fun h hi hv => ?_, fun h hi hv hd => ?_, fun h hi hv => ?_, fun h hi hv hd => ?_,
      fun h hi hv => ?_, fun p h hpart ha hpend hcom hauto => ?_, fun p h hpart ha => ?_, fun h ha hpend => ?_, fun h ha => ?_,
      fun h hi hd hheld => ?_, fun h hi hheld => ?_⟩ <;>
    refine next_windowWrite hp h ?_ <;> obtain ⟨-, hrxq, hroute, -, -, hbank, -, hmodel, hsave, -⟩ := hw h
    · rw [hrxq rfl]; simp [State.writeRxq, hi, hv, hd, hok]
    · rw [hrxq rfl]; simp [State.writeRxq, hi, hv]
    · rw [hrxq rfl]; simp [State.writeRxq, hi, hv]
    · rw [hrxq rfl]; simp [State.writeRxq, hi, hv, hd]
    · rw [hrxq rfl]; simp [State.writeRxq, hi, hv]
    · rw [hroute rfl]; simp [State.writeRoute, hi, hv, hd]
    · rw [hroute rfl]; simp [State.writeRoute, hi, hv]
    · rw [hbank rfl]; simp [State.writeBank, hpart, ha, hpend, hcom, hauto]
    · rw [hbank rfl]; simp [State.writeBank, hpart, ha]
    · rw [hmodel rfl]; simp [State.writeModel, ha, hpend]
    · rw [hmodel rfl]; simp [State.writeModel, ha]
    · rw [hsave rfl]; simp [State.writeSaveSet, hi, hd, hheld]
    · rw [hsave rfl]; simp [State.writeSaveSet, hi, hheld]

end Sys2Proof.Machine
end

section
/-! PROOFS. Doorbells and the answers of the memory port (R43, R46, R47, R157, R398). -/

namespace Sys2Proof.Machine

/-! ### A doorbell that is checked (R157) -/

theorem exec_doorbellProcess_cons {s : State} {a d : Nat} {rest : List (Nat × Nat)} (h : s.fe.fifo = (a, d) :: rest) :
    exec .doorbellProcess s = .next (({ s with fe := { s.fe with fifo := rest } }).ring a d) := by
  simp [exec, execDoorbellProcess, h]

theorem State.ring_of_outside {s : State} {a : Nat} (h : a % 8 ≠ 0 ∨ s.build.ctxs ≤ a / 4096) (d : Nat) :
    s.ring a d = s.dropDoorbell none :=
  if_pos h

section Queue
variable {s : State} {a d : Nat} {u : Queue} (ha : a % 8 = 0) (hc : a / 4096 < s.build.ctxs)
  (hu : s.queue? (a / 4096) (a % 4096 / 8) = some u) (hact : (s.ctx (a / 4096)).cstate = 1)
include ha hc hu hact

theorem State.ring_of_gen_ne (hgen : bits d 63 52 ≠ (s.ctx (a / 4096)).gen) :
    s.ring a d = s.dropDoorbell (some (s.ctx (a / 4096)).part) := by
  simp [State.ring, ha, Nat.not_le.2 hc, hu, hact, hgen]

/-- A write index that names the queue of a live context: it counts only if it is newer, and then only within the ring. -/
theorem State.ring_of_sound (hgen : bits d 63 52 = (s.ctx (a / 4096)).gen) (hres : bits d 51 32 = 0) (hq : a % 4096 / 8 < 6) :
    s.ring a d =
      if !newer 32 (d % 2 ^ 32) u.write then s
      else if 2 ^ u.ringLog2 < (2 ^ 32 + d % 2 ^ 32 - u.read) % 2 ^ 32 then s.faultWith (a / 4096) u.q E.DOORBELL_RANGE
      else if u.state = .empty then (s.updQueue (a / 4096) u.q fun u => { u with write := d % 2 ^ 32 }).makePending (a / 4096) u.q
      else (s.updQueue (a / 4096) u.q fun u => { u with write := d % 2 ^ 32 }).fetchMore (a / 4096) u.q := by
  simp [State.ring, ha, Nat.not_le.2 hc, hu, hact, hgen, hres, Nat.not_le.2 hq]

end Queue

/-! ### The answers of the memory port -/

theorem State.readArrive_of_noTurn {s : State} (h : s.cyc.arrived.any (fun a => decide (1 < a.2)) = false) (tag status : Nat)
    (last : Bool) (data : List Word) : s.readArrive tag status last data = s.readBeat tag status last data := by
  simp [State.readArrive, State.hubTurn, State.nextCcIf, h]

/-- A beat of a read reaches its transfer, whether it is an answer of a replay or waits for nothing. -/
theorem exec_mmReadData_of_live {s : State} (hin : s.inputLive .noc) (h : s.cyc.arrived.any (fun a => decide (1 < a.2)) = false)
    (tag status : Nat) (last : Bool) (data : List Word) :
    exec (.mmReadData tag status last data) s = .next (s.readBeat tag status last data) := by
  simp only [exec, execMmReadData]
  split
  · rfl
  · exact next_input hin (State.readArrive_of_noTurn h tag status last data)

/-- The last request of a transfer, answered without an error, hands its words to the requester. -/
theorem State.mmEnd_of_done {s : State} {x : MmXfer} (hleft : x.left ≤ x.beats) (ws : List Word) :
    s.mmEnd x 0 ws = (({ s with mm := { s.mm with busy := s.mm.busy.filter fun y => !(y.write == x.write && y.tag == x.tag) } } : State).mmDone
      x true ws).mmRetry := by
  simp [State.mmEnd, Nat.sub_eq_zero_of_le hleft]

theorem State.mmEnd_of_error {s : State} {x : MmXfer} {status : Nat} (h : status ≠ 0) (ws : List Word) :
    s.mmEnd x status ws = ((({ s with mm := { s.mm with busy := s.mm.busy.filter fun y => !(y.write == x.write && y.tag == x.tag) } } : State).mmError
      x status).mmDone x false ws).mmRetry := by
  have hbad : (status == 0) = false := by simp [h]
  rw [State.mmEnd, if_pos (.inl h), hbad]
  simp only [if_pos h]

theorem State.mmEnd_of_more {s : State} {x : MmXfer} (hleft : x.beats < x.left) (ws : List Word) :
    let r := ({ s with mm := { s.mm with busy := s.mm.busy.filter fun y => !(y.write == x.write && y.tag == x.tag) } } : State).mmNext
      { x with addr := x.addr + 64 * x.beats, left := x.left - x.beats, got := ws }
    s.mmEnd x 0 ws = if r.2 then r.1.mmRetry else (r.1.mmDone x false []).mmRetry := by
  intro r
  have hmore : ¬ ((0 : Nat) ≠ 0 ∨ x.left - x.beats = 0) := by omega
  have hend : s.mmEnd x 0 ws = State.mmRetry (match r with
      | (s, true) => s
      | (s, false) => s.mmDone x false []) := by
    simp only [State.mmEnd, if_neg hmore]
    rfl
  rw [hend]
  rcases r with ⟨t, _ | _⟩ <;> rfl

theorem exec_mmWriteCompletion_of_live {s : State} (hin : s.inputLive .noc) {tag : Nat} {x : MmXfer}
    (hx : s.mm.busy.find? (fun x => x.write && x.tag == tag) = some x) (status : Nat) :
    exec (.mmWriteCompletion tag status) s = .next (s.mmEnd x status []) :=
  next_input hin (by simp [State.writeDone, hx])

/-- Settles O13: a doorbell through the checks of R157 in their order, and an answer by where it stands in its transfer. -/
theorem doorbellsAndMemoryAnswersAreTaken : Obligations.DoorbellsAndMemoryAnswersAreTaken := by
  refine ⟨⟨fun s addr data hin hready hr => ?_, fun s a d rest hfifo => ?_⟩, fun s tag status x hin hturn => ?_⟩
  · simp only [exec, execDoorbellWrite, hready, hr]
    exact next_input hin rfl
  · intro r c q
    have hrun : exec .doorbellProcess s = .next (r.ring a d) := exec_doorbellProcess_cons hfifo
    rw [hrun]
    refine ⟨fun h => next_congr (State.ring_of_outside (s := r) h d),
      fun u ha hc hu hact hgen => next_congr (State.ring_of_gen_ne (s := r) ha hc hu hact hgen),
      fun u ha hc hu hact hgen hres hq => ?_⟩
    have hring := State.ring_of_sound (s := r) ha hc hu hact hgen hres hq
    have hnewer (hnew : newer 32 (d % 2 ^ 32) u.write = true) := hring.trans (if_neg (by rw [hnew]; decide))
    exact ⟨fun hold => next_congr (hring.trans (if_pos (by rw [hold]; rfl))),
      fun hnew hout => next_congr ((hnewer hnew).trans (if_pos hout)),
      fun hnew hin hst => next_congr ((hnewer hnew).trans ((if_neg (Nat.not_lt.2 hin)).trans (if_pos hst))),
      fun hnew hin hst => next_congr ((hnewer hnew).trans ((if_neg (Nat.not_lt.2 hin)).trans (if_neg hst)))⟩
  · refine ⟨fun data hx => ?_, fun data hx hok hleft => ?_, fun hx hleft => ?_, fun hx hst => ?_, fun hx hleft => ?_⟩
    · rw [exec_mmReadData_of_live hin hturn]
      simp [State.readBeat, hx]
    · rw [exec_mmReadData_of_live hin hturn, ← State.mmEnd_of_done hleft]
      simp [State.readBeat, hx, hok]
    · rw [exec_mmWriteCompletion_of_live hin hx, State.mmEnd_of_done hleft]
    · rw [exec_mmWriteCompletion_of_live hin hx, State.mmEnd_of_error hst]
    · rw [exec_mmWriteCompletion_of_live hin hx, State.mmEnd_of_more hleft]

end Sys2Proof.Machine
end

section
/-! PROOFS. Dispatch links: link-up, loss, credits and completion records (R54 to R64, R384), DS_LINK_CMD (R142, R147), and the timeouts of
tasks, links and READY tasks (R140, R141, R145). -/

namespace Sys2Proof.Machine

/-! ### The level at dl_present -/

theorem State.setPresentPin_of_lt {s : State} {i : Nat} (h : i < s.build.links) (b : Bool) :
    s.setPresentPin i b = s.updLink i fun l => { l with pin := b } :=
  if_neg (Nat.not_le.2 h)

section Pin
variable (s : State) (i : Nat) (b : Bool)

theorem State.setPresentPin_parts : Keep 8192 s (s.setPresentPin i b) := State.setPresentPin_keep rfl (Keep.refl s)

theorem State.portOn_setPresentPin (d : ResetDom) : (s.setPresentPin i b).portOn d = s.portOn d :=
  (s.setPresentPin_parts i b).portOn_eq rfl d

theorem State.holds_setPresentPin : (s.setPresentPin i b).holds = s.holds :=
  (s.setPresentPin_parts i b).rb_eq rfl Reg.DC_STATUS_RUNNING

theorem State.replaying_setPresentPin : (s.setPresentPin i b).replaying = s.replaying :=
  (s.setPresentPin_parts i b).rb_eq rfl Reg.DC_STATUS_REPLAYING

theorem State.inputLive_setPresentPin (d : ResetDom) : (s.setPresentPin i b).inputLive d = s.inputLive d := by
  simp only [State.inputLive, State.portOn_setPresentPin, State.holds_setPresentPin]

end Pin

/-- The fall of dl_present of a link that is seen: the epoch's log, a rise that is held, replay, and the link itself (R63, R384). -/
theorem exec_dlPresentFall_of_portOn {s : State} (h : s.portOn .eng) (i : Nat) :
    exec (.dlPresentFall i) s = .next ((((s.setPresentPin i false).logFall i).dropRise i).replayFall i |>.presentFall i) :=
  next_congr (if_pos ((s.portOn_setPresentPin i false .eng).trans h))

theorem State.logFall_of_free {s : State} (h : s.holds = false) (i : Nat) : s.logFall i = s := if_neg (by simp [h])

theorem State.replayFall_of_free {s : State} (h : s.replaying = false) (i : Nat) : s.replayFall i = s := if_pos (by simp [h])

/-- Outside grain-locked mode and replay nothing is logged and nothing is used up. -/
theorem exec_dlPresentFall_of_live {s : State} (hin : s.inputLive .eng) (hr : s.replaying = false) (i : Nat) :
    exec (.dlPresentFall i) s = .next (((s.setPresentPin i false).dropRise i).presentFall i) := by
  obtain ⟨hon, hh⟩ : s.portOn .eng = true ∧ s.holds = false := by simpa [State.inputLive] using hin
  have hreplay : ((s.setPresentPin i false).dropRise i).replaying = false := (s.replaying_setPresentPin i false).trans hr
  rw [exec_dlPresentFall_of_portOn hon, State.logFall_of_free ((s.holds_setPresentPin i false).trans hh),
    State.replayFall_of_free hreplay]

section Fall
variable {s : State} {i : Nat}

theorem State.presentFall_of_absent (h : (s.link i).present = false) : s.presentFall i = s := if_pos (by simp [h])

theorem State.presentFall_of_up (h : (s.link i).present) (hup : s.linkUp i) : s.presentFall i =
    ((s.drainRecs i).loseLink i E.LINK_LOST Reg.DS_LINK_CMD_STATUS_LOST).updLink i fun l => { l with present := false } := by
  rw [State.presentFall, if_neg (by simp [h]), State.linkAway, if_pos hup]

theorem State.presentFall_of_notUp (h : (s.link i).present) (hup : s.linkUp i = false) : s.presentFall i =
    ((s.endLinkCmd i Reg.DS_LINK_CMD_STATUS_LOST).updLink i Link.toDown).updLink i fun l => { l with present := false } := by
  rw [State.presentFall, if_neg (by simp [h]), State.linkAway, if_neg (by simp [hup])]

end Fall

/-- A link of the build whose engine is present, and is not waiting for its first offer after a loss, takes records. -/
theorem State.open_of_present {s : State} {i : Nat} (hi : i < s.build.links) (hp : (s.link i).present)
    (h : (s.link i).stale = false ∨ (s.link i).offerOut) :
    ¬ (s.build.links ≤ i ∨ !(s.link i).present ∨ ((s.link i).stale ∧ !(s.link i).offerOut)) := by
  rcases h with h | h <;> simp [hp, h, hi]

/-- Settles O14: the pin, the offers of R62, the credits and the records of a link; that a fall cancels a rise that is still held, and that
the 256 ec count as 128 core cycles, are the model's readings (log entries 49 and 46). -/
theorem linksAreOfferedCountedAndLost : Obligations.LinksAreOfferedCountedAndLost := by
  refine ⟨fun s link => ⟨fun hin hl => ?_, ?_, fun hon _ _ => exec_dlPresentFall_of_portOn hon link, fun hon hen hoff hp hcc hst => ?_,
    fun hst hout hdue hnone => ?_, fun hon hst hre hp hdue hoff => ?_⟩, fun s link hon => ⟨fun hup hirq hcr => ?_, fun hup hirq hcr => ?_,
    fun x hup hirq hcr => ?_, fun w0 w1 hl hp hstale => ⟨fun hlen => ?_, fun hlen => ?_⟩⟩⟩
  · refine next_input ((s.inputLive_setPresentPin link true .eng).trans hin) ?_
    rw [State.setPresentPin_of_lt hl]
    exact if_neg (Nat.not_le.2 hl)
  · intro r hin hr
    have hfall := exec_dlPresentFall_of_live hin hr link
    exact ⟨fun hp hup => hfall.trans (next_congr (State.presentFall_of_up hp hup)),
      fun hp hup => hfall.trans (next_congr (State.presentFall_of_notUp hp hup)),
      fun hp => hfall.trans (next_congr (State.presentFall_of_absent hp))⟩
  · exact next_congr (if_pos ⟨hon, hen, by simp [hoff], hp, hcc, hst⟩)
  · exact next_congr (if_pos ⟨hst, hout, hdue, by simp [hnone]⟩)
  · exact next_congr (if_pos ⟨hon, hst, hre, hp, hdue, by simp [hoff]⟩)
  · simp [exec, execDlIssCredit, hon, State.issCredit, hup, hirq, Nat.not_le.2 hcr]
  · simp [exec, execDlIssCredit, hon, State.issCredit, hup, hirq, hcr]
  · simp [exec, execDlIssCredit, hon, State.issCredit, hup, hirq, Nat.not_le.2 hcr]
  · exact next_congr ((if_pos hon).trans ((if_neg (State.open_of_present hl hp hstale)).trans (if_neg (Nat.not_le.2 hlen))))
  · exact next_congr ((if_pos hon).trans ((if_neg (State.open_of_present hl hp hstale)).trans (if_pos hlen)))

/-! ### DS_LINK_CMD -/

section Command
variable {s : State} {i cmd : Nat} (h : s.rb Reg.DS_LINK_CMD_STATUS_BUSY = false)
include h

theorem State.linkCmd_of_ok {ok : Bool} (hok : ok) (act : State → State) : s.linkCmd i cmd ok act =
    act (s.setReg Reg.DS_LINK_CMD_STATUS_A (packW [(0, i % 512), (9, cmd), (12, 1), (14, 0)])) := by
  simp [State.linkCmd, h, hok, b2n]

theorem State.linkCmd_of_refused {ok : Bool} (hok : ok = false) (act : State → State) : s.linkCmd i cmd ok act =
    s.setReg Reg.DS_LINK_CMD_STATUS_A (packW [(0, i % 512), (9, cmd), (12, 0), (14, 1)]) := by
  simp [State.linkCmd, h, hok, b2n]

end Command

/-- Settles O15: each command by whether its link is in the state that it asks for. -/
theorem linkCommandsAreCarriedOut : Obligations.LinkCommandsAreCarriedOut := by
  intro s link hp hbusy busy refused
  have hlinks : s.unlatch.build.links = s.build.links := congrArg Build.links s.expireUnlock_parts.build
  refine ⟨fun hup => next_regInput hp (State.linkCmd_of_ok hbusy hup _), fun hup hproto => next_regInput hp (State.linkCmd_of_ok hbusy ?_ _),
    fun hup => next_regInput hp (State.linkCmd_of_ok hbusy hup _), fun hup => ⟨?_, ?_, ?_⟩,
    fun hl hst hproto => next_regInput hp (State.linkCmd_of_ok hbusy ?_ _), fun hl hpres => next_regInput hp (State.linkCmd_of_ok hbusy ?_ _),
    fun hl hpres => next_regInput hp (State.linkCmd_of_refused hbusy ?_ _), fun hst => next_regInput hp (State.linkCmd_of_refused hbusy ?_ _)⟩
  · simp [hup, hproto]
  · exact next_regInput hp (State.linkCmd_of_refused hbusy hup _)
  · exact next_regInput hp (State.linkCmd_of_refused hbusy (by simp [hup]) _)
  · exact next_regInput hp (State.linkCmd_of_refused hbusy hup _)
  · simp [hlinks, hl, hst, hproto]
  · simp [hlinks, hl, hpres]
  · simp [hpres]
  · simp [hst]

/-! ### Timeouts -/

/-- Settles O16: each timeout under the conditions of its rule. -/
theorem tasksAndLinksTimeOut : Obligations.TasksAndLinksTimeOut := by
  refine ⟨fun s link tag t ht htb hkill hend hlim hdue => ?_, fun s link hh hc => ?_, fun s link hh hc => ?_,
    fun s node t e he hsince htb hlim hdue => ?_⟩
  · have hlive : ¬ (s.holds = true ∧ s.ended link t = true) := by rcases hend with h | h <;> simp [h]
    simp [exec, execTaskTimeout, ht, htb, hkill, hlim, hdue, hlive]
  · simp [exec, execKillTimeout, hh, hc]
  · simp [exec, execKillTimeout, hh, hc]
  · simp [exec, execNoEngineTimeout, he, hsince, htb, hlim, hdue]

end Sys2Proof.Machine
end

section
/-! PROOFS. Completion records: which one a slice takes, and what each KIND does (R56, R61, R64, R112 to R114, R131, R139, R364). -/

namespace Sys2Proof.Machine

/-! ### The record that a slice takes (R112) -/

section Take
variable {s : State} {slice : Nat} {kinds : List Nat} {f : State → CmpRec → State}

theorem State.takeRec_of_free (h : s.cyc.taken.contains slice = false) : s.takeRec slice kinds f =
    if (s.sliceChecks slice).dr.bp then s.sliceChecks slice
    else match (s.sliceChecks slice).frontRec slice with
      | none => s.sliceChecks slice
      | some r =>
        let p := ((s.sliceChecks slice).setTaken slice).popRec r
        if 6 ≤ r.kind ∧ r.kind ≤ 14 then p.protocolErr r else if kinds.contains r.kind then f p r else s.sliceChecks slice := by
  rw [State.takeRec, h]
  rfl

/-- A slice that has taken its record of this cc takes the next one in the cc after. -/
theorem State.takeRec_of_taken (h : s.cyc.taken.contains slice) (hnext : s.tick.cyc.taken.contains slice = false) :
    s.takeRec slice kinds f = s.tick.takeRec slice kinds f := by
  rw [State.takeRec, State.takeRec, h, hnext]
  rfl

variable {r : CmpRec} (h : s.cyc.taken.contains slice = false) (hbp : (s.sliceChecks slice).dr.bp = false)
  (hfront : (s.sliceChecks slice).frontRec slice = some r)
include h hbp hfront

theorem State.takeRec_of_kind {k : Nat} (hk : r.kind = k) (hnot : ¬ (6 ≤ k ∧ k ≤ 14)) :
    s.takeRec slice [k] f = f (((s.sliceChecks slice).setTaken slice).popRec r) r := by
  subst hk
  simp [State.takeRec_of_free h, hbp, hfront, hnot]

theorem State.takeRec_of_reserved (hk : 6 ≤ r.kind ∧ r.kind ≤ 14) :
    s.takeRec slice kinds f = (((s.sliceChecks slice).setTaken slice).popRec r).protocolErr r := by
  simp [State.takeRec_of_free h, hbp, hfront, hk]

end Take

/-! ### Terminal records (R113, R114, R364) -/

section Terminal
variable {s : State} {r : CmpRec} {f : State → OutTask → State}

theorem State.terminal_of_unknown (h : (s.link r.link).task? r.node r.ngen = none) : s.terminal r f = s.protocolErr r := by
  simp [State.terminal, h]

variable {t : OutTask} (ht : (s.link r.link).task? r.node r.ngen = some t)
include ht

theorem State.terminal_of_running (hjob : t.job = none) (hst : ((s.intake r t).chaffRec r t).sl t.slot Sl.STATE = 3) :
    s.terminal r f = (f ((s.intake r t).chaffRec r t) t).tryFinishKill t.slot := by
  simp [State.terminal, ht, hjob, hst]

theorem State.terminal_of_killing (hjob : t.job = none) (hst : ((s.intake r t).chaffRec r t).sl t.slot Sl.STATE = 5) :
    s.terminal r f = (((s.intake r t).chaffRec r t).setNd t.node Nd.STATE 9).tryFinishKill t.slot := by
  simp [State.terminal, ht, hjob, hst]

theorem State.terminal_of_other (hjob : t.job = none) (hrun : ((s.intake r t).chaffRec r t).sl t.slot Sl.STATE ≠ 3)
    (hkill : ((s.intake r t).chaffRec r t).sl t.slot Sl.STATE ≠ 5) :
    s.terminal r f = (((s.intake r t).chaffRec r t).setNd t.node Nd.STATE 9).settleDone t.slot := by
  simp [State.terminal, ht, hjob]

theorem State.terminal_of_job {k : Nat} (hjob : t.job = some k) : s.terminal r f =
    if r.ok ∧ t.killSent = 0 then ((s.intake r t).chaffRec r t).jobDone k t.ngen
    else ((s.intake r t).chaffRec r t).failJob k t.ngen := by
  simp [State.terminal, ht, hjob]

end Terminal

/-- Settles O17: the record that the slice takes, by its KIND and by the launch or job of its task. -/
theorem terminalRecordsEndTheirTasks : Obligations.TerminalRecordsEndTheirTasks := by
  refine ⟨fun s slice r h hbp hfront => ?_, fun s slice h hbp => ?_, fun s slice h hnext => ?_⟩
  · intro p
    have htake {k : Nat} (f : State → CmpRec → State) (hk : r.kind = k) (hnot : ¬ (6 ≤ k ∧ k ≤ 14)) : s.takeRec slice [k] f = f p r :=
      State.takeRec_of_kind h hbp hfront hk hnot
    refine ⟨fun t ht => ?_, fun hk hnone => ?_, fun hlo hhi => next_congr (State.takeRec_of_reserved h hbp hfront ⟨hlo, hhi⟩)⟩
    · intro i
      refine ⟨fun hjob hst => ?_, fun hjob hst => ?_, fun hjob hrun hkill hk => ?_, fun k hjob hk hv hks => ?_, fun k hjob hk => ?_⟩
      · have hrun (f : State → OutTask → State) : p.terminal r f = (f i t).tryFinishKill t.slot := State.terminal_of_running ht hjob hst
        refine ⟨fun hk hv => next_congr ((htake _ hk (by decide)).trans ?_), fun hk hv => next_congr ((htake _ hk (by decide)).trans ?_),
          fun hk => next_congr ((htake _ hk (by decide)).trans (hrun _)), fun hk => next_congr ((htake _ hk (by decide)).trans (hrun _)),
          fun hk hks => next_congr ((htake _ hk (by decide)).trans ?_), fun hk hks => next_congr ((htake _ hk (by decide)).trans ?_),
          fun hk hks => next_congr ((htake _ hk (by decide)).trans ?_)⟩
        · rw [State.onDone, hrun, if_pos hv]
        · rw [State.onDone, hrun, if_neg hv]
        · rw [State.onKilled, hrun, hks]; rfl
        · rw [State.onKilled, hrun, hks]; rfl
        · obtain ⟨k, hk2⟩ := Nat.exists_eq_add_of_le' hks
          rw [State.onKilled, hrun, hk2]; rfl
      · have hkill (f : State → OutTask → State) : p.terminal r f = (i.setNd t.node Nd.STATE 9).tryFinishKill t.slot :=
          State.terminal_of_killing ht hjob hst
        exact ⟨fun hk => next_congr ((htake _ hk (by decide)).trans (hkill _)), fun hk => next_congr ((htake _ hk (by decide)).trans (hkill _)),
          fun hk => next_congr ((htake _ hk (by decide)).trans (hkill _)), fun hk => next_congr ((htake _ hk (by decide)).trans (hkill _))⟩
      · exact next_congr ((htake _ hk (by decide)).trans (State.terminal_of_other ht hjob hrun hkill))
      · exact next_congr ((htake _ hk (by decide)).trans ((State.terminal_of_job ht hjob).trans (if_pos (by simp [CmpRec.ok, hk, hv, hks]))))
      · exact next_congr ((htake _ hk (by decide)).trans ((State.terminal_of_job ht hjob).trans (if_neg (by simp [CmpRec.ok, hk]))))
    · exact next_congr ((htake _ hk (by decide)).trans (State.terminal_of_unknown hnone))
  · exact next_congr ((State.takeRec_of_free h).trans (if_pos hbp))
  · exact ⟨next_congr (State.takeRec_of_taken h hnext), next_congr (State.takeRec_of_taken h hnext),
      next_congr (State.takeRec_of_taken h hnext)⟩

/-! ### SPAWN, CTRL_ACK and LINKUP_REPLY (R61, R64, R131, R139) -/

section Reply
variable {s : State} {r : CmpRec}

/-- The link takes over what a reply to its offer says. -/
def State.answered (s : State) (r : CmpRec) : State :=
  s.updLink r.link fun l =>
    { l with stale := false, offerOut := false, cls := pf [r.w0, r.w1] 0 19 16, adv := pf [r.w0, r.w1] 0 23 20,
             telem := pf [r.w0, r.w1] 0 24 24 == 1, spawn := pf [r.w0, r.w1] 0 25 25 == 1, engineId := r.w1.toNat }

theorem State.onReply_of_unasked (h : (s.link r.link).offerOut = false) : s.onReply r = s.protocolErr r := by
  simp [State.onReply, h]

theorem State.onReply_of_badClass (h : (s.link r.link).offerOut)
    (hbad : pf [r.w0, r.w1] 0 19 16 = 7 ∨ pf [r.w0, r.w1] 0 23 20 = 0 ∨ 8 < pf [r.w0, r.w1] 0 23 20) :
    s.onReply r = ((s.answered r).updLink r.link fun l => { l with lstate := 6 }).reportLink E.LINK_CLASS r.link := by
  rw [State.onReply, if_neg (by simp [h])]
  refine if_pos ?_
  rcases hbad with h7 | h0 | h8
  · exact .inl h7
  · exact .inr (.inr (.inl h0))
  · exact .inr (.inr (.inr h8))

theorem State.onReply_of_sound (h : (s.link r.link).offerOut) (hcls : pf [r.w0, r.w1] 0 19 16 ≤ 5) (hlo : 1 ≤ pf [r.w0, r.w1] 0 23 20)
    (hhi : pf [r.w0, r.w1] 0 23 20 ≤ 8) (hver : Nat.max (pf [r.w0, r.w1] 0 15 8) 1 ≤ Nat.min (pf [r.w0, r.w1] 0 7 0) 2) :
    let d := ((s.answered r).cmpCredit r.link 1).updLink r.link fun l => { l with agreed := Nat.min (pf [r.w0, r.w1] 0 7 0) 2 }
    s.onReply r = d.driveCtrl r.link ⟨14, 0, 0, false, d.now, []⟩ := by
  rw [State.onReply, if_neg (by simp [h])]
  refine (if_neg ?_).trans (if_neg (Nat.not_lt.2 hver))
  omega

end Reply

/-- Settles O18: each KIND by what its task or link admits; that an acknowledged KILL ends its control record whatever VALUE says is the
model's reading (log entry 26). -/
theorem otherRecordsAreTaken : Obligations.OtherRecordsAreTaken := by
  intro s slice r h hbp hfront p answered
  have htake {k : Nat} (f : State → CmpRec → State) (hk : r.kind = k) (hnot : ¬ (6 ≤ k ∧ k ≤ 14)) : s.takeRec slice [k] f = f p r :=
    State.takeRec_of_kind h hbp hfront hk hnot
  refine ⟨fun t hk ht hjob hproto => ?_, fun c hk hc hrec hcmd => next_congr ((htake _ hk (by decide)).trans ?_),
    fun c hk hc hrec => next_congr ((htake _ hk (by decide)).trans ?_), fun c hk hc hrec => next_congr ((htake _ hk (by decide)).trans ?_),
    fun hk hnone => next_congr ((htake _ hk (by decide)).trans ?_),
    fun hk hout => next_congr ((htake _ hk (by decide)).trans (State.onReply_of_unasked hout)),
    fun hk hout hbad => next_congr ((htake _ hk (by decide)).trans (State.onReply_of_badClass hout hbad)),
    fun hk hout hcls hlo hhi hver => next_congr ((htake _ hk (by decide)).trans (State.onReply_of_sound hout hcls hlo hhi hver))⟩
  · intro d hst
    have hspawn : p.onSpawn r = if !t.spawnEn ∨ !(d.link r.link).spawn ∨ d.poolSize = 0 then d.killWith t.slot E.SPAWN_DENIED (mkTag t.node t.ngen)
        else if 1024 ≤ d.dr.spawnQ.length then d.killWith t.slot E.SPAWN_OVERFLOW (mkTag t.node t.ngen)
        else (({ d with dr := { d.dr with
            spawnQ := d.dr.spawnQ ++ [⟨d.dr.spawnNext, t.node, t.slot, t.launchId, none⟩], spawnNext := d.dr.spawnNext + 1 } } : State).mmRead
          (2 ^ 6 * d.rf (Reg.DR_SPAWN_BASE_LO t.part) + 2 ^ 32 * d.rf (Reg.DR_SPAWN_BASE_HI t.part) + 64 * r.value) 1 t.part 1 2
          (.spawn d.dr.spawnNext)).1 := by
      simp only [State.onSpawn, ht, hproto, hjob]
      exact if_neg (not_not_intro hst)
    refine ⟨fun hen hlink hpool hlen => next_congr ((htake _ hk (by decide)).trans ?_),
      fun hen => next_congr ((htake _ hk (by decide)).trans (hspawn.trans (if_pos (by simp [hen]))))⟩
    exact hspawn.trans ((if_neg (by simp [hen, hlink, hpool])).trans (if_neg (Nat.not_le.2 hlen)))
  · simp [State.onAck, hc, hrec, hcmd]
  · simp [State.onAck, hc, hrec]
  · simp [State.onAck, hc, hrec]
  · simp only [State.onAck, hnone]
    rfl

end Sys2Proof.Machine
end

section
/-! PROOFS. The walker, decrements, and the effects of walked edges (R84, R115 to R118, R135, R136, R313, R315). -/

namespace Sys2Proof.Machine

/-! ### The walker (R115) -/

theorem exec_walkEdges_of_fresh {s : State} (h : s.cyc.walked = false) : exec .walkEdges s = .next (s.readMarks 0x64 0x64).walkCc := by
  simp [exec, execWalkEdges, h, State.nextCcIf]

/-- The state in which the walker takes its edges. -/
def State.walkStart (s : State) : State := ({ s with cyc := { s.cyc with walked := true } } : State).walkCheck

/-- What the walker may take in that state. -/
def State.walkRoom (s : State) : WalkRoom :=
  ⟨32, 8, 8, 1024 - s.dr.sendQ.length, 64 - s.dr.postQ.length, walkDepth - s.dr.walkQ.length⟩

/-- What the walker does with the entries left, the finished ones and the edges that it has taken. -/
def State.walkApply (s : State) (x : List WalkEnt × List WalkEnt × List TakenEdge) : State :=
  let b := ({ s with dr := { s.dr with walkQ := x.1 } } : State).setBp
  x.2.1.foldl (fun s w => s.retireNode w) (x.2.2.foldl (State.walkEdge b x.2.2) (b, [])).1

theorem State.walkCc_eq (s : State) :
    s.walkCc = s.walkStart.walkApply (walkTake s.walkStart 16 s.walkStart.dr.walkQ s.walkStart.walkRoom []) :=
  rfl

theorem State.walkStart_of_nil {s : State} (h : s.dr.walkQ = []) : s.walkStart = { s with cyc := { s.cyc with walked := true } } := by
  simp [State.walkStart, State.walkCheck, h]

/-- One node at the head whose words pass their checks. -/
theorem State.walkStart_of_single {s : State} {w : WalkEnt} (h : s.dr.walkQ = [w])
    (hok : (({ s with cyc := { s.cyc with walked := true } } : State).readNode w.node).nodeBad w.node = none) :
    s.walkStart = ({ s with cyc := { s.cyc with walked := true } } : State).readNode w.node := by
  simp only [State.walkStart, State.walkCheck, h, List.take_succ_cons, List.take_nil, List.foldl_cons, List.foldl_nil, hok, ite_self]

theorem walkTake_of_noEdge {s : State} {w : WalkEnt} (hcnt : s.nd w.node Nd.SUCC_COUNT = 0) (hheld : s.routerHeld w.node = false)
    (r : WalkRoom) : walkTake s 16 [w] r [] = ([], [w], []) := by
  simp [walkTake, takeEdges, hcnt, hheld]

/-- One local edge is taken: a place of the walk queue is free, since the queue holds one entry. -/
theorem walkTake_of_localEdge {s : State} {w : WalkEnt} (hq : s.dr.walkQ = [w]) (hcnt : s.nd w.node Nd.SUCC_COUNT = 1) (hpos : w.pos = 0)
    (htype : s.rm (edgeRow (s.nd w.node Nd.SUCC_BASE)) Ed.TYPE = 0) (hheld : s.routerHeld w.node = false) :
    walkTake s 16 [w] s.walkRoom [] = ([], [w], [⟨w.node, s.nd w.node Nd.SUCC_BASE⟩]) := by
  have hwalk : s.walkRoom.walk ≠ 0 := by simp [State.walkRoom, hq, walkDepth]
  have hedges : s.walkRoom.edges ≠ 0 := by simp [State.walkRoom]
  have htake : (takeEdges s w.node (s.nd w.node Nd.SUCC_BASE) 1 0 s.walkRoom []).1 = 1 ∧
      (takeEdges s w.node (s.nd w.node Nd.SUCC_BASE) 1 0 s.walkRoom []).2.2 = [⟨w.node, s.nd w.node Nd.SUCC_BASE⟩] := by
    by_cases hfill : fillsWalk s [] (s.nd w.node Nd.SUCC_BASE) <;> simp [takeEdges, htype, hedges, hwalk, hfill]
  obtain ⟨hp, he⟩ := htake
  simp [walkTake, hcnt, hpos, hp, he, hheld]

/-- One local edge of a node in WALKING whose words pass their checks takes its amount off its target. -/
theorem State.walkEdge_of_local {b : State} {n e : Nat} :
    let f := b.corrected (edgeRow e) 2 (some (b.nd n Nd.PART)) 1 e
    f.nd n Nd.STATE = 6 → f.eccBad (edgeRow e) 2 = false → f.rm (edgeRow e) Ed.TYPE = 0 →
    (State.walkEdge b [⟨n, e⟩] (b, []) ⟨n, e⟩).1 =
      f.decrement (f.rm (edgeRow e) Ed.TARGET) (mergedAmount b [⟨n, e⟩] (f.rm (edgeRow e) Ed.TARGET)) 1 := by
  intro f hst hecc htype
  simp only [State.walkEdge]
  rw [if_neg (not_not_intro hst), if_neg (by rw [Bool.not_eq_true]; exact hecc), htype]
  rfl

/-- Settles O19: an empty queue, one node without an edge, and one node with a local edge; and a node that is done. -/
theorem walkerRetiresNodes : Obligations.WalkerRetiresNodes := by
  refine ⟨fun s hw => ?_, fun s w hst hheld => ?_⟩
  · intro c k
    have hrun : exec .walkEdges s = .next (c.walkStart.walkApply (walkTake c.walkStart 16 c.walkStart.dr.walkQ c.walkStart.walkRoom [])) :=
      (exec_walkEdges_of_fresh hw).trans (next_congr (State.walkCc_eq c))
    refine ⟨fun hq => ?_, fun w hq => ?_⟩
    · rw [hrun, State.walkStart_of_nil hq]
      simp [hq, walkTake, State.walkApply, k]
    intro d b hq' hst hok hheld
    refine ⟨fun hcnt => ?_, fun hcnt hpos => ?_⟩
    · have hstart : c.walkStart = d := State.walkStart_of_single hq hok
      rw [hrun, hstart, hq', walkTake_of_noEdge hcnt hheld]
      rfl
    · intro e f htype htype' hst' hecc
      have hstart : c.walkStart = d := State.walkStart_of_single hq hok
      rw [hrun, hstart, hq', walkTake_of_localEdge hq' hcnt hpos htype hheld]
      exact next_congr (congrArg (State.retireNode · w) (State.walkEdge_of_local hst' hecc htype'))
  · have hretire : s.retireNode w =
        let t := (s.setNd w.node Nd.STATE (if w.skip then 10 else 7)).reportRouter w.node
        if t.inPool w.node then t.freeNode w.node
        else if t.nd w.node Nd.SINK = 1 then t.tryRetire (s.nd w.node Nd.LAUNCH_SLOT) else t := by
      rw [State.retireNode, if_neg (not_not_intro hst), hheld]
      rfl
    intro t
    exact ⟨fun hpool => hretire.trans (if_pos hpool),
      fun hpool hsink => hretire.trans ((if_neg (by rw [hpool]; decide)).trans (if_pos hsink)),
      fun hpool hsink => hretire.trans ((if_neg (by rw [hpool]; decide)).trans (if_neg (by rw [hsink]; decide)))⟩

/-! ### Decrements (R116) -/

section Decrement
variable {s : State} {n : Nat} (hok : (s.readNode n).nodeBad n = none)
include hok

theorem State.decrement_of_sound (amt src : Nat) : s.decrement n amt src =
    let r := s.readNode n
    let d := r.nd n Nd.DEP_COUNT
    let t := ((r.setDep n (d - amt)).progress (s.nd n Nd.LAUNCH_SLOT)).decision
    if r.nd n Nd.STATE = 3 ∧ amt ≤ d then
      if d - amt ≠ 0 then t else if t.sl (s.nd n Nd.LAUNCH_SLOT) Sl.STATE = 3 then t.release n src else t.setNd n Nd.STATE 2
    else r.killWith (s.nd n Nd.LAUNCH_SLOT) E.DEP_UNDERFLOW (r.tag n) := by
  simp only [State.decrement, hok]

end Decrement

/-- Settles O20: the amount against DEP_COUNT, and the three ways of a release. -/
theorem decrementsReleaseTheirNodes : Obligations.DecrementsReleaseTheirNodes := by
  refine ⟨fun s n amt src hok => ?_, fun s n src => ⟨fun hj => if_pos hj, fun hj hm => ?_, fun hj hm => ?_⟩⟩
  · intro r slot d t
    have hdec := State.decrement_of_sound hok amt src
    refine ⟨fun hst hlt => hdec.trans ((if_pos ⟨hst, hlt.le⟩).trans (if_pos (Nat.sub_ne_zero_of_lt hlt))), fun hst heq hrun => ?_,
      fun hst heq hrun => ?_, fun hst hlt => hdec.trans (if_neg fun h => Nat.not_le.2 hlt h.2), fun hst => hdec.trans (if_neg fun h => hst h.1)⟩
    · have hzero : ¬ d - amt ≠ 0 := by omega
      exact hdec.trans ((if_pos ⟨hst, heq.le⟩).trans ((if_neg hzero).trans (if_pos hrun)))
    · have hzero : ¬ d - amt ≠ 0 := by omega
      exact hdec.trans ((if_pos ⟨hst, heq.le⟩).trans ((if_neg hzero).trans (if_neg hrun)))
  · simp [State.release, hj, hm]
  · simp [State.release, hj, hm]

/-! ### A semaphore post outside its partition (R118) -/

/-- The state after reset, with a post of node tag 5 to a semaphore that no partition has. -/
def State.strayPost : State := { State.reset with dr := { State.reset.dr with postQ := [⟨0, 1, 0, 0, 0, 5⟩] } }

/-- DETAIL of the last error that a run of the post leaves in LAST. -/
theorem strayPost_detail : (match exec .semPost State.strayPost with
    | .next t => (t.reg (Reg.IFM_LAST_A + 4)).toNat
    | _ => 0) = 5 := by
  decide +kernel

/-- Refutes O21: the report of a post outside its partition carries the tag of the node that posted, not 0, as DETAIL. -/
theorem not_walkedEdgesTakeEffect : ¬ Obligations.WalkedEdgesTakeEffect := by
  intro h
  have hstray := (h.2.1 State.strayPost ⟨0, 1, 0, 0, 0, 5⟩ [] rfl (by decide +kernel) (by decide +kernel)).2.2 (by decide +kernel)
  have hdetail := strayPost_detail
  rw [hstray] at hdetail
  exact absurd hdetail (by decide +kernel)

end Sys2Proof.Machine
end

section
/-! PROOFS. The deal of one cc (R102, R120, R122, R125, R128). -/

namespace Sys2Proof.Machine

theorem State.deal_of_stopped {s : State} (h : s.dealStopped) : s.deal = s := if_pos h

/-- The state from which the levels are dealt. -/
def State.dealStart (s : State) : State :=
  ({ s.dealChecks with ds := { s.dealChecks.ds with dealtCc := s.dealChecks.cc + 1 } } : State).offerJobs

/-- The candidates of one level, dealt. -/
def State.dealLevel (s : State) (level : Nat) : State := (s.candidates level).foldl State.dealOne s

theorem State.deal_of_running {s : State} (h : s.dealStopped = false) (h' : s.dealChecks.dealStopped = false) :
    s.deal = [7, 6, 0, 1, 2, 3, 4, 5].foldl State.dealLevel s.dealStart := by
  rw [State.deal, if_neg (by simp [h])]
  exact if_neg (by simp [h'])

theorem exec_taskIssue_of_fresh {s : State} (h : s.ds.dealtCc ≠ s.cc + 1) : exec .taskIssue s = .next s.deal := by
  simp [exec, execTaskIssue, State.nextCcIf, h]

/-! ### A ready list of one node -/

theorem State.dealLevel_of_nil {s : State} (h : s.dr.ready = []) (level : Nat) : s.dealLevel level = s := by
  simp [State.dealLevel, State.candidates, h]

theorem State.dealLevel_of_single {s : State} {e : ReadyEnt} (h : s.dr.ready = [e]) (level : Nat) :
    s.dealLevel level = if level = e.level then s.dealOne e else s := by
  by_cases hl : level = e.level
  · subst hl
    simp [State.dealLevel, State.candidates, h]
  · simp [State.dealLevel, State.candidates, h, hl, Ne.symm hl]

theorem State.foldl_dealLevel_of_nil {s : State} (h : s.dr.ready = []) (levels : List Nat) : levels.foldl State.dealLevel s = s := by
  induction levels with
  | nil => rfl
  | cons l ls ih => rw [List.foldl_cons, State.dealLevel_of_nil h, ih]

/-- The one node is dealt at its own level; once it has left the ready list the other levels find nothing. -/
theorem State.foldl_dealLevel_of_single {s : State} {e : ReadyEnt} (h : s.dr.ready = [e]) (hout : (s.dealOne e).dr.ready = [])
    {levels : List Nat} (hl : e.level ∈ levels) : levels.foldl State.dealLevel s = s.dealOne e := by
  induction levels with
  | nil => cases hl
  | cons l ls ih =>
    rw [List.foldl_cons, State.dealLevel_of_single h]
    split
    · exact State.foldl_dealLevel_of_nil hout ls
    · next hne => exact ih ((List.mem_cons.1 hl).resolve_left (Ne.symm hne))

/-- What an issue counts and traces leaves the ready list alone. -/
theorem State.dr_of_counted (s : State) (p i level wait tag link kind payload : Nat) (w0 : Word) (part : Option Nat) :
    (((((s.cleanSlots).acct p 40 1).countIssue i level wait).digestIssue tag link w0).trace kind part payload).dr = s.dr :=
  (State.trace_keep (msk := 9437264) rfl (State.digestIssue_keep rfl (State.countIssue_keep rfl (State.acct_keep rfl
    (State.cleanSlots_keep rfl (Keep.refl s)))))).dr rfl

theorem State.dr_raiseIrq (s : State) (i level : Nat) (outs : List OutTask) : (s.raiseIrq i level outs).dr = s.dr :=
  (State.raiseIrq_keep (msk := 8192) rfl (Keep.refl s)).dr rfl

/-- An issue takes its candidate off the ready list. -/
theorem State.issue_ready {s : State} {e : ReadyEnt} (h : s.dr.ready = [e]) (i : Nat) (t : TaskRec) : (s.issue e i t).dr.ready = [] := by
  unfold State.issue
  simp only [State.dr_of_counted]
  simp [State.dr_raiseIrq, h]

/-! ### The tests of a node (R102, R124 to R128) -/

section Node
variable {s : State} {e : ReadyEnt} (hst : ((s.readNode e.node).slotRead (s.nd e.node Nd.LAUNCH_SLOT)).nd e.node Nd.STATE = 4)
  (hok : ((s.readNode e.node).slotRead (s.nd e.node Nd.LAUNCH_SLOT)).nodeBad e.node = none)
include hst hok

theorem State.dealNode_of_argBeyond :
    let slot := s.nd e.node Nd.LAUNCH_SLOT
    let r := (s.readNode e.node).slotRead slot
    r.sl slot Sl.ARG_LIMIT ≠ 0 → r.sl slot Sl.ARG_LIMIT ≤ r.nd e.node Nd.ARG_OFFSET →
    s.dealNode e = ((r.dropReady e.node).setNd e.node Nd.STATE 8).killWith slot E.ARG_RANGE (r.tag e.node) := by
  intro slot r hlim hle
  simp only [State.dealNode, hok]
  rw [if_neg (not_not_intro hst)]
  exact if_pos ⟨hlim, hle⟩

theorem State.dealNode_of_passed {c i : Nat} :
    let slot := s.nd e.node Nd.LAUNCH_SLOT
    let p := s.nd e.node Nd.PART
    let r := (s.readNode e.node).slotRead slot
    r.sl slot Sl.ARG_LIMIT = 0 → minBy (r.clusterKey e.cls) (r.eligible p e.cls) = some c →
    r.pscTest e.node slot p e.level (r.nd e.node Nd.SAVE_SET) = (r, .pass none) →
    r.bgAdmit false p e.cls (r.nd e.node Nd.ENERGY_CLASS) c e.node (r.nd e.node Nd.NGEN) = (r, none) → r.bestLink c e.cls = some i →
    s.dealNode e = (r.setNd e.node Nd.STATE 5).issue e i (r.nodeRec e.node e.level) := by
  intro slot p r hlim hc hpsc hbg hlink
  have hpass : ¬ (r.sl slot Sl.ARG_LIMIT ≠ 0 ∧ r.sl slot Sl.ARG_LIMIT ≤ r.nd e.node Nd.ARG_OFFSET) := fun h => h.1 hlim
  have hbg' : r.bgAdmit false p e.cls (r.nodeRec e.node e.level).ecls c e.node (r.nodeRec e.node e.level).ngen = (r, none) := hbg
  simp only [State.dealNode, hok]
  rw [if_neg (not_not_intro hst), if_neg hpass, hc]
  simp only [r, p, slot] at hpsc hbg' hlink
  simp only [hpsc, hbg', hlink]
  rfl

end Node

theorem State.dealOne_of_single {s : State} {e : ReadyEnt} (h : s.dr.ready = [e]) (hjob : e.job = none) (hroom : s.issuedNow < 16) :
    s.dealOne e = s.dealNode e := by
  simp [State.dealOne, Nat.not_le.2 hroom, h, hjob]

/-- The one READY node, through every test, is all that the deal of a cc issues. -/
theorem State.dealLevels_of_passed {s : State} {e : ReadyEnt} {c i : Nat} (hready : s.dr.ready = [e]) (hlevel : e.level < 8) (hjob : e.job = none)
    (hroom : s.issuedNow < 16) :
    let slot := s.nd e.node Nd.LAUNCH_SLOT
    let p := s.nd e.node Nd.PART
    let r := (s.readNode e.node).slotRead slot
    r.nd e.node Nd.STATE = 4 → r.nodeBad e.node = none → r.sl slot Sl.ARG_LIMIT = 0 → minBy (r.clusterKey e.cls) (r.eligible p e.cls) = some c →
    r.pscTest e.node slot p e.level (r.nd e.node Nd.SAVE_SET) = (r, .pass none) →
    r.bgAdmit false p e.cls (r.nd e.node Nd.ENERGY_CLASS) c e.node (r.nd e.node Nd.NGEN) = (r, none) → r.bestLink c e.cls = some i → r.dr.ready = [e] →
    [7, 6, 0, 1, 2, 3, 4, 5].foldl State.dealLevel s = (r.setNd e.node Nd.STATE 5).issue e i (r.nodeRec e.node e.level) := by
  intro slot p r hst hok hlim hc hpsc hbg hlink hready'
  have hdeal : s.dealOne e = (r.setNd e.node Nd.STATE 5).issue e i (r.nodeRec e.node e.level) :=
    (State.dealOne_of_single hready hjob hroom).trans (State.dealNode_of_passed hst hok hlim hc hpsc hbg hlink)
  have hset : (r.setNd e.node Nd.STATE 5).dr.ready = [e] := by rw [State.setNd, State.setRm_dr, hready']
  have hout : (s.dealOne e).dr.ready = [] := (congrArg (fun t => t.dr.ready) hdeal).trans (State.issue_ready hset i _)
  have hmem : e.level ∈ [7, 6, 0, 1, 2, 3, 4, 5] := by
    simp only [List.mem_cons, List.not_mem_nil, or_false]
    omega
  exact (State.foldl_dealLevel_of_single hready hout hmem).trans hdeal

/-- Settles O22: when a cc deals, the order of its levels, and a node beyond its ARG_LIMIT or through every test. -/
theorem tasksAreDealt : Obligations.TasksAreDealt := by
  refine ⟨fun s hfresh => ?_, fun s hdealt hnext => ?_, fun s e hfull => if_pos hfull,
    fun s e hst hok hlim hle => State.dealNode_of_argBeyond hst hok hlim hle⟩
  · have hrun := exec_taskIssue_of_fresh hfresh
    exact ⟨fun h => hrun.trans (next_congr (State.deal_of_stopped h)), fun h h' => hrun.trans (next_congr (State.deal_of_running h h')),
      fun e c i h h' hready hlevel hjob hroom hst hok hlim hc hpsc hbg hlink hready' => hrun.trans (next_congr
        ((State.deal_of_running h h').trans (State.dealLevels_of_passed hready hlevel hjob hroom hst hok hlim hc hpsc hbg hlink hready')))⟩
  · have hdue : (s.tick.ds.dealtCc == s.tick.cc + 1) = false := by simpa using hnext
    simp only [exec, execTaskIssue, hdealt, hdue, State.nextCcIf, beq_self_eq_true, if_true]
    rfl

end Sys2Proof.Machine
end

section
/-! PROOFS. Launches (R98, R99, R101, R102, R167) and templates (R91 to R97). -/

namespace Sys2Proof.Machine

/-! ### Arrival and acceptance (R98) -/

section Arrive
variable {s : State} {c q op : Nat} {pkt : List Word} (hpkt : s.headPkt c q op = some pkt)
  (hnew : s.gs.waiting.any (fun w => !w.step && w.ctx == c && w.q == q) = false)
include hpkt hnew

/-- A launch packet that does not wait yet: its events are looked at before the two tests of R98. -/
theorem State.launchArrive_of_new :
    let r := if isOp pkt then s else s.dirRead (hIdx (pf pkt 1 31 0))
    let p := (s.ctx c).part
    let hs := (launchWaits pkt).map (·.1) ++ (launchDone pkt).toList.map (·.1)
    let b := r.blockHead c q none
    (∀ h e, hs.findSome? (fun h => (r.eventFault h p).map fun e => (h, e)) = some (h, e) →
      s.launchArrive c q op = r.refuseEvent c q pkt h e) ∧
    (∀ e, hs.findSome? (fun h => (r.eventFault h p).map fun e => (h, e)) = none → r.arrivalTest pkt p = some e →
      s.launchArrive c q op = r.refuse c q pkt e) ∧
    (hs.findSome? (fun h => (r.eventFault h p).map fun e => (h, e)) = none → r.arrivalTest pkt p = none →
      s.launchArrive c q op = { b with gs := { b.gs with waiting := arriveAmong b.gs.waiting ⟨b.cc, c, q, p, false, 0, pkt⟩ } }) := by
  intro r p hs b
  simp only [State.launchArrive, hpkt]
  rw [if_neg (by rw [Bool.not_eq_true]; exact hnew)]
  refine ⟨fun h e hfault => ?_, fun e hfault htest => ?_, fun hfault htest => ?_⟩
  · simp only [r, p, hs] at hfault ⊢
    rw [hfault]
  · simp only [r, p, hs] at hfault htest ⊢
    rw [hfault]
    simp only [htest]
  · simp only [r, p, hs, b] at hfault htest ⊢
    rw [hfault]
    simp only [htest]

end Arrive

theorem State.tryLaunch_of_place {s : State} {w : Waiting} {n e slot nb eb : Nat} {i : Option Nat}
    (hneeds : s.launchNeeds w.pkt w.part = .ok (n, e, i))
    (hbound : s.isBound w.part i = false ∨ (s.leaving = false ∧ s.inEpisode E.TAG_WINDOW.code (windowKey 1 w.part) = false))
    (hwin : s.windowShut w.part = false) (hplace : s.launchPlace w.part n e = some (slot, nb, eb)) :
    s.tryLaunch w = (s.acceptLaunch w n e i slot nb eb, true) := by
  have hstay : ¬ (s.isBound w.part i ∧ s.leaving) := by
    rcases hbound with h | ⟨h, -⟩ <;> simp [h]
  have hopen : ¬ (s.isBound w.part i ∧ s.inEpisode E.TAG_WINDOW.code (windowKey 1 w.part) ∧ tagWindow ≤ s.roundAge w.part) := by
    rcases hbound with h | ⟨-, h⟩ <;> simp [h]
  simp only [State.tryLaunch, hneeds]
  rw [if_neg hstay, if_neg hopen, if_neg (by simp [hwin])]
  simp only [hplace]

/-- Settles O23: a packet by the first thing that its checks find, and a waiting launch that has a place. -/
theorem launchPacketsAreJudged : Obligations.LaunchPacketsAreJudged := by
  refine ⟨fun s c q op pkt hpkt hnew => ?_, fun s h => if_pos (.inl h), fun s h => if_pos (.inr (by simp [h])),
    fun s w n e slot nb eb i hrun hgs hw hneeds hbound hwin hplace => ?_⟩
  · obtain ⟨hevent, htest, hwait⟩ := State.launchArrive_of_new hpkt hnew
    refine ⟨fun hf ht => ⟨?_, ?_, ?_⟩, fun e hf ht => ⟨?_, ?_, ?_⟩, fun h e hf => ⟨?_, ?_, ?_⟩⟩ <;> rintro rfl
    · exact next_congr (hwait hf ht)
    · exact next_congr (hwait hf ht)
    · exact next_congr (hwait hf ht)
    · exact next_congr (htest e hf ht)
    · exact next_congr (htest e hf ht)
    · exact next_congr (htest e hf ht)
    · exact next_congr (hevent h e hf)
    · exact next_congr (hevent h e hf)
    · exact next_congr (hevent h e hf)
  · have hopen : ¬ (s.halted ∨ !s.unitEn U.GS) := by simp [hrun, hgs]
    refine (if_neg hopen).trans (next_congr ?_)
    simp [hw, oldestOfParts, State.tryLaunch_of_place hneeds hbound hwin hplace]

/-! ### Copy, waits and release (R99, R101, R102) -/

/-- What the correction of words leaves alone: the fields of the rows. -/
theorem State.sl_genRead (s : State) (g : Gen) (slot : Nat) (f : Fld) : (s.genRead g).sl slot f = s.sl slot f := by
  have hkeep : Keep 12583056 s (s.genRead g) := State.genRead_keep rfl (Keep.refl s)
  simp only [State.sl, State.rm, State.ram, hkeep.sram rfl]

theorem exec_copyFinish_of_launch {s : State} {slot : Nat} {rest : List PipeReq} (h : s.gs.pipe = .launch slot :: rest) :
    exec .copyFinish s = .next (({ s with gs := { s.gs with pipe := rest } } : State).copyLaunch slot) := by
  simp [exec, execCopyFinish, h]

theorem State.copyLaunch_of_op {s : State} {slot : Nat} {l : Launch} {pkt : List Word} (hl : s.launch? slot = some l)
    (hop : l.opNode = some pkt) : s.copyLaunch slot = (s.copyOp slot pkt).copyDone slot l := by
  simp [State.copyLaunch, hl, hop]

theorem State.copyLaunch_of_template {s : State} {slot : Nat} {l : Launch} {g : Gen} (hl : s.launch? slot = some l) (hop : l.opNode = none)
    (hg : s.gen? l.tmpl l.gen = some g) :
    let r := s.genRead g
    r.genBad g = none →
    s.copyLaunch slot =
      ((((List.range g.edgeCount).foldl (fun s j => s.copyEdge (g.edgeBase + j) (r.sl slot Sl.EDGE_BASE + j) (r.sl slot Sl.NODE_BASE))
      ((List.range g.nodeCount).foldl (fun t i => t.copyNode slot (t.sl slot Sl.QUEUE) (g.nodeBase + i) (r.sl slot Sl.NODE_BASE + i)
        (r.sl slot Sl.EDGE_BASE)) r)).copyDone slot l).dropReader g.tmpl g.gen) := by
  intro r hok
  simp only [State.copyLaunch, hl, hop, hg, r, hok, State.sl_genRead]

section Wait
variable {s : State} {slot : Nat} {l : Launch} (hl : s.launch? slot = some l) (hclear : (s.slotRead slot).sl slot Sl.WAITS_CLEAR = 0)
  (hst : (s.slotRead slot).sl slot Sl.STATE = 1 ∨ (s.slotRead slot).sl slot Sl.STATE = 2)
include hl hclear hst

theorem exec_waitsClear_of_holds (hok : (s.slotRead slot).brokenWait l = none) (hw : (s.slotRead slot).waitsHold l) :
    exec (.waitsClear slot) s = .next (((s.slotRead slot).setSl slot Sl.WAITS_CLEAR 1).readParam slot) := by
  have hwaits : ¬ ((s.slotRead slot).sl slot Sl.WAITS_CLEAR = 1 ∨ ((s.slotRead slot).sl slot Sl.STATE ≠ 1 ∧ (s.slotRead slot).sl slot Sl.STATE ≠ 2)) := by
    omega
  simp only [exec, execWaitsClear, hl, if_neg hwaits, hok, if_pos hw]

theorem exec_waitsClear_of_lost {h : Nat} (hbad : (s.slotRead slot).brokenWait l = some (h, E.EVENT_HANDLE)) :
    exec (.waitsClear slot) s = .next (((s.slotRead slot).reportNode E.EVENT_HANDLE ((s.slotRead slot).sl slot Sl.PART) 0 l.launchId).killLaunch slot
      E.EVENT_HANDLE.code false) := by
  have hwaits : ¬ ((s.slotRead slot).sl slot Sl.WAITS_CLEAR = 1 ∨ ((s.slotRead slot).sl slot Sl.STATE ≠ 1 ∧ (s.slotRead slot).sl slot Sl.STATE ≠ 2)) := by
    omega
  simp only [exec, execWaitsClear, hl, if_neg hwaits, hbad, if_true]

end Wait

/-- Settles O24: the request at the head of the pipeline, the waits of a launch, and a launch that may be released. -/
theorem launchesAreCopiedAndReleased : Obligations.LaunchesAreCopiedAndReleased := by
  refine ⟨fun s slot rest l pkt hpipe hl hop => ?_, fun s slot rest l g hpipe hl hop hg hok => ?_, fun s c q rest hpipe => ?_,
    fun s slot l hl hclear hst hok hw => exec_waitsClear_of_holds hl hclear hst hok hw,
    fun s slot l h hl hclear hst hbad => exec_waitsClear_of_lost hl hclear hst hbad, fun s slot h => if_pos h, fun s slot h => if_neg (by simp [h])⟩
  · exact (exec_copyFinish_of_launch hpipe).trans
      (next_congr (State.copyLaunch_of_op (s := { s with gs := { s.gs with pipe := rest } }) hl hop))
  · exact (exec_copyFinish_of_launch hpipe).trans
      (next_congr (State.copyLaunch_of_template (s := { s with gs := { s.gs with pipe := rest } }) hl hop hg hok))
  · simp [exec, execCopyFinish, hpipe]

/-! ### Templates -/

section Load
variable {s : State} {c q : Nat} {j : TmplJob} (hj : s.tmplJob? c q = some j)
include hj

/-- A load whose image has arrived, with room for its template extend. -/
theorem exec_templateCheckDone_of_read (hload : j.patch = false) (hphase : j.phase = .read) (hroom : s.pau.tmplQ.length < 16) :
    let m := imageOf j.words
    let k := s.imageCheck (s.ctx c).part (headerOk s.build j.words) m
    exec (.templateCheckDone c q) s =
      if k ≠ 0 then .next (s.refuseTmpl c q (s.slowPkt c q) E.TMPL_INVALID (2 ^ 32 * k))
      else match s.allocTmpl (s.ctx c).part m.nodes m.edges with
        | .error e => .next (s.refuseTmpl c q (s.slowPkt c q) e)
        | .ok (t, a, b) => .next ((t.writeImage (s.ctx c).part a b 1 m).commitTmpl c q (s.slowPkt c q) false j.tmpl (s.ctx c).part a b m) := by
  have hgo : ¬ (j.patch ∨ j.phase ≠ .read ∨ 16 ≤ s.pau.tmplQ.length) := by simp [hload, hphase, hroom]
  simp only [exec, execTemplateCheckDone, hj, if_neg hgo] <;> rfl

/-- A patch whose list has arrived and whose handle is still good. -/
theorem exec_patchTemplate_of_read {g : Gen} (hslow : s.slowRun c q 0x21 = none) (hpatch : j.patch) (hphase : j.phase = .read)
    (huse : ∃ i, s.tmplUse (pf (s.slowPkt c q) 1 31 0) (s.ctx c).part = .ok i) (hg : s.gen? j.tmpl j.gen = some g) :
    exec (.patchTemplate c q) s =
      match (List.range (j.words.length / 4)).find? fun k => !patchRecOk (patchRec j.words k) g.nodeCount g.edgeCount with
      | some k => .next (s.refuseTmpl c q (s.slowPkt c q) E.PATCH_INVALID (2 ^ 48 * k))
      | none => .next (s.patchGo c q j (s.slowPkt c q) g) := by
  obtain ⟨i, huse⟩ := huse
  have hgo : ¬ (!j.patch ∨ (j.phase ≠ .read ∧ j.phase ≠ .alloc)) := by simp [hpatch, hphase]
  simp only [exec, execPatchTemplate, hslow, hj, if_neg hgo, huse, hg] <;> rfl

theorem exec_patchCommit_of_copied {g : Gen} (hpatch : j.patch) (hphase : j.phase = .copied) (hroom : s.pau.tmplQ.length < 16)
    (hg : s.gen? j.tmpl j.gen = some g) (hdmg : g.damaged = false) :
    let m := s.genImage j.nodeBase j.nodeCount j.edgeBase j.edgeCount g.rootCount g.sink
    exec (.patchCommit c q) s =
      if s.imageCheck g.part true m ≠ 0 then .next (s.refuseTmpl c q (s.slowPkt c q) E.TMPL_INVALID (2 ^ 32 * s.imageCheck g.part true m))
      else .next (((((List.range j.nodeCount).foldl (fun s i => s.setNd (j.nodeBase + i) Nd.STATE 1) s).updTmplJob c q fun j =>
        { j with reserved := false }).retireGen j.tmpl).commitTmpl c q (s.slowPkt c q) true j.tmpl g.part j.nodeBase j.edgeBase m) := by
  have hgo : ¬ (!j.patch ∨ j.phase ≠ .copied ∨ 16 ≤ s.pau.tmplQ.length) := by simp [hpatch, hphase, hroom]
  simp only [exec, execPatchCommit, hj, if_neg hgo, hg, hdmg]
  rfl

end Load

theorem State.patchGo_of_room {s t : State} {c q a b : Nat} {j : TmplJob} {g : Gen} (pkt : List Word) (hphase : j.phase = .read)
    (hret : s.retireUsed < 16) (halloc : s.allocTmpl g.part g.nodeCount g.edgeCount = .ok (t, a, b)) :
    let u := t.setRm (dirRow j.tmpl) Dir.STATE 3
    u.gs.pipe.length < 64 →
    s.patchGo c q j pkt g = (u.updTmplJob c q fun j =>
      { j with reserved := true, nodeBase := a, edgeBase := b, nodeCount := g.nodeCount, edgeCount := g.edgeCount, phase := .copying }).pushPipe
        (.patch c q) := by
  intro u hpipe
  have hroom : decide (64 ≤ u.gs.pipe.length) = false := decide_eq_false (Nat.not_le.2 hpipe)
  simp only [State.patchGo, hphase, Nat.not_le.2 hret, halloc, u] at hroom ⊢
  simp only [hroom]
  rfl

/-- Settles O25: each template command by the outcome of its checks; that a freed entry keeps GEN and is 0 else is the model's choice
(log entry 31). -/
theorem templatesAreLoadedPatchedAndFreed : Obligations.TemplatesAreLoadedPatchedAndFreed := by
  refine ⟨⟨fun s c q i pkt hpkt hi => ?_, fun s c q pkt hpkt hnone => ?_, fun s c q j hj hload hphase hroom => ?_⟩,
    fun s c q pkt hpkt => ⟨fun i huse => ?_, fun e huse => ?_⟩, fun s t c q a b j g hslow hj hpatch hphase huse hg hrec hret halloc hpipe => ?_,
    fun s c q k j g hslow hj hpatch hphase huse hg hrec => ?_, fun s c q j g hj hpatch hphase hroom hg hdmg => ?_,
    fun s c q i pkt hpkt hof hret => ?_, fun s c q pkt e hpkt hof => ?_⟩
  · simp only [exec, execLoadTemplate, hpkt, hi]
  · simp only [exec, execLoadTemplate, hpkt, hnone]
  · have hrun := exec_templateCheckDone_of_read hj hload hphase hroom
    refine ⟨fun hk => hrun.trans (if_pos hk), fun e hk he => hrun.trans ((if_neg (not_not_intro hk)).trans ?_),
      fun t a b hk hok => hrun.trans ((if_neg (not_not_intro hk)).trans ?_)⟩
    · rw [he]
    · rw [hok]
  · simp only [exec, execPatchTemplate, hpkt, huse]
  · simp only [exec, execPatchTemplate, hpkt, huse]
  · rw [exec_patchTemplate_of_read hj hslow hpatch hphase huse hg, hrec]
    exact next_congr (State.patchGo_of_room _ hphase hret halloc hpipe)
  · rw [exec_patchTemplate_of_read hj hslow hpatch hphase huse hg, hrec]
  · have hrun := exec_patchCommit_of_copied hj hpatch hphase hroom hg hdmg
    exact ⟨fun hk => hrun.trans (if_neg (not_not_intro hk)), fun hk => hrun.trans (if_pos hk)⟩
  · simp only [exec, execFreeTemplate, hpkt, hof, Nat.not_le.2 hret]
    rfl
  · simp only [exec, execFreeTemplate, hpkt, hof]

end Sys2Proof.Machine
end

section
/-! PROOFS. Event and semaphore commands in their place among the operations of a cc, waits, signals, fences, queries, and the events' own
commands (R164 to R181, R246 to R250, R310). -/

namespace Sys2Proof.Machine

/-! ### The place of an operation in its cc (R173, R248) -/

theorem State.recordTurn_of_late {s : State} {c q n : Nat} (h : s.cyc.evStep < 2 ∨ (s.cyc.evStep = 2 ∧ s.cyc.evKey ≤ semOrder c q n)) :
    s.recordTurn c q n = { s with cyc := { s.cyc with evStep := 2, evKey := semOrder c q n } } := by
  have hnow : (decide (2 < s.cyc.evStep) || (decide (s.cyc.evStep = 2) && decide (semOrder c q n < s.cyc.evKey))) = false := by
    simp only [Bool.or_eq_false_iff, Bool.and_eq_false_iff, decide_eq_false_iff_not]
    omega
  simp only [State.recordTurn, hnow]
  rfl

theorem State.semTurnOf_of_late {s : State} {c q n : Nat} (hfull : s.semFull 5 = false) (h : s.cyc.semStep ≠ 5 ∨ s.cyc.semKey ≤ semOrder c q n) :
    s.semTurnOf c q n = ({ s with cyc := { s.cyc with semKey := semOrder c q n } } : State).semOp 5 := by
  have hnow : (s.semFull 5 || (decide (s.cyc.semStep = 5) && decide (semOrder c q n < s.cyc.semKey))) = false := by
    simp only [hfull, Bool.or_eq_false_iff, Bool.and_eq_false_iff, decide_eq_false_iff_not, true_and]
    omega
  simp only [State.semTurnOf, hnow]
  rfl

/-! ### Commands that do not block their head (R164) -/

section Pend
variable {s : State} {c q : Nat} {x : Queue} (hx : s.queue? c q = some x)
include hx

theorem State.effectNow_eq : s.effectNow c q = decide (x.qseq ≤ x.completed) := by
  simp [State.effectNow, hx]

variable (pkt : List Word) (f : State → Nat → State)

theorem State.pendOrRun_of_now (h : x.qseq ≤ x.completed) : s.pendOrRun c q pkt f = f (s.consume c q) (s.headQseq c q) := by
  simp [State.pendOrRun, State.effectNow_eq hx, h]

theorem State.pendOrRun_of_room (h : x.completed < x.qseq) (hroom : x.pend.length < 16) :
    s.pendOrRun c q pkt f = (s.consume c q).updQueue c q fun x => { x with pend := x.pend ++ [⟨s.headQseq c q, pkt⟩] } := by
  simp [State.pendOrRun, State.effectNow_eq hx, Nat.not_le.2 h, hx, hroom]

theorem State.pendOrRun_of_full (h : x.completed < x.qseq) (hfull : 16 ≤ x.pend.length) : s.pendOrRun c q pkt f = s.blockHead c q none := by
  simp [State.pendOrRun, State.effectNow_eq hx, Nat.not_le.2 h, hx, Nat.not_lt.2 hfull]

end Pend

/-! ### RECORD_EVENT, ADD and SUB at a head -/

section Record
variable {s : State} {c q : Nat} {pkt : List Word} (hpkt : s.headPkt c q 4 = some pkt)
  (hev : s.eventFault (pf pkt 1 31 0) (s.ctx c).part = none)
include hpkt hev

theorem State.recordHead_of_sound : s.recordHead c q = s.pendOrRun c q pkt fun s n => s.applyRecord c q n pkt := by
  simp [State.recordHead, hpkt, hev]

theorem exec_recordEvent_of_waits (hnow : s.effectNow c q = false) :
    exec (.recordEvent c q) s = .next (s.pendOrRun c q pkt fun s n => s.applyRecord c q n pkt) := by
  rw [← State.recordHead_of_sound hpkt hev]
  simp [exec, execRecordEvent, hnow]

theorem exec_recordEvent_of_now {x : Queue} (hx : s.queue? c q = some x) (hnow : x.qseq ≤ x.completed)
    (hlate : s.cyc.evStep < 2 ∨ (s.cyc.evStep = 2 ∧ s.cyc.evKey ≤ semOrder c q (s.headQseq c q))) :
    exec (.recordEvent c q) s = .next ((({ s with cyc := { s.cyc with evStep := 2, evKey := semOrder c q (s.headQseq c q) } } : State).consume c
      q).applyRecord c q (s.headQseq c q) pkt) := by
  let t : State := { s with cyc := { s.cyc with evStep := 2, evKey := semOrder c q (s.headQseq c q) } }
  have hhead : t.recordHead c q = t.pendOrRun c q pkt fun s n => s.applyRecord c q n pkt := State.recordHead_of_sound (s := t) hpkt hev
  have hrun : t.pendOrRun c q pkt (fun s n => s.applyRecord c q n pkt) = (t.consume c q).applyRecord c q (s.headQseq c q) pkt :=
    State.pendOrRun_of_now (s := t) hx pkt _ hnow
  have hturn : (s.headPkt c q 4).isSome ∧ s.effectNow c q := by simp [hpkt, State.effectNow_eq hx, hnow]
  simp only [exec, execRecordEvent, if_pos hturn]
  rw [State.recordTurn_of_late hlate]
  exact next_congr (hhead.trans hrun)

end Record

section Sem
variable {s : State} {c q op : Nat} {pkt : List Word} (hpkt : s.semPkt c q op = some pkt)
include hpkt

/-- ADD or SUB takes effect at its head, in its turn. -/
theorem State.semCount_of_now {x : Queue} (hx : s.queue? c q = some x) (hcheck : s.semCheck c pkt false = none) (hready : s.smReady)
    (hnow : x.qseq ≤ x.completed) (hfull : s.semFull 5 = false) (hlate : s.cyc.semStep ≠ 5 ∨ s.cyc.semKey ≤ semOrder c q (s.headQseq c q)) :
    (s.headTurn c q op).semCount c q op =
      ((({ s with cyc := { s.cyc with semKey := semOrder c q (s.headQseq c q) } } : State).semOp 5).consume c q).applySem c q (s.headQseq c q) pkt := by
  let t : State := ({ s with cyc := { s.cyc with semKey := semOrder c q (s.headQseq c q) } } : State).semOp 5
  have hturn : s.headTurn c q op = t := by
    have hgo : (s.semPkt c q op).isSome ∧ s.smReady ∧ s.effectNow c q := by simp [hpkt, hready, State.effectNow_eq hx, hnow]
    rw [State.headTurn, if_pos hgo, State.semTurnOf_of_late hfull hlate]
  have hpkt' : t.semPkt c q op = some pkt := hpkt
  have hcheck' : t.semCheck c pkt false = none := hcheck
  have hready' : t.smReady = true := hready
  have hrun : t.pendOrRun c q pkt (fun s n => s.applySem c q n pkt) = (t.consume c q).applySem c q (s.headQseq c q) pkt :=
    State.pendOrRun_of_now (s := t) hx pkt _ hnow
  rw [hturn, ← hrun]
  simp only [State.semCount, hpkt', hcheck', hready']
  rfl

theorem State.semCount_of_refused {e : Err} (hcheck : s.semCheck c pkt false = some e) (hready : s.smReady = false) :
    (s.headTurn c q op).semCount c q op = s.refuse c q pkt e := by
  simp [State.headTurn, hready, State.semCount, hpkt, hcheck]

end Sem

/-! ### The pending list and the record itself -/

theorem exec_pendingTakeEffect_of_due {s : State} {c q : Nat} {x : Queue} {p : PendCmd} {rest : List PendCmd} (hx : s.queue? c q = some x)
    (hpend : x.pend = p :: rest) (hcfe : s.unitEn U.CFE) (hdue : p.qseq ≤ x.completed + 1) :
    let u := s.updQueue c q fun x => { x with pend := rest }
    exec (.pendingTakeEffect c q) s = .next (if pf p.pkt 0 7 0 = 4 then (u.recordTurn c q p.qseq).applyRecord c q p.qseq p.pkt
      else (u.semTurnOf c q p.qseq).applySem c q p.qseq p.pkt) := by
  have hgo : ¬ (!s.unitEn U.CFE ∨ x.completed + 1 < p.qseq) := by simp [hcfe, hdue]
  simp only [exec, execPendingTakeEffect, hx, hpend, if_neg hgo]

theorem exec_pendingTakeEffect_of_held {s : State} {c q : Nat} {x : Queue} (hx : s.queue? c q = some x)
    (h : s.unitEn U.CFE = false ∨ ∀ p rest, x.pend = p :: rest → x.completed + 1 < p.qseq) : exec (.pendingTakeEffect c q) s = .next s := by
  rcases hp : x.pend with _ | ⟨p, rest⟩
  · simp only [exec, execPendingTakeEffect, hx, hp]
  · have hstop : !s.unitEn U.CFE ∨ x.completed + 1 < p.qseq := h.imp (by simp [·]) (· p rest hp)
    simp only [exec, execPendingTakeEffect, hx, hp, if_pos hstop]

/-- Settles O26: a command of a head now, pending or blocked, a command of the pending list, and what a record does to its event. -/
theorem commandsTakeEffectAndChangeEvents : Obligations.CommandsTakeEffectAndChangeEvents := by
  refine ⟨fun s c q x hx => ?_, fun s t c q n pkt ev hev ht => ?_⟩
  · intro n late semLate
    refine ⟨fun pkt hpkt hev => ⟨fun hnow hlate => exec_recordEvent_of_now hpkt hev hx hnow hlate, fun hwait hroom => ?_, fun hwait hfull => ?_⟩,
      fun pkt hpkt hcheck hready hnow hlate => next_congr (State.semCount_of_now hpkt hx hcheck hready hnow hlate.1 hlate.2),
      fun pkt hpkt hcheck hready hnow hlate => next_congr (State.semCount_of_now hpkt hx hcheck hready hnow hlate.1 hlate.2),
      fun pkt e hpkt hcheck hready => next_congr (State.semCount_of_refused hpkt hcheck hready), fun p rest hcfe hpend hdue => ?_,
      fun p rest hpend hwait => exec_pendingTakeEffect_of_held hx (.inr fun p' rest' h => ?_),
      fun hoff => exec_pendingTakeEffect_of_held hx (.inl hoff)⟩
    · rw [exec_recordEvent_of_waits hpkt hev (by simp [State.effectNow_eq hx, hwait]), State.pendOrRun_of_room hx _ _ hwait hroom]
    · rw [exec_recordEvent_of_waits hpkt hev (by simp [State.effectNow_eq hx, hwait]), State.pendOrRun_of_full hx _ _ hwait hfull]
    · intro u
      have hrun := exec_pendingTakeEffect_of_due hx hpend hcfe hdue
      refine ⟨fun hop hlate => hrun.trans (next_congr ((if_pos hop).trans ?_)), fun hop hlate => hrun.trans (next_congr ((if_neg hop).trans ?_))⟩
      · rw [State.recordTurn_of_late (s := u) hlate]
      · rw [State.semTurnOf_of_late (s := u) hlate.1 hlate.2]
    · rw [hpend] at h
      obtain ⟨rfl, -⟩ := List.cons.inj h
      exact hwait
  · intro v
    refine ⟨fun hsat => ?_, fun hsat => ?_, fun m => rfl, fun m hm => ?_, fun m hm => ?_⟩
    · simp only [State.applyRecord, hev, ht]
      exact if_neg (by rw [Bool.not_eq_true]; exact hsat)
    · simp only [State.applyRecord, hev, ht]
      exact if_pos hsat
    · simp only [recordValue, Bool.false_eq_true, if_false, Prod.mk.injEq, decide_eq_false_iff_not]
      omega
    · simp only [recordValue, Bool.false_eq_true, if_false, Prod.mk.injEq, decide_eq_true_eq]
      omega

/-! ### Waits (R173, R175, R246, R249) -/

section WaitEvent
variable {s : State} {c q : Nat} {pkt : List Word} {ev : Event} (hpkt : s.headPkt c q 5 = some pkt)
  (hok : s.eventFault (pf pkt 1 31 0) (s.ctx c).part = none) (hev : s.event? (hIdx (pf pkt 1 31 0)) = some ev)
include hpkt hok hev

theorem exec_waitEvent_of_met (h : wide pkt 2 ≤ ev.val.toNat) : exec (.waitEvent c q) s = .next (s.finishHead c q pkt 0 ev.val.toNat) := by
  simp [exec, execWaitEvent, hpkt, hok, hev, h]

theorem exec_waitEvent_of_unmet (h : ev.val.toNat < wide pkt 2) :
    let b := s.blockHead c q (some (.event (pf pkt 1 31 0) (wide pkt 2)))
    (b.rb Reg.CFE_CTRL_CYCLE_DETECT = false → exec (.waitEvent c q) s = .next b) ∧
    (∀ x, s.queue? c q = some x → x.state ≠ .blocked → b.rb Reg.CFE_CTRL_CYCLE_DETECT →
      exec (.waitEvent c q) s = .next { b with fe := { b.fe with walks := b.fe.walks ++ [(c, q, b.headQseq c q)] } }) := by
  intro b
  refine ⟨fun hoff => ?_, fun x hx hst hon => ?_⟩
  · have hoff' := hoff
    simp only [b] at hoff'
    simp [exec, execWaitEvent, hpkt, hok, hev, Nat.not_le.2 h, hoff', b]
  · have hon' := hon
    simp only [b] at hon'
    simp [exec, execWaitEvent, hpkt, hok, hev, Nat.not_le.2 h, hon', hx, hst, b]

end WaitEvent

section WaitSem
variable {s : State} {c q op : Nat} {consume : Bool} {pkt : List Word} (hpkt : s.semPkt c q op = some pkt)
include hpkt

theorem State.semWaitOp_of_granted {w : SemWait} {r : Nat} (hw : s.semWaitOf c q = some w) (hr : w.granted = some r) :
    s.semWaitOp c q op consume = (s.dropWait (.queue c q)).finishHead c q pkt 0 r := by
  simp only [State.semWaitOp, hpkt, hw, hr]

theorem State.semWaitOp_of_waiting {w : SemWait} (hw : s.semWaitOf c q = some w) (hr : w.granted = none) :
    s.semWaitOp c q op consume =
      s.blockHead c q (some (if consume then .semGeSub (pf pkt 1 15 0) (pf pkt 2 31 0) else .semGe (pf pkt 1 15 0) (pf pkt 2 31 0))) := by
  simp only [State.semWaitOp, hpkt, hw, hr]

variable {t : State} (hnew : s.semWaitOf c q = none) (hcheck : s.semCheck c pkt (!consume) = none) (hready : s.smReady)
  (ht : s.checkSem (pf pkt 1 15 0) = (t, none)) (hport : t.portOf (pf pkt 1 15 0) = none)
include hnew hcheck hready ht hport

theorem State.semWaitOp_of_zero (hv : pf pkt 2 31 0 = 0) :
    s.semWaitOp c q op consume = t.finishHead c q pkt 0 (t.semVal (pf pkt 1 15 0)) := by
  simp only [State.semWaitOp, hpkt, hnew, hcheck, hready, ht, hport, if_pos hv]
  rfl

theorem State.semWaitOp_of_begun {w : SemWait} (hv : pf pkt 2 31 0 ≠ 0)
    (hw : (t.addWait (pf pkt 1 15 0) (pf pkt 2 31 0) consume (.queue c q)).semWaitOf c q = some w) (hr : w.granted = none) :
    s.semWaitOp c q op consume = (t.addWait (pf pkt 1 15 0) (pf pkt 2 31 0) consume (.queue c q)).blockHead c q
      (some (if consume then .semGeSub (pf pkt 1 15 0) (pf pkt 2 31 0) else .semGe (pf pkt 1 15 0) (pf pkt 2 31 0))) := by
  simp only [State.semWaitOp, hpkt, hnew, hcheck, hready, ht, hport, if_neg hv, hw, hr]
  rfl

end WaitSem

/-- Settles O27: a wait that is met, one that blocks, and one that is granted. -/
theorem waitsBlockUntilGranted : Obligations.WaitsBlockUntilGranted := by
  intro s c q
  refine ⟨fun pkt ev hpkt hok hev => ⟨fun h => exec_waitEvent_of_met hpkt hok hev h, fun h _ hoff => (exec_waitEvent_of_unmet hpkt hok hev h).1 hoff⟩,
    fun pkt ev x hpkt hok hev hx hst h hon => (exec_waitEvent_of_unmet hpkt hok hev h).2 x hx hst hon,
    fun pkt t hpkt hnew hcheck hready ht hport =>
      ⟨fun hv => next_congr (State.semWaitOp_of_zero (consume := false) hpkt hnew hcheck hready ht hport hv),
        fun w hv hw hr => next_congr (State.semWaitOp_of_begun (consume := false) hpkt hnew hcheck hready ht hport hv hw hr)⟩,
    fun pkt w r hpkt hw hr => next_congr (State.semWaitOp_of_granted hpkt hw hr),
    fun pkt w r hpkt hw hr => next_congr (State.semWaitOp_of_granted hpkt hw hr),
    fun pkt w hpkt hw hr => next_congr (State.semWaitOp_of_waiting (consume := false) hpkt hw hr),
    fun pkt w hpkt hw hr => next_congr (State.semWaitOp_of_waiting (consume := true) hpkt hw hr)⟩

/-! ### Signals, fences, queries (R169, R181, R310) -/

section Signal
variable {s : State} {c q : Nat} {pkt : List Word} (hpkt : s.slowRun c q 0x10 = some pkt)
include hpkt

/-- What a SIGNAL_REMOTE starts, from the state in which it takes its turn. -/
def State.signalOf (s : State) (c q n part : Nat) (pkt : List Word) : State × Option (Nat × Nat) :=
  s.startSignal (.cmd c q n (Rep.ofPkt pkt)) (pf pkt 1 11 0) (pf pkt 2 31 0) (pf pkt 3 0 0 == 1) (wide pkt 4) part

theorem exec_signalRemote_of_turn {t : State} (ht : (if pf pkt 1 11 0 = s.self then s.tick.recordTurn c q (s.headQseq c q) else s) = t) :
    ((t.signalOf c q (s.headQseq c q) (s.ctx c).part pkt).2 = none →
      exec (.signalRemote c q) s = .next ((t.signalOf c q (s.headQseq c q) (s.ctx c).part pkt).1.slowAway c q)) ∧
    (∀ code v, (t.signalOf c q (s.headQseq c q) (s.ctx c).part pkt).2 = some (code, v) →
      exec (.signalRemote c q) s = .next ((t.signalOf c q (s.headQseq c q) (s.ctx c).part pkt).1.finishHead c q pkt code (if code = 0 then v else 0))) := by
  have hrun : exec (.signalRemote c q) s = match t.signalOf c q (s.headQseq c q) (s.ctx c).part pkt with
      | (s, none) => .next (s.slowAway c q)
      | (s, some (code, v)) => .next (s.finishHead c q pkt code (if code = 0 then v else 0)) := by
    subst ht
    simp only [exec, execSignalRemote, hpkt] <;> rfl
  rw [hrun]
  rcases t.signalOf c q (s.headQseq c q) (s.ctx c).part pkt with ⟨u, _ | ⟨code', v'⟩⟩
  · exact ⟨fun _ => rfl, fun _ _ h => by cases h⟩
  · refine ⟨fun h => (by cases h), fun code v h => ?_⟩
    cases h
    rfl

end Signal

theorem exec_fence_of_held {s : State} {c q : Nat} {pkt : List Word} (hpkt : s.slowHeld c q 0x11 = some pkt) :
    exec (.fence c q) s = .next (if (1 ≤ pf pkt 1 1 0 ∧ s.writesOut c q) ∨ (pf pkt 1 1 0 = 2 ∧ s.remoteOut c q) then s.slowAway c q
      else s.finishHead c q pkt 0) := by
  simp only [exec, execFence, hpkt]

/-- Settles O28: each command by what it names and by what it still waits for. -/
theorem signalsFencesAndQueries : Obligations.SignalsFencesAndQueries := by
  intro s c q pkt
  refine ⟨fun hpkt hfar => exec_signalRemote_of_turn hpkt (if_neg hfar), fun hpkt hself => (exec_signalRemote_of_turn hpkt (if_pos hself)).2,
    fun hpkt hscope => ?_, fun hpkt hw hr => ?_, fun hpkt hscope hr => ?_, fun hpkt hi hst hpart => ?_, fun ev hpkt hev hgen hpart t ht => ?_,
    fun l hpkt hl => ?_, fun hpkt hnone => ?_, fun x hpkt hx => ?_, fun hpkt hof hready t ht => ?_, fun hpkt hof hready => ?_⟩
  · rw [exec_fence_of_held hpkt, if_neg (by omega)]
  · rw [exec_fence_of_held hpkt, if_neg (by simp [hw, hr])]
  · rw [exec_fence_of_held hpkt, if_pos (.inr ⟨hscope, hr⟩)]
  · simp [exec, execQueryTemplate, hpkt, Nat.not_le.2 hi, Nat.not_lt.2 hst, hpart]
  · simp [exec, execQueryEvent, hpkt, hev, hgen, hpart, ht]
  · simp only [exec, execQueryLaunch, hpkt, hl]
  · simp only [exec, execQueryLaunch, hpkt, hnone, List.find?_nil]
  · simp only [exec, execQueryQueue, hpkt, hx]
  · simp [exec, execQuerySemaphore, hpkt, hof, hready, ht]
  · simp [exec, execQuerySemaphore, hpkt, hof, hready]

/-! ### Events (R171) -/

/-- Settles O29: the quota and the index of a new event, and whether an event is still referred to, which the records that lie behind a head
packet count for (log entry 140). -/
theorem eventsAreCreatedAndDestroyed : Obligations.EventsAreCreatedAndDestroyed := by
  intro s c q pkt
  refine ⟨fun i hpkt hi hquota hfirst => ?_, fun i hpkt hi hquota => ?_, fun ev hpkt hev hfree => ?_, fun ev hpkt hev hok hbusy => ?_⟩
  · have hroom : ¬ s.rf (Reg.CFE_EVENT_QUOTA (s.ctx c).part) < (s.fe.events.filter fun e => e.live && e.part == (s.ctx c).part).length + 1 :=
      Nat.not_lt.2 hquota
    simp only [exec, execEventCreate, hpkt, hi, if_neg hroom, hfirst]
  · have hfull : s.rf (Reg.CFE_EVENT_QUOTA (s.ctx c).part) < (s.fe.events.filter fun e => e.live && e.part == (s.ctx c).part).length + 1 :=
      Nat.lt_succ_of_le hquota
    simp only [exec, execEventCreate, hpkt, hi, if_pos hfull]
  · simp [exec, execEventDestroy, hpkt, hev, hfree]
  · simp [exec, execEventDestroy, hpkt, hev, hok, hbusy]

end Sys2Proof.Machine
end

section
/-! PROOFS. Contexts and queues (R150 to R154, R178), queue heads (R158 to R162, R516), and the front end's cycles and timeouts (R175, R177,
R181). -/

namespace Sys2Proof.Machine

/-! ### Contexts -/

/-- A DESTROYING context without a consumed command that is not complete. -/
theorem State.ctxTryFree_of_done {s : State} {c : Nat} (hst : (s.ctx c).cstate = 2)
    (hdone : (s.fe.queues.filter fun x => x.ctx == c).all (fun x => decide (x.completed = x.qseq))) :
    let t := s.updCtx c fun x => { x with cstate := 0, part := 0, qmask := 0 }
    let u : State := { t with fe := { t.fe with queues := t.fe.queues.filter fun x => x.ctx != c } }
    s.ctxTryFree c =
      if u.ctxRunning ∧ u.fe.ctxCmd ≠ 0 ∧ u.fe.ctxTarget = c then { u.ctxDone with fe := { u.fe with ctxCmd := 0 } } else u :=
  if_pos ⟨hst, hdone⟩

/-- Settles O30: each command by the context or queue that it names, and a context that may become FREE. -/
theorem contextCommandsAreCarriedOut : Obligations.ContextCommandsAreCarriedOut := by
  refine ⟨fun s hp hidle => ?_, fun s c hst hdone => ?_, fun s c hst => next_congr (if_neg fun h => hst h.1)⟩
  · refine ⟨fun hcfe => next_regInput hp ?_, fun hcfe => next_regInput hp ?_, fun x hx => next_regInput hp ?_, fun x hx => next_regInput hp ?_,
      fun hx => ⟨next_regInput hp ?_, next_regInput hp ?_, fun q => next_regInput hp ?_⟩, fun x u q hx hu hst => next_regInput hp ?_,
      fun x u q hx hu hst => next_regInput hp ?_⟩
    · simp [State.ctxCreate, hidle, hcfe]
    · simp [State.ctxCreate, hidle, hcfe]
    · simp [State.ctxDestroy, hidle, hx]
    · simp [State.ctxDestroy, hidle, hx]
    · simp [State.ctxDestroy, hidle, hx]
    · simp [State.ctxDestroy, hidle, hx]
    · simp [State.ctxReset, hidle, hx]
    · simp [State.ctxReset, hidle, hx, hu, hst]
    · simp [State.ctxReset, hidle, hx, hu, hst]
  · have hfree := State.ctxTryFree_of_done hst hdone
    intro t u
    refine ⟨fun hnot => next_congr (hfree.trans (if_neg ?_)), fun hrun hcmd htgt => next_congr (hfree.trans (if_pos ⟨hrun, hcmd, htgt⟩))⟩
    rintro ⟨hrun, hcmd, htgt⟩
    rcases hnot with h | h | h
    · exact absurd (h.symm.trans hrun) (by decide)
    · exact hcmd h
    · exact h htgt

/-! ### Heads -/

theorem exec_headGrant_of_running {s : State} (hrun : s.halted = false) (hcfe : s.unitEn U.CFE) :
    exec .headGrant s = .next s.rotateHeads.grantNextQueue :=
  next_congr (if_neg (by simp [hrun, hcfe]))

/-- The packet at the read index of an ACTIVE head without a packet is decoded. -/
theorem exec_packetDecode_of_fetched {s : State} {c q i : Nat} {x : Queue} {h : Head} {pkt : List Word} (hfeed : s.feeding) (hx : s.queue? c q = some x)
    (hst : x.state = .active) (hh : s.head? c q = some h) (hcur : h.cur = none) (hpkt : h.fetched.find? (fun e => e.1 == x.read) = some (i, pkt)) :
    exec (.packetDecode c q) s = .next (s.decodeHead c q i pkt) := by
  have hgo : ¬ (!s.feeding ∨ (x.state ≠ .active ∧ x.state ≠ .blocked)) := by simp [hfeed, hst]
  simp only [exec, execPacketDecode, hx, hh, if_neg hgo, hcur, hpkt]

/-- Settles O31: rotation, grant and eviction, the packet at the read index, the Thresher's choice, and shadow records. -/
theorem queueHeadsAreFed : Obligations.QueueHeadsAreFed := by
  refine ⟨fun s hrun hcfe => ?_, fun s h hheads hfull hact hpend => ?_, fun s c q i x h pkt hfeed hx hst hh hcur hpkt => ?_,
    fun s e hthr hrun hhold hfree he => ?_, fun s c q x hx hdirty hdue => ?_, fun s c q x hx hearly => ?_⟩
  · intro r
    have hgrant : exec .headGrant s = .next r.grantNextQueue := exec_headGrant_of_running hrun hcfe
    refine ⟨fun x hx hroom => ?_, fun x h hx hfull hh => ?_, fun hnone => ?_⟩
    · rw [hgrant, State.grantNextQueue, hx]
      exact next_congr (if_pos hroom)
    · rw [hgrant, State.grantNextQueue, hx, hh]
      exact next_congr (if_neg (Nat.not_lt.2 hfull))
    · rw [hgrant, State.grantNextQueue, hnone]
  · simp only [State.rotateHeads, hheads, List.filter_cons, hfull, hact, hpend]
    rfl
  · intro t
    have hrun : exec (.packetDecode c q) s = .next (match t.packetFault pkt with
        | some e => t.refuse c q pkt e
        | none => if slowOp (pf pkt 0 7 0) then (t.blockHead c q none).pushSlow c q pkt else t) :=
      exec_packetDecode_of_fetched hfeed hx hst hh hcur hpkt
    refine ⟨fun e he => ?_, fun hok hslow => ?_, fun hok hslow => ?_⟩
    · rw [hrun, he]
    · rw [hrun, hok]
      exact next_congr (if_neg (by rw [hslow]; decide))
    · rw [hrun, hok]
      exact next_congr (if_pos hslow)
  · simp only [exec, execThresherCommandStart, hthr, hrun, hhold, hfree, he]
    rfl
  · simp only [exec, execShadowRecordWrite, hx, if_pos (And.intro hdirty hdue)]
  · have hwait : ¬ (x.dirty ∧ 1000 + x.shadowGc ≤ s.now) := fun h => Nat.not_lt.2 h.2 hearly
    simp only [exec, execShadowRecordWrite, hx, if_neg hwait]

/-! ### Cycles and timeouts -/

/-- Settles O32: a walk that ends or closes, and the limits of a head, of a launch's waits and of a SIGNAL. -/
theorem frontEndTimeoutsAndCycles : Obligations.FrontEndTimeoutsAndCycles := by
  refine ⟨fun s c q n rest hwalk => ?_, fun s c q x k hx hk htb hlim hdue => ?_,
    fun s slot l x hl hx htb hstep hclear hst hlim hunmet hdue => ?_, fun s seq g hg hdue => ?_, fun s seq g hg hdue => ?_⟩
  · intro t
    have hrun : exec .eventCycleWalk s = .next (if t.headQseq c q ≠ n then t
        else match t.chain (c, q) 256 (c, q) [(c, q)] with
          | none => t
          | some qs => qs.foldl (fun s q => s.faultWith q.1 q.2 E.EVENT_CYCLE) t) := by
      simp only [exec, execEventCycleWalk, hwalk] <;> rfl
    refine ⟨fun hn => hrun.trans (next_congr (if_pos hn)), fun qs hn hchain => hrun.trans (next_congr ((if_neg (not_not_intro hn)).trans ?_)),
      fun hn hchain => hrun.trans (next_congr ((if_neg (not_not_intro hn)).trans ?_))⟩
    · rw [hchain]
    · rw [hchain]
  · simp only [exec, execHeadTimeout, hx, hk, if_pos (And.intro htb (And.intro hlim hdue))]
  · have hgo : s.tb.check ∧ !l.step ∧ s.sl slot Sl.WAITS_CLEAR = 0 ∧ (s.sl slot Sl.STATE = 1 ∨ s.sl slot Sl.STATE = 2) ∧ x.waitTimeout ≠ 0 ∧
        s.waitsUnmet l ∧ s.due l.acceptGc (100000 * x.waitTimeout) := ⟨htb, by simp [hstep], hclear, hst, hlim, hunmet, hdue⟩
    simp only [exec, execWaitTimeout, hl, hx, if_pos hgo]
  · simp only [exec, execSignalTimeout, hg, if_pos hdue]
  · simp only [exec, execSignalTimeout, hg, hdue]
    rfl

end Sys2Proof.Machine
end

section
/-! PROOFS. Sequences and their commands (R189 to R191), sweeps (R210, R211), and step streams (R193 to R208). -/

namespace Sys2Proof.Machine

/-! ### SEQ_ADMIT and SEQ_UPDATE -/

section Update
variable {s : State} {c q op : Nat} {pkt : List Word} {f : State → Nat → Nat → State} (hpkt : s.slowRun c q 0x31 = some pkt)
  (hfree : s.synthBusy (s.ctx c).part = false) (hop : pf pkt 2 2 0 = op)
include hpkt hfree hop

theorem State.seqUpdate_of_noHandle (hi : s.seqOf (pf pkt 1 31 0) (s.ctx c).part = none) :
    s.seqUpdate c q op f = s.refuse c q pkt E.SEQ_HANDLE := by
  simp [State.seqUpdate, hpkt, hfree, hop, hi]

theorem State.seqUpdate_of_ending {i : Nat} (hi : s.seqOf (pf pkt 1 31 0) (s.ctx c).part = some i) (hst : (s.checkSeq i).sq i Sq.STATE = 3) :
    s.seqUpdate c q op f = (s.checkSeq i).refuse c q pkt E.SEQ_STATE := by
  simp [State.seqUpdate, hpkt, hfree, hop, hi, hst]

theorem State.seqUpdate_of_live {i : Nat} (hi : s.seqOf (pf pkt 1 31 0) (s.ctx c).part = some i) (hst : (s.checkSeq i).sq i Sq.STATE ≠ 3) :
    s.seqUpdate c q op f = (f (s.checkSeq i) i (pf pkt 3 31 0)).finishHead c q pkt 0 (pf pkt 1 31 0) := by
  simp [State.seqUpdate, hpkt, hfree, hop, hi, hst]

end Update

/-- Settles O33: the checks of SEQ_ADMIT in their order, and each OP of SEQ_UPDATE. -/
theorem sequencesAreAdmittedAndUpdated : Obligations.SequencesAreAdmittedAndUpdated := by
  refine ⟨fun s c q pkt hpkt hfree => ?_, fun s c q i pkt hpkt hfree => ⟨fun hi hst => ?_, fun hi hop => ?_, fun hi hst hop => ?_⟩⟩
  · intro p ok
    refine ⟨fun hbad => ?_, fun hok hep hquota => ?_, fun i hok hep hquota hi => ?_⟩
    · simp only [exec, execSeqAdmit, hpkt, hfree]
      exact if_pos hbad
    · simp only [exec, execSeqAdmit, hpkt, hfree]
      exact (if_neg (not_not_intro hok)).trans ((if_neg fun h => absurd (hep.symm.trans h.1) (by decide)).trans (if_pos hquota))
    · simp only [exec, execSeqAdmit, hpkt, hfree, hi]
      exact (if_neg (not_not_intro hok)).trans
        ((if_neg fun h => absurd (hep.symm.trans h.1) (by decide)).trans (if_neg (Nat.not_le.2 hquota)))
  · intro t v done
    have hrun {op : Nat} (hop : pf pkt 2 2 0 = op) (f : State → Nat → Nat → State) :=
      next_congr (State.seqUpdate_of_live (f := f) hpkt hfree hop hi hst)
    refine ⟨fun hop => hrun hop _, fun hop => hrun hop _, fun hop => hrun hop _, fun hop hlen => (hrun hop _).trans (next_congr (congrArg done ?_)),
      fun hop hlen => (hrun hop _).trans (next_congr (congrArg done ?_)), fun hop => hrun hop _⟩
    · exact if_neg (Nat.not_le.2 hlen)
    · exact if_pos hlen
  · exact next_congr (State.seqUpdate_of_noHandle hpkt hfree hop hi)
  · exact next_congr (State.seqUpdate_of_ending hpkt hfree hop hi hst)

/-! ### SEQ_CANCEL and the Winnow -/

/-- The state from which the command of a sweep that is over goes on: no sweep runs. -/
def State.winnowEnded (s : State) : State := ({ s with st := { s.st with winnow := none } } : State).setRf Reg.ST_WINNOW_BUSY 0

/-- The finish record of a sequence that a sweep leaves without rows. -/
def State.sweepSeq (w : Winnow) (s : State) (i : Nat) : State :=
  if s.sq i Sq.STATE = 3 ∧ s.sq i Sq.PEND_ROWS = 0 ∧ s.sq i Sq.PART = w.part then (s.finishSeq i (.st w.part 5 (8 * w.ctx + w.q))).1 else s

/-- A sweep that is over: `u` is the state once its sequences and its stream have been settled. -/
theorem exec_winnowDone_of_over {s u : State} {w : Winnow} (hw : s.st.winnow = some w) (hover : s.winnowWaits w = false)
    (hctx : w.ctx < s.build.ctxs) (hbuild : u.build = s.build)
    (hu : (if w.mode = 1 then
        (((w.seqs.foldl (State.sweepSeq w) s.winnowEnded).sweepSteps w.part).rewindStream w.part).settleStream w.part
      else w.seqs.foldl (State.sweepSeq w) s.winnowEnded) = u) :
    exec .winnowDone s = .next (u.finishHead w.ctx w.q (u.slowPkt w.ctx w.q) 0 w.rows) := by
  subst hu
  rw [← hbuild] at hctx
  simp only [exec, execWinnowDone, hw, hover]
  exact next_congr (if_pos hctx)

theorem State.build_finishSeq (s : State) (i : Nat) (u : MmUse) : (s.finishSeq i u).1.build = s.build :=
  (State.finishSeq_keep (msk := 13697744) rfl (Keep.refl s)).build

/-- What a cancellation of steps does to their stream when its sweep is over. -/
theorem State.build_settleStream_rewind (s : State) (p : Nat) :
    (((s.sweepSteps p).rewindStream p).settleStream p).build = s.build :=
  (State.settleStream_keep (msk := 536870911) rfl (State.rewindStream_keep rfl (State.sweepSteps_keep rfl (Keep.refl s)))).build

/-- One sequence that is not ENDING becomes so before its rows are made dead. -/
theorem State.endSeq_of_live {s : State} {i : Nat} (h : s.sq i Sq.STATE ≠ 3) (reason : Nat) :
    s.endSeq i reason = (s.setSq i Sq.STATE 3).setSq i Sq.REASON reason :=
  if_neg h

theorem State.endSeq_of_ending {s : State} {i : Nat} (h : s.sq i Sq.STATE = 3) (reason : Nat) : s.endSeq i reason = s :=
  if_pos h

/-- A sweep that ends sequences: they become ENDING, and their live rows are made dead. -/
theorem State.winnowSeqs_eq (s : State) (c q mode : Nat) (seqs : List Nat) :
    let p := (s.ctx c).part
    let x := (seqs.foldl (fun s i => s.endSeq i 3) s).makeDead p seqs (fun _ => true) (.st p 4 0)
    s.winnowSeqs c q mode seqs =
      (({ x.1 with st := { x.1.st with winnow := some ⟨c, q, mode, p, seqs, x.2, [], x.2⟩ } } : State).setRf Reg.ST_WINNOW_BUSY 1).slowAway c q :=
  rfl

/-- Settles O34: the start of each MODE, a sweep that waits, and the end of one; that a sequence already ENDING keeps its REASON is the
model's reading (log entry 79). -/
theorem sweepsStartAndEnd : Obligations.SweepsStartAndEnd := by
  refine ⟨fun s c q i pkt hpkt => ?_, fun s c q pkt hpkt => ?_, fun s c q pkt hpkt => ?_, fun s w hw hwaits => ?_, fun s w hw hover hctx => ?_⟩
  · intro t p busy
    refine ⟨fun hi => ?_, fun hi => ?_⟩
    · have hrun : exec (.seqCancelSeq c q) s = .next (busy ((t.endSeq i 3).makeDead p [i] (fun _ => true) (.st p 4 0)) 0 [i]) := by
        simp only [exec, execSeqCancelSeq, hpkt, hi]
        exact next_congr (State.winnowSeqs_eq t c q 0 [i])
      exact ⟨fun hst => by rw [hrun, State.endSeq_of_live hst], fun hst => by rw [hrun, State.endSeq_of_ending hst]⟩
    · simp only [exec, execSeqCancelSeq, hpkt, hi]
  · simp only [exec, execSeqCancelStep, hpkt]
    rfl
  · simp only [exec, execSeqCancelAll, hpkt]
    exact next_congr (State.winnowSeqs_eq _ c q 2 _)
  · simp only [exec, execWinnowDone, hw, if_pos hwaits]
  · have hdone {u : State} := exec_winnowDone_of_over (u := u) hw hover hctx
    intro t
    refine ⟨fun hmode hnone => hdone rfl ?_, fun i hmode hone hst hrows hpart => hdone (State.build_finishSeq t i _) ?_,
      fun hmode hnone => hdone (State.build_settleStream_rewind t w.part) ?_⟩
    · rw [if_neg hmode, hnone]
      rfl
    · have hseq : State.sweepSeq w t i = (t.finishSeq i (.st w.part 5 (8 * w.ctx + w.q))).1 := if_pos ⟨hst, hrows, hpart⟩
      rw [if_neg hmode, hone]
      exact hseq
    · rw [if_pos hmode, hnone]
      rfl

/-! ### STEP_RUN -/

/-- Settles O35: START, STOP and KV_ADD by the state of the stream. -/
theorem streamsAreStartedAndStopped : Obligations.StreamsAreStartedAndStopped := by
  intro s c q pkt hpkt p st
  refine ⟨fun hop hout hpass hst => ?_, fun hop hout hpass hst => ?_, fun hop hwait => ?_, fun hop hst => ?_, fun x hop hst hx hstart => ?_,
    fun hop hfree => ?_⟩
  · have hgo : ¬ (pf pkt 1 1 0 ≠ 0 ∨ s.startOut p ∨ s.passRuns p) := by simp [hop, hout, hpass]
    have hidle : ¬ (s.rf (Reg.ST_STREAM_STATUS_SSTATE p) = 1 ∨ s.rf (Reg.ST_STREAM_STATUS_SSTATE p) = 2) := by
      simp only [st] at hst
      omega
    simp only [exec, execStepRunStart, hpkt]
    exact (if_neg hgo).trans (if_neg hidle)
  · have hgo : ¬ (pf pkt 1 1 0 ≠ 0 ∨ s.startOut p ∨ s.passRuns p) := by simp [hop, hout, hpass]
    simp only [exec, execStepRunStart, hpkt]
    exact (if_neg hgo).trans (if_pos hst)
  · simp only [exec, execStepRunStart, hpkt]
    exact if_pos (.inr hwait)
  · simp only [exec, execStepRunStop, hpkt]
    exact (if_neg (not_not_intro hop)).trans (if_pos hst)
  · simp only [exec, execStepRunStop, hpkt]
    refine (if_neg (not_not_intro hop)).trans ((if_neg hst).trans ?_)
    rw [hx]
    exact if_neg (by simp [hstart])
  · have hgo : ¬ (pf pkt 1 1 0 ≠ 2 ∨ s.synthBusy p) := by simp [hop, hfree]
    simp only [exec, execStepRunKvAdd, hpkt]
    exact if_neg hgo

/-! ### Synthesis, the step launch and the boundary pass -/

/-- A synthesis whose moment has come goes on to the tag and the row store. -/
theorem exec_synthesisStart_of_due {s : State} {p : Nat} {x : Stream} :
    let r := s.settleStreams
    r.stream? p = some x → x.due → s.rf (Reg.ST_STREAM_STATUS_SSTATE p) = 1 → s.unitEn U.ST → s.halted = false → (r.stepsOf p).length < 2 →
    (r.stepsOf p).any (fun y => y.phase == .dead || y.phase == .writing) = false → s.st.winnow.any (fun w => w.part == p && w.mode == 1) = false →
    let t := r.startDone p
    exec (.synthesisStart p) s =
      if t.tagBusy (t.rf Reg.ST_TAG_TAG_NEXT) then .next (t.synthWaits p E.STEP_TAG_BUSY)
      else if 131072 ≤ t.rowsHeld then .next (t.synthWaits p E.ROWSTORE_FULL)
      else .next (((t.closeEpisode E.STEP_TAG_BUSY.code p).closeEpisode E.ROWSTORE_FULL.code p).synthesise x) := by
  intro r hx hdue hst hen hrun hlen hphase hwin t
  have hgo : ¬ (!x.due ∨ s.rf (Reg.ST_STREAM_STATUS_SSTATE p) ≠ 1 ∨ !s.unitEn U.ST ∨ s.halted ∨ 2 ≤ (r.stepsOf p).length ∨
      (r.stepsOf p).any (fun y => y.phase == .dead || y.phase == .writing) ∨ s.st.winnow.any (fun w => w.part == p && w.mode == 1)) := by
    simp only [hdue, hst, hen, hrun, hphase, hwin, Nat.not_le.2 hlen]
    decide
  simp only [exec, execSynthesisStart]
  rw [hx]
  exact if_neg hgo

/-- A step whose writes have been answered: its launch is refused at once, or waits. -/
theorem exec_stepLaunchSubmit_of_written {s : State} {p : Nat} {y : Step} {x : Stream}
    (hy : (s.stepsOf p).find? (fun x => x.phase == .writing && x.out == 0) = some y) (hx : s.stream? p = some x) :
    let i := hIdx (fld x.desc Str.TEMPLATE)
    let pkt := stepPacket x (mkHandle (s.dir i Dir.GEN) i) y.n
    let t := (s.setRf (Reg.ST_SYNTH_NS p) (min (s.gc - y.synthGc) 65535)).dirRead i
    let u := (((({ t with gs := { t.gs with waiting := t.gs.waiting ++ [⟨t.cc, x.ctx, fld x.desc Str.LEVEL, p, true, y.tag, pkt⟩] } } : State).updStep
      y.tag fun y => { y with phase := .launched }).updStream p fun x => { x with launched := x.launched + 1 }).publish y.tag (bufOf x.desc y.n))
    (∀ e, t.stepRefusal x pkt = some e → exec (.stepLaunchSubmit p) s = .next ((t.reportPlain e (some p)).streamFault p E.STEP_LAUNCH 0 false)) ∧
    (t.stepRefusal x pkt = none → exec (.stepLaunchSubmit p) s =
      .next (if fld x.desc Str.STEP_COUNT ≠ 0 ∧ x.launched + 1 = fld x.desc Str.STEP_COUNT then u.stopStream p else u)) := by
  intro i pkt t u
  refine ⟨fun e he => ?_, fun hok => ?_⟩
  · simp only [exec, execStepLaunchSubmit, hy, hx]
    simp only [i, pkt, t] at he
    rw [he]
  · simp only [exec, execStepLaunchSubmit, hy, hx]
    simp only [i, pkt, t] at hok
    rw [hok]

theorem exec_boundaryPass_of_retired {s : State} {p : Nat} {x : Step} {t : Stream}
    (hx : (s.stepsOf p).find? (fun x => x.phase == .launched && s.stepRetired x) = some x) (ht : s.stream? p = some t) :
    exec (.boundaryPass p) s =
      if x.rows.any (·.live) then
        .next ((s.updStep x.tag fun y => { y with phase := .reading, out := 1 }).mmRead (bufOf t.desc x.n + 64 * fld t.desc Str.RES_OFFSET)
          (ceilDiv (8 * x.rows.length) 64) p 1 3 (.st p 2 x.tag)).1
      else .next (s.applyStep x.tag []) := by
  simp only [exec, execBoundaryPass, hx, ht]

theorem exec_boundaryPassEnd_of_applied {s : State} {p : Nat} {x : Step} {t : Stream}
    (hx : (s.stepsOf p).find? (fun x => x.phase == .applied && x.out == 0) = some x) (ht : s.stream? p = some t) (hck : lookupD s.dc.ckpts p 0 ≠ 1) :
    let freed := ((({ s with dc := { s.dc with ckpts := assocDel s.dc.ckpts p }, st := { s.st with steps := s.st.steps.filter fun y => y.tag != x.tag } } :
      State).latchTelem x).latchDigests x).dropEraSteps (· == x.tag)
    exec (.boundaryPassEnd p) s =
      if s.rb (Reg.DC_CKPT_STATUS_BUSY p) ∧ s.dc.ckpts.all (fun c => c.1 != p) then .next (s.ckptStart p x.n)
      else .next (((((freed.trace 9 (some p) (2 ^ 22 * x.tag + 2 ^ 38 * (x.n % 2 ^ 22)) (2 ^ 22 * x.tag)).recordStep p (fld t.desc Str.STEP_EVENT)
        x.n).updStream p fun y => { y with restarts := 0 }).settleStream p).nudge p) := by
  simp only [exec, execBoundaryPassEnd, hx, ht, if_neg hck]

/-- Settles O36: what holds a synthesis up, the step launch, and the two ends of a boundary pass. -/
theorem stepsAreSynthesisedAndLaunched : Obligations.StepsAreSynthesisedAndLaunched := by
  refine ⟨fun s p x => ?_, fun s p y x hy hx => ?_, fun s p x t hx ht => ?_, fun s p x t hx ht hck => ?_⟩
  · intro r hx hdue hst hen hrun hlen hphase hwin t
    have hstart := exec_synthesisStart_of_due hx hdue hst hen hrun hlen hphase hwin
    exact ⟨fun htag => hstart.trans (if_pos htag), fun htag hrows => hstart.trans ((if_neg (by rw [htag]; decide)).trans (if_pos hrows)),
      fun htag hrows => hstart.trans ((if_neg (by rw [htag]; decide)).trans (if_neg (Nat.not_le.2 hrows)))⟩
  · obtain ⟨hrefused, hwaits⟩ := exec_stepLaunchSubmit_of_written hy hx
    exact ⟨hrefused, fun hok hcount => (hwaits hok).trans (next_congr (if_neg fun h => h.1 hcount))⟩
  · have hrun := exec_boundaryPass_of_retired hx ht
    exact ⟨fun hlive => hrun.trans (if_pos hlive), fun hlive => hrun.trans (if_neg (by rw [hlive]; decide))⟩
  · have hrun := exec_boundaryPassEnd_of_applied hx ht hck
    exact ⟨fun hbusy hall => hrun.trans (if_pos ⟨hbusy, hall⟩), fun hbusy => hrun.trans (if_neg fun h => absurd (hbusy.symm.trans h.1) (by decide))⟩

end Sys2Proof.Machine
end

section
/-! PROOFS. Route jobs (R218 to R238), and the command registers of the Semaphore Memory: SM_SEM_CMD, watches, wake bindings and sheaves
(R243, R248, R251 to R267). -/

namespace Sys2Proof.Machine

theorem not_bnot_of_true {b : Bool} (h : b = true) : ¬ (!b) = true := by
  simp [h]

theorem bnot_of_false {b : Bool} (h : b = false) : (!b) = true := by
  simp [h]

/-! ### Route jobs -/

/-- Settles O37: the job at the head of the queue by its phase and its tag, and a swap by the lock of its partition. -/
theorem routeJobsRunInOrder : Obligations.RouteJobsRunInOrder := by
  refine ⟨fun s j rest hj => ⟨fun hph hen hrun hlive => ?_, fun hph hen hrun hdead => ?_, fun hph hlive => ?_, fun hph hdead => ?_, fun hlive => ?_,
    fun hph => ?_⟩, fun s p hp hpart hlock => ⟨next_regInput hp ?_, next_regInput hp ?_⟩,
    fun s p hp hpart hlock => ⟨next_regInput hp ?_, next_regInput hp ?_⟩⟩
  · simp [exec, execRouteJobStart, hj, hph, hen, hrun, hlive]
  · simp [exec, execRouteJobStart, hj, hph, hen, hrun, hdead]
  · simp [exec, execRouteJobNotices, hj, hph, hlive]
  · simp [exec, execRouteJobDead, hj, hph, hdead]
  · simp [exec, execRouteJobDead, hj, hlive]
  · simp [exec, execRouteJobStart, hj, hph]
  · simp [State.eraSwap, hpart, hlock]
  · simp [State.eraSwap, hpart, hlock]
  · simp [State.eraSwap, hpart, hlock]
  · simp [State.eraSwap, hpart, hlock]

/-! ### SM_SEM_CMD (R267) -/

section SemCmd
variable {u : State} {op : Nat} (hen : u.unitEn U.SM) (hfree : u.sm.semCmd = none) (hop : op = 1 ∨ op = 2)
include hen hfree hop

theorem State.semCmd_of_turn (hup : u.smUp) (hfull : u.semFull 2 = false) :
    u.semCmd op = (u.semOp 2).semCmdNow op (u.rf Reg.SM_SEM_INDEX) (u.rf Reg.SM_SEM_VALUE) := by
  have hgo : ¬ (u.sm.semCmd.isSome ∨ !u.unitEn U.SM ∨ (op ≠ 1 ∧ op ≠ 2)) := by
    simp [hen, hfree]
    omega
  exact (if_neg hgo).trans (if_pos ⟨hup, by simp [hfull]⟩)

theorem State.semCmd_of_wait (hwait : u.smUp = false ∨ u.semFull 2) :
    u.semCmd op = { u with sm := { u.sm with semCmd := some (op, u.rf Reg.SM_SEM_INDEX, u.rf Reg.SM_SEM_VALUE) } } := by
  have hgo : ¬ (u.sm.semCmd.isSome ∨ !u.unitEn U.SM ∨ (op ≠ 1 ∧ op ≠ 2)) := by
    simp [hen, hfree]
    omega
  refine (if_neg hgo).trans (if_neg ?_)
  rcases hwait with h | h <;> simp [h]

end SemCmd

section SemErr
variable {s : State} {i : Nat}

theorem State.semCmdErr_of_noPart (h : s.semPart i = none) (set : Bool) : s.semCmdErr i set = some E.SEM_HANDLE := by
  by_cases hi : i < s.build.sems <;> simp [State.semCmdErr, hi, h]

theorem State.semCmdErr_of_locked {p : Nat} (hi : i < s.build.sems) (h : s.semPart i = some p) (hlock : s.lockedOrLocking p) (set : Bool) :
    s.semCmdErr i set = some E.ENCLAVE_WRITE := by
  simp [State.semCmdErr, hi, h, hlock]

theorem State.semCmdErr_of_port {p k : Nat} (hi : i < s.build.sems) (h : s.semPart i = some p) (hlock : s.lockedOrLocking p = false)
    (hport : s.portOf i = some k) : s.semCmdErr i true = some E.SEM_PORT := by
  simp [State.semCmdErr, hi, h, hlock, hport]

end SemErr

/-- Settles O38: SM_SEM_CMD in its turn, waiting or refused, and watches armed, refused and cancelled at the end of their cc. -/
theorem semaphoresAndWatchesAreCommanded : Obligations.SemaphoresAndWatchesAreCommanded := by
  refine ⟨fun s hp hen hfree => ?_, fun s hp hup hcancel => ?_, fun s i hcancel => ?_⟩
  · intro u i
    refine ⟨fun hup hfull => ?_, fun hwait => ⟨next_regInput hp (State.semCmd_of_wait hen hfree (.inl rfl) hwait),
      next_regInput hp (State.semCmd_of_wait hen hfree (.inr rfl) hwait)⟩,
      fun hnone => ⟨State.semCmdErr_of_noPart hnone _, State.semCmdErr_of_noPart hnone _⟩,
      fun p hi hpart hlock => ⟨State.semCmdErr_of_locked hi hpart hlock _, State.semCmdErr_of_locked hi hpart hlock _⟩,
      fun p k hi hpart hlock hport => State.semCmdErr_of_port hi hpart hlock hport⟩
    intro o
    have hset : u.semCmd 1 = o.semSet i (u.rf Reg.SM_SEM_VALUE) := State.semCmd_of_turn hen hfree (.inl rfl) hup hfull
    have hclear : u.semCmd 2 = o.semClear i := State.semCmd_of_turn hen hfree (.inr rfl) hup hfull
    refine ⟨fun h => next_regInput hp (hset.trans ?_), fun h => next_regInput hp (hclear.trans ?_), fun e h => next_regInput hp (hset.trans ?_),
      fun e h => next_regInput hp (hclear.trans ?_)⟩
    · rw [State.semSet, h]
    · rw [State.semClear, h]
    · rw [State.semSet, h]
    · rw [State.semClear, h]
  · intro u
    have hgo : ¬ (!u.smUp ∨ u.sm.cancels ≠ []) := by
      rintro (h | h)
      · exact absurd hup (by simpa using h)
      · exact h hcancel
    refine ⟨fun i hok hi => next_regInput hp ?_, fun hbad => next_regInput hp ?_, fun hok hnone => next_regInput hp ?_,
      fun i hi => next_regInput hp ?_⟩
    · refine (if_neg hgo).trans ((if_neg (not_bnot_of_true hok)).trans ?_)
      rw [hi]
    · exact (if_neg hgo).trans (if_pos (bnot_of_false hbad))
    · refine (if_neg hgo).trans ((if_neg (not_bnot_of_true hok)).trans ?_)
      rw [hnone]
    · rw [Nat.mod_eq_of_lt hi]
      exact if_neg hgo
  · simp only [State.endCancels, hcancel, List.foldl_cons, List.foldl_nil]

/-! ### Wake bindings (R254 to R256) -/

section Sleep
variable {s : State} {b : Bind} {k : Nat} (hph : b.phase = .draining) (htasks : (s.link b.link).tasks = []) (hctrl : (s.link b.link).ctrl = none)
  (hq : (s.link b.link).ctrlQ = []) (hsem : b.sem = some k)
include hph htasks hctrl hq hsem

/-- A bound link that holds nothing: its semaphore decides between SLEEP and UP. -/
theorem State.bindSleep_of_drained :
    let t := (s.checkSem k).1
    let sleep : State := { t with sm := { t.sm with binds := t.sm.binds.map fun (x : Bind) => if x.idx == b.idx then { x with phase := .sleeping } else x } }
    s.bindSleep b =
      if (s.checkSem k).2.isNone ∧ b.thresh ≤ t.semVal k ∧ !(b.consume && (s.waitersOf k).any (·.consume)) then
        (if b.consume then t.setSem k (t.semVal k - b.thresh) else t).unbindUp b
      else (sleep.sendCtrl b.link 3 0 0 false).addWait k b.thresh b.consume (.bind b.idx) := by
  have hgo : ¬ (b.phase ≠ .draining ∨ (s.link b.link).tasks ≠ [] ∨ (s.link b.link).ctrl.isSome ∨ (s.link b.link).ctrlQ ≠ []) := by
    simp [hph, htasks, hctrl, hq]
  simp only [State.bindSleep, if_neg hgo, hsem]

end Sleep

/-- Settles O39: BIND and CANCEL, and a binding that sleeps, that its semaphore frees, and that times out; that BIND takes the lowest free
binding is the model's choice (log entry 14). -/
theorem linksAreBoundToSemaphores : Obligations.LinksAreBoundToSemaphores := by
  refine ⟨fun s hp hup => ?_, fun s n k b hb => ⟨fun hph htasks hctrl hq hsem heval => ?_, fun htmo hph hdue => ?_, fun htmo => ?_⟩⟩
  · intro u
    have hgo : ¬ (!u.smUp) = true := not_bnot_of_true hup
    refine ⟨fun k hbind hof hk => next_regInput hp ?_, fun hbind hpart => next_regInput hp ?_, fun b hb => next_regInput hp ?_,
      fun hnone => next_regInput hp ?_⟩
    · refine (if_neg hgo).trans ((if_neg (not_bnot_of_true hbind)).trans ((if_neg (not_bnot_of_true hof)).trans ?_))
      rw [hk]
    · refine (if_neg hgo).trans ((if_pos (bnot_of_false hbind)).trans ?_)
      rw [if_pos hpart]
    · refine (if_neg hgo).trans ?_
      rw [hb]
    · refine (if_neg hgo).trans ?_
      rw [hnone]
  · intro t sleep
    have hturn : (s.sm.evals.any fun e => some e.sem == b.sem) = false := by simpa [hsem] using heval
    have hrun : exec (.wakeBindingSleep n) s = .next (s.bindSleep b) := by
      simp [exec, execWakeBindingSleep, hb, hturn, State.nextCcIf]
    have hsleep := State.bindSleep_of_drained hph htasks hctrl hq hsem
    refine ⟨fun hunmet => hrun.trans (next_congr (hsleep.trans (if_neg ?_))), fun hok hmet hcon => hrun.trans (next_congr (hsleep.trans ((if_pos ?_).trans ?_))),
      fun hok hmet hcon hfirst => hrun.trans (next_congr (hsleep.trans ((if_pos ?_).trans ?_)))⟩
    · rintro ⟨hok, hmet, hfirst⟩
      rcases hunmet with h | h | h
      · rw [Option.isNone_iff_eq_none.1 hok] at h
        exact absurd h (by decide)
      · exact Nat.not_lt.2 hmet h
      · rw [h] at hfirst
        exact absurd hfirst (by decide)
    · exact ⟨Option.isNone_iff_eq_none.2 hok, hmet, by simp [hcon]⟩
    · rw [if_neg (by simp [hcon])]
    · exact ⟨Option.isNone_iff_eq_none.2 hok, hmet, by simp [hfirst]⟩
    · rw [if_pos hcon]
  · simp [exec, execWakeTimeout, hb, htmo, hph, hdue]
  · simp [exec, execWakeTimeout, hb, htmo]

/-! ### Sheaves (R258, R259, R262) -/

theorem State.armSheaf_of_damaged {u : State} {k : Nat} {e : Err} (hup : u.smUp) (he : (u.checkSem (u.shv k Sh.ARRIVE_SEM)).2 = some e) :
    u.armSheaf k = (u.checkSem (u.shv k Sh.ARRIVE_SEM)).1.sheafStatus (some e) := by
  have hx : u.checkSem (u.shv k Sh.ARRIVE_SEM) = ((u.checkSem (u.shv k Sh.ARRIVE_SEM)).1, some e) := Prod.ext rfl he
  simp only [State.armSheaf]
  rw [if_neg (not_bnot_of_true hup), hx]

theorem State.armSheaf_of_sound {u : State} {k : Nat} (hup : u.smUp) (hok : (u.checkSem (u.shv k Sh.ARRIVE_SEM)).2 = none) :
    let a := u.shv k Sh.ARRIVE_SEM
    let t := (u.checkSem a).1
    u.armSheaf k =
      if t.shv k Sh.STATE ≠ 0 ∨ !t.sheafOk k then (t.reportPlain E.SHEAF_CONFIG (some (t.shv k Sh.PART))).sheafStatus (some E.SHEAF_CONFIG)
      else ((((t.clearArrivals k).setShv k Sh.GEN 0).setRm (semRow a) Sem.PORT 1).setShv k Sh.STATE 1).sheafStatus none := by
  have hx : u.checkSem (u.shv k Sh.ARRIVE_SEM) = ((u.checkSem (u.shv k Sh.ARRIVE_SEM)).1, none) := Prod.ext rfl hok
  intro a t
  simp only [State.armSheaf]
  rw [if_neg (not_bnot_of_true hup), hx]

/-- Settles O40: each command by the state of its sheaf, and the timeout of a generation; that ARM of a sheaf that is not IDLE is refused is
the model's reading (log entry 16). -/
theorem sheavesAreCommanded : Obligations.SheavesAreCommanded := by
  refine ⟨fun s k hp hup hk => ?_, fun s k g hk hg hst hlim hdue => ?_, fun s k hk hlim => ?_⟩
  · intro u a t
    have hmod : k % 256 = k := Nat.mod_eq_of_lt hk
    refine ⟨fun hok hst hsheaf => next_regInput hp ?_, fun hok hbad => next_regInput hp ?_, fun e he => next_regInput hp ?_, next_regInput hp ?_,
      fun hst => next_regInput hp ?_, fun hst => next_regInput hp ?_⟩ <;> rw [hmod]
    · refine (State.armSheaf_of_sound hup hok).trans (if_neg ?_)
      rintro (h | h)
      · exact h hst
      · rw [hsheaf] at h
        exact absurd h (by decide)
    · refine (State.armSheaf_of_sound hup hok).trans (if_pos (hbad.imp id fun h => ?_))
      rw [h]
      rfl
    · exact State.armSheaf_of_damaged hup he
    · rw [State.disarmSheaf, if_neg (not_bnot_of_true hup)]
    · rw [State.clearSheaf, if_neg (not_bnot_of_true hup), if_pos hst]
    · rw [State.clearSheaf, if_neg (not_bnot_of_true hup), if_neg hst]
  · simp only [exec, execSheafTimeout, Nat.mod_eq_of_lt hk, hg, if_pos (And.intro hst (And.intro hlim hdue))]
  · rcases hg : (s.sheafX k).firstGc with _ | g <;> simp [exec, execSheafTimeout, Nat.mod_eq_of_lt hk, hg, hlim]

end Sys2Proof.Machine
end

section
/-! PROOFS. The Message Hub: pops, sends, refills, the timeout of a remote send and the commands of Stooks (R277 to R294). -/

namespace Sys2Proof.Machine

/-! ### RX_POP (R281) -/

/-- A read that is answered by what `f` gives of the unlatched state. -/
theorem exec_readDone {s t : State} {f : State → State × Word} {w : Word} (hp : s.portLive) (i : Instr) (a : Nat) (h : f s.unlatch = (t, w)) :
    Host.Outcome.next (s.regRead i a f) = (.next (t.emit (.rpAck (some w) false)) : Host.Outcome State Fault Refusal) := by
  rw [State.regRead_of_portLive hp, State.readDone, h]

theorem State.build_checkRxq (s : State) (q : Nat) : (s.checkRxq q).build = s.build :=
  (State.checkRxq_keep (msk := 12616400) rfl (Keep.refl s)).build

section Pop
variable {u : State} {c q : Nat}

/-- A pop whose queue took no arrival in this cc is carried out at once (R279). -/
theorem State.popTurn_of_noArrival (hq : wget (u.reg (Reg.CW_RX_Q_A c)) 11 0 = q) (h : (u.cyc.arrived.any fun a => a.1 == q) = false) :
    u.popTurn c = u := by
  simp [State.popTurn, State.nextCcIf, hq, h]

variable (hc : c < u.build.ccores) (hq : wget (u.reg (Reg.CW_RX_Q_A c)) 11 0 = q)
include hc hq

theorem State.rxPop_of_beyond (hbeyond : u.build.rxqs ≤ q) : u.rxPop c = (u, u.reg (Reg.CW_RX_POP_A c)) := by
  subst hq
  simp [State.rxPop, Nat.not_le.mpr hc, Nat.not_lt.mpr hbeyond, hbeyond]

/-- A pop of a queue of the core answers by what the entry's checked queue holds. -/
theorem State.rxPop_of_own (hin : q < u.build.rxqs) (hvalid : (u.checkRxq q).rq q Rq.VALID = 1) (hcore : (u.checkRxq q).rq q Rq.CORE = c) :
    u.rxPop c = match State.popLive q 17 (u.checkRxq q) with
      | (t, none) => ((t.setRq q Rq.UNDER 1).incRf (Reg.MH_UNDERRUNS (t.rq q Rq.PART)), u.reg (Reg.CW_RX_POP_A c))
      | (t, some m) =>
        let b := (List.range 16).foldl (fun s i => s.setReg (Reg.CW_MB_A c i) (wordAt m i)) t
        let d := b.setReg (Reg.CW_RX_POP_A c) (wordAt m 0)
        (d.setReg (Reg.CW_POPPED_A c) (BitVec.ofNat 32 (min ((d.reg (Reg.CW_POPPED_A c)).toNat + 1) (2 ^ 32 - 1))), wordAt m 0) := by
  subst hq
  have hown : ¬ ((u.checkRxq (wget (u.reg (Reg.CW_RX_Q_A c)) 11 0)).build.rxqs ≤ wget (u.reg (Reg.CW_RX_Q_A c)) 11 0 ∨
      (u.checkRxq (wget (u.reg (Reg.CW_RX_Q_A c)) 11 0)).rq (wget (u.reg (Reg.CW_RX_Q_A c)) 11 0) Rq.VALID = 0 ∨
      (u.checkRxq (wget (u.reg (Reg.CW_RX_Q_A c)) 11 0)).rq (wget (u.reg (Reg.CW_RX_Q_A c)) 11 0) Rq.CORE ≠ c) := by
    rw [State.build_checkRxq, hvalid, hcore]
    simp [hin]
  simp only [State.rxPop, if_neg (Nat.not_le.mpr hc), if_pos hin, if_neg hown] <;> rfl

end Pop

/-! ### SEND_GO (R284) -/

section Send
variable {u : State} {c : Nat} {m : List Word} (hm : ((List.range 16).map fun i => u.reg (Reg.CW_SB_A c i)).take
  (4 * msgUnits ((List.range 16).map fun i => u.reg (Reg.CW_SB_A c i))) = m) (hc : c < u.build.ccores) (hen : u.unitEn U.MH)
  (hcore : u.rb (Reg.MH_CORE_CFG_ENABLE c)) (hok : sendFieldsOk m) (hrouted : fld m Ms.ROUTED = 0) (hkind : fld m Ms.KIND ≠ 2)

theorem State.sendGo_of_noCore (hno : u.build.ccores ≤ c) : u.sendGo c = u := if_pos (.inl hno)

include hc hen

theorem State.sendGo_of_off (hoff : u.rb (Reg.MH_CORE_CFG_ENABLE c) = false) :
    u.sendGo c = u.sendRefuse c (u.rf (Reg.MH_CORE_CFG_PART c)) none E.MSG_CORE := by
  simp [State.sendGo, Nat.not_le.mpr hc, hen, hoff]

include hm hcore

theorem State.sendGo_of_badField (hbad : sendFieldsOk m = false) :
    u.sendGo c = u.sendRefuse c (u.rf (Reg.MH_CORE_CFG_PART c)) none E.MSG_FIELD := by
  simp only [State.sendGo, hm]
  simp [Nat.not_le.mpr hc, hen, hcore, hbad]

include hok hrouted hkind

/-- A message without a route goes where its own DST and DST_DEV say. -/
theorem State.sendGo_of_plain :
    let p := u.rf (Reg.MH_CORE_CFG_PART c)
    let out := (m.set 1 (packW [(0, fld m Ms.DST), (12, fld m Ms.DST_DEV)])).set 3 (packW [(0, u.self), (12, c)])
    u.sendGo c = if fld m Ms.DST_DEV ≠ u.self then u.sendRemote c p none out else (u.handleMsg p out).1.sendEnd c none (u.handleMsg p out).2 := by
  simp only [State.sendGo, hm]
  simp [Nat.not_le.mpr hc, hen, hcore, hok, hrouted, hkind]

end Send

/-! ### Refills (R277) and Stooks (R291, R294) -/

/-- A refill by whether its read request was taken. -/
def State.refillSent (q : Nat) : State × Bool → State
  | (s, true) => s
  | (s, false) => { s with mh := { s.mh with refills := s.mh.refills.filter fun r => r.q != q } }.refillBad q

section Stook
variable {u : State} {k : Nat} (hen : u.unitEn U.MH)
include hen

theorem State.stookCmds_of_none (h : u.build.stooks ≤ k) : u.stookOpen k = u.stookNone ∧ u.stookClose k = u.stookNone ∧ u.stookClear k = u.stookNone :=
  ⟨(if_neg (not_bnot_of_true hen)).trans (if_pos h), (if_neg (not_bnot_of_true hen)).trans (if_pos h),
    (if_neg (not_bnot_of_true hen)).trans (if_pos h)⟩

variable (hk : k < u.build.stooks)
include hk

theorem State.stookOpen_of_idle (hidle : u.sk k Sk.STATE = 0) (hok : u.stookOk k) :
    u.stookOpen k = (((u.clearRound k).setRm (stookRow k) Sk.ROUND 0).setRm (stookRow k) Sk.STATE 1).stookStatus none := by
  simp [State.stookOpen, hen, Nat.not_le.mpr hk, hidle, hok]

theorem State.stookOpen_of_busy (hbusy : u.sk k Sk.STATE ≠ 0) (hpart : u.partOk (u.sk k Sk.PART)) :
    u.stookOpen k = (u.reportPlain E.STOOK_CONFIG (some (u.sk k Sk.PART))).stookStatus (some E.STOOK_CONFIG) := by
  simp [State.stookOpen, hen, Nat.not_le.mpr hk, hbusy, hpart]

theorem State.stookClose_of_some : u.stookClose k = (u.stookIdle k).stookStatus none := by
  simp [State.stookClose, hen, Nat.not_le.mpr hk]

theorem State.stookClear_of_some : u.stookClear k = (if u.sk k Sk.STATE = 2 then u.stookIdle k else u).stookStatus none := by
  simp [State.stookClear, hen, Nat.not_le.mpr hk]

end Stook

/-- Settles O41: each command of the hub by the queue, the message or the Stook that it finds; that OPEN of a Stook that is not IDLE is refused
with ERR_STOOK_CONFIG is the model's reading (log entry 16). -/
theorem messagesAndStooksAreCommanded : Obligations.MessagesAndStooksAreCommanded := by
  refine ⟨⟨fun s c hp hc => ?_, fun s c hp => ?_, fun s q hq hvalid hring hused hfree hen => ?_, fun s q hring => ?_, fun s seq x hx hdue => ?_⟩,
    ⟨fun s k hp hen hk => ?_, fun s k hp hen hk => ?_, fun s k t hpend hst hen hdue harr => ?_, fun s k hnone => ?_⟩⟩
  · intro u qn r
    refine ⟨fun hq harr hvalid hcore => ?_, fun hq harr => exec_readDone hp _ _ ?_⟩
    · have hpop := State.rxPop_of_own hc rfl hq hvalid hcore
      refine ⟨fun m t ht => exec_readDone hp _ _ ?_, fun t ht => exec_readDone hp _ _ ?_⟩
      · simp only [State.popTurn_of_noArrival (u := s.unlatch) rfl harr]
        exact hpop.trans (by rw [ht])
      · simp only [State.popTurn_of_noArrival (u := s.unlatch) rfl harr]
        exact hpop.trans (by rw [ht])
    · simp only [State.popTurn_of_noArrival (u := s.unlatch) rfl harr]
      exact State.rxPop_of_beyond hc rfl hq
  · intro u
    refine ⟨fun hnone => exec_readDone hp _ _ ?_, fun e he => exec_readDone hp _ _ ?_,
      fun hc hen hoff => next_regInput hp (State.sendGo_of_off hc hen hoff), fun hc hen hcore => ?_, fun hc => next_regInput hp (State.sendGo_of_noCore hc)⟩
    · simp only [State.outPop, hnone, u]
    · simp only [State.outPop, he, u]
    · intro m0 m p out
      refine ⟨fun hbad => next_regInput hp (State.sendGo_of_badField rfl hc hen hcore hbad), fun hok hrt hkind hdev => next_regInput hp ?_,
        fun hok hrt hkind hdev => next_regInput hp ?_⟩
      · exact (State.sendGo_of_plain rfl hc hen hcore hok hrt hkind).trans (if_neg (not_not_intro hdev))
      · exact (State.sendGo_of_plain rfl hc hen hcore hok hrt hkind).trans (if_pos hdev)
  · intro h n a t ht
    have hgo : ¬ (s.build.rxqs ≤ q ∨ s.rq q Rq.VALID = 0 ∨ s.ringUsed q = 0 ∨ 16 - s.rq q Rq.USED < 4 ∨ (s.mh.refills.any fun r => r.q == q) ∨
        !s.unitEn U.MH) := by
      simp [Nat.not_le.mpr hq, hvalid, hring, hfree, hen]
      omega
    exact next_congr ((if_neg hgo).trans (congrArg (State.refillSent q) ht))
  · simp [exec, execGranaryRefill, State.refill, hring]
  · simp only [exec, execMsgRemoteTimeout, hx, if_pos hdue]
  · intro u
    refine ⟨fun hidle hok => next_regInput hp (State.stookOpen_of_idle hen hk hidle hok),
      fun hbusy hpart => next_regInput hp (State.stookOpen_of_busy hen hk hbusy hpart), next_regInput hp (State.stookClose_of_some hen hk),
      fun hst => next_regInput hp ((State.stookClear_of_some hen hk).trans ?_), fun hst => next_regInput hp ((State.stookClear_of_some hen hk).trans ?_)⟩
    · rw [if_pos hst]
    · rw [if_neg hst]
  · obtain ⟨hopen, hclose, hclear⟩ := State.stookCmds_of_none hen hk
    exact ⟨next_regInput hp hopen, next_regInput hp hclose, next_regInput hp hclear⟩
  · have hturn : s.hubTurn 2 = s := by simp [State.hubTurn, State.nextCcIf, harr]
    have hretry : s.sk k Sk.STATE = 1 ∧ s.unitEn U.MH ∧ s.due t 1000 := ⟨hst, hen, hdue⟩
    simp only [exec, execStookResultRetry, hpend, if_pos hretry, hturn]
  · simp only [exec, execStookResultRetry, hnone]

end Sys2Proof.Machine
end

section
/-! PROOFS. The fabric port: its link-up, the commands of the domain, the flits that arrive and the timers of remote work (R65 to R69, R316 to R328). -/

namespace Sys2Proof.Machine

/-! ### The link and the domain -/

/-- The link-up credits of R65, as the statement writes them. -/
theorem creditsOk_iff {n : Nat} : creditsOk n = true ↔ 4 ≤ n ∧ n ≤ 64 := by
  simp [creditsOk]

theorem not_badCredits {n m : Nat} (hc : creditsOk n ∧ creditsOk m) : ¬ (!creditsOk n ∨ !creditsOk m) := by
  simp [hc.1, hc.2]

section Linkup
variable {u : State} {f : List Word} (hfab : u.build.fabric) (hpresent : u.fab.present) (hdown : u.fab.up = false) (halone : u.fab.alone = false)
  (htype : fld f Fl.TYPE = 0)
include hfab hpresent hdown halone htype

theorem State.fpLinkup_waits : ¬ (!u.build.fabric ∨ !u.fab.present ∨ u.fab.up ∨ u.fab.alone ∨ fld f Fl.TYPE ≠ 0) := by
  simp [hfab, hpresent, hdown, halone, htype]

theorem State.fpLinkup_of_badCredits (hc : ¬ (creditsOk (pf f 4 7 0) ∧ creditsOk (pf f 4 15 8))) : u.fpLinkup f = u := by
  refine (if_neg (State.fpLinkup_waits hfab hpresent hdown halone htype)).trans (if_pos ?_)
  rwa [Bool.not_eq_true', Bool.not_eq_true', ← Bool.not_eq_true, ← Bool.not_eq_true, ← not_and_or]

variable (hc : creditsOk (pf f 4 7 0) ∧ creditsOk (pf f 4 15 8))
include hc

theorem State.fpLinkup_of_badVersion (hver : pf f 3 7 0 < 3 ∨ 3 < pf f 3 15 8) :
    u.fpLinkup f = ({ u with fab := { u.fab with alone := true } } : State).report E.FP_VERSION none 0 0 :=
  (if_neg (State.fpLinkup_waits hfab hpresent hdown halone htype)).trans
    ((if_neg (not_badCredits hc)).trans (if_pos hver))

theorem State.fpLinkup_of_ok (hver : ¬ (pf f 3 7 0 < 3 ∨ 3 < pf f 3 15 8)) (hself : u.thr.oldSelf = none) :
    u.fpLinkup f = (({ u with fab := { u.fab with up := true, reqCredits := pf f 4 7 0, repCredits := pf f 4 15 8 } } : State).setRf
      Reg.DR_DOMAIN_STATUS_SELF (pf f 3 27 16)).pumpFab := by
  have hthr : ((({ u with fab := { u.fab with up := true, reqCredits := pf f 4 7 0, repCredits := pf f 4 15 8 } } : State).setRf
      Reg.DR_DOMAIN_STATUS_SELF (pf f 3 27 16)).pumpFab).thr = u.thr :=
    (State.pumpFab_keep (msk := 67108944) rfl (State.setRf_keep rfl (Keep.refl _))).thr rfl
  refine (if_neg (State.fpLinkup_waits hfab hpresent hdown halone htype)).trans
    ((if_neg (not_badCredits hc)).trans ((if_neg hver).trans ?_))
  simp only [hthr, hself]

end Linkup

theorem State.setFpPin_inputLive {s : State} (h : s.inputLive .fab) (b : Bool) : (s.setFpPin b).inputLive .fab := h

/-- Settles O42: the fabric link by its present pin, LINKUP and credits, and the commands of DR_DOMAIN_CMD by BUSY, the build and MEMBER. A LINKUP uses
no credit (log entry 27), one with other credits is discarded (log entry 28), and fp_present falling takes the link down at once: the model's reading
(log entry 90). -/
theorem fabricLinkAndDomainCommands : Obligations.FabricLinkAndDomainCommands := by
  refine ⟨fun s hin hfab => ⟨?_, ?_, fun f hpresent hdown halone htype => ?_, fun hup => ?_, fun hdown r => ?_⟩,
    ⟨fun s hp => ?_, fun s hcmd hbusy hq hl => ?_, fun s hcmd => ?_⟩⟩
  · exact next_input (State.setFpPin_inputLive hin true) (if_pos hfab)
  · have hheld : ¬ ((s.setFpPin false).portOn .fab ∧ (s.setFpPin false).holds ∧ (s.setFpPin false).dc.held.any fun h => h.input == .fpPresentRise) := by
      rintro ⟨-, hholds, -⟩
      have hlive : (s.portOn .fab && !s.holds) = true := hin
      have hholds : s.holds = true := hholds
      simp [hholds] at hlive
    refine next_congr ((if_neg hheld).trans ?_)
    exact (State.input_of_live (State.setFpPin_inputLive hin false) _ _).trans (if_pos hfab)
  · intro u credits
    have hu : Keep 64 s u := State.fabBytes_keep rfl (Keep.refl s)
    have hfabu : u.fab = s.fab := hu.fab rfl
    have hgo : (if s.fab.present ∧ fld f Fl.TYPE = 0 then s.fabBytes f else s) = u := if_pos ⟨hpresent, htype⟩
    have hcredits : credits ↔ creditsOk (pf f 4 7 0) ∧ creditsOk (pf f 4 15 8) := by
      simp only [creditsOk_iff, credits, and_assoc]
    have hrun {t : State} (h : u.fpLinkup f = t) : exec (.fpLinkup f) s = .next t :=
      next_input hin ((congrArg (fun v : State => v.fpLinkup f) hgo).trans h)
    have hup : u.build.fabric ∧ u.fab.present ∧ u.fab.up = false ∧ u.fab.alone = false := by
      rw [hu.build, hfabu]
      exact ⟨hfab, hpresent, hdown, halone⟩
    obtain ⟨hfab, hpresent, hdown, halone⟩ := hup
    exact ⟨fun hc hlow hhigh hself => hrun (State.fpLinkup_of_ok hfab hpresent hdown halone htype (hcredits.mp hc) (by omega) (hu.thr rfl ▸ hself)),
      fun hc hver => hrun (State.fpLinkup_of_badVersion hfab hpresent hdown halone htype (hcredits.mp hc) hver),
      fun hc => hrun (State.fpLinkup_of_badCredits hfab hpresent hdown halone htype (fun h => hc (hcredits.mpr h)))⟩
  · have hon : s.portOn .fab = true := by
      have hlive : (s.portOn .fab && !s.holds) = true := hin
      simp_all
    simp [exec, execFpCreditReturn, hon, hup]
  · simp [exec, execFpCreditReturn, hdown]
  · intro u
    refine ⟨fun hfree hfab => next_regInput hp ?_, fun hfree hfab => ⟨next_regInput hp ?_, next_regInput hp ?_⟩,
      fun hfree hfab hmem => next_regInput hp ?_, fun hfree hmem => next_regInput hp ?_,
      fun hbusy => ⟨next_regInput hp (if_pos hbusy), next_regInput hp (if_pos hbusy)⟩⟩
    · have hfab : u.hasFabric = true := hfab
      simp [State.domainLeave, u, hfree, hfab]
    · have hfab : u.hasFabric = false := hfab
      simp [State.domainLeave, u, hfree, hfab]
    · have hfab : u.hasFabric = false := hfab
      simp [State.domainJoin, u, hfree, hfab]
    · have hfab : u.hasFabric = true := hfab
      simp [State.domainJoin, u, hfree, hfab, hmem]
    · simp [State.domainJoin, u, hfree, hmem]
  · exact next_congr (if_pos ⟨hcmd, hbusy, hq, by simp [hl]⟩)
  · exact next_congr (if_neg fun h => hcmd h.1)

/-! ### Arriving flits (R65 to R67) -/

section Arrive
variable {s : State} {rep : Bool} {fs : List (List Word)}

/-- The state in which the flits of a message have been counted and their credits have gone back. -/
def State.arrived (s : State) (rep : Bool) (fs : List (List Word)) : State :=
  (fs.foldl (fun s f => s.fabBytes f) s).returnCredit rep fs.length

theorem State.arrived_cyc : (s.arrived rep fs).cyc = s.cyc := (s.arrived_keep rep fs _).cyc rfl

theorem State.returnCredit_waiting (s : State) (rep : Bool) (n : Nat) : (s.returnCredit rep n).fab.waiting = s.fab.waiting := by
  have hset (f : Fabric) (n : Nat) : (f.setRx rep n).waiting = f.waiting := by
    unfold Fabric.setRx
    split <;> rfl
  simp only [State.returnCredit]
  split
  · exact hset _ _
  · exact (hset _ _).trans (hset _ _)

theorem State.arrived_waiting : (s.arrived rep fs).fab.waiting = s.fab.waiting := by
  have hkeep : Keep 64 s (fs.foldl (fun s f => s.fabBytes f) s) := keep_foldl (Keep.refl s) fun _ _ h => State.fabBytes_keep rfl h
  rw [State.arrived, State.returnCredit_waiting, hkeep.fab rfl]

variable (hin : s.inputLive .fab)
include hin

theorem State.arrived_live : (s.arrived rep fs).inputLive .fab := by
  have hkeep := s.arrived_keep rep fs fs.length
  have hports : (s.arrived rep fs).portOn .fab = s.portOn .fab := hkeep.portOn_eq rfl .fab
  have hholds : (s.arrived rep fs).holds = s.holds := hkeep.rb_eq rfl Reg.DC_STATUS_RUNNING
  rw [State.inputLive, hports, hholds]
  exact hin

variable (hup : s.fab.up) {ok : Nat → Bool} (hne : fs ≠ [])
include hup hne

/-- Flits of the row's own TYPE that arrive with their credits do what the row says, and the credits are settled. -/
theorem State.flitInput_of_arrived (hok : ok (fld (fs.headD []) Fl.TYPE)) (hcredit : fs.length ≤ s.fab.rx rep)
    (htype : flitTypes.contains (fld (fs.headD []) Fl.TYPE)) (hlow : 1 ≤ fld (fs.headD []) Fl.LEN) (hhigh : fld (fs.headD []) Fl.LEN ≤ 16)
    (i : Instr) (f : State → State) : s.flitInput i rep ok fs f = (f (s.arrived rep fs)).settleCredits := by
  have hon : s.portOn .fab = true := by
    have hlive : (s.portOn .fab && !s.holds) = true := hin
    exact (Bool.and_eq_true_iff.mp hlive).1
  have hmin : min fs.length (s.fab.rx rep) = fs.length := Nat.min_eq_left hcredit
  have hflit : flitOk (fs.headD []) = true := by
    rw [flitOk, htype, decide_eq_true hlow, decide_eq_true hhigh]
    rfl
  rw [State.flitInput_of_up hon hup hne hok, State.arriveFlits]
  simp only [hmin, hflit]
  exact congrArg State.settleCredits (State.input_of_live (State.arrived_live hin) i f)

/-- Flits without a credit each, or with a reserved TYPE, are discarded. -/
theorem State.flitInput_of_bad (hok : ok (fld (fs.headD []) Fl.TYPE) ∨ flitTypes.contains (fld (fs.headD []) Fl.TYPE) = false)
    (hbad : s.fab.rx rep < fs.length ∨ flitTypes.contains (fld (fs.headD []) Fl.TYPE) = false) {n : Nat} (hn : min fs.length (s.fab.rx rep) = n)
    (i : Instr) (f : State → State) :
    s.flitInput i rep ok fs f = ((fs.foldl (fun s f => s.fabBytes f) s).returnCredit rep n).report E.FP_PROTOCOL none 0 0 := by
  subst hn
  have hlive : (s.portOn .fab && !s.holds) = true := hin
  have hgo : ¬ (!s.portOn .fab ∨ !s.fab.up ∨ fs = [] ∨ (flitTypes.contains (fld (fs.headD []) Fl.TYPE) ∧ !ok (fld (fs.headD []) Fl.TYPE))) := by
    rw [(Bool.and_eq_true_iff.mp hlive).1, hup]
    rcases hok with h | h <;> simp [hne, h, -List.headD_eq_head?_getD, -List.contains_eq_mem]
  have hdiscard : (decide (fs.length = min fs.length (s.fab.rx rep)) && flitOk (fs.headD [])) = false := by
    rcases hbad with h | h
    · rw [decide_eq_false (by omega), Bool.false_and]
    · rw [flitOk, h]
      simp
  refine (if_neg hgo).trans ?_
  simp only [State.arriveFlits, hdiscard]
  rfl

end Arrive

/-- An EDGE_DEC that need not wait is one of the cc's decrements. -/
theorem State.edgeArrive_of_now {u : State} {f : List Word} (h : u.edgeWaits = false) :
    u.edgeArrive f = ({ u with cyc := { u.cyc with remDecs := u.cyc.remDecs + 1 } } : State).recvReq [f] State.edgeDec :=
  if_neg (by simp [h])

/-- A sheaf flit that finds the SM free and its step of the cc not past is applied at once. -/
theorem State.sheafFlit_of_now {u : State} {f : List Word} {act : State → List Word → State} (hq : u.fab.waiting = []) (hinit : u.smInit = false)
    (hops : u.cyc.semOps < 8) (hstep : u.cyc.semStep ≤ 4) (i : Instr) : u.sheafFlit i f act = (u.semOp 4).recvReq [f] act := by
  have hfull : u.semFull 4 = false := by
    simp [State.semFull, hops, hstep]
  exact if_neg (by simp [hq, hinit, hfull])

/-- Settles O43: each flit by its TYPE, once it has been counted and its credit has gone back; a flit without a credit returns none, which is the
model's reading (log entry 48). -/
theorem arrivingFlitsAreServed : Obligations.ArrivingFlitsAreServed := by
  refine ⟨fun s f hin hup hrx hlow hhigh => ?_, fun s f hin hup hrx hlow hhigh => ?_, fun s f rest hin hup hrx htype hlow hhigh hq harr => ?_,
    fun s f hin hup hrx htype => ?_, fun s f hdown => ⟨?_, ?_, ?_, ?_⟩⟩
  · intro got seen taken
    have hgot : got.fab.waiting = s.fab.waiting ∧ got.cyc = s.cyc := ⟨State.arrived_waiting (fs := [f]), State.arrived_cyc (fs := [f])⟩
    have hserve {ok : Nat → Bool} {i : Instr} {act : State → State} {t : State} (hok : ok (fld f Fl.TYPE)) (htype : flitTypes.contains (fld f Fl.TYPE))
        (h : act got = t) : (.next (s.flitInput i false ok [f] act) : Host.Outcome State Fault Refusal) = .next t.settleCredits :=
      next_congr ((State.flitInput_of_arrived hin hup (List.cons_ne_nil f []) hok hrx htype hlow hhigh i act).trans (congrArg State.settleCredits h))
    refine ⟨fun htype hnow hmem => hserve (by rw [htype]; rfl) (by rw [htype]; rfl) ?_, fun htype hnow hmem => hserve (by rw [htype]; rfl) (by rw [htype]; rfl) ?_,
      fun htype hwait => hserve (by rw [htype]; rfl) (by rw [htype]; rfl) (if_pos hwait), fun htype hstep hmem => hserve (by rw [htype]; rfl) (by rw [htype]; rfl) ?_,
      fun hq hinit hops hstep hmem => ⟨fun htype => hserve (by rw [htype]; rfl) (by rw [htype]; rfl) ?_, fun htype => hserve (by rw [htype]; rfl) (by rw [htype]; rfl) ?_⟩,
      fun htype => ⟨fun hkind => hserve ?_ (by rw [htype]; rfl) rfl, fun hkind => hserve ?_ (by rw [htype]; rfl) rfl, fun hkind => hserve ?_ (by rw [htype]; rfl) rfl⟩,
      fun htype => next_congr (State.flitInput_of_bad hin hup (List.cons_ne_nil f []) (.inr ?_) (.inr ?_) (Nat.min_eq_left hrx) _ _)⟩
    · exact (State.edgeArrive_of_now hnow).trans (if_pos hmem)
    · exact (State.edgeArrive_of_now hnow).trans (if_neg (Bool.eq_false_iff.mp hmem))
    · have hturn : ¬ 1 < got.cyc.evStep := by
        rw [show got.cyc = s.cyc from State.arrived_cyc (fs := [f])]
        omega
      have hnow : got.nextCcIf (decide (1 < got.cyc.evStep)) = got := by
        rw [decide_eq_false hturn]
        rfl
      simp only [hnow]
      exact if_pos hmem
    · exact (State.sheafFlit_of_now (hgot.1.trans hq) hinit (hgot.2 ▸ hops) (hgot.2 ▸ hstep) _).trans (if_pos hmem)
    · exact (State.sheafFlit_of_now (hgot.1.trans hq) hinit (hgot.2 ▸ hops) (hgot.2 ▸ hstep) _).trans (if_pos hmem)
    · simp [isDepart, htype, hkind]
    · simp [isDepart, htype, hkind]
    · simp [isDepart, htype, hkind]
    · rw [List.headD_cons, htype]
      rfl
    · rw [List.headD_cons, htype]
      rfl
  · intro got
    refine ⟨fun htype => next_congr ?_, fun htype => next_congr ?_⟩
    · exact State.flitInput_of_arrived hin hup (List.cons_ne_nil f []) (by rw [List.headD_cons, htype]; rfl) hrx (by rw [List.headD_cons, htype]; rfl)
        hlow hhigh _ _
    · exact State.flitInput_of_arrived hin hup (List.cons_ne_nil f []) (by rw [List.headD_cons, htype]; rfl) hrx (by rw [List.headD_cons, htype]; rfl)
        hlow hhigh _ _
  · intro got hmem
    refine next_congr ((State.flitInput_of_arrived hin hup (List.cons_ne_nil f rest) (by rw [List.headD_cons, htype]; rfl) hrx
      (by rw [List.headD_cons, htype]; rfl) hlow hhigh _ _).trans (congrArg State.settleCredits ?_))
    have hnow : ¬ ((s.arrived false (f :: rest)).fab.waiting.any (fun h => h.fabQueue == 3) ∨ (s.arrived false (f :: rest)).cyc.arrived.any fun a => a.2 != 0) := by
      simp [State.arrived_waiting, State.arrived_cyc, hq, harr]
    refine (if_neg hnow).trans ?_
    simp only [State.recvReq, State.recv, List.headD_cons, htype]
    exact if_pos hmem
  · exact next_congr (State.flitInput_of_bad hin hup (List.cons_ne_nil f []) (.inl (by rw [List.headD_cons, htype]; rfl)) (.inl (by rw [hrx]; exact Nat.one_pos))
      (by rw [hrx]; rfl) _ _)
  · exact next_congr (State.flitInput_of_down hdown _ _ _ _ _)
  · exact next_congr (State.flitInput_of_down hdown _ _ _ _ _)
  · exact next_congr (State.flitInput_of_down hdown _ _ _ _ _)
  · exact next_congr (State.flitInput_of_down hdown _ _ _ _ _)

end Sys2Proof.Machine
end

section
/-! PROOFS. Remote edges by their ROUND, and the timers of remote work (R316 to R325). -/

namespace Sys2Proof.Machine

/-! ### EDGE_DEC by its ROUND (R316) -/

section EdgeDec
variable {s : State} {f : List Word}

theorem State.edgeDec_of_unbound (h : s.partOk (fld f Fl.PART) = false ∨ s.rb (Reg.DR_BIND_BIND_EN (fld f Fl.PART)) = false ∨
    (fld f Fl.ENCL == 1) ≠ s.locked (fld f Fl.PART)) : s.edgeDec f = s.nackFlit f E.REMOTE_UNBOUND := by
  refine if_pos ?_
  rcases h with h | h | h
  · exact .inl (bnot_of_false h)
  · exact .inr (.inl (bnot_of_false h))
  · exact .inr (.inr h)

variable (hpart : s.partOk (fld f Fl.PART)) (hbind : s.rb (Reg.DR_BIND_BIND_EN (fld f Fl.PART))) (hlock : (fld f Fl.ENCL == 1) = s.locked (fld f Fl.PART))
include hpart hbind hlock

theorem State.edgeDec_bound : ¬ (!s.partOk (fld f Fl.PART) ∨ !s.rb (Reg.DR_BIND_BIND_EN (fld f Fl.PART)) ∨
    (fld f Fl.ENCL == 1) ≠ s.locked (fld f Fl.PART)) := by
  simp [hpart, hbind, hlock]

/-- A bound partition with a live launch of the round. -/
theorem State.edgeDec_of_launch {l : Launch} (hl : s.roundLaunch (fld f Fl.PART) (pf f 4 31 0) = some l) :
    s.edgeDec f =
      if s.sl l.slot Sl.STATE = 5 ∨ s.tagDead (s.sl l.slot Sl.STEP_TAG) then (s.chaff (fld f Fl.PART) 1).ackEdge f 2
      else if s.sl l.slot Sl.NODE_COUNT ≤ pf f 3 19 0 then
        (s.killWith l.slot E.REMOTE_TARGET 0).replyFlit f true [BitVec.ofNat 32 E.REMOTE_TARGET.code]
      else if l.copied then (s.decrement (s.sl l.slot Sl.NODE_BASE + pf f 3 19 0) (pf f 3 31 20) 1).ackEdge f 0
      else s.earlyEdge f := by
  refine (if_neg (State.edgeDec_bound hpart hbind hlock)).trans ?_
  rw [hl]

/-- A bound partition without a launch of the round: the distance from ROUND_NEXT decides. -/
theorem State.edgeDec_of_noLaunch (hl : s.roundLaunch (fld f Fl.PART) (pf f 4 31 0) = none) :
    let d := (2 ^ 32 + pf f 4 31 0 - s.rf (Reg.DR_ROUND_NEXT (fld f Fl.PART))) % 2 ^ 32
    s.edgeDec f =
      if d ≤ 3 then s.earlyEdge f
      else if d ≤ 2 ^ 31 then s.nackFlit f E.REMOTE_EARLY_FULL
      else (s.reportPlain E.REMOTE_STALE (some (fld f Fl.PART))).ackEdge f 2 := by
  refine (if_neg (State.edgeDec_bound hpart hbind hlock)).trans ?_
  rw [hl]

end EdgeDec

/-- Settles O44: the launch of the round where there is one, and else the distance of the round from ROUND_NEXT. -/
theorem remoteEdgesAreResolvedByRound : Obligations.RemoteEdgesAreResolvedByRound := by
  intro s f p target d
  refine ⟨State.edgeDec_of_unbound, fun hpart hbind hlock => ⟨fun l hl => ?_, fun hl => ?_⟩⟩
  · have hrun := State.edgeDec_of_launch hpart hbind hlock hl
    refine ⟨fun hdead => hrun.trans (if_pos hdead), fun hst htag => ?_⟩
    have hlive : ¬ (s.sl l.slot Sl.STATE = 5 ∨ s.tagDead (s.sl l.slot Sl.STEP_TAG)) := by
      simp [hst, htag]
    refine ⟨fun hout => ?_, fun hin hcopied => ?_, fun hin hcopied => ?_⟩
    · exact hrun.trans ((if_neg hlive).trans (if_pos hout))
    · exact hrun.trans ((if_neg hlive).trans ((if_neg (Nat.not_le.mpr hin)).trans (if_pos hcopied)))
    · exact hrun.trans ((if_neg hlive).trans ((if_neg (Nat.not_le.mpr hin)).trans (if_neg (Bool.eq_false_iff.mp hcopied))))
  · have hrun := State.edgeDec_of_noLaunch hpart hbind hlock hl
    refine ⟨fun hnear => hrun.trans (if_pos hnear), fun hnear hmid => ?_, fun hpast => ?_⟩
    · exact hrun.trans ((if_neg (Nat.not_le.mpr hnear)).trans (if_pos hmid))
    · have hfar : ¬ d ≤ 2 ^ 31 := Nat.not_le.mpr hpast
      exact hrun.trans ((if_neg fun h => hfar (h.trans (by norm_num))).trans (if_neg hfar))

/-! ### Timers of remote work (R318, R319, R324) -/

/-- Settles O45: each timer by the record that it finds due. -/
theorem remoteWorkTimesOut : Obligations.RemoteWorkTimesOut := by
  refine ⟨fun s seq e g rest hq hseq hresend hdue => ?_, fun s seq e he => ?_, fun s slot l hl hcheck hround hst htime hdue hnode => ?_,
    fun s dev d hd => ?_⟩
  · simp [exec, execEdgeDecResend, hq, hseq, hresend, hdue]
  · simp only [exec, execRemoteEdgeTimeout, he]
  · simp only [exec, execRemoteStall, hl]
    exact if_pos ⟨hcheck, hround, hst, htime, hdue, hnode⟩
  · simp only [exec, execDepartTimeout, hd]

end Sys2Proof.Machine
end
section
/-! PROOFS. The power manager's port, budget epochs, regulators and the model swap (R70, R333 to R346), and the beginning of spills and restores
(R360 to R364). -/

namespace Sys2Proof.Machine

/-! ### The power manager's port (R70, R342) -/

theorem State.emit_inputLive (s : State) (o : Output) (d : ResetDom) : (s.emit o).inputLive d = s.inputLive d := by
  simp [State.inputLive, State.portOn, State.holds, State.rb, State.rf, State.reg]

theorem State.emit_replaying (s : State) (o : Output) : (s.emit o).replaying = s.replaying := by
  simp [State.replaying, State.rb, State.rf, State.reg]

theorem State.emit_partOk (s : State) (o : Output) (p : Nat) : (s.emit o).partOk p = s.partOk p := by
  simp [State.partOk]

theorem State.inputLive_of_noHold {s : State} {d : ResetDom} (hon : s.portOn d) (hholds : s.holds = false) : s.inputLive d = true := by
  rw [State.inputLive, hon, hholds]
  rfl

section Power
variable {s : State} (hon : s.portOn .reg) (hrep : s.replaying = false) (hholds : s.holds = false)
include hon hrep hholds

theorem exec_pmBudget_of_live (p : Nat) (nj : BitVec 32) : exec (.pmBudget p nj) s = .next ((s.emit .pmBudAck).budgetIn p nj) := by
  have hin : (s.emit .pmBudAck).inputLive .reg = true := (s.emit_inputLive _ _).trans (State.inputLive_of_noHold hon hholds)
  have hlive : ¬ (!s.portOn .reg) = true := not_bnot_of_true hon
  have hnow : ¬ (s.emit .pmBudAck).replaying = true := Bool.eq_false_iff.mp ((s.emit_replaying _).trans hrep)
  exact (if_neg hlive).trans (next_congr ((if_neg hnow).trans (State.input_of_live hin _ _)))

theorem exec_pmMeas_of_live (c : Nat) (nj : BitVec 32) (temp : BitVec 12) :
    exec (.pmMeas c nj temp) s = .next ((s.emit .pmMeasAck).measIn c nj temp) := by
  have hin : (s.emit .pmMeasAck).inputLive .reg = true := (s.emit_inputLive _ _).trans (State.inputLive_of_noHold hon hholds)
  have hlive : ¬ (!s.portOn .reg) = true := not_bnot_of_true hon
  have hnow : ¬ (s.emit .pmMeasAck).replaying = true := Bool.eq_false_iff.mp ((s.emit_replaying _).trans hrep)
  exact (if_neg hlive).trans (next_congr ((if_neg hnow).trans (State.input_of_live hin _ _)))

theorem exec_pmLendAck_of_live (h : s.bg.lends ≠ []) : exec .pmLendAck s = .next s.lendAck := by
  exact next_congr ((if_neg (by simp [h, hrep])).trans (State.input_of_live (State.inputLive_of_noHold hon hholds) _ _))

end Power

/-! ### The model swap (R333) -/

/-- A bank none of whose classes is bad is pending. -/
theorem State.modelSwap_of_good {u : State} (h : ∀ c < 16, u.modelClassBad (1 - u.rf Reg.BG_MODEL_STATUS_ACTIVE) c = none) :
    u.modelSwap = (u.setReg Reg.BG_MODEL_STATUS_A (packW [(0, u.rf Reg.BG_MODEL_STATUS_ACTIVE), (1, 1)])).setReg Reg.BG_MODEL_DETAIL_A 0#32 := by
  have hnone : ((List.range 16).findSome? fun c => (u.modelClassBad (1 - u.rf Reg.BG_MODEL_STATUS_ACTIVE) c).map fun d => (c, d)) = none := by
    refine List.findSome?_eq_none_iff.mpr fun c hc => ?_
    rw [h c (List.mem_range.mp hc)]
    rfl
  simp only [State.modelSwap, hnone]

/-- The first failure of class 0 is the one that is reported. -/
theorem State.modelSwap_of_badFirst {u : State} {part i : Nat} (h : u.modelClassBad (1 - u.rf Reg.BG_MODEL_STATUS_ACTIVE) 0 = some (part, i)) :
    u.modelSwap = ((u.reportPlain E.BG_MODEL none).setReg Reg.BG_MODEL_STATUS_A (packW [(0, u.rf Reg.BG_MODEL_STATUS_ACTIVE),
      (1, (u.reportPlain E.BG_MODEL none).rf Reg.BG_MODEL_STATUS_PEND), (2, 1), (8, 0), (12, if part = 1 then i else 0), (16, E.BG_MODEL.code)])).setReg
        Reg.BG_MODEL_DETAIL_A (packW [(0, part), (2, i)]) := by
  have hsome : ((List.range 16).findSome? fun c => (u.modelClassBad (1 - u.rf Reg.BG_MODEL_STATUS_ACTIVE) c).map fun d => (c, d)) = some (0, part, i) := by
    rw [List.range_succ_eq_map, List.findSome?_cons, h]
    rfl
  simp only [State.modelSwap, hsome]

/-- Settles O46: the port's three inputs, the boundary and the refill by the count they have reached, and the swap by the first bad class. -/
theorem powerInputsAndBudgetEpochs : Obligations.PowerInputsAndBudgetEpochs := by
  refine ⟨fun s hon hrep hholds => ?_, ⟨fun s hoff => ⟨?_, ?_⟩, fun s hen => ?_, fun s hen hnew => ?_, fun s hp hgood => next_regInput hp ?_,
    fun s part i hp hbad => next_regInput hp (State.modelSwap_of_badFirst hbad)⟩⟩
  · refine ⟨fun p nj hpart => ?_, fun p nj hpart => ?_, fun c nj temp hc => ?_, fun c nj temp hc => ?_, fun x rest hlends => ?_, fun hlends => ?_⟩
    · exact (exec_pmBudget_of_live hon hrep hholds p nj).trans (next_congr (if_pos ((s.emit_partOk _ p).trans hpart)))
    · refine (exec_pmBudget_of_live hon hrep hholds p nj).trans (next_congr (if_neg ?_))
      simp [State.partOk, hpart]
    · exact (exec_pmMeas_of_live hon hrep hholds c nj temp).trans (next_congr (if_pos ((congrArg Build.clusters (s.emit_build _)).le.trans hc)))
    · have hrun := exec_pmMeas_of_live hon hrep hholds c nj temp
      have hin : ¬ (s.emit .pmMeasAck).build.clusters ≤ c := by
        rw [State.emit_build]
        exact Nat.not_le.mpr hc
      exact ⟨fun hhot => hrun.trans (next_congr ((if_neg hin).trans (if_neg (Int.not_lt.mpr hhot)))),
        fun hcool => hrun.trans (next_congr ((if_neg hin).trans (if_pos hcool)))⟩
    · refine (exec_pmLendAck_of_live hon hrep hholds (by rw [hlends]; exact List.cons_ne_nil _ _)).trans (next_congr ?_)
      rw [State.lendAck, hlends, List.tail_cons]
    · exact next_congr (if_pos (.inl (by rw [hlends]; rfl)))
  · exact if_pos (.inl (bnot_of_false hoff))
  · exact if_pos (.inl (bnot_of_false hoff))
  · intro k
    refine ⟨fun hnew => if_neg ?_, fun hold => if_pos (.inr hold)⟩
    rintro (h | h)
    · exact not_bnot_of_true hen h
    · exact Nat.not_le.mpr hnew h
  · refine if_neg ?_
    rintro (h | h)
    · exact not_bnot_of_true hen h
    · exact Nat.not_le.mpr hnew h
  · exact State.modelSwap_of_good fun c hc => by simpa using List.all_eq_true.mp hgood c (List.mem_range.mpr hc)

/-! ### Spills and restores (R360, R364) -/

/-- Settles O47: a claim at its boundary by the free job and the Granary space, and a restore by the order of the claims; that the lowest free job is
taken is the model's choice (log entry 14). -/
theorem spillsAndRestoresBegin : Obligations.SpillsAndRestoresBegin := by
  refine ⟨fun s i k hat hahead hen hhalt hjob => ?_, fun s i hat => if_pos (.inl (bnot_of_false hat)), fun s i k hfirst hen hhalt hjob => ?_,
    fun s i hempty => if_pos (.inl ?_)⟩
  · have hgo : ¬ (!s.atBoundary i ∨ s.victimAhead i ∨ !s.unitEn U.PSC ∨ s.halted) := by
      simp [hat, hahead, hen, hhalt]
    have hrun : exec (.spillStart i) s = .next (s.beginSpill i) := if_neg hgo
    refine ⟨fun g hfit => hrun.trans (next_congr ?_), fun hfull hquiet => hrun.trans (next_congr ?_)⟩
    · simp only [State.beginSpill, hjob, hfit]
    · simp only [State.beginSpill, hjob, hfull, hquiet]
      rfl
  · have hgo : ¬ (s.psc.order.find? s.restorable ≠ some i ∨ !s.unitEn U.PSC ∨ s.halted) := by
      simp [hfirst, hen, hhalt]
    refine (if_neg hgo).trans ?_
    rw [hjob]
  · rw [hempty]
    simp

end Sys2Proof.Machine
end

section
/-! PROOFS. Grain-locked epochs, replay and tag ages (R376 to R393); enclaves and their measurements (R73, R400 to R410). -/

namespace Sys2Proof.Machine

/-! ### Epochs -/

section Ckpt
variable {u : State} {p : Nat} (hpart : u.partOk p)
include hpart

theorem State.ckptReq_of_locked (hlock : u.lockedOrLocking p) : u.ckptReq p = u.enclIgnored p :=
  (if_neg (not_bnot_of_true hpart)).trans (if_pos hlock)

theorem State.ckptReq_of_unlocked (hlock : u.lockedOrLocking p = false) :
    u.ckptReq p = if u.rb (Reg.DC_CKPT_STATUS_BUSY p) then u else u.setReg (Reg.DC_CKPT_STATUS_A p) 1#32 :=
  (if_neg (not_bnot_of_true hpart)).trans (if_neg (Bool.eq_false_iff.mp hlock))

end Ckpt

/-- Settles O48: each event of grain-locked mode by the condition that it waits for. -/
theorem epochsBeginAdvanceAndStall : Obligations.EpochsBeginAdvanceAndStall := by
  refine ⟨fun s hwait hen hout hgc => ?_, fun s hwait => ?_, fun s hrun hcc => ?_, fun s hcc => ?_, fun s t hstall hrep hdue => ?_, fun s hstall => ?_,
    fun s p hp hpart => ?_, fun s hen hdue => ?_, fun s hen => ?_⟩
  · exact next_congr (if_pos ⟨hwait, hen, hout, hgc⟩)
  · exact next_congr (if_neg fun h => Bool.eq_false_iff.mp hwait h.1)
  · intro l b
    have hgo : ¬ (!s.rb Reg.DC_STATUS_RUNNING ∨ s.cc < s.dc.startCc + s.rf Reg.DC_CTRL_EPOCH_CC) := by
      simp [hrun, hcc]
    exact ⟨fun hmust => (if_neg hgo).trans (next_congr (if_pos hmust)),
      fun hgoes => (if_neg hgo).trans (next_congr (if_neg (Bool.eq_false_iff.mp hgoes)))⟩
  · exact if_pos (.inr hcc)
  · simp only [exec, execReplayStall, hstall]
    exact next_congr (if_pos ⟨hrep, hdue⟩)
  · simp only [exec, execReplayStall, hstall]
  · refine ⟨fun hlock hfree => next_dbgInput hp ((State.ckptReq_of_unlocked hpart hlock).trans (if_neg (Bool.eq_false_iff.mp hfree))),
      fun hlock hbusy => next_dbgInput hp ((State.ckptReq_of_unlocked hpart hlock).trans (if_pos hbusy)),
      fun hlock => next_dbgInput hp (State.ckptReq_of_locked hpart hlock)⟩
  · exact next_congr (if_pos ⟨hen, hdue⟩)
  · exact next_congr (if_neg fun h => Bool.eq_false_iff.mp hen h.1)

/-! ### Enclaves (R400 to R410) -/

section EnclCmd
variable {u : State} {p : Nat} (hfree : u.rb Reg.PAU_ENCL_STATUS_BUSY = false)
include hfree

theorem State.enclLock_of_good (hgood : u.lockBad p = false) :
    u.enclLock p = { u.setReg Reg.PAU_ENCL_STATUS_A 1#32 with pau := { u.pau with locking := some p } } :=
  (if_neg (Bool.eq_false_iff.mp hfree)).trans (if_neg (Bool.eq_false_iff.mp hgood))

variable (hpart : u.partOk p)
include hpart

theorem State.enclLock_of_bad (hbad : u.lockBad p) :
    u.enclLock p = (u.reportPlain E.ENCLAVE_LOCK (some p)).enclEnd false (some E.ENCLAVE_LOCK) := by
  refine (if_neg (Bool.eq_false_iff.mp hfree)).trans ((if_pos hbad).trans ?_)
  rw [if_pos hpart]

theorem State.enclTeardown_of_tearing (htear : u.rb (Reg.PAU_PSTATUS_TEARING p)) :
    u.enclTeardown p = (u.reportPlain E.TEARDOWN (some p)).enclEnd false (some E.TEARDOWN) := by
  refine (if_neg (Bool.eq_false_iff.mp hfree)).trans ((if_pos (.inr (.inl htear))).trans ?_)
  rw [if_pos hpart]

theorem State.enclTeardown_of_free (htear : u.rb (Reg.PAU_PSTATUS_TEARING p) = false) (hlocking : u.pau.locking ≠ some p) :
    let t := ((u.setReg Reg.PAU_ENCL_STATUS_A 1#32).setRf (Reg.PAU_PSTATUS_TEARING p) 1).setRf (Reg.PAU_PSTATUS_SCRUB_FAIL p) 0
    let v : State := { t with pau := { t.pau with tear := some ⟨p, .emptying, 0, 0, false⟩ } }
    u.enclTeardown p = (v.fe.ctxs.filter fun c => c.cstate != 0 && c.part == p).foldl (fun s c => s.destroyCtx c.idx true) v := by
  refine (if_neg (Bool.eq_false_iff.mp hfree)).trans (if_neg ?_)
  rintro (h | h | h)
  · exact not_bnot_of_true hpart h
  · exact Bool.eq_false_iff.mp htear h
  · exact hlocking h

end EnclCmd

/-- A teardown that no accounting write of its partition holds up goes by its phase. -/
theorem exec_teardownScrub_of_tear {s : State} {t : Tear} (ht : s.pau.tear = some t) (hen : s.unitEn U.PAU) (hout : s.pau.acctOut = []) :
    exec .teardownScrub s = match t.phase with
      | .emptying => if s.emptied t.part then .next ((s.updTear fun t => { t with phase := .record }).acctWrite t.part true) else .next s
      | .record =>
        let r := s.scrubRows t.part
        let n := if r.locked t.part ∨ r.rb (Reg.PAU_GR_SCRUB_GR t.part) then 1024 * r.rf (Reg.PAU_GR_GR_UNITS t.part) else 0
        .next (r.updTear fun y => { y with phase := .scrub, addr := (r.granary t.part).1, left := n }).scrubNext
      | .scrub => .next s := by
  have hgo : ¬ (!s.unitEn U.PAU ∨ s.pau.acctOut.any fun x => x.1 == t.part) := by
    simp [hen, hout]
  simp only [exec, execTeardownScrub, ht, if_neg hgo] <;> rfl

/-- Settles O49: LOCK and TEARDOWN by BUSY and the partition, and a teardown by its phase. -/
theorem enclavesAreLockedAndTornDown : Obligations.EnclavesAreLockedAndTornDown := by
  refine ⟨fun s p hp => ?_, fun s p hlocking hen => ?_, fun s t ht hen hout => ?_, fun s t ht hphase hout => ?_, fun s t ht hphase hout => ?_⟩
  · intro u hfree
    exact ⟨fun hgood => next_regInput hp (State.enclLock_of_good hfree hgood),
      fun hbad hpart => next_regInput hp (State.enclLock_of_bad hfree hpart hbad),
      fun hpart htear => next_regInput hp (State.enclTeardown_of_tearing hfree hpart htear),
      fun hpart htear hlocking => next_regInput hp (State.enclTeardown_of_free hfree hpart htear hlocking)⟩
  · intro t
    simp only [exec, execEnclaveLockDone, hlocking, if_neg (not_bnot_of_true hen)]
    rfl
  · have hrun := exec_teardownScrub_of_tear ht hen hout
    refine ⟨fun hphase hempty => hrun.trans ?_, fun hphase hfull => hrun.trans ?_, fun hphase => hrun.trans ?_⟩
    · rw [hphase]
      exact if_pos hempty
    · rw [hphase]
      exact if_neg (Bool.eq_false_iff.mp hfull)
    · rw [hphase]
  · intro p r0 r
    have hgo : ¬ (t.phase ≠ .scrub ∨ t.out) := by
      simp [hphase, hout]
    have hrun : exec .teardownDone s = .next (r.enclEnd (r.rb (Reg.PAU_PSTATUS_SCRUB_FAIL p))
        (if r.rb (Reg.PAU_PSTATUS_SCRUB_FAIL p) then some E.SCRUB_WRITE else none)).nextTear := by
      simp only [exec, execTeardownDone, ht, if_neg hgo]
      rfl
    refine ⟨fun hok => hrun.trans ?_, fun hfail => hrun.trans ?_⟩
    · rw [hok]
      rfl
    · rw [hfail]
      rfl
  · simp only [exec, execTeardownDone, ht]
    exact if_pos (.inr hout)

/-! ### Measurements (R73, R408, R409) -/

/-- Settles O50: a quote by its status, and the template extend at the head of its queue; that the nonce is hashed as eight little-endian words is the
model's reading (log entry 89). -/
theorem measurementsAreQuotedAndExtended : Obligations.MeasurementsAreQuotedAndExtended := by
  refine ⟨fun s sel nonce hon hsel => ?_, fun s x rest hq hen => ?_, fun s hq => ?_⟩
  · have hquote : exec (.atRequest sel nonce) s = .next (s.emit (.atAnswer (s.quoteStatus sel)
        (if s.quoteStatus sel = 0 then wordsOf (sha384 ([sel, 0, 0, 0] ++ wordBytes (BitVec.ofNat 32 (s.measCount sel)) ++ s.measBytes sel ++
          bytesOf ((nonce ++ zeros 8).take 8))) else zeros 12) (s.measCount sel))) := by
      simp only [exec, execAtRequest, if_neg (not_bnot_of_true hon), Nat.mod_eq_of_lt hsel]
    refine ⟨fun hst => ?_, fun hst => ?_⟩
    · rw [hquote, if_neg hst]
    · rw [hquote, if_pos hst, hst]
  · simp only [exec, execTmplExtendDone, hq, if_neg (not_bnot_of_true hen)]
  · simp only [exec, execTmplExtendDone, hq]

end Sys2Proof.Machine
end

section
/-! PROOFS. Restarts and watchdogs, the patrol, the configuration CRC and the Gleaner (R421 to R441); the time base, snapshots and trace (R71, R72,
R502 to R511). -/

namespace Sys2Proof.Machine

/-! ### Restarts and watchdogs (R424 to R434) -/

/-- Settles O51: each restart and watchdog by the condition that it waits for; that a rebuild takes the nodes READY at its end and leaves marked ones out
is the model's reading (log entry 11). -/
theorem unitsAreWatchedAndRestarted : Obligations.UnitsAreWatchedAndRestarted := by
  refine ⟨fun s h => ?_, fun s h => ?_, fun s h => ?_, fun s k hen hwdog hidle => ?_, fun s k hidle => ?_, fun s k t hdown => ⟨fun hdue => ?_, fun hwait hlink => ?_⟩,
    fun s h => ?_, fun s hen hhb hruns hdue => ?_, fun s h => ⟨fun hbad => ?_, fun hsigned hdigest => ?_⟩, fun s h => ?_⟩
  · exact next_congr (if_neg (not_bnot_of_true h))
  · exact next_congr (if_pos (bnot_of_false h))
  · exact next_congr (congrArg State.maybeQuiesce (if_pos h))
  · exact next_congr (if_pos ⟨hen, hwdog, hidle⟩)
  · exact next_congr (if_neg fun h => Nat.not_le.mpr hidle h.2.2)
  · simp only [exec, execSliceRejoin, State.sliceRejoin, hdown]
    exact next_congr (if_neg fun h => Nat.not_le.mpr h.2 hdue)
  · simp only [exec, execSliceRejoin, State.sliceRejoin, hdown]
    exact next_congr (if_pos ⟨hlink, hwait⟩)
  · exact next_congr (if_pos h)
  · exact next_congr (if_pos ⟨hen, hhb, hruns, hdue⟩)
  · exact next_congr ((if_neg (not_bnot_of_true h)).trans (if_pos hbad))
  · refine next_congr ((if_neg (not_bnot_of_true h)).trans (if_neg ?_))
    rintro (h | h)
    · exact Bool.eq_false_iff.mp hsigned h
    · exact h hdigest
  · exact next_congr (if_pos (bnot_of_false h))

/-! ### The patrol and the configuration CRC (R422, R427 to R429) -/

/-- Settles O52: the patrol by the mark of the word and the use of its row, the end of a pass by its age, and a CRC pass by its comparison. That the
patrol zeroes the whole pair of words of a damaged one (log entries 96 and 97) and that a late pass still ends (log entry 95) are the model's reading. -/
theorem patrolAndCrcFindDamage : Obligations.PatrolAndCrcFindDamage := by
  refine ⟨fun s tid w hen hpatrol => ?_, fun s hen hpatrol => ?_, fun s hen hcrc => ?_, fun s hen => ⟨fun tid w => ?_, ?_, ?_⟩⟩
  · have hrun : exec (.patrolRead tid w) s = .next (s.patrol tid w) := next_congr (if_pos ⟨hen, hpatrol⟩)
    refine ⟨fun hmark => hrun.trans (next_congr ?_), fun k hmark => hrun.trans (next_congr ?_), fun k hmark hrow htid => hrun.trans (next_congr ?_),
      fun k hmark hrow htid => hrun.trans (next_congr ?_), fun k hmark hrow => hrun.trans (next_congr ?_)⟩
    · simp only [State.patrol, hmark]
    · simp only [State.patrol, hmark]
    · simp only [State.patrol, hmark, if_pos hrow, if_pos htid]
    · simp only [State.patrol, hmark, if_pos hrow, if_neg (Nat.not_lt.mpr htid)]
    · simp only [State.patrol, hmark, if_neg (Bool.eq_false_iff.mp hrow)]
  · have hgo : ¬ (!s.unitEn U.IFM ∨ !s.rb Reg.IFM_CTRL_PATROL_EN) := by
      simp [hen, hpatrol]
    refine ⟨fun hlate hdue => next_congr ((if_neg hgo).trans (if_pos ⟨bnot_of_false hlate, hdue⟩)),
      fun hlate => next_congr ((if_neg hgo).trans (if_neg fun h => not_bnot_of_true hlate h.1))⟩
  · intro t
    have hrun : exec .crcPassEnd s = .next s.crcPass := next_congr (if_pos ⟨hen, hcrc⟩)
    refine ⟨fun hsame => hrun.trans (next_congr (if_pos hsame)),
      fun hdiff hfirst => hrun.trans (next_congr ((if_neg hdiff).trans (if_pos (bnot_of_false hfirst)))),
      fun hdiff hagain hopen => hrun.trans (next_congr ((if_neg hdiff).trans ((if_neg (not_bnot_of_true hagain)).trans (if_pos hopen))))⟩
  · exact next_congr (if_neg fun h => Bool.eq_false_iff.mp hen h.1)
  · exact next_congr (if_pos (.inl (bnot_of_false hen)))
  · exact next_congr (if_neg fun h => Bool.eq_false_iff.mp hen h.1)

/-! ### The Gleaner (R437 to R441) -/

/-- Settles O53: the intake, the log entry that a report joins or opens, the entry that closes, the write that is made again, and the clears; that a
write is made again at its own place of the ring is the model's reading (log entry 93). -/
theorem reportsAreGleaned : Obligations.ReportsAreGleaned := by
  refine ⟨fun s => ?_, fun s r rest hr => ?_, fun s e he hen hlog => ?_, fun s e rest t hl hretry hack hdue hen hlog => ?_,
    fun s hp => ⟨next_regInput hp rfl, next_regInput hp rfl, next_regInput hp rfl⟩⟩
  · intro t hen
    exact next_congr (if_pos hen)
  · intro t
    refine ⟨fun e he => ?_, fun hempty => ?_⟩
    · simp only [State.glean, hr]
      rw [he]
    · have hlog : s.ifm.log = [] := hempty
      simp only [State.glean, hr, hlog, List.find?_nil]
      rfl
  · intro used
    have hrun : exec .gleanerEntryClose s = .next (if !s.unitEn U.IFM ∨ !s.rb Reg.IFM_LOG_BASE_HI_LOG_EN ∨ used = 2 ^ s.rf Reg.IFM_LOG_BASE_HI_LOG_LOG2
        then s else (s.setRf Reg.IFM_LOG_TAIL ((s.rf Reg.IFM_LOG_TAIL + 32) % 2 ^ 32)).gleanerWrite { e with ring := s.rf Reg.IFM_LOG_TAIL }) := by
      simp only [exec, execGleanerEntryClose, he, used]
    refine ⟨fun hroom => hrun.trans (next_congr (if_neg ?_)), fun hfull => hrun.trans (next_congr (if_pos (.inr (.inr hfull))))⟩
    rintro (h | h | h)
    · exact not_bnot_of_true hen h
    · exact not_bnot_of_true hlog h
    · exact hroom h
  · simp [exec, execGleanerWriteRetry, hl, hretry, hack, hdue, hen, hlog]

/-! ### Time base, snapshots and trace (R71, R72, R502 to R511) -/

theorem State.emit_rf (s : State) (o : Output) (f : RF) : (s.emit o).rf f = s.rf f := by
  simp [State.rf, State.reg]

/-- Settles O54: a sample by grain-locked mode and the check, the loss of the time base, and a snapshot by the DBG unit and what is held. -/
theorem timeSnapshotsAndTrace : Obligations.TimeSnapshotsAndTrace := by
  refine ⟨fun s gc hon hgl => ?_, fun s gc hon hgl => ?_, fun s hlost hack hdue => ?_, fun s hlost => ?_, fun s hon => ?_, fun s hp => ?_, fun s src hcc => ?_,
    fun s hbeat hdue => ?_, fun s hbeat => ?_⟩
  · intro t
    refine ⟨fun hcheck => (if_neg (not_bnot_of_true hon)).trans ?_, fun hcheck => (if_neg (not_bnot_of_true hon)).trans ?_⟩
    · simp only [hgl]
      exact next_congr ((if_pos trivial).trans (if_neg (Bool.eq_false_iff.mp hcheck)))
    · simp only [hgl]
      exact next_congr ((if_pos trivial).trans (if_pos hcheck))
  · intro t
    refine ⟨fun hcheck => (if_neg (not_bnot_of_true hon)).trans ?_, fun hcheck => (if_neg (not_bnot_of_true hon)).trans ?_⟩
    · simp only [hgl]
      exact next_congr ((if_neg (by decide)).trans (congrArg State.reachStarts (if_neg (Bool.eq_false_iff.mp hcheck))))
    · simp only [hgl]
      exact next_congr ((if_neg (by decide)).trans (congrArg State.reachStarts (if_pos hcheck)))
  · exact next_congr (if_pos ⟨bnot_of_false hlost, bnot_of_false hack, hdue⟩)
  · exact next_congr (if_neg fun h => not_bnot_of_true hlost h.1)
  · exact next_congr (if_pos hon)
  · exact ⟨next_dbgInput hp rfl, next_dbgInput hp rfl, next_dbgInput hp rfl, fun v => next_dbgInput hp rfl⟩
  · intro t
    have hfire : s.fireSnap src = if !s.unitEn U.DBG then t else if s.rb Reg.DBG_SNAP_STATUS_HELD then t.incRf Reg.DBG_SNAP_STATUS_MISSED else t.latchSnap src := by
      have hnew : ¬ (s.dbg.fireCc == some s.cc) = true := by simpa using hcc
      have ht : ({ s.emit .snapTrig with dbg := { (s.emit .snapTrig).dbg with fireCc := some (s.emit .snapTrig).cc, fireSrc := src } } : State) = t := by
        rw [State.emit_dbg, State.emit_cc]
      have hen : t.unitEn U.DBG = s.unitEn U.DBG := congrArg (bit · U.DBG) (s.emit_rf _ _)
      have hheld : t.rb Reg.DBG_SNAP_STATUS_HELD = s.rb Reg.DBG_SNAP_STATUS_HELD := congrArg (· == 1) (s.emit_rf _ _)
      refine (if_neg hnew).trans ?_
      simp only [ht, hen, hheld]
    refine ⟨fun hoff => hfire.trans (if_pos (bnot_of_false hoff)),
      fun hen hheld => hfire.trans ((if_neg (not_bnot_of_true hen)).trans (if_neg (Bool.eq_false_iff.mp hheld))),
      fun hen hheld => hfire.trans ((if_neg (not_bnot_of_true hen)).trans (if_pos hheld))⟩
  · exact next_congr (if_pos ⟨hbeat, hdue⟩)
  · exact next_congr (if_neg fun h => h.1 hbeat)

end Sys2Proof.Machine
end

section
/-! PROOFS. The boot sequence, resets, power and the TAP (R477 to R496). -/

namespace Sys2Proof.Machine

/-! ### The boot sequence (R478 to R482) -/

/-- Settles O55: each step of the boot sequence in its own phase, and not in any other. -/
theorem bootGoesStepByStep : Obligations.BootGoesStepByStep := by
  refine ⟨fun s hph hiso hcore hreg => ?_, fun s hph hmbist => ?_, fun s hph => ?_, fun s hph => ⟨fun e he => ?_, fun hok => ?_⟩, fun s hph => ?_,
    fun s hph hmbist hver => ?_, fun s => ⟨fun h => ?_, fun h => ?_, fun h => ?_, fun h => ?_, fun h => ?_, fun h => ?_⟩⟩
  · exact next_congr (if_pos ⟨hph, bnot_of_false hiso, bnot_of_false hcore, bnot_of_false hreg⟩)
  · have hgo : ¬ (s.phase ≠ 1 ∨ s.rb Reg.THR_MBIST_STATUS_RUNNING) := by
      simp [hph, hmbist]
    exact ⟨fun hrestart => next_congr ((if_neg hgo).trans (if_pos hrestart)),
      fun hcold => next_congr ((if_neg hgo).trans (if_neg (Bool.eq_false_iff.mp hcold)))⟩
  · exact next_congr (if_pos hph)
  · refine next_congr ((if_neg (not_not_intro hph)).trans ?_)
    rw [he]
  · refine next_congr ((if_neg (not_not_intro hph)).trans ?_)
    rw [hok]
  · exact next_congr (if_neg (not_not_intro hph))
  · exact next_congr (if_pos ⟨hph, bnot_of_false hmbist, hver⟩)
  · exact next_congr (if_neg fun hgo => h hgo.1)
  · exact next_congr (if_pos (.inl h))
  · exact next_congr (if_neg h)
  · exact next_congr (if_pos h)
  · exact next_congr (if_pos h)
  · exact next_congr (if_neg fun hgo => h hgo.1)

/-! ### Resets and power (R479, R486 to R492) -/

/-- The end of an isolation by what it was: nothing is looked at but the pins and whether the block was surprised or retained. -/
theorem exec_isoEnFall_of_iso {s : State} (h : s.pins.isoEn) {v : State}
    (hend : (let u : State := { s with pins := { s.pins with isoEn := false } }
      if u.pins.coldReset then u else if u.thr.surprise then u.endSurprise else if u.thr.retained then u.endRetention else u) = v) :
    exec .isoEnFall s = .next (if v.seeLinks.raiseIrqs.seeFabric.pins.pwrAck ∧ v.seeLinks.raiseIrqs.seeFabric.pins.pwrReq = false
      then v.seeLinks.raiseIrqs.seeFabric.resume.restamp else v.seeLinks.raiseIrqs.seeFabric) := by
  subst hend
  refine (if_neg (not_bnot_of_true h)).trans ?_
  simp only [Bool.not_eq_true']

/-- Settles O56: each reset by its domain, quiescing by PSTATE, and isolation by what it finds. That iso_en rising in a cold reset is no surprise and what
a resumed block counts anew are the model's reading (log entries 101 and 104). -/
theorem powerAndResets : Obligations.PowerAndResets := by
  refine ⟨fun s d hd => ?_, fun s d hd => ⟨if_pos hd, if_neg (not_bnot_of_true hd)⟩, fun s => rfl, fun s hp hus hkilled hdue => ?_, fun s hp hquiet => ?_,
    fun s hquiet => ?_, fun s => ⟨fun hp => ?_, fun hp => ?_, fun hp hiso => ?_, fun hp hiso => ?_⟩, fun s => ?_, fun s hiso => ?_, fun s hiso => ?_,
    fun s => ⟨?_, fun hack hiso => ?_, fun hno => ?_⟩⟩
  · have hgo : ¬ s.pins.inReset d = true := Bool.eq_false_iff.mp hd
    refine ⟨fun hdom => (if_neg hgo).trans ?_, fun hdom => (if_neg hgo).trans ?_, fun hdom => (if_neg hgo).trans ?_, if_pos (bnot_of_false hd)⟩
    · rcases hdom with rfl | rfl | rfl <;> rfl
    · subst hdom
      rfl
    · subst hdom
      rfl
  · exact next_congr (if_pos ⟨hp, hus, bnot_of_false hkilled, hdue⟩)
  · exact next_congr (if_pos ⟨hp, hquiet⟩)
  · exact next_congr (if_neg fun h => Bool.eq_false_iff.mp hquiet h.2)
  · have hp : ({ s with pins := { s.pins with pwrReq := false } } : State).rf Reg.THR_PWR_STATUS_PSTATE = 0 := hp
    simp only [exec, execPwrReqFall, hp]
  · have hp : ({ s with pins := { s.pins with pwrReq := false } } : State).rf Reg.THR_PWR_STATUS_PSTATE = 1 := hp
    simp only [exec, execPwrReqFall, hp]
  · have hp : ({ s with pins := { s.pins with pwrReq := false } } : State).rf Reg.THR_PWR_STATUS_PSTATE = 2 := hp
    simp only [exec, execPwrReqFall, hp]
    exact next_congr (if_neg (Bool.eq_false_iff.mp hiso))
  · have hp : ({ s with pins := { s.pins with pwrReq := false } } : State).rf Reg.THR_PWR_STATUS_PSTATE = 2 := hp
    simp only [exec, execPwrReqFall, hp]
    exact next_congr (if_pos hiso)
  · intro t
    refine ⟨fun hack => next_congr (if_pos (.inl hack)), fun hack hcold => next_congr (if_neg ?_), fun hack hcold => next_congr (if_pos (.inr hcold))⟩
    rintro (h | h)
    · exact Bool.eq_false_iff.mp hack h
    · exact Bool.eq_false_iff.mp hcold h
  · intro u seen back
    refine ⟨fun hcold hsurprise => exec_isoEnFall_of_iso hiso ?_, fun hcold hsurprise hretained => exec_isoEnFall_of_iso hiso ?_,
      fun hend => exec_isoEnFall_of_iso hiso ?_⟩
    · exact (if_neg (Bool.eq_false_iff.mp hcold)).trans (if_pos hsurprise)
    · exact (if_neg (Bool.eq_false_iff.mp hcold)).trans ((if_neg (Bool.eq_false_iff.mp hsurprise)).trans (if_pos hretained))
    · by_cases hcold : u.pins.coldReset = true
      · exact if_pos hcold
      · obtain ⟨hsurprise, hretained⟩ := hend.resolve_left hcold
        exact (if_neg hcold).trans ((if_neg (Bool.eq_false_iff.mp hsurprise)).trans (if_neg (Bool.eq_false_iff.mp hretained)))
  · exact if_pos (bnot_of_false hiso)
  · exact next_congr (if_neg fun h => Bool.false_ne_true h.1)
  · exact next_congr (if_pos ⟨rfl, hack, hiso⟩)
  · refine next_congr (if_neg fun h => ?_)
    rcases hno with hno | hno
    · exact Bool.eq_false_iff.mp hno h.2.1
    · exact Bool.eq_false_iff.mp hno h.2.2

/-! ### The TAP (R494 to R496, R504) -/

section Tap
variable {s : State}

theorem next_tapSelect (hiso : s.pins.isoEn = false) {ir : Nat} {f : State → State} {t : State}
    (h : f { s with tap := { s.tap with ir := ir } } = t) : (.next (s.tapSelect ir f) : Host.Outcome State Fault Refusal) = .next t :=
  next_congr ((if_neg (Bool.eq_false_iff.mp hiso)).trans h)

theorem next_tapSelect_iso (hiso : s.pins.isoEn) {ir : Nat} {f : State → State} :
    (.next (s.tapSelect ir f) : Host.Outcome State Fault Refusal) = .next s.tapToBypass :=
  next_congr (if_pos hiso)

/-- EXTEST and CLAMP are refused only outside isolation, while a unit other than the GLB is enabled. -/
theorem tapGoes (h : s.pins.isoEn ∨ s.tapFree) : ¬ (!s.pins.isoEn ∧ !s.tapFree) := by
  rcases h with h | h <;> simp [h]

end Tap

/-- Settles O57: each instruction by isolation and by the units that are enabled, and the end of MBIST by its result. -/
theorem tapInstructionsAreCarriedOut : Obligations.TapInstructionsAreCarriedOut := by
  refine ⟨fun s hiso => ?_, fun s hiso => ?_, fun s => rfl, fun s hrun => ⟨next_congr (if_pos hrun), fun b => next_congr (if_pos hrun)⟩,
    fun s r hidle => next_congr (if_neg (Bool.eq_false_iff.mp hidle))⟩
  · intro t
    refine ⟨fun cells hfree => ?_, fun cells hbusy => ?_, fun cells => next_tapSelect hiso rfl, next_tapSelect hiso rfl, fun hfree => ?_, fun hbusy => ?_,
      fun we addr data => next_tapSelect hiso rfl, next_tapSelect hiso rfl, ?_, fun op hop => next_congr (if_pos (.inr hop))⟩
    · exact (next_congr (if_neg (tapGoes (.inr hfree)))).trans (next_tapSelect hiso rfl)
    · exact next_congr (if_pos ⟨bnot_of_false hiso, bnot_of_false hbusy⟩)
    · exact (next_congr (if_neg (tapGoes (.inr hfree)))).trans (next_tapSelect hiso rfl)
    · exact next_congr (if_pos ⟨bnot_of_false hiso, bnot_of_false hbusy⟩)
    · intro m
      have hstart (hidle : m.rb Reg.THR_MBIST_STATUS_RUNNING = false) : ¬ ((!true) = true ∨ m.rb Reg.THR_MBIST_STATUS_RUNNING) := by
        rw [hidle]
        decide
      refine ⟨next_tapSelect hiso (if_pos (.inl rfl)), fun hidle hfree => next_tapSelect hiso ?_, fun hidle hbusy => next_tapSelect hiso ?_⟩
      · exact (if_neg (hstart hidle)).trans (if_neg (not_bnot_of_true hfree))
      · exact (if_neg (hstart hidle)).trans (if_pos (bnot_of_false hbusy))
  · refine ⟨next_tapSelect_iso hiso, ?_, next_tapSelect_iso hiso, fun cells => ⟨?_, next_tapSelect_iso hiso⟩, fun op => next_congr (if_pos (.inl hiso))⟩
    · exact (next_congr (if_neg (tapGoes (.inl hiso)))).trans (next_tapSelect_iso hiso)
    · exact (next_congr (if_neg (tapGoes (.inl hiso)))).trans (next_tapSelect_iso hiso)

end Sys2Proof.Machine
end
